-- ==== Sys2Proof/Word.lean ====
section
/-!
DEFINITION. Words, bytes and the plain types the commands' operands are made of.
Registers are 32 bits wide (R5); multi-byte memory values are little-endian (R5), frame fields
big-endian (R6). Everything here is data with no behaviour of its own.
-/
namespace Sys2Proof

/-- One byte of a frame, an image or an object. -/
abbrev Byte := BitVec 8

/-- One register, one image word, one instruction word. -/
abbrev Word := BitVec 32

/-- The two crews of R13. -/
inductive Crew where
  | safety | process
  deriving DecidableEq, Repr

/-- Who performs a register access (R60, R64, R124): a RAP session, the backplane host through
BAR0, or the Boathouse on its own account. -/
inductive Requester where
  | session (n : Nat)
  | bar0
  | boathouse
  deriving DecidableEq, Repr

/-- The host ports of R562 on which a RAP message can arrive. -/
inductive Port where
  | plantA | plantB | engineering | service | backplane
  deriving DecidableEq, Repr

/-- The code of a port in HS_INFO (R599). -/
def Port.code : Port → Nat
  | .plantA => 0 | .plantB => 1 | .engineering => 2 | .service => 3 | .backplane => 4

/-- A single-bit ECC error corrected on a crew read (R237), as the environment supplies it. -/
structure EccHit where
  /-- true: data SRAM, false: program SRAM (R247). -/
  dataMem : Bool
  core : Nat
  /-- Byte offset of the failing word in its memory. -/
  offset : Nat
  deriving DecidableEq, Repr

/-- An ECC error met in a loop's block or state (R280): a single-bit one, which is corrected, or an uncorrectable one by
the byte offset of its word. -/
inductive LoopEcc where
  | corrected
  | uncorrectable (offset : Nat)
  deriving DecidableEq, Repr

/-- Which core executes an instruction, and whether the access met a corrected ECC error.
A voted crew has the one architectural core 0; in scull mode the process crew has 0 to 2 (R203). -/
structure Issue where
  crew : Crew
  core : Nat
  ecc  : Option EccHit
  deriving DecidableEq, Repr

/-- CLASS and OPERAND of an instruction word (R133). -/
structure Opnd where
  cls : BitVec 2
  val : BitVec 22
  deriving DecidableEq, Repr

/-- The comparison point at which the cox detected a mismatch (R218, R246). -/
inductive MismatchKind where
  | write | commit | fetch | capture | ecc | injected
  deriving DecidableEq, Repr

/-- A CAN frame as the bus carries it (R524, R532). -/
structure CanFrame where
  id : Nat
  ide : Bool
  fd : Bool
  brs : Bool
  esi : Bool
  len : Nat
  data : List Byte
  deriving DecidableEq, Repr

/-- How a transmission of a CAN controller ends (R546 to R548). `exempt` marks an error for which
ISO 11898-1 leaves the transmit counter alone; for an ACK error in error-passive, that no dominant
bit was seen during the passive error flag. -/
inductive CanTxResult where
  | ok
  | ackError (exempt : Bool)
  | fieldBitError
  | otherError (exempt : Bool)
  deriving DecidableEq, Repr

/-- What a sleeping CAN controller meets on its bus (R550). -/
inductive CanWakeSource where
  | dominant
  | frame (f : CanFrame)
  | erroneous
  deriving DecidableEq, Repr

/-- One sample of the Boathouse's sensors (R629 to R631): temperatures and dew point in 0.1 °C,
currents in mA, voltages in mV, humidity in 0.1 %, acceleration peaks by axis in 0.01 g with the RMS in mg. A sensor
that is faulted gives none. -/
structure SensorIn where
  temps : List (Option Int)
  rails : List (Option (Nat × Nat))
  humidity : Option (Int × Nat)
  motion : Option (List Nat × Nat)
  cap : Option Nat
  deriving DecidableEq, Repr

/-- What the environment brings with a T0 (R92, R109 to R111, R375, R479): T0 minus the reference instant
in ns and whether the offset is taken out in one step, the digital terminal readings, the readings of the
high-side and low-side safety switches, and the fail-direction links. -/
structure TickIn where
  offset : Int
  step : Bool
  terminals : BitVec 48
  hs : BitVec 8
  ls : BitVec 8
  links : BitVec 8
  deriving DecidableEq, Repr

/-- What a PTP message tells of itself: its domain, and the portState in which IEEE 1588-2019 leaves the port
(R567). -/
structure PtpIn where
  domain : BitVec 8
  state : Fin 10
  deriving DecidableEq, Repr

/-- What BOOT finds (R616, R619, R649, R665, R681, R691): whether the backup domain has kept a supply, whether the key
store, the recovery image, the settings and the panel shadow read good, two reads of the plug (none where it does not
answer), the SEQ in the wake slot whose write the reset cut, if it cut one, the fail-direction links, and whether the
newer copies of the boot record and of the settings' pointer record read back good (R664, R678). -/
structure BootIn where
  backupKept : Bool
  keyOk : Bool
  recoveryOk : Bool
  settingsOk : Bool
  shadowOk : Bool
  plug1 : Option (List Byte)
  plug2 : Option (List Byte)
  torn : Option Word
  links : BitVec 8
  bootNewer : Bool
  setNewer : Bool
  deriving DecidableEq, Repr

/-- How far a RAP message goes in one step (R571 to R573): it arrives and is served, it only enters its
session's queue, or the queue's oldest is served. -/
inductive RapPhase where
  | whole | enqueue | serve
  deriving DecidableEq, Repr

/-- One RAP message as it arrives, from a peer on a port (R569). -/
structure RapIn where
  port : Port
  ip : Nat
  udp : Nat
  bytes : List Byte
  phase : RapPhase
  deriving DecidableEq, Repr

end Sys2Proof
end

