-- ==== Sys2Proof/Syntax.lean ====
section
/-!
DEFINITION. The commands of the block: one constructor per row of the opcode table. Mode commands and other
register writes carry who writes; the instructions of the logic engine carry the core that executes them; the
rest are events of the stroke, of the field, of the links and of the Boathouse.
-/
namespace Sys2Proof

/-- One command, in the table's order. -/
inductive Instr where
  /-- START (R30): by a writer. -/
  | start (r : Requester)
  /-- STOP (R30): by a writer. -/
  | stop (r : Requester)
  /-- CONFIGURE (R35): by a writer. -/
  | configure (r : Requester)
  /-- COMMIT_CONFIG (R35): by a writer. -/
  | commitConfig (r : Requester)
  /-- RESUME (R185): by a writer. -/
  | resume (r : Requester)
  /-- STEP (R186): by a writer. -/
  | step (r : Requester)
  /-- CLEAR_HALT (R30): by a writer. -/
  | clearHalt (r : Requester)
  /-- LAY_UP (R30): by a writer. -/
  | layUp (r : Requester)
  /-- WAKE (R30): by a writer. -/
  | wake (r : Requester)
  /-- ACTIVATE (R672): by a writer. -/
  | activate (r : Requester)
  /-- HANDOVER (R417): by a writer. -/
  | handover (r : Requester)
  /-- BLD (R138). -/
  | bld (i : Issue) (o : Opnd)
  /-- BLDN (R138). -/
  | bldn (i : Issue) (o : Opnd)
  /-- BAND (R138). -/
  | band (i : Issue) (o : Opnd)
  /-- BANDN (R138). -/
  | bandn (i : Issue) (o : Opnd)
  /-- BOR (R138). -/
  | bor (i : Issue) (o : Opnd)
  /-- BORN (R138). -/
  | born (i : Issue) (o : Opnd)
  /-- BXOR (R138). -/
  | bxor (i : Issue) (o : Opnd)
  /-- BXORN (R138). -/
  | bxorn (i : Issue) (o : Opnd)
  /-- INV (R140). -/
  | inv (i : Issue) (o : Opnd)
  /-- BTRUE (R140). -/
  | btrue (i : Issue) (o : Opnd)
  /-- BFALSE (R140). -/
  | bfalse (i : Issue) (o : Opnd)
  /-- LDOV (R151). -/
  | ldov (i : Issue) (o : Opnd)
  /-- OPA (R139). -/
  | opa (i : Issue) (o : Opnd)
  /-- OPO (R139). -/
  | opo (i : Issue) (o : Opnd)
  /-- OPX (R139). -/
  | opx (i : Issue) (o : Opnd)
  /-- CLB (R139). -/
  | clb (i : Issue) (o : Opnd)
  /-- ST (R140). -/
  | st (i : Issue) (o : Opnd)
  /-- STN (R140). -/
  | stn (i : Issue) (o : Opnd)
  /-- SETB (R140). -/
  | setb (i : Issue) (o : Opnd)
  /-- CLRB (R140). -/
  | clrb (i : Issue) (o : Opnd)
  /-- EDGR (R141). -/
  | edgr (i : Issue) (o : Opnd)
  /-- EDGF (R141). -/
  | edgf (i : Issue) (o : Opnd)
  /-- TON (R145). -/
  | ton (i : Issue) (o : Opnd)
  /-- TOF (R145). -/
  | tof (i : Issue) (o : Opnd)
  /-- TP (R145). -/
  | tp (i : Issue) (o : Opnd)
  /-- TRST (R145). -/
  | trst (i : Issue) (o : Opnd)
  /-- TET (R145). -/
  | tet (i : Issue) (o : Opnd)
  /-- CTU (R147). -/
  | ctu (i : Issue) (o : Opnd)
  /-- CTD (R147). -/
  | ctd (i : Issue) (o : Opnd)
  /-- CRST (R147). -/
  | crst (i : Issue) (o : Opnd)
  /-- CLD (R147). -/
  | cld (i : Issue) (o : Opnd)
  /-- LCV (R147). -/
  | lcv (i : Issue) (o : Opnd)
  /-- LDW (R148). -/
  | ldw (i : Issue) (o : Opnd)
  /-- LDHI (R148). -/
  | ldhi (i : Issue) (o : Opnd)
  /-- TW (R148). -/
  | tw (i : Issue) (o : Opnd)
  /-- SWAP (R148). -/
  | swap (i : Issue) (o : Opnd)
  /-- LDWB (R148). -/
  | ldwb (i : Issue) (o : Opnd)
  /-- ADD (R149). -/
  | add (i : Issue) (o : Opnd)
  /-- SUB (R149). -/
  | sub (i : Issue) (o : Opnd)
  /-- MUL (R149). -/
  | mul (i : Issue) (o : Opnd)
  /-- DIV (R150). -/
  | div (i : Issue) (o : Opnd)
  /-- MOD (R150). -/
  | mod (i : Issue) (o : Opnd)
  /-- NEG (R149). -/
  | neg (i : Issue) (o : Opnd)
  /-- ABS (R149). -/
  | abs (i : Issue) (o : Opnd)
  /-- AW (R148). -/
  | aw (i : Issue) (o : Opnd)
  /-- OW (R148). -/
  | ow (i : Issue) (o : Opnd)
  /-- XW (R148). -/
  | xw (i : Issue) (o : Opnd)
  /-- SHL (R148). -/
  | shl (i : Issue) (o : Opnd)
  /-- SHR (R148). -/
  | shr (i : Issue) (o : Opnd)
  /-- SAR (R148). -/
  | sar (i : Issue) (o : Opnd)
  /-- EQ (R152). -/
  | eq (i : Issue) (o : Opnd)
  /-- NE (R152). -/
  | ne (i : Issue) (o : Opnd)
  /-- GT (R152). -/
  | gt (i : Issue) (o : Opnd)
  /-- GE (R152). -/
  | ge (i : Issue) (o : Opnd)
  /-- LT (R152). -/
  | lt (i : Issue) (o : Opnd)
  /-- LE (R152). -/
  | le (i : Issue) (o : Opnd)
  /-- NOP (R153). -/
  | nop (i : Issue) (o : Opnd)
  /-- END (R156). -/
  | endTask (i : Issue) (o : Opnd)
  /-- JMP (R153). -/
  | jmp (i : Issue) (o : Opnd)
  /-- JBT (R153). -/
  | jbt (i : Issue) (o : Opnd)
  /-- JBF (R153). -/
  | jbf (i : Issue) (o : Opnd)
  /-- CALL (R154). -/
  | call (i : Issue) (o : Opnd)
  /-- CALLT (R153). -/
  | callt (i : Issue) (o : Opnd)
  /-- RET (R154). -/
  | ret (i : Issue) (o : Opnd)
  /-- STROKE_TICK (R92): module time in ns, and what the tick latches. -/
  | strokeTick (now : Nat) (x : TickIn)
  /-- DRIVE_START (R95). -/
  | driveStart
  /-- FINISH (R102). -/
  | finish
  /-- OUTPUT_STROBE (R102). -/
  | outputStrobe
  /-- CAPTURE_END (R400): the words that the scrub corrects. -/
  | captureEnd (hits : List (Crew × EccHit))
  /-- ATTN_CHECK_IDLE (R83). -/
  | attnCheckIdle
  /-- CKPT_RECORDS_DROPPED (R405): records that did not leave. -/
  | ckptRecordsDropped (n : Nat)
  /-- PPS_EDGE (R108). -/
  | ppsEdge
  /-- PTP_MESSAGE (R567): plant network, LAN, the message's domain and the portState it leaves, offset in ns,
  grandmaster, rank of the master. -/
  | ptpMessage (net : Fin 2) (q : Fin 2) (msg : PtpIn) (offset : Int) (gm : Word) (rank : Nat)
  /-- SYNC_LOCK (R111). -/
  | syncLock
  /-- SYNC_UNLOCK (R111). -/
  | syncUnlock
  /-- SYNC_LOST (R111). -/
  | syncLost
  /-- COX_MISMATCH (R226): crew, comparison point, differing cores, address, the error of kind ECC,
  whether it is double. -/
  | coxMismatch (cr : Crew) (kind : MismatchKind) (cores : BitVec 3) (addr : Word) (ecc : Option EccHit) (double : Bool)
  /-- COMPARATOR_DISAGREE (R221). -/
  | comparatorDisagree (cr : Crew)
  /-- RESTART_DONE (R226): crew, lines rewritten, time in ns. -/
  | restartDone (cr : Crew) (lines : Nat) (ns : Nat)
  /-- LOOP_TICK (R271): loop engine 0 to 7, table engine 8 or 9; REF clocks after T0. -/
  | loopTick (e : Fin 10) (instant : Nat)
  /-- LOOP_SAMPLE (R272): engine, loop, ns since the tick, an ECC error met. -/
  | loopSample (e : Fin 8) (j : Fin 64) (delay : Nat) (ecc : Option LoopEcc)
  /-- TABLE_SAMPLE (R316): table engine, loop, ns since the tick, an ECC error met. -/
  | tableSample (t : Fin 2) (j : Fin 16) (delay : Nat) (ecc : Option LoopEcc)
  /-- HEAT_DECISION (R304): heat, and whether LANE_TIMEOUT has passed since the entry to warm-up. -/
  | heatDecision (h : Fin 16) (warmOver : Bool)
  /-- SAFETY_FILTER_PASS (R338): safety channel and its new level. -/
  | safetyFilterPass (k : Fin 16) (level : Bool)
  /-- DISCREPANCY (R340): pair. -/
  | discrepancy (n : Fin 8)
  /-- STAGE_TEST (R341): safety channel, and whether its reading followed. -/
  | stageTest (k : Fin 16) (follows : Bool)
  /-- STAGE_FAULT (R341): safety channel. -/
  | stageFault (k : Fin 16)
  /-- SWITCH_TEST (R344): safety output, and whether the switch read open. -/
  | switchTest (o : Fin 8) (opened : Bool)
  /-- SWITCH_STUCK (R344): safety output. -/
  | switchStuck (o : Fin 8)
  /-- RESET_INPUT_CLOSE (R353). -/
  | resetInputClose
  /-- RESET_VALID (R354): held time in ms. -/
  | resetValid (ms : Nat)
  /-- RESET_STUCK (R355). -/
  | resetStuck
  /-- RESET_INPUT_FREED (R355). -/
  | resetInputFreed
  /-- ZWISTRA_COPY (R361): plant network A or B, and the datagram. -/
  | zwistraCopy (netA : Bool) (bytes : List Byte)
  /-- SKEW_WINDOW_CLOSE (R364): connection. -/
  | skewWindowClose (k : Fin 256)
  /-- ZWISTRA_WATCHDOG (R367): connection. -/
  | zwistraWatchdog (k : Fin 256)
  /-- LEASE_RECEIVE (R391): the record. -/
  | leaseReceive (bytes : List Byte)
  /-- SEAT_BEACON_RECEIVE (R390): plant network, and the datagram. -/
  | seatBeaconReceive (net : Fin 2) (bytes : List Byte)
  /-- LEASE_JUDGMENT (R391). -/
  | leaseJudgment
  /-- LEASE_EXPIRY (R391). -/
  | leaseExpiry
  /-- PAIRED_STAGE_RELEASE (R409). -/
  | pairedStageRelease
  /-- AUTOSTART_WAIT_EXPIRY (R392). -/
  | autostartWaitExpiry
  /-- HELLO (R395). -/
  | hello
  /-- HELLO_RECEIVE (R396): the record. -/
  | helloReceive (bytes : List Byte)
  /-- ACK_RECEIVE (R395): the record. -/
  | ackReceive (bytes : List Byte)
  /-- OUTPUT_RECEIVE (R408): the record, and whether it is a TF record in time for the strobe. -/
  | outputReceive (bytes : List Byte) (atStrobe : Bool)
  /-- CKPT_HEAD (R404): the record. -/
  | ckptHead (bytes : List Byte)
  /-- CKPT_LINE (R404): the record. -/
  | ckptLine (bytes : List Byte)
  /-- CKPT_END (R405): the record. -/
  | ckptEnd (bytes : List Byte)
  /-- CHECKPOINT_APPLY (R406). -/
  | checkpointApply
  /-- OFFER (R417). -/
  | offer
  /-- OFFER_RECEIVE (R417): the record, and ns left to the next T0. -/
  | offerReceive (bytes : List Byte) (left : Nat)
  /-- TAKE (R417): the record. -/
  | take (bytes : List Byte)
  /-- SYNC_REQ_RECEIVE (R424): the record. -/
  | syncReqReceive (bytes : List Byte)
  /-- TAKEOVER (R415). -/
  | takeover
  /-- PADDLE_REPLAY (R421). -/
  | paddleReplay
  /-- PADDLE_REPLAY_END (R422). -/
  | paddleReplayEnd
  /-- SELFTEST (R419): self-test, and whether it passed. -/
  | selftest (n : Fin 8) (ok : Bool)
  /-- LANE_DOWN (R398): lane. -/
  | laneDown (n : Fin 2)
  /-- LANE_UP (R398): lane. -/
  | laneUp (n : Fin 2)
  /-- PARTNER_LOST (R398). -/
  | partnerLost
  /-- DEBOUNCE_PASS (R436): digital channel and its new level. -/
  | debouncePass (ch : Fin 48) (level : Bool)
  /-- INPUT_OPEN_WIRE (R438): digital channel. -/
  | inputOpenWire (ch : Fin 48)
  /-- OUTPUT_OPEN_WIRE (R444): digital channel. -/
  | outputOpenWire (ch : Fin 48)
  /-- OVERLOAD (R442): digital channel. -/
  | overload (ch : Fin 48)
  /-- OVERTEMP (R443): digital channel. -/
  | overtemp (ch : Fin 48)
  /-- SHORT_TO_SUPPLY (R445): output as R448 numbers it, and whether the reading began within 1 ms after
  an edge of another output. -/
  | shortToSupply (n : Fin 56) (near : Bool)
  /-- CROSS_WIRED (R446): output, and the output that turned off. -/
  | crossWired (n : Fin 56) (other : Fin 56)
  /-- CHANNEL_CLEAR (R447): output. -/
  | channelClear (n : Fin 56)
  /-- FS_SAMPLE (R450): group, and its supply in units of 10 mV. -/
  | fsSample (g : Fin 4) (volts : Nat)
  /-- FS_RESUME (R450): group. -/
  | fsResume (g : Fin 4)
  /-- FREQ_PERIOD (R455): frequency channel, and the period in units of 10 ns. -/
  | freqPeriod (f : Fin 8) (t : Nat)
  /-- FREQ_TIMEOUT (R456): frequency channel. -/
  | freqTimeout (f : Fin 8)
  /-- TIER_DECISION (R471): island, and its current averaged over 1 ms. -/
  | tierDecision (i : Fin 16) (nA : Int)
  /-- TIER_UP (R471): island. -/
  | tierUp (i : Fin 16)
  /-- ISLAND_START (R471): island. -/
  | islandStart (i : Fin 16)
  /-- BROWNOUT (R471): island. -/
  | brownout (i : Fin 16)
  /-- ISLAND_SAMPLE (R473): island, the current measured, the headroom it reports. -/
  | islandSample (i : Fin 16) (nA : Int) (headroom : Nat)
  /-- ISLAND_COMMAND (R475): island. -/
  | islandCommand (i : Fin 16)
  /-- ISLAND_FRAME_RECEIVE (R485): island. -/
  | islandFrameReceive (i : Fin 16)
  /-- ISLAND_LOST (R485): island. -/
  | islandLost (i : Fin 16)
  /-- FAIL_DRIVEN (R482): island. -/
  | failDriven (i : Fin 16)
  /-- NE43_FAIL (R476): island. -/
  | ne43Fail (i : Fin 16)
  /-- COMPLIANCE (R484): island, and whether the flag sets or clears. -/
  | compliance (i : Fin 16) (v : Bool)
  /-- READBACK (R484): island. -/
  | readback (i : Fin 16)
  /-- CAL_CHECK (R487): island, and whether the reference lies within its bounds. -/
  | calCheck (i : Fin 16) (ok : Bool)
  /-- LS_SAMPLE (R472): LS in units of 10 mV. -/
  | lsSample (volts : Nat)
  /-- LS_STOP (R472). -/
  | lsStop
  /-- LS_START (R472). -/
  | lsStart
  /-- ACTIVATE_REFRESH (R478). -/
  | activateRefresh
  /-- IN (R504): link, whether the FCS is good, µs since the LINE_OUT began, and the payload. -/
  | stationIn (l : Fin 32) (fcsOk : Bool) (cycle : Nat) (bytes : List Byte)
  /-- MANAGEMENT_REQUEST (R508): link. -/
  | managementRequest (l : Fin 32)
  /-- IDENT (R509): link, and the payload. -/
  | ident (l : Fin 32) (bytes : List Byte)
  /-- CONF_ACK (R509): link, and the payload. -/
  | confAck (l : Fin 32) (bytes : List Byte)
  /-- CONF_ACK_TIMEOUT (R509): link and line address. -/
  | confAckTimeout (l : Fin 32) (s : Fin 8)
  /-- STATION_LOST (R509): link and line address. -/
  | stationLost (l : Fin 32) (s : Fin 8)
  /-- REMOTE_LINK_CHANGE (R509): link, and its new state. -/
  | remoteLinkChange (l : Fin 32) (up : Bool)
  /-- CAN_FRAME_ACCEPTED (R532): controller, the frame, and whether it is a remote frame. -/
  | canFrameAccepted (n : Fin 16) (f : CanFrame) (remote : Bool)
  /-- CAN_TX_END (R546): controller, how the attempt ends, further error-flag penalties of 8, the delay
  measured. -/
  | canTxEnd (n : Fin 16) (res : CanTxResult) (extra : Nat) (tdcv : Nat)
  /-- ALONE (R547): controller. -/
  | alone (n : Fin 16)
  /-- ID_CLASH (R548): controller and object. -/
  | idClash (n : Fin 16) (o : Fin 128)
  /-- BUS_OFF_RECOVERY (R546): controller. -/
  | busOffRecovery (n : Fin 16)
  /-- CAN_SLEEP_ENTER (R549): controller. -/
  | canSleepEnter (n : Fin 16)
  /-- CAN_WAKE_EVENT (R550): controller, and what its bus brings. -/
  | canWakeEvent (n : Fin 16) (w : CanWakeSource)
  /-- MODBUS_REPLY (R591): serial port, and the reply. -/
  | modbusReply (q : Fin 6) (bytes : List Byte)
  /-- MODBUS_TIMEOUT (R591): serial port. -/
  | modbusTimeout (q : Fin 6)
  /-- NMEA_SENTENCE (R593): serial port, and the sentence. -/
  | nmeaSentence (q : Fin 6) (bytes : List Byte)
  /-- LAN_STATE (R598): plant network, LAN, and its new state. -/
  | lanState (net : Fin 2) (q : Fin 2) (up : Bool)
  /-- PRP_SUPERVISION (R565). -/
  | prpSupervision
  /-- PRP_SUPERVISION_RECEIVE (R597): plant network, LAN, and whether the frame is the module's own. -/
  | prpSupervisionReceive (net : Fin 2) (q : Fin 2) (own : Bool)
  /-- OPEN (R581): the message. -/
  | rapOpen (x : RapIn)
  /-- CLOSE (R582): the message. -/
  | rapClose (x : RapIn)
  /-- RAP_NOP (R570): the message. -/
  | rapNop (x : RapIn)
  /-- READ (R575): the message. -/
  | rapRead (x : RapIn)
  /-- WRITE (R575): the message. -/
  | rapWrite (x : RapIn)
  /-- IMAGE_READ (R576): the message. -/
  | imageRead (x : RapIn)
  /-- IMAGE_WRITE (R577): the message. -/
  | imageWrite (x : RapIn)
  /-- STAGE_OPEN (R588): the message. -/
  | stageOpen (x : RapIn)
  /-- STAGE_DATA (R588): the message. -/
  | stageData (x : RapIn)
  /-- STAGE_CLOSE (R588): the message. -/
  | stageClose (x : RapIn)
  /-- ATTN_FILTER (R589): the message. -/
  | attnFilter (x : RapIn)
  /-- CMD_TIMEOUT (R573): session. -/
  | cmdTimeout (s : Fin 16)
  /-- SESSION_TIMEOUT (R582): session. -/
  | sessionTimeout (s : Fin 16)
  /-- CMD_LEN (R583): the command buffer up to the length written, and how far the message goes. -/
  | cmdLen (bytes : List Byte) (phase : RapPhase)
  /-- RSP_LEN (R583): the value written. -/
  | rspLen (v : Word)
  /-- LOAD (R174): writer and crew. -/
  | load (r : Requester) (cr : Crew)
  /-- PROGRAM_LOAD (R175): crew. -/
  | programLoad (cr : Crew)
  /-- DISCARD (R210): writer and crew. -/
  | discard (r : Requester) (cr : Crew)
  /-- ENG_LOAD (R285): writer and engine. -/
  | engLoad (r : Requester) (e : Fin 8)
  /-- LOOP_SET_LOAD (R286): engine. -/
  | loopSetLoad (e : Fin 8)
  /-- ENG_DISCARD (R292): writer and engine. -/
  | engDiscard (r : Requester) (e : Fin 8)
  /-- HS_LOAD (R325): by a writer. -/
  | hsLoad (r : Requester)
  /-- HEAT_SET_LOAD (R325). -/
  | heatSetLoad
  /-- HS_DISCARD (R326): by a writer. -/
  | hsDiscard (r : Requester)
  /-- TE_LOAD (R325): writer and table engine. -/
  | teLoad (r : Requester) (t : Fin 2)
  /-- TABLE_SET_LOAD (R325): table engine. -/
  | tableSetLoad (t : Fin 2)
  /-- TE_DISCARD (R329): writer and table engine. -/
  | teDiscard (r : Requester) (t : Fin 2)
  /-- TRIM_APPLY (R189): writer, crew, and COUNT. -/
  | trimApply (r : Requester) (cr : Crew) (count : Fin 32)
  /-- TUNE_APPLY (R288): writer, engine and loop. -/
  | tuneApply (r : Requester) (e : Fin 8) (j : Fin 64)
  /-- TPOINT_APPLY (R330): writer, table engine, loop, table point and its new value. -/
  | tpointApply (r : Requester) (t : Fin 2) (j : Fin 16) (index : BitVec 8) (value : BitVec 16)
  /-- FORCE_ENTRY (R194): writer, crew, and the value written. -/
  | forceEntry (r : Requester) (cr : Crew) (v : Word)
  /-- FORCE_VALUE (R194): writer, crew, and the value written. -/
  | forceValue (r : Requester) (cr : Crew) (v : Word)
  /-- BP_WRITE (R214): writer, breakpoint, and the value written. -/
  | bpWrite (r : Requester) (n : Fin 8) (v : Word)
  /-- COX_TEST_ARM (R249): writer, crew and core. -/
  | coxTestArm (r : Requester) (cr : Crew) (core : Fin 4)
  /-- COX_TEST_DISARM (R249): writer, crew and core. -/
  | coxTestDisarm (r : Requester) (cr : Crew) (core : Fin 4)
  /-- LOOP_MODE_WRITE (R267): writer, engine, loop, and the value written. -/
  | loopModeWrite (r : Requester) (e : Fin 8) (j : Fin 64) (v : Word)
  /-- TLOOP_MODE_WRITE (R302): writer, table engine, loop, and the value written. -/
  | tloopModeWrite (r : Requester) (t : Fin 2) (j : Fin 16) (v : Word)
  /-- HEAT_MODE_WRITE (R327): writer, heat, and the value written. -/
  | heatModeWrite (r : Requester) (h : Fin 16) (v : Word)
  /-- STROKE_CFG_WRITE (R122): writer, and the value written. -/
  | strokeCfgWrite (r : Requester) (v : Word)
  /-- PEAK_CLEAR (R126): writer, and the WARN_PCT of the same write. -/
  | peakClear (r : Requester) (pct : BitVec 8)
  /-- SENSOR_CLEAR (R640): by a writer. -/
  | sensorClear (r : Requester)
  /-- HS_ALLOW_WRITE (R587): writer, session, and the value written. -/
  | hsAllowWrite (r : Requester) (s : Fin 16) (v : Word)
  /-- HS_CLOSE (R582): writer and session. -/
  | hsClose (r : Requester) (s : Fin 16)
  /-- RESYNC (R424): by a writer. -/
  | resync (r : Requester)
  /-- SLEEP (R549): writer and controller. -/
  | sleep (r : Requester) (n : Fin 16)
  /-- CAN_WAKE (R550): writer and controller. -/
  | canWake (r : Requester) (n : Fin 16)
  /-- RECOVER (R555): writer and controller. -/
  | recover (r : Requester) (n : Fin 16)
  /-- ID_CLASH_CLEAR (R548): writer and controller, whose OBJ_SEL names the object. -/
  | idClashClear (r : Requester) (n : Fin 16)
  /-- BLOCK_ENABLE (R71): writer, page, and DRAIN_TIMEOUT. -/
  | blockEnable (r : Requester) (p : Fin 128) (drain : BitVec 8)
  /-- BLOCK_DISABLE (R71): writer, page, and DRAIN_TIMEOUT. -/
  | blockDisable (r : Requester) (p : Fin 128) (drain : BitVec 8)
  /-- SOFT_RESET (R611): writer, page, and DRAIN_TIMEOUT. -/
  | softReset (r : Requester) (p : Fin 128) (drain : BitVec 8)
  /-- BLOCK_RESET (R611): page. -/
  | blockReset (p : Fin 128)
  /-- DRAIN_END (R71): page. -/
  | drainEnd (p : Fin 128)
  /-- DRAIN_ABORT (R71): page. -/
  | drainAbort (p : Fin 128)
  /-- BLK_CAUSE_CLEAR (R57): writer, page, and the value written. -/
  | blkCauseClear (r : Requester) (p : Fin 128) (v : Word)
  /-- TEST_CAUSE (R58): writer, page, and the value written. -/
  | testCause (r : Requester) (p : Fin 128) (v : Word)
  /-- REGISTER_WRITE (R61): writer, address, whether all four bytes are written, and the value. -/
  | registerWrite (r : Requester) (addr : Word) (full : Bool) (v : Word)
  /-- STROKE_TIME_LO_READ (R124): by a requester. -/
  | strokeTimeLoRead (r : Requester)
  /-- DRIVE_NO_LO_READ (R208): requester and crew. -/
  | driveNoLoRead (r : Requester) (cr : Crew)
  /-- WINDOW_READ (R655): requester and window entry. -/
  | windowRead (r : Requester) (k : Fin 64)
  /-- CLEAR_COUNTS (R621): by a writer. -/
  | clearCounts (r : Requester)
  /-- RST_CMD_BLOCK (R621): writer and page. -/
  | rstCmdBlock (r : Requester) (p : Fin 128)
  /-- RST_CMD_CREW (R612): writer and crew. -/
  | rstCmdCrew (r : Requester) (cr : Crew)
  /-- RST_CMD_MODULE (R621): by a writer. -/
  | rstCmdModule (r : Requester)
  /-- RST_CMD_POWER (R605): by a writer. -/
  | rstCmdPower (r : Requester)
  /-- CMD_SERVICE (R605). -/
  | cmdService
  /-- CMD_ENGINEERING (R604). -/
  | cmdEngineering
  /-- POWER_ON (R604). -/
  | powerOn
  /-- BROWNOUT_VCORE (R604). -/
  | brownoutVcore
  /-- BROWNOUT_VDDR (R604). -/
  | brownoutVddr
  /-- BROWNOUT_VIO (R604). -/
  | brownoutVio
  /-- BUTTON (R604). -/
  | button
  /-- BACKPLANE (R604). -/
  | backplane
  /-- WATCHDOG (R607). -/
  | watchdog
  /-- BUTTON_STUCK (R606). -/
  | buttonStuck
  /-- BUTTON_FREED (R606): held time in ms. -/
  | buttonFreed (ms : Nat)
  /-- RESET_SOURCE_RELEASE (R609): source as R604 numbers it. -/
  | resetSourceRelease (n : Fin 12)
  /-- BOOT (R619): what BOOT finds. -/
  | boot (x : BootIn)
  /-- PLUG_POLL (R617): the plug's bytes, none where it does not answer. -/
  | plugPoll (x : Option (List Byte))
  /-- PLUG_CHECK (R618): the plug's bytes, none where it does not answer. -/
  | plugCheck (x : Option (List Byte))
  /-- PLL_UNLOCK (R22): PLL. -/
  | pllUnlock (n : Fin 5)
  /-- UNDERWAY_INPUT (R188): the filtered level. -/
  | underwayInput (v : Bool)
  /-- SENSOR_SAMPLE (R629): the samples. -/
  | sensorSample (x : SensorIn)
  /-- SENSOR_STATE (R629): cause bit, sensor index as in R641, and whether the condition sets or clears. -/
  | sensorState (bit : Fin 9) (k : Fin 64) (set : Bool)
  /-- CELL_MEASURE (R628): the cell in mV, none where it does not answer, and BACKUP_SECONDS. -/
  | cellMeasure (mv : Option Nat) (secs : Nat)
  /-- ENROLL (R638): writer, and LENGTH. -/
  | enroll (r : Requester) (len : BitVec 11)
  /-- OWNER_CLEAR (R638): by a writer. -/
  | ownerClear (r : Requester)
  /-- LOCK (R638): by a writer. -/
  | lock (r : Requester)
  /-- UNLOCK (R638): by a writer. -/
  | unlock (r : Requester)
  /-- OWNER_CHANGE (R638). -/
  | ownerChange
  /-- REQUEST (R639): by a writer. -/
  | request (r : Requester)
  /-- ATTESTED (R639). -/
  | attested
  /-- WAKE_RECORD_STORE (R647). -/
  | wakeRecordStore
  /-- ARM (R651): by a writer. -/
  | arm (r : Requester)
  /-- SNAP (R653): by a writer. -/
  | snap (r : Requester)
  /-- EXPORT (R657): by a writer. -/
  | exportStart (r : Requester)
  /-- EXPORT_DONE (R658). -/
  | exportDone
  /-- UPDATE_BLOCK (R669): whether the slot reads back as written. -/
  | updateBlock (readsBack : Bool)
  /-- UPDATE_VERIFY (R670). -/
  | updateVerify
  /-- UPD_DISCARD (R683): by a writer. -/
  | updDiscard (r : Requester)
  /-- ACTIVATE_ENTRY (R673). -/
  | activateEntry
  /-- ACTIVATED (R673). -/
  | activated
  /-- FALLBACK (R675): whether the stored version's CRC fails. -/
  | fallback (unreadable : Bool)
  /-- PANEL_CHECK (R690). -/
  | panelCheck
  /-- PANEL_PHASE_END (R693). -/
  | panelPhaseEnd
  /-- REFRESH (R697): by a writer. -/
  | refresh (r : Requester)
  /-- PNL_TEST (R699): by a writer. -/
  | pnlTest (r : Requester)
  /-- PNL_TEST_END (R699). -/
  | pnlTestEnd
  /-- CRACK (R698): the loop's resistance; 0xFFFF when open. -/
  | crack (ohms : Nat)
  /-- LANE_TIMEOUT (R301): heat and lane. -/
  | laneTimeout (h : Fin 16) (k : Fin 8)
  /-- LINE_OUT_RECEIVE (R517): link. -/
  | lineOutReceive (l : Fin 32)
  /-- SUPERVISION_MISSING (R597): plant network and LAN. -/
  | supervisionMissing (net : Fin 2) (q : Fin 2)
  /-- PLL_LOCK (R22): PLL. -/
  | pllLock (n : Fin 5)
  /-- ARBITRATION_LOSS (R541): controller. -/
  | arbitrationLoss (n : Fin 16)
  /-- CAN_RX_ERROR (R546, R555): controller, whether the counter rises by 1, and how many times by 8; neither, for a
  recessive res bit that PEX makes the protocol exception. -/
  | canRxError (n : Fin 16) (one : Bool) (eights : Nat)
  /-- CAN_TX_START (R539): controller. -/
  | canTxStart (n : Fin 16)
  /-- CAN_INTEGRATED (R550): controller. -/
  | canIntegrated (n : Fin 16)
  /-- DISCARDED_RECORD (R395). -/
  | discardedRecord
  /-- DISCARDED_DATAGRAM (R564): plant network. -/
  | discardedDatagram (net : Fin 2)
  /-- ARP_REQUEST (R564): port, the asker's addresses, and the address asked for. -/
  | arpRequest (p : Port) (mac : BitVec 48) (ip : Word) (target : Word)
  /-- ICMP_ECHO (R564): port, the address asked, and the request from its identifier on. -/
  | icmpEcho (p : Port) (target : Word) (rest : List Byte)
  /-- PTP_ANNOUNCE_TIMEOUT (R567): plant network and LAN. -/
  | ptpAnnounceTimeout (net : Fin 2) (q : Fin 2)
  /-- PCIE_LINK_CHANGE (R615): the link's new state. -/
  | pcieLinkChange (up : Bool)
  /-- OPEN_WIRE_CLEAR (R444): digital channel. -/
  | openWireClear (ch : Fin 48)
  /-- READBACK_CLEAR (R484): island. -/
  | readbackClear (i : Fin 16)
  deriving DecidableEq, Repr

end Sys2Proof
end

