-- ==== Sys2Proof/Decode.lean ====
section
/-!
DEFINITION. The command that a word of the opcode table spells. The table gives no row any bits: a command is
an event or a register access with operands, not a word. (What an instruction word of the logic engine means
is with the instructions, in Machine/CrewCore.lean; what a RAP message means is in Machine/Rap.lean.)
-/
namespace Sys2Proof

/-- No row of the table has bits, so no word spells a command. -/
def decodeTableWord (_nbits _w : Nat) : Option Instr := none

end Sys2Proof
end

