-- ==== Sys2Proof/Config.lean ====
section
/-!
DEFINITION. What the spec leaves to the implementation, to a module or to an image: opaque constants
that no proof can see into. A statement of this model holds whatever they are.
-/
namespace Sys2Proof.Config

/-- The free value number `n` of a run (log entry 1). -/
opaque freeNat : Nat → Nat

/-- The cause bit of page 0x74 that queue `q`'s refusal raises: R26 gives the cause, no rule its bit. -/
opaque queueCauseBit (q : Nat) : Nat

/-- A PRP supervision frame as IEC 62439-3 has it (R565), for a network and one of its LANs. -/
opaque supervisionFrame (net lan : Nat) : List Byte

/-- The six bytes of the redundancy control trailer of a frame's copy on one LAN, as IEC 62439-3 has them (R565);
successive frames' differ. -/
opaque prpTrailer (lan n : Nat) : BitVec 48

/-- A PTP delay request as IEEE 1588-2019 has it (R567), for a network and one of its LANs; successive ones differ. -/
opaque delayRequest (net lan n : Nat) : List Byte

/-- The MAC address of a remote link's PHY, the source of its frames (R499). -/
opaque linkMac (l : Nat) : Nat

/-- The MAC address of an Ethernet port. -/
opaque macAddress (port : Nat) : Nat

/-- Per module: what the key store drew for its P-256 private key (R634), and the Dreura image key's point (R662). -/
opaque keySeed : Nat
opaque imageKey : Nat × Nat

/-- Per module (R635, R642): serial number, and the device certificate's bytes before the serial number in its subject,
between that and its public key, and after the key. -/
opaque serial : Word
opaque certHead : List Byte
opaque certMid : List Byte
opaque certTail : List Byte

/-- Per image: the recovery image's BUILD, formats and digest (R46, R661, R663). -/
opaque recoveryBuild : Nat
opaque recoveryFormat : Nat
opaque recoveryMinFormat : Nat
opaque recoveryCkpt : Nat
opaque recoveryDigest : BitVec 384

/-- Per module: the firmware in slot A as it ships (R729): its head and its data blocks in order (R661). -/
opaque shippedHead : List Byte
opaque shippedBlocks : List (List Byte)

/-- Conversion of a settings entry from one format to another (R681); none where it does not convert.
A set's conversion keeps its TYPE 1 and TYPE 2 entries as R676 spells them, whatever the format (R680). -/
opaque convertible (fromFormat toFormat type page offset index : Nat) (value : Word) : Bool

/-- The overdrive entry of band `b` from level `p` to level `n`, and the CLEAR row, of an image with this
digest (R693, R699). -/
opaque overdrive (digest : List Byte) (b p n : Nat) : Word
opaque clearRow (digest : List Byte) (b : Nat) : Word

/-- The seven segments a to g that show a character, a in bit 0 (R686, R687): the spec names the characters. -/
opaque glyph (ch : Char) : BitVec 7

/-- The sensor index of the accelerometer in a SENSOR_STATE record, which R641 does not list. -/
opaque motionIndex : Nat

/-- The raw FLAGS and STATION of a plug read as one word of the PLUG record, whose layout R625 does not give. -/
opaque plugWord (flags station : Nat) : Word

end Sys2Proof.Config
end

