-- ==== Sys2Proof/Machine/State.lean ====
section
/-!
DEFINITION. The state of the G1 module: every register, buffer, queue, counter, mode and pin that the
spec gives it, as plain data, with the queue of commands waiting; the machine right after reset.
-/
namespace Sys2Proof.Machine

/-! ### Sparse memories (R5, R131) -/

/-- A memory or a register file as a list of (index, value) pairs in one canonical form: indices
strictly rising and no entry equal to what an unlisted index reads as. `SMap.get`, `SMap.set` and
the well-formedness predicate are in Ops. -/
abbrev SMap (α : Type) := List (Nat × α)

/-! ### Modes, pages and the attention tree (chapters 1 and 2) -/

/-- The 12 modes of R28. -/
inductive Mode where
  | reset | boot | unaddressed | config | stop | run | hold | standby | takeover | safeHalt
  | activate | dormant
  deriving DecidableEq, Repr

/-- MODE_STAT and MODE_CMD (R31, R32), and the mode ACTIVATE was entered from (R30). -/
structure ModeSt where
  mode : Mode
  prev : Mode
  seq : BitVec 16
  cmd : BitVec 8
  activateFrom : Mode
  deriving DecidableEq, Repr

/-- BLK_STAT.STATE (R48). -/
inductive BlkState where
  | disabled | enabled | draining | isolated
  deriving DecidableEq, Repr

/-- The common header of one page (R44 to R52) with the drain in progress (R71). -/
structure PageHdr where
  st : BlkState
  /-- DRAIN_TIMEOUT, 1 to 255 (R47). -/
  drainTimeout : Nat
  /-- Catches still to pass before the drain limit runs out (R71); 0 outside DRAINING. -/
  drainLeft : Nat
  /-- ENABLE has been written and no catch has come since: the block takes no work yet (R71). -/
  waits : Bool
  cause : Word
  mask : Word
  raw : Word
  ownerE : Bool
  ownerP : Bool
  seq : Word
  deriving DecidableEq, Repr

/-- ATTN_SEQ, the pin and the refusal registers (R79 to R82), and the ATTN_SEQ of the last
attention check (R83). -/
structure AttnSt where
  summary : Word
  seq : Word
  /-- ATTN# may be driven: the module has entered CONFIG or UNADDRESSED since reset (R82). -/
  pinLive : Bool
  refusalBh : Word
  refusalHost : Word
  checkedSeq : Word
  deriving DecidableEq, Repr

/-! ### The stroke (chapter 3) -/

/-- STROKE_STAT.SYNC_STATE (R111). -/
inductive SyncState where
  | free | acquiring | locked | holdover
  deriving DecidableEq, Repr

/-- STROKE_STAT.PHASE (R123). -/
inductive Phase where
  | catch_ | drive | finish | recovery
  deriving DecidableEq, Repr

/-- One crew's drive-use figures, in units of 2 µs (R125). -/
structure LoadFig where
  peak : Nat
  last : Nat
  deriving DecidableEq, Repr

/-- The stroke generator (R85 to R128). -/
structure StrokeSt where
  /-- STROKE_CFG in effect; the written copy takes effect at the next T0 (R122). -/
  active : Word
  phase : Phase
  count : Word
  /-- Module time in ns at the current T0 (R124). -/
  t0 : Nat
  /-- A T0 has come since the last MODULE or POWER reset; until then STROKE_TIME reads its reset value (R124). -/
  timed : Bool
  sync : SyncState
  offset : Word
  refPresent : Bool
  /-- Consecutive strokes within 1 µs, and beyond 10 µs (R111). -/
  within : Nat
  beyond : Nat
  loadSafety : LoadFig
  loadProcess : LoadFig
  overruns : Nat
  skipRun : Nat
  /-- OVERRUN_STAT.CREWS (R127). -/
  crews : BitVec 2
  /-- The latch holds safe values: loaded with them at a TF (R104, R113), and the process crew, or the safety
  crew, has not committed since. -/
  safeLatch : Bool
  safeLatchS : Bool
  /-- A NATIVE overrun was found at this TF; SAFE_HALT follows at the strobe (R113). -/
  haltAtStrobe : Bool
  /-- Checkpoint capture is under way (R105, R106). -/
  capturing : Bool
  /-- Latched high words by requester index (R124, R208): key = requester + 32 × (0 for
  STROKE_TIME_HI, 1 for page 0x08, 2 for page 0x09). -/
  hiLatch : SMap Word
  deriving DecidableEq, Repr

/-! ### The process image -/

/-- A Boolean image of 65,536 bits and a word image of 16,384 words (R131). -/
structure Img where
  bits : SMap Bool
  words : SMap Word
  deriving DecidableEq, Repr

/-! ### The crews (chapters 4 to 6) -/

/-- A timer record (R144). `running` tells the running timer from the idle one, as R145 gives it
for each instruction: IN, Q and DONE alone do not (TOF idle and TP running share them). -/
structure Timer where
  inp : Bool
  start : Word
  q : Bool
  done : Bool
  pt : Word
  running : Bool
  deriving DecidableEq, Repr

/-- A counter record (R147). -/
structure Counter where
  cv : Word
  up : Bool
  dn : Bool
  deriving DecidableEq, Repr

/-- One core's data memory (R131). -/
structure CrewMem where
  img : Img
  markers : SMap Bool
  priv : SMap Word
  edges : SMap Bool
  timers : SMap Timer
  counters : SMap Counter
  deriving DecidableEq, Repr

/-- The kind of a branch-stack entry (R139). -/
inductive BranchKind where
  | and | or | xor
  deriving DecidableEq, Repr

/-- The registers of R130 and one core's place in its drive. -/
structure CoreSt where
  ba : Bool
  wa : Word
  wb : Word
  ov : Bool
  pc : Nat
  branch : List (Bool × BranchKind)
  calls : List Nat
  /-- Task being executed (R170); none before the first task or after the last. -/
  task : Option Nat
  /-- Tasks of this drive still to be entered (R177). -/
  todo : List Nat
  /-- The core has ended drive (R95). -/
  ended : Bool
  /-- Stopped by an execution fault (R161). -/
  faulted : Bool
  /-- Clocks used in this drive (R157, R178). -/
  clocks : Nat
  /-- The halted instruction is executed without halting at it again (R185). -/
  passBp : Bool
  mem : CrewMem
  deriving DecidableEq, Repr

/-- A task entry (R170). -/
structure TaskEntry where
  present : Bool
  start : Nat
  interval : Nat
  phase : Nat
  deriving DecidableEq, Repr

/-- An IOMAP entry (R171). -/
structure IoRange where
  word : Bool
  first : Nat
  count : Nat
  deriving DecidableEq, Repr

/-- A trim entry (R172). -/
structure TrimEntry where
  kind : Nat
  addr : Nat
  min : Int
  max : Int
  deriving DecidableEq, Repr

/-- One partition of a program (R169, R203). -/
structure Part where
  code : List Word
  tasks : List TaskEntry
  iomap : List IoRange
  trims : List TrimEntry
  markerInit : SMap Bool
  privInit : SMap Word
  deriving DecidableEq, Repr

/-- A loaded program (R164 to R173). -/
structure Program where
  id : Word
  version : Word
  target : Nat
  parts : List Part
  deriving DecidableEq, Repr

/-- One trim of a batch: partition, entry index, value (R212). -/
structure Trim where
  part : Nat
  index : Nat
  value : Word
  deriving DecidableEq, Repr

/-- A force entry as its registers hold it (R213). -/
structure Force where
  entry : Word
  value : Word
  deriving DecidableEq, Repr

/-- What a crew's clean state records (R225, R229, R230). -/
structure CleanSt where
  mems : List CrewMem
  driveNo : Nat
  listDrive : Option Nat
  catchCount : Word
  /-- A catch has been taken since the entry to RUN (R180). -/
  caughtOnce : Bool
  startDue : Bool
  crab : Bool
  deriving DecidableEq, Repr

/-- How a crew stands in the drive phase (R183 to R187, R209). -/
inductive RunState where
  | idle | running | halted
  deriving DecidableEq, Repr

/-- The cox's registers (R245 to R249). -/
structure CoxSt where
  faulty : Bool
  restoring : Bool
  /-- Restored and waiting for its restart catch (R227). -/
  awaiting : Bool
  mismatches : Nat
  /-- STROKE_COUNT of the last mismatches, newest first, at most three (R234). -/
  history : List Word
  last : Word
  lastAddr : Word
  lastStroke : Word
  prevStroke : Word
  corrected : Nat
  uncorrectable : Nat
  eccLast : Word
  faultStat : Word
  faultWord : Word
  faultStroke : Word
  testArm : Bool
  testCore : Nat
  /-- Lines to be rewritten by the restore in progress (R226). -/
  lines : Nat
  /-- Restore time in ns, for the RESTART_DONE record (R251). -/
  restoreNs : Nat
  /-- The mismatch fell in a drive run after RESUME or STEP in HOLD (R232). -/
  inHold : Bool
  /-- The 16 KiB of each program SRAM (of 128) and of each data SRAM (of 64) that the scrub covers next (R239). -/
  scrubProg : Nat
  scrubData : Nat
  deriving DecidableEq, Repr

/-- One crew: its program, its drive and its registers (chapters 4 to 6). -/
structure CrewSt where
  prog : Option Program
  loadCmd : Word
  loadResult : Nat
  loadSection : Nat
  loadWhere : Word
  cores : List CoreSt
  run : RunState
  /-- A drive is under way or has ended uncommitted: set by a catch, cleared by the commit (R95, R115). -/
  caught : Bool
  /-- Module time at the T0 of the stroke in which this drive began (R119). -/
  driveT0 : Nat
  /-- The drive was carried over a T0 having ended before it: it ends and executes nothing in this stroke (R119). -/
  carried : Bool
  driveNo : Nat
  /-- The crew has taken a catch since it entered RUN (R180). -/
  firstCatchDone : Bool
  /-- DRIVE_NO at the last catch that built a task list (R181). -/
  listDrive : Option Nat
  /-- STROKE_COUNT at the crew's previous catch (R117, R180). -/
  catchCount : Word
  /-- Module time at the crew's last catch (R143). -/
  catchTime : Nat
  startDue : Bool
  crab : Bool
  lostStations : Nat
  lostIslands : Nat
  crabStations : Nat
  crabIslands : Nat
  /-- Losses counted by catches of strokes that have not become clean (R182, R229). -/
  uncleanStations : Nat
  uncleanIslands : Nat
  ran : BitVec 11
  /-- The three data SRAMs of a voted crew hold the copy in `cores` (R217), but for the one core named here, in
  whose own SRAM a write has landed that differs (R220, R249). -/
  apart : Option (Nat × CrewMem)
  deriving DecidableEq, Repr

/-- A crew's commissioning state: trims, forces, breakpoints, halts (R183 to R216). -/
structure CrewCtl where
  /-- Batches that stand pending: one staged, after those that strokes which did not become clean gave back
  (R190, R230). -/
  trimPending : List (List Trim)
  /-- Batches applied at this stroke's catch, journaled in recovery if the stroke is clean (R192, R230). -/
  trimApplied : List (List Trim)
  lastTrimStroke : BitVec 16
  journal : List (List Trim)
  forces : SMap Force
  bps : SMap Word
  haltStat : Word
  haltPc : List Word
  /-- RESUME accepted: go on at the next catch (R185). -/
  resume : Bool
  /-- STEP accepted (R186): halt again after the next commit. -/
  step : Bool
  /-- The step's drive has committed: halt at the next T0 + 20 µs (R186). -/
  haltNext : Bool
  /-- The halted drive's task list is kept (false after the halt of R186). -/
  midDrive : Bool
  clean : Option CleanSt
  /-- The crew committed at this stroke's TF with no mismatch since (R225). -/
  committed : Bool
  /-- The drive under way is one that RESUME or STEP began in HOLD (R232). -/
  resumed : Bool
  deriving DecidableEq, Repr

/-! ### The wake recorder (chapter 18) -/

/-- A wake record before it is numbered (R644). -/
structure WakeRec where
  time : Nat
  code : Nat
  source : Nat
  p0 : Word
  p1 : Word
  p2 : Word
  p3 : Word
  deriving DecidableEq, Repr

/-- A stored record with its SEQ (R647). -/
structure Stored where
  seq : Word
  body : WakeRec
  deriving DecidableEq, Repr

/-- A reader context (R652). -/
structure WakeCtx where
  head : Word
  tail : Word
  area : Nat
  sel : Word
  latches : SMap (List Byte)
  deriving DecidableEq, Repr

/-- One wake queue, 56 to 59, with its refusals (R24, R648). -/
structure WakeQueue where
  recs : List WakeRec
  /-- WR_LOST byte, saturating. -/
  lost : Nat
  /-- Entries refused since the last LOST record, and TIME of the first of them. -/
  refused : Nat
  firstTime : Nat
  deriving DecidableEq, Repr

/-- The wake recorder (R644 to R660). -/
structure WakeSt where
  queues : SMap WakeQueue
  /-- SEQ of the newest stored record; 0 while none has been stored. -/
  head : Word
  /-- Records stored since manufacture, up to the 262,144 slots (R653). -/
  stored : Nat
  /-- WR_CMD.ARM has been accepted (R651). -/
  armed : Bool
  area : SMap Stored
  launch : List Stored
  cmd : Word
  ctxs : SMap WakeCtx
  expResult : Nat
  expHeld : Nat
  expArea : Nat
  expFirst : Word
  expCount : Nat
  expHeader : List Byte
  expSig : List Byte
  expBuf : List Stored
  deriving DecidableEq, Repr

/-! ### Loop engines, table engines and the heat selector (chapters 7 and 8) -/

/-- A binding (R283). -/
structure Binding where
  kind : Nat
  index : Nat
  offset : Int
  mult : Int
  shift : Nat
  deriving DecidableEq, Repr

/-- A section's coefficients (R284). -/
structure Section where
  b0 : Int
  b1 : Int
  b2 : Int
  a1 : Int
  a2 : Int
  shift : Nat
  ef : Bool
  deriving DecidableEq, Repr

/-- What a loop block and a table block share (R282, R324). -/
structure LoopCommon where
  no : Nat
  ticks : Nat
  fromSafe : Bool
  reverse : Bool
  trkUsed : Bool
  manUsed : Bool
  badAction : Nat
  initMode : Nat
  staleLimit : Nat
  safe : Int
  outHi : Int
  outLo : Int
  trkBit : Nat
  manBit : Nat
  pv : Binding
  sp : Binding
  ff : Binding
  hi : Binding
  lo : Binding
  man : Binding
  trk : Binding
  out : Binding
  deriving DecidableEq, Repr

/-- The law of a loop: a biquad cascade (R258 to R262) or a gain table (R316). -/
inductive Law where
  | cascade (gain : Int) (gainShift : Nat) (kinv : Int) (kinvShift : Nat) (secs : List Section)
  | table (tShift : Nat) (kp : Int) (kpShift : Nat) (points : List Int)
  deriving DecidableEq, Repr

/-- One loop as loaded. -/
structure LoopBlock where
  com : LoopCommon
  law : Law
  deriving DecidableEq, Repr

/-- A loaded loop set or table set (R281, R321). -/
structure LoopSet where
  id : Word
  version : Word
  loops : List LoopBlock
  deriving DecidableEq, Repr

/-- One section's memory and residue (R258, R259). -/
structure SecSt where
  x1 : Int
  x2 : Int
  y1 : Int
  y2 : Int
  r : Int
  deriving DecidableEq, Repr

/-- What the engine latches at a loop's tick instant (R271, R308). -/
structure TickLatch where
  raw : Int
  invalid : Bool
  count : Nat
  /-- u of each LOOP source named, by loop number. -/
  sources : SMap Int
  /-- The words of the IMAGE sources named, by address (R271). -/
  words : SMap Word
  /-- TRK_BIT and MAN_BIT as the image copy of the tick has them, and LOOP_MODEj.REQ (R267). -/
  trkBit : Bool
  manBit : Bool
  req : Nat
  /-- STALE at this tick (R268). -/
  stale : Nat
  /-- The heat tracks the lane at this sample, with this value (R308). -/
  track : Option Int
  /-- Tick instant in ns after T0. -/
  instant : Nat
  deriving DecidableEq, Repr

/-- One loop's state and its registers (R276, R295, R296). -/
structure LoopSt where
  req : Nat
  started : Bool
  stopped : Bool
  /-- The SAFE value of R266 has been written at the first tick in OFF. -/
  offDone : Bool
  secs : List SecSt
  integ : Int
  u : Int
  v : Int
  pv : Int
  sp : Int
  mode : Nat
  digOn : Bool
  /-- STALE as the last completed sample had it (R278, R295), and as the last tick has it (R268). -/
  stale : Nat
  tickStale : Nat
  count : Nat
  measBad : Bool
  held : Bool
  clampHi : Bool
  clampLo : Bool
  sat : Bool
  where_ : Nat
  dmax : Nat
  /-- MAN_BIT at the last tick of which the engine read it; none before the first (R298). -/
  manBit : Option Bool
  /-- The last sample stood on SAFE under BAD_ACTION 2 (R270), or the first is to start from SAFE (R276). -/
  wasSafe : Bool
  latch : Option TickLatch
  deriving DecidableEq, Repr

/-- A staged tune or table point (R288, R330): the registers as written, and the loop. -/
structure Tune where
  loop : Nat
  w0 : Word
  w1 : Word
  w2 : Word
  deriving DecidableEq, Repr

/-- One loop engine (0 to 7) or table engine (8, 9). -/
structure EngSt where
  set : Option LoopSet
  cmd : Word
  result : Nat
  failNo : Nat
  tune : Option Tune
  /-- Tunes applied and not yet stored: that of this stroke's T0, and any before it whose recovery had no capture
  (R289). -/
  tuned : List Tune
  loops : SMap LoopSt
  samples : Word
  deriving DecidableEq, Repr

/-- A heat block (R322). -/
structure HeatBlock where
  no : Nat
  lanes : BitVec 8
  exclUsed : BitVec 8
  manUsed : Bool
  hyst : Int
  safe : Int
  laneTimeout : Nat
  manBit : Nat
  statusWord : Nat
  initMode : Nat
  exclBits : List Nat
  man : Binding
  out : Binding
  deriving DecidableEq, Repr

/-- An arrival (R300): u, the candidate, the loop's OFF and HELD state, and module time in ns when it leaves the
engine. -/
structure Arrival where
  u : Int
  c : Int
  off : Bool
  held : Bool
  at_ : Int
  deriving DecidableEq, Repr

/-- One lane: its last arrival decided on, the one that the decision in progress takes in, and the one that waits for
the next (R303). -/
structure LaneSt where
  last : Option Arrival
  taken : Option Arrival
  waiting : Option Arrival
  timedOut : Bool
  tracked : Bool
  deriving DecidableEq, Repr

/-- One heat's state and registers (R304 to R313, R327, R328). -/
structure HeatSt where
  req : Nat
  started : Bool
  /-- Effective mode: 0 OFF, 1 AUTO, 2 MANUAL, 3 WARMUP. -/
  mode : Nat
  warm : Bool
  /-- Lanes that have delivered an arrival since the entry to warm-up (R307). -/
  arrived : BitVec 8
  leader : Option Nat
  out : Int
  minC : Int
  noLeader : Bool
  leads : Word
  unrecorded : Nat
  lastRecord : Option Word
  /-- Module time in ns at which the decision in progress began (R303). -/
  deciding : Option Int
  lanes : List LaneSt
  deriving DecidableEq, Repr

/-- A loop in the snapshot of a TF (R278). -/
structure LoopSnap where
  secs : List SecSt
  integ : Int
  u : Int
  mode : Nat
  digOn : Bool
  stale : Nat
  measBad : Bool
  held : Bool
  wasSafe : Bool
  deriving DecidableEq, Repr

/-- A lane's last arrival in the snapshot of a TF, with its age in µs (R313). -/
structure LaneSnap where
  u : Int
  c : Int
  off : Bool
  held : Bool
  timedOut : Bool
  age : Nat
  deriving DecidableEq, Repr

/-- A heat in the snapshot of a TF (R313). -/
structure HeatSnap where
  mode : Nat
  warm : Bool
  arrived : BitVec 8
  leader : Option Nat
  out : Int
  lanes : List (Option LaneSnap)
  deriving DecidableEq, Repr

/-- The heat selector (R321 to R328). -/
structure SelSt where
  set : Option (Word × Word × List HeatBlock)
  cmd : Word
  result : Nat
  failNo : Nat
  heats : SMap HeatSt
  decisions : Word
  deriving DecidableEq, Repr

/-! ### Safety functions (chapter 9) -/

/-- One safety input channel (R337 to R341). -/
structure SafeCh where
  /-- Filtered level; true while current flows. -/
  level : Bool
  stageFault : Bool
  passes : Nat
  deriving DecidableEq, Repr

/-- One pair's DISCREPANCY fault (R340, R348). -/
structure PairFault where
  present : Bool
  /-- Both channels have been in demand together since the fault. -/
  both : Bool
  /-- A stored STAGE_FAULT of the pair has not yet met its condition since boot (R351). -/
  stored : Bool
  deriving DecidableEq, Repr

/-- One safety output (R342 to R345). -/
structure SafeOut where
  high : Bool
  low : Bool
  /-- Commands waiting for the output strobe (R342). -/
  nextHigh : Bool
  nextLow : Bool
  /-- Readings caught at T0: the switch reads closed. -/
  readHigh : Bool
  readLow : Bool
  stuck : Bool
  short : Bool
  cross : Bool
  /-- Partner of CROSS_WIRED in the numbering of R448; 255 for none. -/
  with_ : Nat
  /-- R345 holds the low-side switch open. -/
  lowOpen : Bool
  deriving DecidableEq, Repr

/-- One safety group (R349, R376). -/
structure GroupSt where
  state : Nat
  cause : Nat
  which : Nat
  proofSeen : BitVec 8
  demand : BitVec 3
  /-- Module time of the first TF of the present run without demand (R349). -/
  quietFrom : Option Nat
  deriving DecidableEq, Repr

/-- The safety reset input (R353 to R356, R373). -/
structure ResetIn where
  closed : Bool
  stuck : Bool
  valid : Nat
  short : Nat
  stucks : Nat
  /-- Valid events waiting for a catch, by held time in ms. -/
  waiting : List Nat
  caught : Option Nat
  deriving DecidableEq, Repr

/-- The safety block (page 0x20). -/
structure SafetySt where
  chans : SMap SafeCh
  pairs : SMap PairFault
  outs : SMap SafeOut
  groups : SMap GroupSt
  rstIn : ResetIn
  /-- Faults detected and not yet taken by an evaluation: (CAUSE, WHICH) (R333, R348). -/
  detected : List (Nat × Nat)
  /-- The next evaluated TF is the first after entry to RUN from STOP or CONFIG (R349). -/
  firstTf : Bool
  /-- Pair demands, pairs with a fault, good connections and connections in FAULT, and the pair and connection
  faults detected before, as caught at this stroke's T0 (R333). -/
  caughtDemand : BitVec 8
  caughtPairFault : BitVec 8
  caughtConn : SMap Bool
  caughtConnFault : SMap Bool
  caughtFaults : List (Nat × Nat)
  pairStat : Word
  outStat : Word
  deriving DecidableEq, Repr

/-- The data a connection delivers (R366). -/
structure ZwData where
  bits : List Byte
  words : List Byte
  valid : Bool
  deriving DecidableEq, Repr

/-- One Zwistra connection (R358 to R367, R380). -/
structure ZwConn where
  /-- 0 unused, 1 WAITING, 2 RUNNING, 3 TIMED_OUT. -/
  state : Nat
  fault : Bool
  single : Bool
  valid : Bool
  equalRun : Nat
  lastSkew : Nat
  seq : Word
  epoch : Word
  /-- A copy has been accepted, so SEQ is a reference (R361). -/
  seen : Bool
  /-- The open skew window: network (true A), PDU bytes, arrival time in ns (R363). -/
  window : Option (Bool × List Byte × Nat)
  /-- EPOCH and SEQ of the copies that DUAL_REQUIRED dropped, the latest first: their second copies are OLD
  (R364). -/
  dropped : List (Nat × Nat)
  data : Option ZwData
  mismatches : Nat
  singles : Nat
  fenced : Nat
  bad : Nat
  deriving DecidableEq, Repr

/-- The limiter of a rate-limited record: STROKE_COUNT of the last one, events since (R382 and
others). -/
structure RateSt where
  last : Option Word
  since : Nat
  deriving DecidableEq, Repr

/-! ### The redundant pair (chapter 10) -/

/-- What the partner's last HELLO said (R396). -/
structure Hello where
  station : Nat
  side : Nat
  fleet : Nat
  scull : Nat
  socRev : Nat
  format : Nat
  digest : Word
  epoch : Word
  mode : Nat
  role : Nat
  build : Nat
  deriving DecidableEq, Repr

/-- The stages a standby drives for its partner (R395, R408). -/
structure OutStates where
  digital : BitVec 48
  high : BitVec 8
  low : BitVec 8
  deriving DecidableEq, Repr

/-- A checkpoint being received or complete (R404, R405). -/
structure Ckpt where
  stroke : Word
  base : Word
  count : Nat
  slice : Nat
  paddle : Bool
  /-- Line number × 4 + KIND to content (R404). -/
  lines : SMap (List Byte)
  latchS : Word
  latchP : Word
  /-- CKPT_HEAD has come; LINES of the CKPT_END that has. -/
  headed : Bool
  ended : Option Nat
  deriving DecidableEq, Repr

/-- Lease, seat and handover (R386 to R393, R408, R409, R417, R418). -/
structure SeatSt where
  holds : Bool
  /-- SAFE_HALT was caused by an overrun or an execution fault (R386). -/
  haltByOverrun : Bool
  laneUp : BitVec 2
  /-- Strokes since a record last arrived on either lane (R398). -/
  silent : Nat
  /-- The last HELLO, kept while the partner is lost (R396); `lost` until one arrives (R398). -/
  partner : Option Hello
  lost : Bool
  partnerRole : Nat
  partnerHealth : Word
  /-- A lease with an epoch at least equal to the own one came since the last judgment (R391). -/
  leaseHeard : Bool
  /-- A judgment since the entry to STANDBY has found a valid lease (R391, R392). -/
  leaseSeen : Bool
  leaseMiss : Nat
  /-- Judgments since the entry to STANDBY, and whether it came from CONFIG (R392). -/
  waited : Nat
  fromConfig : Bool
  /-- Consecutive valid judgments without an OUTPUT record (R409). -/
  quiet : Nat
  outStates : OutStates
  outDriven : Bool
  outPending : Option OutStates
  /-- HANDOVER accepted; offers sent; SAFE_HALT to follow the handover (R393, R417, R418). -/
  handover : Bool
  handoverAfter : Word
  offers : Nat
  haltRow : Option Nat
  takeEpoch : Option Word
  /-- TAKE sent for this checkpoint stroke; the seat is taken at the next T0 (R417). -/
  takeSent : Bool
  byHandover : Bool
  /-- Highest epoch seen for the station address in beacons (R385, R388). -/
  beaconEpoch : Word
  /-- The steps of TAKEOVER have ended: RUN follows at the next T0 (R415). -/
  takeDue : Bool
  /-- The seat holder's STROKE_COUNT in the last OUTPUT record of a TF that this module heard (R429). -/
  lastStrobe : Option Word
  deriving DecidableEq, Repr

/-- Checkpoints, the mirror and paddle strokes (R399 to R424). -/
structure MirrorSt where
  streaming : Bool
  /-- SYNC_REQ has been sent and no checkpoint record has come since (R424). -/
  syncSent : Bool
  resyncWaiting : Bool
  /-- Checkpoints of which records have come, not yet found complete or incomplete (R405). -/
  rx : List Ckpt
  done : List Ckpt
  /-- Stroke of the last checkpoint found complete (R405). -/
  lastComplete : Option Word
  anyBase : Bool
  succession : Nat
  whole : Bool
  /-- PAIR_STAT.CKPT_AGE; and strokes since the last complete checkpoint applied, to 256 (R430). -/
  age : Nat
  applyAge : Nat
  lines : Nat
  slice : Nat
  incompleteRun : Nat
  lastStroke : Word
  incomplete : Nat
  oversize : Nat
  runs : Nat
  fails : Nat
  result : Nat
  paddleOk : Bool
  replay : Option Ckpt
  selftestFails : BitVec 8
  /-- Own STROKE_COUNT minus the seat holder's, as the last LEASE record showed it (R394, R416). -/
  skew : Word
  /-- Engine and heat snapshots of the last TF, or of the last checkpoint applied (R278, R313, R406), by
  engine × 64 + loop and by heat. -/
  loopSnap : SMap LoopSnap
  heatSnap : SMap HeatSnap
  /-- Seat holder: each line's content at the last capture, and the stroke at whose capture it was last
  found changed (R402). -/
  lineImg : SMap (List Byte)
  changedAt : SMap Word
  /-- The lines of the sequencer region, of the groups and of the forces as this stroke's TF latched them (R105). -/
  tfLines : SMap (List Byte)
  /-- Each core's image copy as caught at this stroke's catch, safety crew first (R420). -/
  caughtImgs : List Img
  /-- Strokes of the last two checkpoints streamed, the latest first, with their LINES (R405). -/
  streamed : List (Word × Nat)
  deriving DecidableEq, Repr

/-- Counts and reports of page 0x28 (R429 to R432). -/
structure PairCnt where
  takeCount : Nat
  takeCause : Nat
  gap : Nat
  crcErrors : Nat
  /-- Stroke of the last ACK's checkpoint (R402). -/
  acked : Option Word
  /-- Base that the next capture keeps, after an incomplete checkpoint (R403). -/
  keptBase : Option Word
  /-- Base as the capture under way found it when it began (R402). -/
  captureBase : Word
  /-- Strokes of the last 17 records discarded, the latest first (R419). -/
  crcStrokes : List Word
  lastHealth : Word
  deriving DecidableEq, Repr

/-! ### Digital field channels (chapter 11) -/

/-- One digital channel's stage and diagnoses (R435 to R447, R462). -/
structure DigCh where
  /-- Debounced input state (R436). -/
  level : Bool
  /-- Committed value of an output (R439). -/
  commit : Bool
  overload : Bool
  overtemp : Bool
  /-- The value 0 was committed since OVERTEMP set (R443). -/
  zeroSeen : Bool
  openWire : Bool
  short : Bool
  cross : Bool
  with_ : Nat
  /-- CH_STAT bits [30:24] as last recorded (R465). -/
  flags : Nat
  deriving DecidableEq, Repr

/-- One group's field supply monitor (R450, R451): 0 NORMAL, 1 LOW, 2 OFF. -/
structure FsSt where
  state : Nat
  volts : Nat
  /-- Outputs forced off until the first strobe after OFF (R451). -/
  held : Bool
  deriving DecidableEq, Repr

/-- One frequency channel (R454 to R457). -/
structure FreqSt where
  /-- Completed periods of the averaging window, newest first, in units of 10 ns. -/
  window : List Nat
  /-- A period shorter than 50 µs; consecutive good periods since (R457). -/
  fault : Bool
  good : Nat
  mhz : Nat
  period : Nat
  /-- The value computed while the fault holds (R457). -/
  next : Option (Nat × Nat)
  updates : Nat
  deriving DecidableEq, Repr

/-- Pages 0x30 to 0x33. -/
structure DigSt where
  chans : SMap DigCh
  fs : SMap FsSt
  freq : SMap FreqSt
  /-- Outputs turned on at the last such edge: 0–47 channels, 48–55 safety outputs (R445, R448). -/
  onEdge : List Nat
  /-- By output, module time at the T0 of the stroke in which it was last turned off (R446, R448). -/
  offEdge : SMap Nat
  deriving DecidableEq, Repr

def DigCh.reset : DigCh := ⟨false, false, false, false, false, false, false, false, 255, 0⟩
def FsSt.reset : FsSt := ⟨0, 0, false⟩
def FreqSt.reset : FreqSt := ⟨[], false, 0, 0, 0xFFFFFFFF, none, 0⟩

/-! ### Analogue loop islands (chapter 12) -/

/-- A frame from the core to an island (R478, R480): a command in nA, a PASS command, or for an input
island the direction alone. -/
inductive DownKind where
  | regulate (nA : Int)
  | pass
  | direction
  deriving DecidableEq, Repr

structure DownFrame where
  kind : DownKind
  high : Bool
  deriving DecidableEq, Repr

/-- What an output island's terminal does. -/
inductive IslDrive where
  | none | command (nA : Int) | fail (nA : Int) | pass
  deriving DecidableEq, Repr

/-- A frame from an island to the core (R473, R471). `failed` tells that the island newly drives its
fail level: 0 hold time, 1 start without a frame (R496). -/
structure UpFrame where
  brownout : Bool
  value : Int
  headroom : Nat
  applied : Int
  tier : Nat
  pass : Bool
  failDriven : Bool
  failed : Option Nat
  deriving DecidableEq, Repr

/-- The island's own side of the barrier, which keeps working when the module resets. -/
structure Island where
  /-- Role and PAIRED as last told by the core. -/
  role : Nat
  paired : Bool
  /-- 0 stopped, 1 to 3 (R470). -/
  tier : Nat
  /-- Currents of the last ten decisions in nA, newest first (R471). -/
  decisions : List Int
  /-- Consecutive decisions below 1.1 mA in T1 (R471). -/
  onCap : Nat
  /-- A frame has been received since the island started (R482). -/
  heard : Bool
  /-- The direction cell (R480). -/
  high : Bool
  drive : IslDrive
  /-- Command received and not yet applied. -/
  next : Option DownKind
  failed : Option Nat
  raw : Int
  applied : Int
  /-- Classes entered and not left (R476): bit 0 failure low, 1 under-range, 2 over-range, 3 failure high. -/
  cls : Nat
  compliance : Bool
  readback : Bool
  calBad : Bool
  /-- T0 of the stroke in which a paired output island left the pass role (R483). -/
  leftPass : Option Nat
  /-- Frames on the way to the core, oldest first. -/
  up : List UpFrame
  /-- Frames on the way from the core, oldest first. -/
  down : List DownFrame
  deriving DecidableEq, Repr

/-- Sequencer 1's buffer and status of one island (R485, R486, R494). -/
structure IslBuf where
  value : Int
  /-- Last value caught while not in fault (R486). -/
  caught : Int
  applied : Int
  headroom : Nat
  tier : Nat
  pass : Bool
  failDriven : Bool
  compliance : Bool
  cls : Nat
  readback : Bool
  calBad : Bool
  lost : Bool
  effHigh : Bool
  flags : Nat
  brownouts : Nat
  tierDowns : Nat
  updates : Nat
  /-- Last command of a loop or heat, and the last frame sent (R478). -/
  loopCmd : Option Int
  lastDown : Option DownFrame
  deriving DecidableEq, Repr

/-- Page 0x34. -/
structure IslSt where
  bufs : SMap IslBuf
  volts : Nat
  lsLow : Bool
  lsStop : Bool
  links : BitVec 8
  /-- Effective direction of each island since the last finish, 1 for high; none before the first (R479). -/
  dirs : Option (BitVec 16)
  deriving DecidableEq, Repr

def Island.reset : Island :=
  ⟨0, false, 0, [], 0, false, false, .none, none, none, 0, 0, 0, false, false, false, none, [], []⟩
def IslBuf.reset : IslBuf :=
  ⟨0, 0, 0, 0, 0, false, false, false, 0, false, false, false, false, 0, 0, 0, 0, none, none⟩

/-! ### Remote I/O links (chapter 13) -/

/-- One expected station as its link sees it (R509 to R512, R521). -/
structure StnSt where
  /-- 1 ABSENT, 2 CONFIGURING, 3 RUNNING, 4 LOST. -/
  state : Nat
  typeBad : Bool
  capBad : Bool
  downBad : Bool
  fenced : Bool
  position : Nat
  misses : Nat
  serial : Word
  /-- It has not answered the link's latest LINE_OUT (R510). -/
  awaiting : Bool
  confSent : Bool
  /-- SEQ of the last accepted IN since RUNNING (R504). -/
  seq : Option Word
  /-- A frame has been accepted since RUNNING (R512). -/
  got : Bool
  bits : BitVec 64
  bad : BitVec 64
  words : SMap Int
  /-- Values last caught from a frame, by channel, and the channels that took their substitute at the last catch
  (R512). -/
  last : SMap Int
  subst : BitVec 64
  /-- STATION_STAT of the last accepted IN (R500). -/
  stat : Word
  updates : Nat
  deriving DecidableEq, Repr

/-- One remote link (R497 to R520). -/
structure LinkSt where
  up : Bool
  /-- The link's frame counter, and SEQ of its latest LINE_OUT. -/
  seq : Word
  outSeq : Word
  cycle : Nat
  cBound : Nat
  mBound : Nat
  bad : Nat
  aged : Nat
  misses : Nat
  losses : Nat
  stns : SMap StnSt
  /-- Line address after the last one served by management (R508). -/
  turn : Nat
  /-- A management request went out in this stroke. -/
  managed : Bool
  loopClosed : Bool
  /-- LINE_OUTs of the seat holder that have reached a standby in this stroke (R517). -/
  heardOuts : Nat
  /-- Raw values of REMOTE sinks by station × 64 + channel (R502). -/
  sinks : SMap Int
  deriving DecidableEq, Repr

def StnSt.reset : StnSt :=
  ⟨1, false, false, false, false, 255, 0, 0, false, false, none, false, 0, 0, [], [], BitVec.allOnes 64, 0, 0⟩
def LinkSt.reset : LinkSt := ⟨false, 0, 0, 0, 0, 0, 0, 0, 0, 0, [], 0, false, false, 0, []⟩

/-! ### CAN FD controllers (chapter 14) -/

/-- One CAN message object (R532 to R542, R548). -/
structure ObjSt where
  /-- Receive: the last frame taken, those taken since the previous catch, and catches since. -/
  rx : Option CanFrame
  since : Nat
  age : Nat
  truncated : Bool
  /-- Send: LENGTH, ID and data of the last request and of the last commit (R536, R537). -/
  asked : Option (Nat × Nat × List Byte)
  done : Option (Nat × Nat × List Byte)
  /-- The request to be raised at the strobe (R536). -/
  next : Option CanFrame
  pending : Option CanFrame
  tx : Option CanFrame
  sentSince : Bool
  failed : Bool
  superseded : Bool
  clash : Bool
  clashRun : Nat
  lenFault : Bool
  frames : Nat
  deriving DecidableEq, Repr

/-- One receive FIFO entry (R543), and whether a CONT entry follows it. -/
structure FifoEnt where
  bytes : List Byte
  hasCont : Bool
  deriving DecidableEq, Repr

/-- One CAN FD controller (R545 to R556). -/
structure CanSt where
  /-- CAN_STAT.STATE. -/
  state : Nat
  tec : Nat
  recv : Nat
  ackRun : Nat
  alone : Bool
  /-- Object offered last (R559). -/
  offered : Nat
  wakeReason : Nat
  /-- Error counter of the wake frame decoder (R550). -/
  wakeErr : Nat
  sleepReq : Bool
  /-- STATE before DORMANT, 0 outside it (R551). -/
  saved : Nat
  tdcv : Nat
  busOffs : Nat
  rxOverflow : Nat
  unmatched : Nat
  alones : Nat
  rxFrames : Nat
  txFrames : Nat
  fifo : List FifoEnt
  fifoSeq : Nat
  /-- Words of the FIFO window at the last catch (R545). -/
  window : List Word
  objs : SMap ObjSt
  deriving DecidableEq, Repr

def ObjSt.reset : ObjSt :=
  ⟨none, 0, 0, false, none, none, none, none, none, false, false, false, false, 0, false, 0⟩
def CanSt.reset : CanSt :=
  ⟨0, 0, 0, 0, false, 0xFFFF, 0, 0, false, 0, 0, 0, 0, 0, 0, 0, 0, [], 0, [], []⟩

/-! ### Plant networks, serial ports and hosts (chapter 15) -/

/-- One LAN port of a plant network (R597). -/
structure LanPort where
  up : Bool
  supervised : Bool
  /-- portState as IEEE 1588-2019 numbers it; 9 is SLAVE. -/
  state : Nat
  offset : Int
  gm : Word
  /-- Rank of its master under the data set comparison; lower is better (R568). -/
  rank : Nat
  /-- Frames received on this LAN only, and FCS errors at this port (R597). -/
  oneLan : Nat
  fcs : Nat
  deriving DecidableEq, Repr

/-- A Modbus or NMEA entry (R591 to R594). -/
structure SerEnt where
  due : Bool
  valid : Bool
  new : Bool
  timeout : Bool
  bad : Bool
  exc : Bool
  noChk : Bool
  code : Nat
  good : Nat
  /-- Strokes since the last sentence was taken. -/
  age : Nat
  words : List Word
  deriving DecidableEq, Repr

/-- One serial port (R590 to R601). -/
structure SerPort where
  /-- Entry chosen at TF, to start at the strobe (R591). -/
  starting : Option Nat
  busy : Option Nat
  timeouts : Nat
  bad : Nat
  exceptions : Nat
  unmatched : Nat
  ents : SMap SerEnt
  deriving DecidableEq, Repr

/-- A staging in progress (R588). -/
structure Staging where
  kind : Nat
  page : Nat
  length : Nat
  crc : Word
  data : List Byte
  /-- Bytes received; of an UPDATE they go on to queue 62. -/
  got : Nat
  /-- CRC-32C register over the bytes received. -/
  run : Word
  deriving DecidableEq, Repr

/-- A message waiting in a command queue, and the strokes it has waited (R572, R573). -/
structure Waiting where
  bytes : List Byte
  strokes : Nat
  deriving DecidableEq, Repr

/-- An open session (R581 to R589). -/
structure Session where
  port : Nat
  /-- 0 S, 1 E, 2 P. -/
  cls : Nat
  ip : Nat
  udp : Nat
  filter : Nat
  queueMax : Nat
  writesMax : Nat
  /-- Writes counted in this stroke (R586). -/
  writes : Nat
  refused : Nat
  queue : List Waiting
  /-- SEQ and response of the last message served (R574). -/
  last : Option (Nat × List Byte)
  staging : Option Staging
  /-- An attention message withheld for want of room (R84). -/
  attnDue : Bool
  deriving DecidableEq, Repr

/-- The host ports: sessions, page 0x72, BAR1 and the host window (R569 to R589). -/
structure HostSt where
  sessions : SMap Session
  noFree : Nat
  timeouts : Nat
  bad : Nat
  expired : Nat
  /-- BAR1's response buffer, and responses behind it (R583). -/
  bar1 : List Byte
  bar1Wait : List (List Byte)
  pcieUp : Bool
  /-- Host writes accepted since the process crew's last catch (R578). -/
  winBits : SMap Bool
  winWords : SMap Word
  /-- The session whose turn the Boathouse serves next (R572). -/
  turn : Nat
  deriving DecidableEq, Repr

def LanPort.reset : LanPort := ⟨false, false, 0, 0, 0, 0, 0, 0⟩
def SerEnt.reset : SerEnt := ⟨false, false, false, false, false, false, false, 0, 0, 0, []⟩
def SerPort.reset : SerPort := ⟨none, none, 0, 0, 0, 0, []⟩
def HostSt.reset : HostSt := ⟨[], 0, 0, 0, 0, [], [], false, [], [], 0⟩

/-! ### Reset, start-up and the address plug (chapter 16) -/

/-- One valid plug record (R616). -/
structure PlugRec where
  flags : BitVec 8
  station : Nat
  rack : Word
  deriving DecidableEq, Repr

/-- What a read of the plug gives (R617): the bytes of its record, none where the EEPROM does not acknowledge. -/
abbrev PlugRead := Option (List Byte)

/-- A reset that RST_CMD accepted and that has not asserted yet (R604, R621). -/
structure RstCmd where
  /-- 0 S, 1 E. -/
  cls : Nat
  reach : Nat
  target : Nat
  deriving DecidableEq, Repr

/-- A BLOCK reset in progress (R611, R625). -/
structure BlkReset where
  /-- 0 SOFT_RESET, 1 RST_CMD. -/
  origin : Nat
  isolated : Nat
  aborted : Nat
  deriving DecidableEq, Repr

/-- Page 0x01 (R603 to R625). -/
structure RstSt where
  /-- Sources asserted now (R604). -/
  asserted : BitVec 12
  /-- RST_CMD.REACH and TARGET as last accepted (R621). -/
  cmd : Word
  waiting : List RstCmd
  buttonClosed : Bool
  rstLine : Bool
  wdtArmed : Bool
  /-- RST_LAST.BACKUP_LOST (R622). -/
  backupLost : Bool
  /-- The Boathouse has halted with BOOT FAIL (R30). -/
  bootFail : Bool
  plugId : Word
  plugRack : Word
  /-- The last plug read after the one that set PLUG_ID (R618), none before it. -/
  plugLast : Option PlugRead
  /-- The last read in UNADDRESSED (R617). -/
  plugSeen : Option PlugRec
  /-- A commanded CREW reset under way, by crew (0, 1): class of its writer + 4 × its source (R612). -/
  crewResets : SMap Nat
  /-- BLOCK resets under way, by page (R611). -/
  blockResets : SMap BlkReset
  /-- CMD_SERVICE holds the rails off (R605). -/
  railsOff : Bool
  /-- BUTTON was declared stuck and its record is still to be written (R619). -/
  stuckNew : Bool
  /-- A stuck BUTTON was freed in RESET, after this many ms, and its record is still to be written (R606, R625). -/
  freedNew : Option Nat
  /-- Sessions that a reset closed and whose records are still to be written: number, entries discarded, peer (R582). -/
  closed : List (Nat × Nat × Nat)
  deriving DecidableEq, Repr

/-- The backup domain (R627): it survives every reset. -/
structure BackupSt where
  epoch : Word
  partnerEpoch : Word
  /-- The lockout set, bit g for group g, and CAUSE and WHICH of each locked group (R351). -/
  lockout : Word
  lockCause : SMap (Nat × Nat)
  /-- RST_COUNTk as twelve counters (R610, R622). -/
  counts : SMap Nat
  total : Nat
  lastReach : Nat
  lastSources : BitVec 12
  buttonStuck : Bool
  savedStroke : Word
  /-- Panel update-in-progress marker (R691). -/
  marker : Bool
  /-- Page and cause bit of the last fault (R688). -/
  lastFault : Option (Nat × Nat)
  seconds : Nat
  /-- CRC-32C over all the items above. -/
  signature : Word
  deriving DecidableEq, Repr

/-! ### The Boathouse (chapter 17) -/

/-- Page 0x7A: what the sensors last read (R640) and the conditions that hold (R629). Temperatures are
the 16-bit patterns of R640. -/
structure BoatSt where
  temps : SMap Word
  /-- Highest temperature since the last clear, as TEMPk.PEAK shows it. -/
  peaks : SMap Word
  /-- MA and MV by rail (RAILr). -/
  rails : SMap Word
  dew : BitVec 16
  rh : BitVec 16
  shockPeak : Nat
  rms : Nat
  cell : Nat
  cap : Nat
  locked : BitVec 5
  /-- Condition held, by cause bit × 64 + sensor index (R629, R641). -/
  conds : SMap Bool
  /-- Consecutive samples beyond and back inside each condition's threshold, up to 3, by the same key (R629). -/
  outside : SMap Nat
  inside : SMap Nat
  /-- Sensors that are faulted (R629), by index as in R641, and 34 the accelerometer, 35 the backup cell. -/
  faults : SMap Bool
  deriving DecidableEq, Repr

/-- Page 0x7C: the identity (R634 to R643). -/
structure IdSt where
  ownerLock : Bool
  ownerCert : Option (List Byte)
  /-- Bytes of OWN_WIN written since it last showed the enrolled certificate (R638). -/
  window : SMap Word
  /-- The command running: CMD and LENGTH. -/
  busy : Option (Nat × Nat)
  result : Nat
  attPending : Bool
  attResult : Nat
  attClass : Nat
  report : List Byte
  sig : List Byte
  keyFault : Bool
  deriving DecidableEq, Repr

/-! ### Firmware and settings (chapter 19) -/

/-- One slot of the QSPI NOR (R661, R663): the head and the data blocks by number, from 1. -/
structure Slot where
  head : List Byte
  blocks : SMap (List Byte)
  deriving DecidableEq, Repr

/-- The running image (R46, R661, R683). -/
structure Running where
  /-- 0 A, 1 B, 2 recovery. -/
  slot : Nat
  build : Nat
  format : Nat
  minFormat : Nat
  ckpt : Nat
  /-- The digest that its signature covers (R639). -/
  digest : List Byte
  deriving DecidableEq, Repr

/-- The boot record (R664). -/
structure BootRec where
  active : Nat
  previous : Nat
  trial : Bool
  strikes : Nat
  valid : BitVec 2
  /-- The copy's sequence count. -/
  count : Nat
  deriving DecidableEq, Repr

/-- One 16-byte entry of a settings set (R676). -/
structure SetEntry where
  type : Nat
  page : Nat
  offset : Nat
  index : Nat
  value : Word
  extra : Word
  deriving DecidableEq, Repr

/-- One version of the settings set (R676 to R678): TYPE 1 and 2 entries in order, then the journal. -/
structure SetVersion where
  seq : Word
  format : Nat
  entries : List SetEntry
  journal : List SetEntry
  deriving DecidableEq, Repr

/-- Page 0x79 (R661 to R684). -/
structure UpdSt where
  slots : SMap Slot
  /-- The boot record's two copies: the newer, and the one with the older sequence count (R664). -/
  boot : BootRec
  bootOld : BootRec
  running : Running
  state : Nat
  result : Nat
  block : Nat
  target : Nat
  /-- Head of the staged image, once it has landed. -/
  head : List Byte
  /-- Bytes in queue 62 (R24, R669). -/
  queue : List Byte
  refusal : Nat
  /-- LENGTH of the staging in progress. -/
  length : Nat
  current : Option SetVersion
  previous : Option SetVersion
  highest : Word
  /-- The object store, by KIND × 128 + PAGE (R679). -/
  objects : SMap (List Byte)
  /-- Objects staged for a load and not yet consumed, by page (R588). -/
  staged : SMap (List Byte)
  /-- ACTIVATE accepted; it takes effect at the next T0 (R673). -/
  activateDue : Bool
  /-- BUILD and module time at the entry to ACTIVATE. -/
  oldBuild : Nat
  entered : Nat
  deriving DecidableEq, Repr

/-! ### The front panel (chapter 20) -/

/-- A picture: each main common's lit segments and level, and each flag common's segments at level 3
(R685 to R689). -/
structure Picture where
  main : SMap (BitVec 40 × Nat)
  flags : SMap (BitVec 8)
  deriving DecidableEq, Repr

/-- The update running (R690, R696): its band, the phases still to end, and why it clears. A phase
drives a flag common (0, 1) or a main common (2 to 5); `clear` phases drive it dark. -/
structure PnlUpdate where
  clearing : Option Nat
  phases : List (Nat × Bool)
  /-- The picture the phases write; of a clearing sequence each common is taken as its phase starts. -/
  wanted : Picture
  /-- The update lights every segment for TEST (R699). -/
  test : Bool
  deriving DecidableEq, Repr

/-- Page 0x7B. -/
structure PnlSt where
  /-- Kept in MRAM (R691). -/
  shadow : Picture
  shadowOk : Bool
  update : Option PnlUpdate
  /-- What the glass shows now; it keeps its picture without power (R685). -/
  glass : Picture
  /-- The first update after this boot is still to come, and clears for this reason (R697). -/
  first : Option (Option Nat)
  /-- PNL_CMD waiting: 1 REFRESH, 2 TEST. -/
  cmd : Word
  waiting : Option Nat
  /-- The TEST picture stands until PNL_TEST_END. -/
  testing : Bool
  band : Nat
  /-- Band last latched by an update (PNL_STAT.BAND). -/
  latched : Nat
  updates : BitVec 16
  crack : Bool
  crackGood : Nat
  ohms : Nat
  deriving DecidableEq, Repr

/-! ### Frames sent -/

/-- Where a frame leaves the module. -/
inductive Line where
  | remote (l : Nat)
  | can (n : Nat)
  /-- LAN q of plant network `net`. -/
  | prp (net q : Nat)
  | eth (port : Port)
  | host (p : Port) (ip udp : Nat)
  | serial (p : Nat)
  /-- Plant network A (true) or B, multicast group and UDP port, of source and destination (R358, R566). -/
  | zwistra (netA : Bool) (group port : Nat)
  /-- Plant network 0 or 1, multicast group and UDP port, of source and destination (R388, R566). -/
  | beacon (net group port : Nat)
  /-- One lane of the Aderoth link (R394). -/
  | aderoth (lane : Nat)
  /-- A PTP message of LAN q of plant network `net`: PTP passes outside the redundancy (R567). -/
  | ptp (net q : Nat)
  /-- The copy of a plant network's frame that leaves on LAN q, 0 A and 1 B (R565). -/
  | onLan (q : Nat) (line : Line)
  deriving DecidableEq, Repr

/-- The line is a plant network's, whose frames leave on both LANs (R565). -/
def Line.doubled : Line → Bool
  | .zwistra _ _ _ | .beacon _ _ _ => true
  | .eth p | .host p _ _ => p == .plantA || p == .plantB
  | _ => false

/-- A frame the module has sent. -/
structure Frame where
  line : Line
  bytes : List Byte
  deriving DecidableEq, Repr

/-! ### The module -/

/-- The whole module but its queue of commands. `fresh` is the model's own counter of free values; `now` is the
model's own too: the instant of the event that the command under way acts out, where the spec fixes it, and none
between commands. -/
structure Chip where
  fresh : Nat
  now : Option Nat
  mode : ModeSt
  pages : SMap PageHdr
  attn : AttnSt
  stroke : StrokeSt
  backup : BackupSt
  rst : RstSt
  boat : BoatSt
  ident : IdSt
  upd : UpdSt
  panel : PnlSt
  underway : Bool
  /-- The input pages' stored configuration registers (R61), by (page + 128 × (index + 1)) × 4096 +
  offset for a windowed register and page × 4096 + offset for any other; unlisted: the reset value. -/
  cfg : SMap Word
  qOverflow : SMap Nat
  wake : WakeSt
  rates : SMap RateSt
  sent : List Frame
  /-- The image the field supplied at the last catch, the engines' working copy, the output latch and
  the values of the last committing TF (R93, R102, R271, R576). -/
  img : Img
  work : Img
  latch : Img
  /-- Words that IMAGE sinks and status words have written, for the next catch (R275, R323). -/
  engOut : SMap Word
  committedS : Img
  committedP : Img
  engines : SMap EngSt
  sel : SelSt
  safety : SafetySt
  zw : SMap ZwConn
  crewS : CrewSt
  crewP : CrewSt
  ctlS : CrewCtl
  ctlP : CrewCtl
  coxSafety : CoxSt
  coxProcess : CoxSt
  seat : SeatSt
  mirror : MirrorSt
  pairCnt : PairCnt
  dig : DigSt
  islands : SMap Island
  isl : IslSt
  links : SMap LinkSt
  cans : SMap CanSt
  lans : SMap LanPort
  badFrames : SMap Nat
  serial : SMap SerPort
  hosts : HostSt
  deriving DecidableEq, Repr

/-! ### Reset values -/

/-- A page that R68 fixes. -/
def fixedPage (p : Nat) : Bool :=
  p ≤ 2 || p == 4 || p == 0x72 || p == 0x74 || p == 0x78 || p == 0x7A

/-- The header of a page after reset (R47 to R53). -/
def PageHdr.reset (p : Nat) : PageHdr :=
  { st := if fixedPage p then .enabled else .disabled
    drainTimeout := 1
    drainLeft := 0
    waits := false
    cause := 0
    mask := 0xDFFFFFFF
    raw := 0
    ownerE := true
    ownerP := p == 0x72 || p == 0x78
    seq := 0 }

def WakeQueue.empty : WakeQueue := ⟨[], 0, 0, 0⟩
def WakeCtx.reset : WakeCtx := ⟨0, 0, 0, 0, []⟩
def Img.reset : Img := ⟨[], []⟩
def Timer.reset : Timer := ⟨false, 0, false, false, 0, false⟩
def Counter.reset : Counter := ⟨0, false, false⟩
def CrewMem.reset : CrewMem := ⟨Img.reset, [], [], [], [], []⟩
def CoreSt.reset : CoreSt :=
  ⟨false, 0, 0, false, 0, [], [], none, [], true, false, 0, false, CrewMem.reset⟩
def Force.reset : Force := ⟨0, 0⟩
def LoopSt.reset : LoopSt :=
  ⟨0, false, false, false, [], 0, 0, 0, 0, 0, 0, false, 0, 0, 0, false, false, false, false, false, 0, 0,
    none, false, none⟩
def EngSt.reset : EngSt := ⟨none, 0, 0, 0xFF, none, [], [], 0⟩
def LaneSt.reset : LaneSt := ⟨none, none, none, false, false⟩
def HeatSt.reset : HeatSt :=
  ⟨0, false, 0, false, 0, none, 0, 0, false, 0, 0, none, none, List.replicate 8 LaneSt.reset⟩
def SelSt.reset : SelSt := ⟨none, 0, 0, 0xFF, [], 0⟩
def SafeCh.reset : SafeCh := ⟨false, false, 0⟩
def PairFault.reset : PairFault := ⟨false, false, false⟩
def SafeOut.reset : SafeOut :=
  ⟨false, false, false, false, false, false, false, false, false, 255, false⟩
def GroupSt.reset : GroupSt := ⟨0, 0, 0, 0, 0, none⟩
def ResetIn.reset : ResetIn := ⟨false, false, 0, 0, 0, [], none⟩
def ZwConn.reset : ZwConn := ⟨0, false, false, false, 0, 0, 0, 0, false, none, [], none, 0, 0, 0, 0⟩
def RateSt.reset : RateSt := ⟨none, 0⟩

def LoadFig.reset : LoadFig := ⟨0, 0⟩
/-- STROKE_CFG after reset (R122). -/
def strokeCfgReset : Word := 0x008C0008
def StrokeSt.reset : StrokeSt :=
  ⟨strokeCfgReset, .catch_, 0, 0, false, .free, 0, false, 0, 0, LoadFig.reset, LoadFig.reset, 0, 0, 0, false,
    false, false, false, []⟩
def CrewSt.reset : CrewSt :=
  ⟨none, 0, 0, 0xFF, 0, [], .idle, false, 0, false, 0, false, none, 0, 0, false, false, 0, 0, 0, 0, 0, 0, 0, none⟩
def CrewCtl.reset : CrewCtl :=
  ⟨[], [], 0, [], [], [], 0, [0, 0, 0], false, false, false, false, none, false, false⟩
/-- The scrub stands at offset 0: the spec gives no place for it after a reset (DESIGN CHOICE, log entry 102). -/
def CoxSt.reset : CoxSt :=
  ⟨false, false, false, 0, [], 0, 0, 0, 0, 0, 0, 0, 0, 0, 0, false, 0, 0, 0, false, 0, 0⟩
def OutStates.reset : OutStates := ⟨0, 0, 0⟩
def SeatSt.reset : SeatSt :=
  ⟨false, false, 0, 0, none, true, 0, 0, false, false, 0, 0, false, 0, OutStates.reset, false, none, false, 0, 0,
    none, none, false, false, 0, false, none⟩
def MirrorSt.reset : MirrorSt :=
  ⟨false, false, false, [], [], none, false, 0, false, 0xFF, 256, 0, 0, 0, 0, 0, 0, 0, 0, 0, false,
    none, 0, 0, [], [], [], [], [], [], []⟩
def PairCnt.reset : PairCnt := ⟨0, 0, 0, 0, none, none, 0, [], 0⟩
def SafetySt.reset : SafetySt := ⟨[], [], [], [], ResetIn.reset, [], false, 0, 0, [], [], [], 0, 0⟩
def DigSt.reset : DigSt := ⟨[], [], [], [], []⟩
def IslSt.reset : IslSt := ⟨[], 0, false, false, 0, none⟩
def WakeSt.reset : WakeSt := ⟨[], 0, 0, false, [], [], 0, [], 0, 0, 0, 0, 0, [], [], []⟩
def RstSt.reset : RstSt :=
  ⟨0, 0, [], false, false, false, false, false, 0, 0, none, none, [], [], false, false, none, []⟩
/-- The backup domain once its contents are lost: all zero, and signed (R627). -/
def BackupSt.zero : BackupSt := ⟨0, 0, 0, [], [], 0, 0, 0, false, 0, false, none, 0, 0xFD720205⟩
def BoatSt.reset : BoatSt := ⟨[], [], [], 0x8000, 0, 0, 0, 0, 0, 0, [], [], [], []⟩
def IdSt.reset : IdSt := ⟨false, none, [], none, 0, false, 0, 0, [], [], false⟩
def Slot.empty : Slot := ⟨[], []⟩
/-- Before the boot ROM has chosen an image: the recovery image's place. -/
def Running.none : Running := ⟨2, 0, 0, 0, 0, []⟩
def BootRec.reset : BootRec := ⟨0, 0, false, 0, 0, 0⟩
def UpdSt.reset : UpdSt :=
  ⟨[], BootRec.reset, BootRec.reset, Running.none, 0, 0, 0, 0, [], [], 0, 0, none, none, 0, [], [], false, 0, 0⟩
def Picture.dark : Picture := ⟨[], []⟩
def PnlSt.reset : PnlSt :=
  ⟨Picture.dark, true, none, Picture.dark, none, 0, none, false, 3, 3, 0, false, 0, 0⟩
def ModeSt.reset : ModeSt := ⟨.reset, .reset, 0, 0, .reset⟩
def AttnSt.reset : AttnSt := ⟨0, 0, false, 0, 0, 0⟩

/-- The module in mode RESET with everything at its reset value (R29, R53, R603). -/
def Chip.reset : Chip :=
  { fresh := 0, now := none, mode := ModeSt.reset, pages := [], attn := AttnSt.reset, stroke := StrokeSt.reset
    backup := BackupSt.zero, rst := RstSt.reset, boat := BoatSt.reset, ident := IdSt.reset
    upd := UpdSt.reset, panel := PnlSt.reset, underway := false, cfg := [], qOverflow := []
    wake := WakeSt.reset, rates := [], sent := [], img := Img.reset, work := Img.reset
    latch := Img.reset, engOut := [], committedS := Img.reset, committedP := Img.reset, engines := []
    sel := SelSt.reset, safety := SafetySt.reset, zw := [], crewS := CrewSt.reset
    crewP := CrewSt.reset, ctlS := CrewCtl.reset, ctlP := CrewCtl.reset
    coxSafety := CoxSt.reset, coxProcess := CoxSt.reset, seat := SeatSt.reset
    mirror := MirrorSt.reset, pairCnt := PairCnt.reset, dig := DigSt.reset, islands := []
    isl := IslSt.reset, links := [], cans := [], lans := [], badFrames := [], serial := []
    hosts := HostSt.reset }

/-- The module and the commands waiting for it, first in, first out. -/
structure State where
  chip : Chip
  pending : List Instr
  deriving DecidableEq, Repr

/-- Slot A as a module ships (R729). -/
def Slot.shipped : Slot :=
  ⟨Config.shippedHead, (Config.shippedBlocks.zipIdx 1).map fun (bs, n) => (n, bs)⟩

/-- The module at its first power-up: POWER_ON is asserted and has been counted (R604, R610). It ships with
firmware in slot A, which the boot record then holds valid and active (R664, R729). The backup domain is signed: the
signatures are `backupSum` of the contents (R627). -/
def State.reset : State :=
  { chip := { Chip.reset with
      rst := { RstSt.reset with asserted := 1 }
      backup := { BackupSt.zero with
        counts := [(0, 1)], total := 1, lastReach := 4, lastSources := 1, signature := 0x0BEA806D }
      upd := { UpdSt.reset with
        slots := [(0, Slot.shipped)], boot := { BootRec.reset with valid := 1, count := 1 }
        bootOld := { BootRec.reset with valid := 1 } } }
    pending := [] }

/-- Faults of a run. No command of this block faults: every rule of the spec gives it an effect. -/
inductive Fault where
  /-- Raised by nothing: kept so that the interface has a type. Safe. -/
  | none
  deriving DecidableEq, Repr

/-- Refusals of the model. -/
inductive Refusal where
  /-- A command whose meaning the model does not give. Raised by no command here. Safe. -/
  | notModelled (mnemonic : String)
  deriving DecidableEq, Repr

end Sys2Proof.Machine
end

