-- ==== Sys2Proof/Machine/Ops.lean ====
section
/-!
DEFINITION. The named operations every family shares: sparse memories, bit fields, byte strings,
CRC-32C, page headers and causes, the attention tree, wake records, frames sent and mode changes.
-/
namespace Sys2Proof.Machine

/-! ### Sparse memories -/

/-- The value at index `i`; `d` where nothing is listed. -/
def smGet {α : Type} (d : α) : SMap α → Nat → α
  | [], _ => d
  | (k, v) :: m, i => if i = k then v else smGet d m i

/-- The entry at index `i`, if one is listed. -/
def smFind {α : Type} : SMap α → Nat → Option α
  | [], _ => none
  | (k, v) :: m, i => if i = k then some v else smFind m i

/-- List the value at index `i`, keeping the order. -/
def smPut {α : Type} : SMap α → Nat → α → SMap α
  | [], i, v => [(i, v)]
  | (k, w) :: m, i, v =>
    if i < k then (i, v) :: (k, w) :: m else if i = k then (i, v) :: m else (k, w) :: smPut m i v

/-- Remove index `i`. -/
def smDel {α : Type} : SMap α → Nat → SMap α
  | [], _ => []
  | (k, w) :: m, i => if i = k then smDel m i else (k, w) :: smDel m i

/-- Write index `i`: a value equal to the unlisted one removes the entry. -/
def smSet {α : Type} [DecidableEq α] (d : α) (m : SMap α) (i : Nat) (v : α) : SMap α :=
  if v = d then smDel m i else smPut m i v

/-- Change the value at index `i`. -/
def smMod {α : Type} [DecidableEq α] (d : α) (m : SMap α) (i : Nat) (f : α → α) : SMap α :=
  smSet d m i (f (smGet d m i))

/-- Write a list of (index, value) pairs in order. -/
def smWrites {α : Type} [DecidableEq α] (d : α) (m : SMap α) : List (Nat × α) → SMap α
  | [] => m
  | (i, v) :: ws => smWrites d (smSet d m i v) ws

/-- The canonical form: indices strictly rising, no entry equal to the unlisted value. -/
def smWf {α : Type} [DecidableEq α] (d : α) : SMap α → Bool
  | [] => true
  | (k, v) :: m => decide (v ≠ d) && m.all (fun e => decide (k < e.1)) && smWf d m

/-- `b` where `p` holds of the index, else `a`. -/
def smOverlay {α : Type} [DecidableEq α] (d : α) (p : Nat → Bool) (a b : SMap α) : SMap α :=
  smWrites d (a.filter (fun e => !p e.1)) (b.filter (fun e => p e.1))

/-- Change entry `i` of a list, if there is one. -/
def listMod {α : Type} : List α → Nat → (α → α) → List α
  | [], _, _ => []
  | x :: xs, 0, f => f x :: xs
  | x :: xs, n + 1, f => x :: listMod xs n f

/-- Fold over 0, 1, …, n − 1. -/
def forN {σ : Type} (n : Nat) (f : Nat → σ → σ) (s : σ) : σ :=
  (List.range n).foldl (fun s i => f i s) s

/-! ### Bit fields, integers and byte strings (R4 to R6) -/

/-- Field [hi:lo] of a word. -/
def fld (w : Word) (hi lo : Nat) : Nat := (w.toNat / 2 ^ lo) % 2 ^ (hi - lo + 1)

/-- Bit `i` of a word. -/
def bitOf (w : Word) (i : Nat) : Bool := w.getLsbD i

/-- 1 or 0. -/
def b2n (b : Bool) : Nat := if b then 1 else 0

/-- 0x0000_0001 or 0x0000_0000. -/
def b2w (b : Bool) : Word := if b then 1#32 else 0#32

/-- The word whose fields [hi:lo] hold the given values, each taken modulo its width. -/
def pack : List (Nat × Nat × Nat) → Word
  | [] => 0
  | (v, hi, lo) :: fs => pack fs ||| BitVec.ofNat 32 ((v % 2 ^ (hi - lo + 1)) * 2 ^ lo)

/-- `w` with field [hi:lo] replaced. -/
def setFld (w : Word) (hi lo : Nat) (v : Nat) : Word :=
  (w &&& ~~~(BitVec.ofNat 32 ((2 ^ (hi - lo + 1) - 1) * 2 ^ lo))) ||| pack [(v, hi, lo)]

/-- `w` with bit `i` set to `b`. -/
def setBit (w : Word) (i : Nat) (b : Bool) : Word := setFld w i i (b2n b)

/-- A count that saturates at `cap`. -/
def satInc (cap n : Nat) : Nat := if n < cap then n + 1 else n

/-- Clamp an integer between two bounds. -/
def clampInt (lo hi x : Int) : Int := if x < lo then lo else if hi < x then hi else x

/-- The low 32 bits of an integer, two's complement. -/
def wOfInt (x : Int) : Word := BitVec.ofInt 32 x

/-- The n-byte little-endian form of a number (R5). -/
def leBytes : Nat → Nat → List Byte
  | 0, _ => []
  | n + 1, v => BitVec.ofNat 8 v :: leBytes n (v / 256)

/-- The n-byte big-endian form of a number (R6). -/
def beBytes (n v : Nat) : List Byte := (leBytes n v).reverse

/-- The number a little-endian byte string spells. -/
def leVal : List Byte → Nat
  | [] => 0
  | b :: bs => b.toNat + 256 * leVal bs

/-- The number a big-endian byte string spells. -/
def beVal (bs : List Byte) : Nat := leVal bs.reverse

/-- `len` bytes from `off`. -/
def slice (bs : List Byte) (off len : Nat) : List Byte := (bs.drop off).take len

/-- A little-endian field of an image: `len` bytes at `off`. -/
def leAt (bs : List Byte) (off len : Nat) : Nat := leVal (slice bs off len)

/-- A big-endian field of a frame. -/
def beAt (bs : List Byte) (off len : Nat) : Nat := beVal (slice bs off len)

/-- Every byte of the slice is 0. -/
def zerosAt (bs : List Byte) (off len : Nat) : Bool := (slice bs off len).all (· == 0)

/-- The signed reading of a `w`-bit number. -/
def signed (w n : Nat) : Int := if n < 2 ^ (w - 1) then (n : Int) else (n : Int) - (2 : Int) ^ w

/-- A flag array as one word, index 0 the least significant bit. -/
def packBits : List Bool → Nat
  | [] => 0
  | b :: bs => b2n b + 2 * packBits bs

/-! ### CRC-32C (the Castagnoli polynomial, reflected) -/

/-- `n` zero bits through the CRC register. -/
def crcBits : Nat → BitVec 32 → BitVec 32
  | 0, c => c
  | n + 1, c =>
    crcBits n (if c.getLsbD 0 then (c >>> 1) ^^^ 0x82F63B78#32 else c >>> 1)

/-- The CRC register after a byte string. -/
def crcRun : BitVec 32 → List Byte → BitVec 32
  | c, [] => c
  | c, b :: bs => crcRun (crcBits 8 (c ^^^ b.setWidth 32)) bs

/-- CRC-32C of a byte string. -/
def crc32c (bs : List Byte) : Word := ~~~(crcRun 0xFFFFFFFF#32 bs)

/-! ### The backup domain (R627) -/

/-- Every item of the backup domain but its signature, as bytes: the spec does not give their layout (DESIGN CHOICE, log
entry 108). -/
def backupBytes (b : BackupSt) : List Byte :=
  leBytes 4 b.epoch.toNat ++ leBytes 4 b.partnerEpoch.toNat ++ leBytes 4 b.lockout.toNat
    ++ ((List.range 32).flatMap fun g =>
      let w := smGet (0, 0) b.lockCause g
      leBytes 2 w.1 ++ leBytes 2 w.2)
    ++ ((List.range 12).flatMap fun n => leBytes 2 (smGet 0 b.counts n)) ++ leBytes 4 b.total
    ++ leBytes 1 b.lastReach ++ leBytes 2 b.lastSources.toNat ++ leBytes 1 (b2n b.buttonStuck)
    ++ leBytes 4 b.savedStroke.toNat ++ leBytes 1 (b2n b.marker)
    ++ (match b.lastFault with | some (p, i) => [1, BitVec.ofNat 8 p, BitVec.ofNat 8 i] | none => [0, 0, 0])
    ++ leBytes 4 b.seconds

/-- The signature that the items call for, and the items under it. -/
def backupSum (b : BackupSt) : Word := crc32c (backupBytes b)
def BackupSt.signed (b : BackupSt) : BackupSt := { b with signature := backupSum b }

/-- A change of the backup domain, with its signature. -/
def modBackup (c : Chip) (f : BackupSt → BackupSt) : Chip := { c with backup := (f c.backup).signed }

/-! ### Values the spec leaves open -/

/-- Take one fresh free value: nothing constrains it. -/
def freshNat (c : Chip) : Nat × Chip := (Config.freeNat c.fresh, { c with fresh := c.fresh + 1 })

/-- Module time now: not before the current T0; how long after it, the commands do not say. -/
def freshTime (c : Chip) : Nat × Chip :=
  (c.stroke.t0 + Config.freeNat c.fresh, { c with fresh := c.fresh + 1 })

/-! ### Pages (R41 to R74) -/

/-- The populated pages of R42. -/
def populated (p : Nat) : Bool :=
  p ≤ 2 || p == 4 || p == 8 || p == 9 || (0x10 ≤ p && p ≤ 0x18) || p == 0x1A || p == 0x1B
    || p == 0x20 || p == 0x21 || p == 0x28 || (0x30 ≤ p && p ≤ 0x34) || (0x40 ≤ p && p ≤ 0x72)
    || p == 0x74 || p == 0x75 || (0x78 ≤ p && p ≤ 0x7C)

/-- The populated pages in ascending order. -/
def pageList : List Nat := (List.range 128).filter populated

/-- The header of page `p`. -/
def hdr (c : Chip) (p : Nat) : PageHdr := smGet (PageHdr.reset p) c.pages p

/-- The page's block takes work: STATE is ENABLED, and a catch has come since ENABLE was written (R71). -/
def enabled (c : Chip) (p : Nat) : Bool := (hdr c p).st == .enabled && !(hdr c p).waits

/-- The page's block does its work: ENABLED, or DRAINING with work in flight (R71). -/
def working (c : Chip) (p : Nat) : Bool := enabled c p || (hdr c p).st == .draining

/-- ATTN_GROUPn (R76): bit b is 1 while page 32n + b has BLK_CAUSE AND BLK_MASK non-zero. -/
def attnGroup (c : Chip) (n : Nat) : Word :=
  c.pages.foldl (fun w e =>
    if e.1 / 32 = n && e.2.cause &&& e.2.mask != 0 then setBit w (e.1 % 32) true else w) 0

/-- ATTN_SUMMARY (R77). -/
def attnSummary (c : Chip) : Word :=
  pack ((List.range 4).map fun n => (b2n (attnGroup c n != 0), n, n))

/-- ATTN_SEQ counts every change of ATTN_SUMMARY (R79, R81). -/
def attnUpdate (c : Chip) : Chip :=
  let s := attnSummary c
  if s = c.attn.summary then c
  else { c with attn := { c.attn with summary := s, seq := c.attn.seq + 1 } }

/-- Change the header of page `p`; the tree follows. -/
def modHdr (c : Chip) (p : Nat) (f : PageHdr → PageHdr) : Chip :=
  attnUpdate { c with pages := smMod (PageHdr.reset p) c.pages p f }

/-- The event causes that the panel's last fault takes in (R688). -/
def faultEvent (p bit : Nat) : Bool :=
  bit == 30 || bit == 28
    || (p == 0x02 && bit ≤ 1)
    || ((p == 0x08 || p == 0x09) && (bit == 0 || bit == 3))
    || (((0x10 ≤ p && p ≤ 0x17) || p == 0x1A || p == 0x1B) && bit == 5)
    || (p == 0x20 && bit ≤ 1)
    || (p == 0x21 && bit == 1)
    || (p == 0x28 && [3, 5, 7, 10].contains bit)
    || (0x30 ≤ p && p ≤ 0x33 && (bit == 1 || bit == 2))
    || (p == 0x34 && bit == 7)
    || (p == 0x79 && (bit == 2 || bit == 5))
    || (p == 0x7A && bit == 0)

/-- A cause bit sets (R55, R56); the last fault follows where R688 takes it in. -/
def setCause (c : Chip) (p bit : Nat) (isFault : Bool) : Chip :=
  let h := hdr c p
  let newly := !bitOf h.cause bit && bitOf h.mask bit && isFault
  let c := modHdr c p fun h => { h with cause := setBit h.cause bit true }
  if newly then modBackup c fun b => { b with lastFault := some (p, bit) } else c

/-- An event cause occurs (R55). -/
def raise (c : Chip) (p bit : Nat) : Chip := setCause c p bit (faultEvent p bit)

/-- A condition cause takes its live value: BLK_CAUSE sets on the edge from 0 to 1 only (R56). -/
def setCond (c : Chip) (p bit : Nat) (v : Bool) : Chip :=
  let old := bitOf (hdr c p).raw bit
  if old = v then c
  else
    let c := modHdr c p fun h => { h with raw := setBit h.raw bit v }
    if v then setCause c p bit true else c

/-! ### Wake records (R26, R644 to R648) -/

/-- The wake queue of a page's block (R24). -/
def wakeQueueOf (p : Nat) : Nat :=
  if p == 8 || p == 9 || (0x10 ≤ p && p ≤ 0x1B) then 56
  else if p == 0x20 || (0x30 ≤ p && p ≤ 0x34) || p == 0x75 then 57
  else if p == 0x21 || p == 0x28 || (0x40 ≤ p && p ≤ 0x71) then 58
  else 59

/-- An entry of queue `q` is refused: its overflow counter and page 0x74's cause (R26). The spec gives the counter no
width, no offset on page 0x74 and no saturation: it is an unbounded number that no register shows (DESIGN CHOICE, log
entry 9). -/
def queueRefused (c : Chip) (q : Nat) : Chip :=
  raise { c with qOverflow := smMod 0 c.qOverflow q (· + 1) } 0x74 (Config.queueCauseBit q % 28)

/-- A block's record enters its wake queue, or is refused and counted (R26, R648). -/
def emitAt (c : Chip) (time p low source : Nat) (p0 p1 p2 p3 : Word) : Chip :=
  let q := wakeQueueOf p
  let r : WakeRec := ⟨time, p * 256 + low, source, p0, p1, p2, p3⟩
  let wq := smGet WakeQueue.empty c.wake.queues q
  if wq.recs.length < 1024 then
    { c with wake := { c.wake with
        queues := smSet WakeQueue.empty c.wake.queues q { wq with recs := wq.recs ++ [r] } } }
  else
    let wq := { wq with
      lost := satInc 255 wq.lost
      firstTime := if wq.refused = 0 then time else wq.firstTime
      refused := wq.refused + 1 }
    raise (queueRefused { c with wake := { c.wake with
      queues := smSet WakeQueue.empty c.wake.queues q wq } } q) 0x78 0

/-- `f` acts out an event that the spec places at module time `t` (R645; log entry 84). -/
def atTime (t : Nat) (f : Chip → Chip) (c : Chip) : Chip := { f { c with now := some t } with now := none }

/-- Module time of the event under way: where the spec fixes it, that; else free (R645). -/
def eventTime (c : Chip) : Nat × Chip :=
  match c.now with
  | some t => (t, c)
  | none => freshTime c

/-- A wake record with the time of its event. -/
def emit (c : Chip) (p low source : Nat) (p0 p1 p2 p3 : Word) : Chip :=
  let (t, c) := eventTime c
  emitAt c t p low source p0 p1 p2 p3

/-- The limiter of a rate-limited record: when the record may be written, the events left unrecorded
since the last one; otherwise the event is counted (R382, R432, R496, R559, R602). -/
def rateAllow (c : Chip) (key per : Nat) : Option Nat × Chip :=
  let r := smGet RateSt.reset c.rates key
  let due := match r.last with
    | none => true
    | some n => decide (per ≤ (c.stroke.count - n).toNat)
  if due then (some r.since, { c with rates := smSet RateSt.reset c.rates key ⟨some c.stroke.count, 0⟩ })
  else (none, { c with rates := smSet RateSt.reset c.rates key { r with since := r.since + 1 } })

/-- The limiter key of record `low` of page `p` with a source. -/
def rateKey (p low source : Nat) : Nat := (p * 256 + low) * 65536 + source

/-! ### Crews -/

/-- One crew. -/
def crewSt (c : Chip) : Crew → CrewSt
  | .safety => c.crewS
  | .process => c.crewP

/-- Change one crew. -/
def modCrew (c : Chip) (cr : Crew) (f : CrewSt → CrewSt) : Chip :=
  match cr with
  | .safety => { c with crewS := f c.crewS }
  | .process => { c with crewP := f c.crewP }

/-- One crew's commissioning state. -/
def ctlSt (c : Chip) : Crew → CrewCtl
  | .safety => c.ctlS
  | .process => c.ctlP

/-- Change one crew's commissioning state. -/
def modCtl (c : Chip) (cr : Crew) (f : CrewCtl → CrewCtl) : Chip :=
  match cr with
  | .safety => { c with ctlS := f c.ctlS }
  | .process => { c with ctlP := f c.ctlP }

/-- One crew's cox. -/
def coxSt (c : Chip) : Crew → CoxSt
  | .safety => c.coxSafety
  | .process => c.coxProcess

/-- Change one crew's cox. -/
def modCox (c : Chip) (cr : Crew) (f : CoxSt → CoxSt) : Chip :=
  match cr with
  | .safety => { c with coxSafety := f c.coxSafety }
  | .process => { c with coxProcess := f c.coxProcess }

/-- The number of a crew where resets name it: 0 safety, 1 process (R612). -/
def crewNo : Crew → Nat
  | .safety => 0
  | .process => 1

/-- The crew is in a CREW reset: the cox's, or a commanded one (R226, R612). -/
def inCrewReset (c : Chip) (cr : Crew) : Bool :=
  (coxSt c cr).restoring || (smFind c.rst.crewResets (crewNo cr)).isSome

/-- The crew's control page (R42). -/
def crewPage : Crew → Nat
  | .safety => 8
  | .process => 9

/-! ### Frames sent -/

/-- Multicast group of a station address (R566): 239.PREFIX_LO.(s ÷ 256).(s mod 256). -/
def multicast (prefixLo s : Nat) : Nat := 239 * 16777216 + prefixLo * 65536 + s

/-- The copy of a frame that leaves on LAN `q`, with its redundancy control trailer (R565). -/
def lanCopy (c : Chip) (line : Line) (bytes : List Byte) (q : Nat) : Frame :=
  ⟨.onLan q line, bytes ++ beBytes 6 (Config.prpTrailer q c.fresh).toNat⟩

/-- A frame leaves the module: on both LANs of its network where it is a plant network's (R565), on its own line
elsewhere. -/
def send (c : Chip) (line : Line) (bytes : List Byte) : Chip :=
  if line.doubled then
    { c with sent := lanCopy c line bytes 1 :: lanCopy c line bytes 0 :: c.sent, fresh := c.fresh + 1 }
  else { c with sent := ⟨line, bytes⟩ :: c.sent }

/-! ### Modes (R28 to R36) -/

/-- The code of a mode (R28). -/
def Mode.code : Mode → Nat
  | .reset => 0 | .boot => 1 | .unaddressed => 2 | .config => 3 | .stop => 4 | .run => 5
  | .hold => 6 | .standby => 7 | .takeover => 8 | .safeHalt => 9 | .activate => 10 | .dormant => 11

/-- Strokes run in this mode (R86). -/
def Mode.strokes : Mode → Bool
  | .config | .stop | .run | .hold | .standby | .takeover | .safeHalt => true
  | _ => false

/-- This mode drives safe values at finish (R104, R408). -/
def safeMode (c : Chip) : Bool :=
  match c.mode.mode with | .config | .stop | .safeHalt => true | _ => false

/-- Loops and heats stand at safe values at this finish: the mode drives them, or R113 applies. -/
def loopsSafe (c : Chip) : Bool := safeMode c || c.stroke.haltAtStrobe

/-! ### Who drives the sinks of loops and heats -/

/-- Engines 0 to 7 are loop engines on pages 0x10 to 0x17; 8 and 9 are table engines on pages 0x1A
and 0x1B (R42). -/
def engPage (e : Nat) : Nat := if e < 8 then 0x10 + e else 0x1A + (e - 8)

/-- Engine `e`. -/
def eng (c : Chip) (e : Nat) : EngSt := smGet EngSt.reset c.engines e

/-- Every loop of every loaded set, with its engine. -/
def allLoops (c : Chip) : List (Nat × LoopBlock) :=
  (List.range 10).flatMap fun e => match (eng c e).set with
    | some s => s.loops.map (e, ·)
    | none => []

/-- Every heat of the loaded set. -/
def allHeats (c : Chip) : List HeatBlock :=
  match c.sel.set with
  | some s => s.2.2
  | none => []

/-- The page of the block whose loop or heat has the output of this kind and index as its sink. -/
def sinkPage (c : Chip) (kind index : Nat) : Option Nat :=
  match (allLoops c).find? fun x => x.2.com.out.kind == kind && x.2.com.out.index == index with
  | some x => some (engPage x.1)
  | none => if (allHeats c).any fun b => b.out.kind == kind && b.out.index == index then some 0x18 else none

/-- The sink takes a safe value: all do, or its engine or the selector is DISABLED (R72, R277). -/
def sinkSafe (c : Chip) (kind index : Nat) : Bool :=
  loopsSafe c || (match sinkPage c kind index with
    | some p => !working c p
    | none => false)

/-- The field blocks rest in this mode: in RESET and BOOT they are held in reset, and nothing is read at their terminals
before their first configuration (R603, R615); in DORMANT their clock is gated (R28, row LAY_UP of R30). -/
def fieldRests : Mode → Bool
  | .reset | .boot | .dormant => true
  | _ => false

/-- What a field block, clocked by the module, does: nothing where it rests. Which blocks are field blocks the spec does
not list: the digital groups, the islands' sequencer, the remote links and the serial ports (DEDUCED, log entry 72). -/
def ungated (f : Chip → Chip) (c : Chip) : Chip := if fieldRests c.mode.mode then c else f c

/-- A crew can run in this mode: RUN, and HOLD for the safety crew (R28). -/
def Mode.runs : Mode → Bool
  | .run | .hold => true
  | _ => false

/-- The mode changes on row `row` of the table in R30, with its record (R36, R646). SKIP_RUN
returns to 0 on leaving RUN and HOLD (R116); CONFIG_BAD ends on leaving CONFIG (R731); ATTN# is
driven from the first entry to CONFIG or UNADDRESSED (R82). -/
def changeMode (c : Chip) (m : Mode) (row : Nat) : Chip :=
  if c.mode.mode = m then c
  else
    let old := c.mode.mode
    let c := { c with
      mode := { c.mode with mode := m, prev := old, seq := c.mode.seq + 1 }
      stroke := { c.stroke with
        skipRun := if m.runs then c.stroke.skipRun else 0
        phase := if m.strokes then c.stroke.phase else .catch_
        capturing := m.strokes && c.stroke.capturing
        haltAtStrobe := m.strokes && c.stroke.haltAtStrobe }
      attn := { c.attn with
        pinLive := c.attn.pinLive || m == .config || m == .unaddressed } }
    let c := if old = .config then setCond c 4 0 false else c
    emit c 4 0x01 0xFFFF (BitVec.ofNat 32 old.code) (BitVec.ofNat 32 m.code)
      (BitVec.ofNat 32 row) c.stroke.count

/-! ### Commands -/

/-- A command's answer: a next state, whose queue is the one it was given. The attention tree shows the pages as
the command left them (R76, R77, R79). -/
def answer (f : Chip → Chip) (s : State) : Host.Outcome State Fault Refusal :=
  .next { s with chip := attnUpdate (f s.chip) }

end Sys2Proof.Machine
end

