-- ==== Sys2Proof/Machine/RegMap.lean ====
section
/-!
DEFINITION. The register map: reset values, the writable registers with their access codes, reserved
bits and ranges, the offsets that registers occupy, and what the module says of itself (chapter 2 and
the register tables of every chapter).
-/
namespace Sys2Proof.Machine

/-! ### Stored registers -/

/-- The key of a register in `cfg`, and of one register of a window. -/
def cfgKey (p off : Nat) : Nat := p * 4096 + off
def cfgWKey (p idx off : Nat) : Nat := (p + 128 * (idx + 1)) * 4096 + off

/-- Reset value of a stored register that is not behind a window. -/
def cfgReset (p off : Nat) : Word :=
  if p = 0x00 ∧ off = 0x054 then 0xF
  else if p = 0x02 then (if off = 0x040 then strokeCfgReset else if off = 0x060 then 0x5A else 0)
  else if p = 0x08 ∨ p = 0x09 then (if off = 0x124 then 1 else 0)
  else if p = 0x20 then
    (if off = 0x04C then 0xFF80
     else if 0x100 ≤ off ∧ off < 0x300 ∧ off % 16 = 0 then 0x40000000
     else if 0x500 ≤ off ∧ off < 0x520 then 0x00640006
     else if 0x540 ≤ off ∧ off < 0x560 then 0x000A0000 else 0)
  else if p = 0x21 then (if off = 0x040 then 3 else 0)
  else if p = 0x28 then (if off = 0x040 then 0x40100004 else 0)
  else if 0x30 ≤ p ∧ p ≤ 0x33 then
    (if off = 0x044 then 0xFFFF
     else if 0x100 ≤ off ∧ off < 0x1C0 ∧ off % 16 = 4 then 0x0BB8
     else if 0x200 ≤ off ∧ off < 0x280 then
      (if off % 16 = 0 then 0x0001FFFF else if off % 16 = 4 then 0x03E8 else 0)
     else 0)
  else if p = 0x34 then
    (if off = 0x048 then 0xFFFF
     else if 0x100 ≤ off ∧ off < 0x200 then
      (match off % 16 / 4 with | 0 => 0xFFFF | 1 => 0x00C80FA0 | 2 => 0x003D0900 | _ => 0)
     else 0)
  else if 0x40 ≤ p ∧ p ≤ 0x5F then
    (if off = 0x040 then 0x00200000 else if off = 0x050 then 0xFFFF
     else if 0x100 ≤ off ∧ off < 0x200 ∧ off % 32 = 0 then 0x00140000 else 0)
  else if 0x60 ≤ p ∧ p ≤ 0x6F then
    (match off with
     | 0x040 => 2 | 0x04C => 0x048D0303 | 0x050 => 0x0000F387 | 0x054 => 0x0000A000
     | 0x058 => 0x5008FFFF | _ => 0)
  else if p = 0x70 then (if off = 0x040 then 0xAC140001 else 0)
  else if p = 0x71 then (if off = 0x040 then 0xAC150001 else 0)
  else if p = 0x72 then (if off = 0x040 then 0x000A0019 else 0)
  else if p = 0x75 then (if 0x100 ≤ off ∧ off < 0x160 ∧ off % 16 = 0 then 0x64 else 0)
  else if p = 0x78 then (if off = 0x074 then 1 else 0)
  else 0

/-- A stored register. -/
def cfg (c : Chip) (p off : Nat) : Word := smGet (cfgReset p off) c.cfg (cfgKey p off)

/-- ATTN# is driven low: ATTN_SUMMARY AND ATTN_PIN_MASK is non-zero, once the pin is live (R82). -/
def attnPinLow (c : Chip) : Bool := c.attn.pinLive && (c.attn.summary &&& cfg c 0 0x054) != 0

/-- MODE of serial port `q` (R601): 2 is an NMEA listener; the entry registers of any other port are
laid out for Modbus. -/
def serialNmea (c : Chip) (q : Nat) : Bool := fld (cfg c 0x75 (0x100 + 16 * q)) 31 30 == 2

/-- Reset value of register `off` of window index `idx`. -/
def cfgResetW (c : Chip) (p idx off : Nat) : Word :=
  if p = 0x21 then (if off = 0x054 then 0x00140000 else 0)
  else if 0x60 ≤ p ∧ p ≤ 0x6F then
    (match off with | 0x084 => 8 | 0x08C => 0x1FFFFFFF | 0x094 => 0xFFFF0000 | _ => 0)
  else if p = 0x75 then
    (match off with
     | 0x044 => if serialNmea c (idx / 16) then 0x01F40000 else 0x00010301
     | 0x048 => if serialNmea c (idx / 16) then 0 else 1
     | 0x04C => 0x0000FFFF
     | _ => 0)
  else 0

/-- A stored register behind a window. -/
def cfgW (c : Chip) (p idx off : Nat) : Word := smGet (cfgResetW c p idx off) c.cfg (cfgWKey p idx off)

/-- Store a register. -/
def setCfg (c : Chip) (p off : Nat) (v : Word) : Chip :=
  { c with cfg := smSet (cfgReset p off) c.cfg (cfgKey p off) v }

/-- Store a register behind a window; the serial entries' reset values hang on the port's MODE, so what
was written stays listed there. -/
def setCfgW (c : Chip) (p idx off : Nat) (v : Word) : Chip :=
  if p = 0x75 then { c with cfg := smPut c.cfg (cfgWKey p idx off) v }
  else { c with cfg := smSet (cfgResetW c p idx off) c.cfg (cfgWKey p idx off) v }

/-! ### What the module says of itself -/

/-- PLUG_ID's fields (R623). -/
def plugRead (c : Chip) : Bool := bitOf c.rst.plugId 31
def sideB (c : Chip) : Bool := bitOf c.rst.plugId 30
def fleet (c : Chip) : Bool := bitOf c.rst.plugId 29
def bpClassE (c : Chip) : Bool := bitOf c.rst.plugId 28
def scullOption (c : Chip) : Bool := bitOf c.rst.plugId 27
def station (c : Chip) : Nat := fld c.rst.plugId 9 0

/-- PAIR_CFG (R428). -/
def pairCfgW (c : Chip) : Word := cfg c 0x28 0x040
def paired (c : Chip) : Bool := bitOf (pairCfgW c) 8
def leaseStrokes (c : Chip) : Nat := fld (pairCfgW c) 4 0

/-- The epoch in frames: 0 for a simplex module (R384). -/
def ownEpoch (c : Chip) : Word := if paired c then c.backup.epoch else 0

/-- PAIR_STAT.ROLE (R428). -/
def seatRole (c : Chip) : Nat :=
  if !paired c then 0
  else match c.mode.mode with
    | .takeover => 3
    | .standby => 2
    | _ => if c.seat.holds then 1 else 0

/-- The seat holder renews its lease (R386). -/
def renewing (c : Chip) : Bool :=
  paired c && c.seat.holds && match c.mode.mode with
    | .run | .hold | .stop => true
    | .safeHalt => c.seat.haltByOverrun
    | _ => false

/-- ROLE in beacons and HELLO records (R388). -/
def beaconRole (c : Chip) : Nat :=
  if renewing c then 1 else if c.seat.holds then 3 else if c.mode.mode = .standby then 2 else 0

/-- The module drives the field: it is simplex or holds the seat (R386, R411). -/
def drives (c : Chip) : Bool := !paired c || c.seat.holds

/-- MODE_STAT (R31). -/
def modeStat (c : Chip) : Word :=
  pack [(c.mode.seq.toNat, 31, 16), (c.mode.prev.code, 11, 8), (c.mode.mode.code, 3, 0)]

/-- The stroke period P in ns (R85, R122). -/
def periodNs (c : Chip) : Nat := fld c.stroke.active 8 0 * 250000

/-- The stroke period that STROKE_CFG as written gives, in force from the next T0 (R122). -/
def nextPeriodNs (c : Chip) : Nat := fld (cfg c 2 0x040) 8 0 * 250000

/-- The drive budget B in ns (R90, R122). -/
def budgetNs (c : Chip) : Nat := fld c.stroke.active 29 16 * 10000

/-! ### The common header (R44 to R52) -/

/-- TYPE and INSTANCE of a page (R42). -/
def blockType (p : Nat) : Nat × Nat :=
  if p ≤ 2 then (p + 1, 0) else if p = 4 then (4, 0)
  else if p = 8 ∨ p = 9 then (0x10, p - 8)
  else if 0x10 ≤ p ∧ p ≤ 0x17 then (0x20, p - 0x10)
  else if p = 0x18 then (0x21, 0)
  else if p = 0x1A ∨ p = 0x1B then (0x22, p - 0x1A)
  else if p = 0x20 then (0x30, 0) else if p = 0x21 then (0x31, 0) else if p = 0x28 then (0x38, 0)
  else if 0x30 ≤ p ∧ p ≤ 0x33 then (0x40, p - 0x30)
  else if p = 0x34 then (0x41, 0)
  else if 0x40 ≤ p ∧ p ≤ 0x5F then (0x48, p - 0x40)
  else if 0x60 ≤ p ∧ p ≤ 0x6F then (0x50, p - 0x60)
  else if p = 0x70 ∨ p = 0x71 then (0x58, p - 0x70)
  else if p = 0x72 then (0x59, 0) else if p = 0x74 then (0x5A, 0) else if p = 0x75 then (0x5B, 0)
  else (0x60 + (p - 0x78), 0)

/-- Pages that firmware serves: the Boathouse's, the sequencers' and the network engines' (R13, R46). R13 names the
engine pages; that the pages 0x72, 0x78, 0x79, 0x7B and 0x7C show the build, and 0x00, 0x04, 0x28 and 0x74 read 0, is
the model's choice (DESIGN CHOICE, log entry 85). -/
def firmwarePage (p : Nat) : Bool :=
  (0x30 ≤ p && p ≤ 0x34) || (0x40 ≤ p && p ≤ 0x72) || p == 0x75 || (0x78 ≤ p && p ≤ 0x7C)

/-- BLK_STAT.STATE's code (R48). -/
def BlkState.code : BlkState → Nat
  | .disabled => 0 | .enabled => 1 | .draining => 2 | .isolated => 3

/-- A header register as it reads (R44 to R52). `work` is the number of work items the block holds. -/
def readHeader (c : Chip) (p off work : Nat) (queued : Bool) : Word :=
  let h := hdr c p
  match off with
  | 0x000 => pack [((blockType p).1, 31, 16), ((blockType p).2, 15, 8), (1, 7, 0)]
  | 0x004 => pack [(0x41, 31, 24), (1, 23, 16), (if firmwarePage p then c.upd.running.build else 0, 15, 0)]
  | 0x008 => pack [(h.drainTimeout, 15, 8), (b2n (h.st == .enabled), 0, 0)]
  | 0x00C => pack [(min work 0xFFFF, 31, 16), (b2n (work != 0 || queued), 8, 8), (h.st.code, 3, 0)]
  | 0x010 => h.cause
  | 0x014 => h.mask
  | 0x018 => h.raw
  | 0x020 => pack [(b2n h.ownerP, 2, 2), (b2n h.ownerE, 1, 1), (1, 0, 0)]
  | 0x024 => h.seq
  | _ => 0

/-! ### Writable registers (R59) -/

/-- Who may write a register (R59). -/
inductive Acc where
  | ro | rw | rwe | rws
  deriving DecidableEq, Repr

/-- A register's access code, its reserved bits, the bits it stores, and whether it is a configuration
register: written in CONFIG only and kept in the settings set (R677). -/
structure Reg where
  acc : Acc
  resv : Word
  keep : Word
  cfg : Bool
  deriving DecidableEq, Repr

/-- Mask of field [hi:lo]. -/
def fm (hi lo : Nat) : Word := pack [(2 ^ 32 - 1, hi, lo)]
def allBits : Word := 0xFFFFFFFF

/-- A register whose fields all read back: `resv` are its reserved bits. -/
def Reg.plain (a : Acc) (resv : Word) (cfg : Bool) : Reg := ⟨a, resv, ~~~resv, cfg⟩

/-- The header's writable registers (R47, R49, R51). -/
def headerReg (off : Nat) : Option Reg :=
  match off with
  | 0x008 => some ⟨.rw, 0xFFFF00EE, 0, false⟩
  | 0x010 => some ⟨.rw, 0, 0, false⟩
  | 0x014 => some ⟨.rw, 0, 0, false⟩
  | 0x01C => some ⟨.rws, 0, 0, false⟩
  | 0x020 => some ⟨.rws, 0xFFFFFFF8, 0, false⟩
  | _ => none

/-- A page's block-specific writable registers, by page and offset. -/
def blockReg (c : Chip) (p off : Nat) : Option Reg :=
  if p = 0x00 then
    (if off = 0x054 then some (Reg.plain .rwe 0xFFFFFFF0 false) else none)
  else if p = 0x01 then
    (if off = 0x040 then some ⟨.rwe, 0xFFFEF880, fm 10 8 ||| fm 6 0, false⟩ else none)
  else if p = 0x02 then
    (if off = 0x040 then some (Reg.plain .rwe 0xC0008E00 true)
     else if off = 0x060 then some ⟨.rwe, 0xFFFFFE00, 0xFF, false⟩ else none)
  else if p = 0x04 then
    (if off = 0x044 then some (Reg.plain .rwe 0xFFFFFF00 false) else none)
  else if p = 0x08 ∨ p = 0x09 then
    let e := if p = 0x08 then Acc.rws else Acc.rwe
    (if off = 0x068 then some (Reg.plain .rws 0xFFFFFFF8 false)
     else if off = 0x10C then some (Reg.plain .rwe 0xFFFFFF00 false)
     else if off = 0x124 then some ⟨e, 0xFFFFFEE0, 0x1F, false⟩
     else if off = 0x130 then some (Reg.plain .rws 0xFFFFFFC0 false)
     else if off = 0x134 then some (Reg.plain .rws 0 false)
     else if off = 0x138 then some (Reg.plain .rws 0x3FCF0000 false)
     else if p = 0x09 ∧ 0x140 ≤ off ∧ off < 0x160 then some (Reg.plain .rws 0x7FC00000 false)
     else if 0x180 ≤ off ∧ off < 0x200 then
      (if off % 8 = 0 then some (Reg.plain e 0xFFFFC000 false) else some (Reg.plain e 0 false))
     else none)
  else if 0x10 ≤ p ∧ p ≤ 0x17 then
    (if off = 0x04C then some (Reg.plain .rwe 0xFFFFFF00 false)
     else if off = 0x060 ∨ off = 0x064 then some (Reg.plain .rwe 0xFFF80000 false)
     else if off = 0x068 then some (Reg.plain .rwe 0 false)
     else if off = 0x06C then some ⟨.rwe, 0xFFFEFFC0, 0x3F, false⟩
     else if 0x800 ≤ off ∧ off < 0x900 then some (Reg.plain .rwe 0xFFFFFFFC false) else none)
  else if p = 0x18 then
    (if off = 0x04C then some (Reg.plain .rwe 0xFFFFFF00 false)
     else if 0x800 ≤ off ∧ off < 0x840 then some (Reg.plain .rwe 0xFFFFFFFC false) else none)
  else if p = 0x1A ∨ p = 0x1B then
    (if off = 0x04C then some (Reg.plain .rwe 0xFFFFFF00 false)
     else if off = 0x060 then some ⟨.rwe, 0x70000000, 0x0FFFFFFF, false⟩
     else if 0x800 ≤ off ∧ off < 0x840 then some (Reg.plain .rwe 0xFFFFFFFC false) else none)
  else if p = 0x20 then
    (if off = 0x048 then some (Reg.plain .rwe 0 true)
     else if off = 0x04C then some (Reg.plain .rwe 0xFFFF0000 true)
     else if 0x100 ≤ off ∧ off < 0x300 then
      (match off % 16 with
       | 0 => some (Reg.plain .rwe 0x1F000000 true)
       | 4 => some (Reg.plain .rwe 0xFFF00000 true)
       | 8 => some (Reg.plain .rwe 0 true)
       | _ => none)
     else if 0x500 ≤ off ∧ off < 0x520 then some (Reg.plain .rwe 0x1C00FF00 true)
     else if 0x540 ≤ off ∧ off < 0x560 then some (Reg.plain .rwe 0x7F000000 true) else none)
  else if p = 0x21 then
    (match off with
     | 0x040 => some (Reg.plain .rwe 0xFFFFFFE0 true)
     | 0x048 => some (Reg.plain .rw 0xFFFFFF00 false)
     | 0x04C => some (Reg.plain .rwe 0x1C00FF00 true)
     | 0x050 | 0x054 | 0x058 => some (Reg.plain .rwe 0 true)
     | _ => none)
  else if p = 0x28 then
    (match off with
     | 0x040 => some (Reg.plain .rwe 0x0000FEE0 true)
     | 0x050 => some (Reg.plain .rwe 0xFFFFFF00 false)
     | _ => none)
  else if 0x30 ≤ p ∧ p ≤ 0x33 then
    (if off = 0x044 then some (Reg.plain .rwe 0xFFFF0000 true)
     else if 0x100 ≤ off ∧ off < 0x1C0 then
      (match off % 16 with
       | 0 => some (Reg.plain .rwe 0x00FF0000 true)
       | 4 => some (Reg.plain .rwe 0xFFFF0000 true)
       | _ => none)
     else if p = 0x30 ∧ 0x200 ≤ off ∧ off < 0x280 then
      (match off % 16 with
       | 0 => some (Reg.plain .rwe 0x3F000000 true)
       | 4 => some (Reg.plain .rwe 0xFFFF0000 true)
       | _ => none)
     else none)
  else if p = 0x34 then
    (if off = 0x048 then some (Reg.plain .rwe 0xFFFF0000 true)
     else if 0x100 ≤ off ∧ off < 0x200 then
      (if off % 16 = 0 then some (Reg.plain .rwe 0x01FF0000 true) else some (Reg.plain .rwe 0 true))
     else none)
  else if 0x40 ≤ p ∧ p ≤ 0x5F then
    (if off = 0x040 then some (Reg.plain .rwe 0xFF0FFF00 true)
     else if off = 0x050 then some (Reg.plain .rwe 0xFFFF0000 true)
     else if 0x100 ≤ off ∧ off < 0x200 then
      (match off % 32 with
       | 0 => some (Reg.plain .rwe 0x0000FFFF true)
       | 4 => some (Reg.plain .rwe 0 true)
       | 12 => some (Reg.plain .rwe 0 true)
       | _ => none)
     else match off with
       | 0x200 => some (Reg.plain .rw 0xFFFFFE00 false)
       | 0x204 => some (Reg.plain .rwe 0x03FFFFFF true)
       | 0x208 => some (Reg.plain .rwe 0 true)
       | _ => none)
  else if 0x60 ≤ p ∧ p ≤ 0x6F then
    (match off with
     | 0x040 => some (Reg.plain .rwe 0xFFFFFFF8 true)
     | 0x044 => some (Reg.plain .rwe 0xFFFFFF00 false)
     | 0x04C => some (Reg.plain .rwe 0x00000080 true)
     | 0x050 => some (Reg.plain .rwe 0xFFE00070 true)
     | 0x054 => some ⟨.rwe, 0xFFFF0080, 0x0000FF00, true⟩
     | 0x058 => some (Reg.plain .rwe 0x0FC00000 true)
     | 0x05C | 0x060 | 0x068 | 0x06C => some (Reg.plain .rwe 0xE0000000 true)
     | 0x064 => some (Reg.plain .rwe 0xFFFFF0FA true)
     | 0x070 | 0x074 => some (Reg.plain .rwe 0 true)
     | 0x080 => some (Reg.plain .rw 0xFFFFFF80 false)
     | 0x084 => some (Reg.plain .rwe 0x000FFF80 true)
     | 0x088 => some (Reg.plain .rwe 0x60000000 true)
     | 0x08C => some (Reg.plain .rwe 0xE0000000 true)
     | 0x090 | 0x094 => some (Reg.plain .rwe 0 true)
     | 0x098 => some ⟨.rw, 0, 0, false⟩
     | _ => none)
  else if p = 0x70 ∨ p = 0x71 then
    (if off = 0x040 then some (Reg.plain .rwe 0x000000FE true) else none)
  else if p = 0x72 then
    (match off with
     | 0x040 => some (Reg.plain .rwe 0xFF000000 false)
     | 0x048 | 0x04C => some (Reg.plain .rwe 0 true)
     | 0x050 => some ⟨.rwe, 0xFFFFFFE0, 0xF, false⟩
     | _ => if 0x100 ≤ off ∧ off < 0x200 ∧ off % 16 = 8 then some ⟨.rwe, 0xFF000000, 0, false⟩ else none)
  else if p = 0x75 then
    let nmea := serialNmea c (fld (cfg c 0x75 0x040) 6 4)
    (match off with
     | 0x040 => some (Reg.plain .rw 0xFFFFFF80 false)
     | 0x044 => some (Reg.plain .rwe (if nmea then 0x0000FF00 else 0x7E000000) true)
     | 0x048 | 0x04C => some (Reg.plain .rwe 0 true)
     | _ => if 0x100 ≤ off ∧ off < 0x160 ∧ off % 16 = 0 then
         some (Reg.plain .rwe 0x00FF0000 true) else none)
  else if p = 0x78 then
    (match off with
     | 0x04C => some ⟨.rw, 0xFFFFFE00, 0, false⟩
     | 0x058 => some (Reg.plain .rw 0xFFFFFFFC false)
     | 0x05C => some (Reg.plain .rw 0 false)
     | 0x070 => some (Reg.plain .rw 0 false)
     | 0x074 => some (Reg.plain .rw 0x3FFE0000 false)
     | 0x080 | 0x084 | 0x088 | 0x08C => some (Reg.plain .rw 0 false)
     | _ => none)
  else if p = 0x79 then
    (match off with
     | 0x044 => some (Reg.plain .rwe 0xFFFFFF00 false)
     | 0x058 => some (Reg.plain .rwe 0x3FFF0000 true)
     | _ => none)
  else if p = 0x7A then
    (if off = 0x174 then some ⟨.rwe, 0xFFFFFFFE, 0, false⟩ else none)
  else if p = 0x7B then
    (if off = 0x044 then some (Reg.plain .rwe 0xFFFFFF00 false) else none)
  else if p = 0x7C then
    (match off with
     | 0x04C => some (Reg.plain .rws 0x00FFF800 false)
     | 0x050 => some ⟨.rwe, 0xFFFFFFFE, 0, false⟩
     | 0x060 | 0x064 | 0x068 | 0x06C => some (Reg.plain .rwe 0 false)
     | _ => if 0x400 ≤ off ∧ off < 0x800 then some (Reg.plain .rws 0 false) else none)
  else none

/-- A page's writable register at an offset. -/
def regAt (c : Chip) (p off : Nat) : Option Reg := if off < 0x040 then headerReg off else blockReg c p off

/-- Offsets of page `p` that only read-only registers occupy, from 0x040 up. -/
def roOff (p off : Nat) : Bool :=
  if p = 0x00 then (0x040 ≤ off && off ≤ 0x058) || off == 0x060 || off == 0x064
  else if p = 0x01 then 0x044 ≤ off && off ≤ 0x06C
  else if p = 0x02 then 0x044 ≤ off && off ≤ 0x064
  else if p = 0x04 then off == 0x040
  else if p = 0x08 || p = 0x09 then
    (0x040 ≤ off && off ≤ 0x064) || (0x100 ≤ off && off ≤ 0x120) || off == 0x128
      || (p == 0x09 && 0x160 ≤ off && off < 0x170)
  else if 0x10 ≤ p && p ≤ 0x17 then
    (0x040 ≤ off && off ≤ 0x058) || off == 0x070 || off == 0x074 || (0x400 ≤ off && off < 0x800)
  else if p = 0x18 then
    (0x040 ≤ off && off ≤ 0x054) || (0x400 ≤ off && off < 0x500 && off % 16 != 12)
      || (0x600 ≤ off && off < 0x800)
  else if p = 0x1A || p = 0x1B then (0x040 ≤ off && off ≤ 0x058) || (0x400 ≤ off && off < 0x500)
  else if p = 0x20 then (0x040 ≤ off && off ≤ 0x060) || (0x400 ≤ off && off < 0x480)
  else if p = 0x21 then (0x040 ≤ off && off ≤ 0x068) || (0x080 ≤ off && off < 0x0A0)
  else if p = 0x28 then 0x040 ≤ off && off ≤ 0x070
  else if 0x30 ≤ p && p ≤ 0x33 then
    (0x040 ≤ off && off ≤ 0x04C) || (0x100 ≤ off && off < 0x1C0 && off % 16 == 8)
      || (p == 0x30 && 0x200 ≤ off && off < 0x280 && 8 ≤ off % 16)
  else if p = 0x34 then (0x040 ≤ off && off ≤ 0x050) || (0x200 ≤ off && off < 0x300)
  else if 0x40 ≤ p && p ≤ 0x5F then
    (0x040 ≤ off && off ≤ 0x054) || (0x100 ≤ off && off < 0x200 && off % 32 ≤ 16)
  else if 0x60 ≤ p && p ≤ 0x6F then (0x040 ≤ off && off ≤ 0x098) || (0x0A0 ≤ off && off < 0x0B0)
  else if p = 0x70 || p = 0x71 then 0x040 ≤ off && off ≤ 0x050
  else if p = 0x72 then off == 0x044 || off == 0x054 || (0x100 ≤ off && off < 0x200)
  else if p = 0x75 then 0x100 ≤ off && off < 0x160 && off % 16 ≤ 8
  else if p = 0x78 then
    (0x040 ≤ off && off ≤ 0x060) || (0x070 ≤ off && off ≤ 0x078) || (0x100 ≤ off && off < 0x160)
      || (0x180 ≤ off && off < 0x1C0) || (0x800 ≤ off && off < 0x1000)
  else if p = 0x79 then 0x040 ≤ off && off ≤ 0x064
  else if p = 0x7A then
    off == 0x040 || (0x100 ≤ off && off < 0x130) || (0x140 ≤ off && off < 0x154)
      || (0x160 ≤ off && off ≤ 0x174)
  else if p = 0x7B then
    (0x040 ≤ off && off ≤ 0x04C) || (0x100 ≤ off && off < 0x120) || (0x200 ≤ off && off < 0x398)
  else if p = 0x7C then
    (0x040 ≤ off && off ≤ 0x054) || (0x100 ≤ off && off < 0x1C0) || (0x800 ≤ off && off < 0xC00)
  else false

/-- A register occupies the offset (R43). -/
def occupied (c : Chip) (p off : Nat) : Bool :=
  populated p && off % 4 == 0
    && (if off < 0x040 then decide (off < 0x028) else (blockReg c p off).isSome || roOff p off)

/-- The window index that selects a page's windowed register at `off`, if it is one (R379, R519, R557,
R601): what settings entries carry as INDEX (R676). -/
def windowOf (p off : Nat) : Bool :=
  (p == 0x21 && 0x04C ≤ off && off ≤ 0x058) || (0x40 ≤ p && p ≤ 0x5F && (off == 0x204 || off == 0x208))
    || (0x60 ≤ p && p ≤ 0x6F && 0x084 ≤ off && off ≤ 0x094) || (p == 0x75 && 0x044 ≤ off && off ≤ 0x04C)

/-- The offset of a page's window selector, and how many indices it takes. -/
def selector (p : Nat) : Nat := if p = 0x21 then 0x048 else if p < 0x60 then 0x200 else if p = 0x75 then 0x040 else 0x080
def windowSize (p : Nat) : Nat := if p = 0x21 then 256 else if p < 0x60 then 512 else if p = 0x75 then 96 else 128

/-- The index now selected. -/
def selected (c : Chip) (p : Nat) : Nat := (cfg c p (selector p)).toNat

/-- A word address or 0xFFFF for none. -/
def wordOrNone (v : Word) : Bool := fld v 15 0 ≤ 0x3FFF || fld v 15 0 == 0xFFFF

/-- A signed 16-bit field lies within ± m. -/
def within (n m : Nat) : Bool := let x := signed 16 n; decide (-(m : Int) ≤ x ∧ x ≤ m)

/-- A value that the register's map allows (R61, check 0x09), for the stored registers. `nmea` lays out
SP_ENT0 and SP_ENT1 (R601). -/
def rangeOk (p off : Nat) (nmea : Bool) (v : Word) : Bool :=
  if p = 0x02 then
    (if off = 0x040 then
       1 ≤ fld v 29 16 && fld v 14 13 ≠ 3 && 1 ≤ fld v 8 0 && fld v 8 0 ≤ 400
     else 50 ≤ fld v 7 0 && fld v 7 0 ≤ 100)
  else if p = 0x08 ∨ p = 0x09 then
    (if off = 0x124 then 1 ≤ fld v 4 0 && fld v 4 0 ≤ 16 else true)
  else if p = 0x20 then
    (if off = 0x04C then fld v 15 0 % 32 == 0 && fld v 15 0 ≤ 0xFF80
     else if 0x100 ≤ off ∧ off < 0x300 then
      (if off % 16 = 0 then !(bitOf v 30) || fld v 7 0 == 0 else true)
     else if 0x500 ≤ off ∧ off < 0x520 then
       1 ≤ fld v 25 16 && fld v 25 16 ≤ 1000 && 1 ≤ fld v 7 0 && fld v 7 0 ≤ 200
     else if 0x540 ≤ off ∧ off < 0x560 then 1 ≤ fld v 23 16 else true)
  else if p = 0x21 then
    (match off with
     | 0x040 => 1 ≤ fld v 4 0 && fld v 4 0 ≤ 20
     | 0x04C => !bitOf v 30 || (!bitOf v 29 && fld v 25 16 == 0)
     | 0x054 => 2 ≤ fld v 31 16
     | 0x058 => fld v 31 16 % 32 == 0 && fld v 31 16 ≤ 0xFF80 && fld v 15 0 ≤ 0x3FFC
     | _ => true)
  else if p = 0x28 then
    (if off = 0x040 then 8 ≤ fld v 31 24 && 1 ≤ fld v 23 16 && 3 ≤ fld v 4 0 && fld v 4 0 ≤ 16 else true)
  else if 0x30 ≤ p ∧ p ≤ 0x33 then
    (if off = 0x044 then wordOrNone v
     else if off < 0x1C0 then
      (if off % 16 = 0 then fld v 31 30 ≠ 3 && fld v 29 28 ≠ 3 else 1 ≤ fld v 15 0)
     else if off % 16 = 0 then 1 ≤ fld v 23 16 && (fld v 15 0 ≤ 0x3FFE || fld v 15 0 == 0xFFFF)
     else 1 ≤ fld v 15 0 && fld v 15 0 ≤ 40000)
  else if p = 0x34 then
    (if off = 0x048 then wordOrNone v
     else match off % 16 / 4 with
       | 0 => fld v 26 25 ≠ 3 && wordOrNone v
       | 1 => 50 ≤ fld v 31 16 && fld v 31 16 ≤ 2000 && fld v 15 0 ≤ 22000
       | 2 => v.toNat ≤ 25000000
       | _ => within (fld v 31 16) 2000 && within (fld v 15 0) 2000)
  else if 0x40 ≤ p ∧ p ≤ 0x5F then
    (if off = 0x040 then 1 ≤ fld v 23 20
     else if off = 0x050 then wordOrNone v
     else if off = 0x204 then fld v 31 30 ≠ 3 && fld v 28 27 ≠ 3
     else if off < 0x200 then
      (match off % 32 with
       | 0 => 1 ≤ fld v 31 16
       | 4 => fld v 31 16 % 64 == 0 && fld v 15 0 % 64 == 0 && fld v 15 0 ≤ 0x3FC0
       | _ => true)
     else true)
  else if 0x60 ≤ p ∧ p ≤ 0x6F then
    (match off with
     | 0x04C => 1 ≤ fld v 22 15
     | 0x058 => fld v 30 29 ≠ 3 && 1 ≤ fld v 21 16 && fld v 21 16 ≤ 32 && wordOrNone v
     | 0x064 => fld v 11 8 ≤ 8
     | 0x084 => fld v 29 28 ≠ 3 && fld v 24 23 ≠ 3 && fld v 6 0 ≤ 64
     | 0x088 => bitOf v 31 || fld v 28 11 == 0
     | 0x090 => fld v 31 16 ≤ 0x3FFF
     | _ => true)
  else if p = 0x70 ∨ p = 0x71 then fld v 15 8 ≤ 127
  else if p = 0x72 then
    (match off with
     | 0x040 => 1 ≤ fld v 23 16 && 1 ≤ fld v 15 0
     | 0x048 => fld v 15 0 % 32 == 0 && fld v 15 0 + fld v 31 16 ≤ 0x10000
     | 0x04C => fld v 31 16 ≤ 1024 && fld v 15 0 ≤ 0x3FFF && fld v 15 0 + fld v 31 16 ≤ 0x4000
     | _ => true)
  else if p = 0x75 then
    (match off with
     | 0x040 => fld v 6 4 ≤ 5
     | 0x044 =>
       if nmea then 1 ≤ fld v 30 16
       else [1, 2, 3, 4, 6, 16].contains (fld v 15 8) && 1 ≤ fld v 7 0 && fld v 7 0 ≤ 247
         && 1 ≤ fld v 24 16
         && fld v 24 16 ≤ (match fld v 15 8 with | 1 | 2 => 256 | 6 => 1 | _ => 32)
     | 0x048 => nmea || 1 ≤ fld v 15 0
     | 0x04C => fld v 31 16 ≤ 0x3FFF
     | _ => fld v 31 30 ≠ 3 && fld v 29 28 ≠ 3 && fld v 26 24 ≤ 5 && 1 ≤ fld v 15 0)
  else if p = 0x78 then
    (if off = 0x058 then fld v 1 0 ≠ 3 else true)
  else true

end Sys2Proof.Machine
end

