-- ==== Sys2Proof/Machine/Can.lean ====
section
/-!
DEFINITION. CAN FD controllers, pages 0x60 to 0x6F (chapter 14): objects, the receive FIFO, triggers
and transmission, error states, sleep and wake. The error counters follow ISO 11898-1, which the spec
names and does not repeat (PRESUMED, log entry 11).
-/
namespace Sys2Proof.Machine

def canPage (n : Nat) : Nat := 0x60 + n
def can (c : Chip) (n : Nat) : CanSt := smGet CanSt.reset c.cans n
def modCan (c : Chip) (n : Nat) (f : CanSt → CanSt) : Chip :=
  { c with cans := smMod CanSt.reset c.cans n f }
def obj (c : Chip) (n o : Nat) : ObjSt := smGet ObjSt.reset (can c n).objs o
def modObj (c : Chip) (n o : Nat) (f : ObjSt → ObjSt) : Chip :=
  modCan c n fun k => { k with objs := smMod ObjSt.reset k.objs o f }

def canCfg (c : Chip) (n : Nat) : Word := cfg c (canPage n) 0x040
def canUsed (c : Chip) (n : Nat) : Bool := bitOf (canCfg c n) 0
def busOffAuto (c : Chip) (n : Nat) : Bool := bitOf (canCfg c n) 1
/-- OBJ_CFGk of object `o` (R557). -/
def objCfg (c : Chip) (n o k : Nat) : Word := cfgW c (canPage n) o (0x084 + 4 * k)
def objUsed (c : Chip) (n o : Nat) : Bool := bitOf (objCfg c n o 0) 31
def objSends (c : Chip) (n o : Nat) : Bool := bitOf (objCfg c n o 0) 30
def objMax (c : Chip) (n o : Nat) : Nat := fld (objCfg c n o 0) 6 0
def objBase (c : Chip) (n o : Nat) : Nat := fld (objCfg c n o 3) 31 16
def objTime (c : Chip) (n o : Nat) : Nat := fld (objCfg c n o 3) 15 0
def rxObjects (c : Chip) (n : Nat) : List Nat :=
  (List.range 128).filter fun o => objUsed c n o && !objSends c n o
def txObjects (c : Chip) (n : Nat) : List Nat :=
  (List.range 128).filter fun o => objUsed c n o && objSends c n o

/-- The controller operates: used, on a page that works, in a mode of R551 with a bus. -/
def canOn (c : Chip) (n : Nat) : Bool :=
  n < 16 && canUsed c n && working c (canPage n)
    && (match c.mode.mode with | .reset | .boot | .unaddressed => false | _ => true)

/-- Restricted operation (R411, R551). -/
def canRestricted (c : Chip) (_n : Nat) : Bool :=
  !drives c || (match c.mode.mode with | .standby | .takeover | .activate => true | _ => false)

/-! ### State, conditions and records (R546, R551, R558, R559) -/

/-- The conditions of a controller page (R558). -/
def canConds (c : Chip) (n : Nat) : Chip :=
  let k := can c n
  let p := canPage n
  let c := setCond c p 0 (k.state == 4 || k.state == 5)
  let c := setCond c p 1 (k.state == 3)
  let c := setCond c p 2 k.alone
  let c := setCond c p 3 (k.objs.any fun o => o.2.clash)
  let c := setCond c p 4 (k.objs.any fun o => o.2.lenFault)
  setCond c p 7 (k.state == 6)

/-- STATE changes, with its BUS_STATE record (R555, R559). -/
def canTo (c : Chip) (n st : Nat) : Chip :=
  let k := can c n
  if k.state = st then c
  else
    let c := modCan c n fun k => { k with state := st }
    canConds (emit c (canPage n) 0xB0 0xFFFF (BitVec.ofNat 32 k.state) (BitVec.ofNat 32 st)
      (BitVec.ofNat 32 (min k.tec 255 * 256 + min k.recv 255)) c.stroke.count) n

/-- A pending frame is dropped as FAILED (R541, R546, R548, R549). -/
def dropPending (c : Chip) (n o : Nat) : Chip :=
  modObj c n o fun s => { s with failed := s.failed || s.pending.isSome, pending := none }

/-- Recovery starts at once where BUSOFF_AUTO is set, also when it is set in bus-off (R546). -/
def canAuto (c : Chip) (n : Nat) : Chip := if (can c n).state = 4 && busOffAuto c n then canTo c n 5 else c

/-- The error state that the counters give (ISO 11898-1): over 255 bus-off, over 127 passive. -/
def errorState (c : Chip) (n : Nat) : Chip :=
  let k := can c n
  if k.state ≠ 2 && k.state ≠ 3 then c
  else if 255 < k.tec then
    let c := modCan c n fun k => { k with busOffs := satInc 255 k.busOffs }
    let c := (txObjects c n).foldl (fun c o =>
      if bitOf (objCfg c n o 0) 26 || (obj c n o).clash then dropPending c n o else c) c
    canAuto (canTo c n 4) n
  else canTo c n (if 127 < k.tec || 127 < k.recv then 3 else 2)

/-- ALONE changes, with its record (R547, R559). -/
def setAlone (c : Chip) (n : Nat) (v : Bool) : Chip :=
  let k := can c n
  if k.alone = v then c
  else
    let c := modCan c n fun k => { k with alone := v, alones := if v then satInc 255 k.alones else k.alones }
    let id := match (obj c n k.offered).tx.orElse (fun _ => (obj c n k.offered).pending) with
      | some f => f.id
      | none => fld (objCfg c n k.offered 1) 28 0
    canConds (emit c (canPage n) 0xB1 k.offered (b2w v) (BitVec.ofNat 32 id)
      (BitVec.ofNat 32 (min k.tec 255)) c.stroke.count) n

/-- ACK_RUN returns to 0, and ALONE clears with it (R547). -/
def ackClear (c : Chip) (n : Nat) : Chip := setAlone (modCan c n fun k => { k with ackRun := 0 }) n false

/-- A controller goes to sleep or wakes, with its SLEEP_WAKE record; a wake raises WOKE (R550, R558, R559). -/
def canSleepTo (c : Chip) (n st id : Nat) : Chip :=
  if (can c n).state = st then c
  else
    let woke := st != 6
    let c := canTo c n st
    let c := if woke then raise c (canPage n) 6 else c
    emit c (canPage n) 0xB3 0xFFFF (b2w woke) (BitVec.ofNat 32 (can c n).wakeReason) (BitVec.ofNat 32 id)
      c.stroke.count

/-- In restricted operation ACK_RUN and CLASH_RUN stay at 0 (R551); the CLASH_RUN that a standby holds is the seat
holder's, which travels in the checkpoint (R552) and shows only once the controller is restricted no more. -/
def canRestrict (c : Chip) (n : Nat) : Chip :=
  if !canRestricted c n then c
  else match c.mode.mode with
    | .standby | .takeover => ackClear c n
    | _ => modCan (ackClear c n) n fun k => { k with objs := k.objs.map fun o => (o.1, { o.2 with clashRun := 0 }) }

/-- The state a controller has on the bus: off, asleep through DORMANT and back in the state it held, a wake by the
command WAKE (R33), or integrating when it starts (R551). -/
def canSync (n : Nat) (c : Chip) : Chip :=
  let k := can c n
  if !canOn c n then canTo (modCan c n fun k => { k with
      saved := 0, sleepReq := false, objs := k.objs.map fun o => (o.1, { o.2 with tx := none, pending := none, next := none }) }) n 0
  else if c.mode.mode = .dormant then
    if k.saved ≠ 0 then c
    else
      let c := modCan c n fun k => { k with saved := k.state }
      if k.state = 6 then c else canSleepTo c n 6 0
  else if k.saved ≠ 0 then
    let c := modCan c n fun k => { k with saved := 0 }
    if k.saved = 6 then c else canSleepTo (modCan c n fun k => { k with wakeReason := 0 }) n k.saved 0
  else if k.state = 0 then canRestrict (canTo (modCan c n fun k => { k with tec := 0, recv := 0 }) n 1) n
  else canRestrict (canAuto c n) n

/-- Every controller follows the module (R551). -/
def canSyncAll (c : Chip) : Chip := forN 16 canSync c

/-- A new seat holder's controllers leave restricted operation and integrate; what was pending on the
old seat holder is not sent, whatever STATE the controller has (R552). -/
def canTakeSeat (c : Chip) : Chip :=
  forN 16 (fun n c =>
    if !canUsed c n then c
    else
      let c := (txObjects c n).foldl (fun c o => modObj c n o fun s =>
        { s with pending := none, tx := none, next := none }) c
      if canOn c n && 2 ≤ (can c n).state && (can c n).state ≤ 3 then canTo c n 1 else c) c

/-- ID_CLASH of an object changes, with its record; CLASH_RUN changes by transmissions alone (R548, R559). -/
def setClash (c : Chip) (n o : Nat) (v : Bool) : Chip :=
  let s := obj c n o
  if s.clash = v then c
  else
    let c := modObj c n o fun s => { s with clash := v }
    let id := match s.asked with | some (_, id, _) => id | none => fld (objCfg c n o 1) 28 0
    canConds (emit c (canPage n) 0xB2 o (b2w v) (BitVec.ofNat 32 id) (BitVec.ofNat 32 s.frames)
      c.stroke.count) n

/-! ### Reception (R532, R533, R543, R544) -/

/-- FMT accepts the frame's format. -/
def fmtTakes (fmt : Nat) (f : CanFrame) : Bool := fmt == 2 || (fmt == 1) == f.fd

/-- Receive object `o` matches the frame (R532). -/
def objMatches (c : Chip) (n o : Nat) (f : CanFrame) : Bool :=
  let id := BitVec.ofNat 32 f.id
  ((id ^^^ BitVec.ofNat 32 (fld (objCfg c n o 1) 28 0)) &&& BitVec.ofNat 32 (fld (objCfg c n o 2) 28 0)) == 0
    && bitOf (objCfg c n o 1) 31 == f.ide && fmtTakes (fld (objCfg c n o 0) 29 28) f

/-- The FIFO filter passes the frame (R543). -/
def fifoMatches (c : Chip) (n : Nat) (f : CanFrame) : Bool :=
  let g := cfg c (canPage n) 0x058
  bitOf g 31 && ((BitVec.ofNat 32 f.id ^^^ cfg c (canPage n) 0x05C) &&& cfg c (canPage n) 0x060) == 0
    && bitOf g 28 == f.ide && fmtTakes (fld g 30 29) f

/-- The FIFO entries of a frame (R543). -/
def fifoEntries (f : CanFrame) (time seq : Nat) : List FifoEnt :=
  let idw := pack [(b2n f.fd, 31, 31), (b2n f.brs, 30, 30), (b2n f.ide, 29, 29), (f.id, 28, 0)]
  let two := 48 < f.len
  let head (cont hasCont : Bool) := leBytes 8 time ++ leBytes 4 idw.toNat ++ [BitVec.ofNat 8 f.len,
    BitVec.ofNat 8 (packBits [f.esi, cont, hasCont])] ++ leBytes 2 seq
  let data := (f.data.take f.len) ++ List.replicate (64 - f.len) 0
  ⟨head false two ++ data.take 48, two⟩ ::
    (if two then [⟨head true false ++ (data.drop 48).take 16 ++ List.replicate 32 0, false⟩] else [])

/-- A frame that passes the filter enters the FIFO, or is dropped whole (R543, R544, R26). -/
def fifoPut (c : Chip) (n : Nat) (f : CanFrame) : Chip :=
  let (t, c) := freshTime c
  let seq := (can c n).fifoSeq
  let es := fifoEntries f t seq
  let c := modCan c n fun k => { k with fifoSeq := (seq + 1) % 65536 }
  if (can c n).fifo.length + es.length ≤ 64 then modCan c n fun k => { k with fifo := k.fifo ++ es }
  else
    let c := modCan (queueRefused c (32 + n)) n fun k => { k with rxOverflow := satInc 255 k.rxOverflow }
    let c := raise c (canPage n) 5
    let (due, c) := rateAllow c (rateKey (canPage n) 0xB4 0) 100
    match due with
    | some m => emit c (canPage n) 0xB4 0xFFFF (BitVec.ofNat 32 (m + 1)) (BitVec.ofNat 32 seq) 0 c.stroke.count
    | none => c

/-- A receive object takes a frame: its length stands, and of the data the first MAXLEN bytes (R533). -/
def objTake (c : Chip) (n o : Nat) (f : CanFrame) : Chip :=
  let m := objMax c n o
  modObj c n o fun s => { s with
    rx := some { f with data := f.data.take (min f.len m) }
    truncated := decide (m < f.len), since := satInc 255 s.since, frames := (s.frames + 1) % 65536 }

/-- The controller can receive: on the bus, not asleep, off, integrating or bus-off. -/
def canHears (c : Chip) (n : Nat) : Bool := canOn c n && ((can c n).state == 2 || (can c n).state == 3)

/-- A received frame becomes valid (R525, R532, R547); a remote frame is discarded. A good reception
lowers the receive counter as ISO 11898-1 gives it: from over 127 to a value from 119 to 127. -/
def canAccept (c : Chip) (n : Nat) (f : CanFrame) (remote : Bool) : Chip :=
  if !canHears c n then c
  else
    let c := modCan c n fun k => { k with rxFrames := (k.rxFrames + 1) % 65536 }
    let c := if canRestricted c n then c
      else
        let (x, c) := freshNat c
        let c := modCan c n fun k => { k with
          recv := if 127 < k.recv then 119 + x % 9 else k.recv - 1 }
        errorState (ackClear c n) n
    let lost := fun c : Chip => modCan c n fun k => { k with unmatched := satInc 255 k.unmatched }
    if remote then lost c
    else match (rxObjects c n).find? (fun o => objMatches c n o f) with
      | some o => objTake c n o f
      | none => if fifoMatches c n f then fifoPut c n f else lost c

/-- An error in a frame being received raises the receive counter: by 1 where `one`, and by 8 for each
of `eights` (ISO 11898-1). Where PEX is set and neither counts, it is the protocol exception of a recessive res bit: the
controller integrates anew, its counters as they were (R555; DEDUCED, log entry 105). -/
def canRxError (c : Chip) (n : Nat) (one : Bool) (eights : Nat) : Chip :=
  if canHears c n && bitOf (canCfg c n) 2 && !one && eights == 0 then canTo c n 1
  else if !canHears c n || canRestricted c n then c
  else errorState (modCan c n fun k => { k with recv := min 255 (k.recv + b2n one + 8 * eights) }) n

/-! ### Catch (R534, R542, R545) -/

/-- VALID of a receive object at this catch (R534). -/
def objValid (c : Chip) (n o : Nat) : Bool :=
  let s := obj c n o
  s.rx.isSome && (objTime c n o == 0 || decide (s.age < objTime c n o))

/-- The words a receive object writes (R534). -/
def rxWords (c : Chip) (n o : Nat) : List (Nat × Word) :=
  let s := obj c n o
  let f := s.rx.getD ⟨0, false, false, false, false, 0, []⟩
  let base := objBase c n o
  let m := objMax c n o
  let st := pack [(b2n (objValid c n o), 31, 31), (b2n (decide (1 ≤ s.since)), 30, 30),
    (b2n (decide (2 ≤ s.since)), 29, 29), (b2n f.fd, 28, 28), (b2n f.brs, 27, 27), (b2n f.esi, 26, 26),
    (b2n f.ide, 25, 25), (b2n s.truncated, 24, 24), (s.since, 15, 8), (f.len, 7, 0)]
  (base, st) :: (base + 1, BitVec.ofNat 32 f.id) ::
    (List.range ((m + 3) / 4)).map fun i => (base + 2 + i, BitVec.ofNat 32 (leAt f.data (4 * i) 4))

/-- The status word of a send object (R542). -/
def txWords (c : Chip) (n o : Nat) : List (Nat × Word) :=
  let w := fld (objCfg c n o 4) 31 16
  let s := obj c n o
  if w = 0xFFFF then []
  else [(w, pack [(b2n (s.pending.isSome || s.tx.isSome), 31, 31), (b2n s.sentSince, 30, 30),
    (b2n s.failed, 29, 29), (b2n s.clash, 28, 28), (b2n s.lenFault, 27, 27), (b2n s.superseded, 26, 26),
    (s.frames, 15, 0)])]

/-- The entries a catch takes: the oldest, up to `room`, a two-entry frame whole (R545). -/
def fifoSplit : Nat → List FifoEnt → List FifoEnt × List FifoEnt
  | 0, es => ([], es)
  | _, [] => ([], [])
  | room + 1, e :: es =>
    if e.hasCont && room = 0 then ([], e :: es)
    else let (a, b) := fifoSplit room es; (e :: a, b)

/-- The FIFO moves into its window at a catch (R545). -/
def fifoCatch (c : Chip) (n : Nat) : Chip :=
  let g := cfg c (canPage n) 0x058
  if !bitOf g 31 || fld g 15 0 = 0xFFFF then c
  else
    let room := fld g 21 16
    let (taken, left) := fifoSplit room (can c n).fifo
    let body := (taken.flatMap fun e => (List.range 16).map fun i => BitVec.ofNat 32 (leAt e.bytes (4 * i) 4))
      ++ List.replicate (16 * (room - taken.length)) 0
    modCan c n fun k => { k with fifo := left
                                 window := pack [(min left.length 0xFFFF, 31, 16), (taken.length, 7, 0)] :: body }

/-- Image words that a used controller on a working page writes for the process crew (R527, R534,
R542, R545). -/
def canWords (c : Chip) : List (Nat × Word) :=
  (List.range 16).flatMap fun n =>
    if !canUsed c n || !working c (canPage n) then []
    else
      (rxObjects c n).flatMap (rxWords c n) ++ (txObjects c n).flatMap (txWords c n)
      ++ (let g := cfg c (canPage n) 0x058
          if bitOf g 31 && fld g 15 0 ≠ 0xFFFF then (can c n).window.zipIdx.map fun x => (fld g 15 0 + x.2, x.1)
          else [])

/-- The addresses that a used controller may write at a catch, whatever it has received: those of `canWords` with the
whole of the FIFO's window (R545, R579). -/
def canSpan (c : Chip) : List Nat :=
  (canWords c).map (·.1) ++ (List.range 16).flatMap fun n =>
    let g := cfg c (canPage n) 0x058
    if canUsed c n && bitOf g 31 && fld g 15 0 ≠ 0xFFFF then
      (List.range (1 + 16 * fld g 21 16)).map (fld g 15 0 + ·)
    else []

/-- The catch at T0: objects age, the FIFO moves; then the words are taken and the counts since the
catch return to 0 (R533, R534, R542, R545, R558). -/
def catchCan (c : Chip) : Chip × List (Nat × Word) :=
  let c := forN 16 (fun n c =>
    if !canUsed c n || !working c (canPage n) then c
    else
      let c := (rxObjects c n).foldl (fun c o => modObj c n o fun s =>
        { s with age := if 0 < s.since then 0 else s.age + 1 }) c
      fifoCatch c n) c
  let ws := canWords c
  let c := forN 16 (fun n c =>
    if !canUsed c n || !working c (canPage n) then setCond c (canPage n) 8 false
    else
      let stale := (rxObjects c n).any fun o => !objValid c n o
      let c := (rxObjects c n).foldl (fun c o => modObj c n o fun s => { s with since := 0 }) c
      let c := (txObjects c n).foldl (fun c o => modObj c n o fun s =>
        { s with sentSince := false, failed := false, superseded := false }) c
      setCond c (canPage n) 8 stale) c
  (c, ws)

/-! ### Requests (R535 to R538, R540) -/

/-- The smallest length a DLC gives that holds `n` bytes (R538). -/
def dlcLength (fd : Bool) (n : Nat) : Nat :=
  if !fd then n
  else (([8, 12, 16, 20, 24, 32, 48, 64].find? (fun k => n ≤ k)).getD 64) |> fun k => if n ≤ 8 then n else k

/-- LENGTH, ID and data in the latch. Bytes of LENGTH beyond the words an object reads are in no word
of it: they are free. -/
def latchRequest (c : Chip) (n o : Nat) : (Nat × Nat × List Byte) × Chip :=
  let base := objBase c n o
  let w := fun i => smGet 0 c.latch.words (base + i)
  let len := fld (w 0) 6 0
  let id := if bitOf (objCfg c n o 0) 25 then fld (w 1) 28 0 else fld (objCfg c n o 1) 28 0
  let data := (List.range ((objMax c n o + 3) / 4)).flatMap fun i => leBytes 4 (w (2 + i)).toNat
  let extra := min len 64 - data.length
  let (more, c) := (List.range extra).foldl (fun (x : List Byte × Chip) _ =>
    let (v, c) := freshNat x.2; (x.1 ++ [BitVec.ofNat 8 v], c)) ([], c)
  ((len, id, (data ++ more).take len), c)

/-- A request cannot be sent (R538). -/
def badRequest (c : Chip) (n o : Nat) (len id : Nat) : Bool :=
  (fld (objCfg c n o 0) 29 28 == 0 && 8 < len) || 64 < len
    || (bitOf (objCfg c n o 0) 25 && !bitOf (objCfg c n o 1) 31 && 0x7FF < id)

/-- A trigger fires: the request waits for the strobe, or sets LENGTH_FAULT (R536, R538, R559). -/
def canRequest (c : Chip) (n o : Nat) (r : Nat × Nat × List Byte) : Chip :=
  let (len, id, data) := r
  let old := (obj c n o).lenFault
  let c := modObj c n o fun s => { s with asked := some r, lenFault := badRequest c n o len id }
  if badRequest c n o len id then
    if old then c
    else canConds (emit c (canPage n) 0xB5 o (BitVec.ofNat 32 len) (BitVec.ofNat 32 id) 0 c.stroke.count) n
  else
    let fd := fld (objCfg c n o 0) 29 28 == 1
    let full := dlcLength fd len
    let f : CanFrame := ⟨id, bitOf (objCfg c n o 1) 31, fd, fd && bitOf (objCfg c n o 0) 27, false, full,
      data ++ List.replicate (full - data.length) 0⟩
    canConds (modObj c n o fun s => { s with next := some f }) n

/-- One send object at a TF (R535 to R537): SAFE_ACTION where the finish commits safe values, CYCLIC alone where the
process crew does not commit. -/
def finishObj (commits : Bool) (n : Nat) (c : Chip) (o : Nat) : Chip :=
  let trig := fld (objCfg c n o 0) 22 20
  let interval := objTime c n o
  let cyclic := trig.testBit 0 && interval ≠ 0
    && c.stroke.count.toNat % interval == fld (objCfg c n o 4) 15 0
  let again := fun (c : Chip) (zero : Bool) =>
    if !cyclic then c
    else match (obj c n o).done with
      | none => c
      | some (len, id, data) => canRequest c n o (len, id, if zero then data.map fun _ => 0 else data)
  if loopsSafe c then
    match fld (objCfg c n o 0) 24 23 with
    | 1 => again c false
    | 2 => again c true
    | _ => c
  else if !commits then again c false
  else
    let req := bitOf (smGet 0 c.latch.words (objBase c n o)) 31
    let (r, c) := latchRequest c n o
    let changed := trig.testBit 1 && (obj c n o).asked ≠ some r
    let c := modObj c n o fun s => { s with done := some r }
    if cyclic || changed || (trig.testBit 2 && req) then canRequest c n o r else c

/-- What the process crew has committed for a send object: later CYCLIC frames carry it (R537). -/
def noteCommit (n : Nat) (c : Chip) (o : Nat) : Chip :=
  let (r, c) := latchRequest c n o
  modObj c n o fun s => { s with done := some r }

/-- No trigger of the controller fires: it is off or restricted, it sleeps (R549), or its page drains. -/
def canMute (c : Chip) (n : Nat) : Bool :=
  !canOn c n || canRestricted c n || (can c n).state == 6 || (hdr c (canPage n)).st != .enabled

/-- Send objects evaluate their triggers at TF (R536, R549, R551); `commits` tells whether the process
crew commits, which every used send object notes (R537). -/
def finishCan (c : Chip) (commits : Bool) : Chip :=
  forN 16 (fun n c =>
    if !canUsed c n then c
    else if !canMute c n then (txObjects c n).foldl (finishObj commits n) c
    else if commits then (txObjects c n).foldl (noteCommit n) c else c) c

/-- At the strobe the requests are raised (R536, R540): a frame not yet started is replaced. -/
def strobeCan (c : Chip) : Chip :=
  forN 16 (fun n c => (txObjects c n).foldl (fun c o =>
    match (obj c n o).next with
    | none => c
    | some f => modObj c n o fun s =>
        { s with next := none, pending := some f, superseded := s.superseded || s.pending.isSome }) c) c

/-! ### Transmission (R539 to R541, R546 to R548) -/

/-- The order of arbitration (R539): the leading eleven bits, base before extended, then the rest. -/
def arbKey (f : CanFrame) : Nat :=
  if f.ide then (f.id / 2 ^ 18) * 2 ^ 19 + 2 ^ 18 + f.id % 2 ^ 18 else f.id * 2 ^ 19

/-- The frame that R539 offers first. -/
def bestPending (c : Chip) (n : Nat) : Option (Nat × CanFrame) :=
  (txObjects c n).foldl (fun (b : Option (Nat × CanFrame)) o =>
    match (obj c n o).pending, b with
    | none, _ => b
    | some f, none => some (o, f)
    | some f, some (q, g) => if arbKey f < arbKey g then some (o, f) else some (q, g)) none

/-- The object whose frame is on the bus. -/
def txObject (c : Chip) (n : Nat) : Option Nat := (txObjects c n).find? fun o => (obj c n o).tx.isSome

/-- The highest-priority pending frame starts on an idle bus (R539), unless the controller is going to sleep (R549). -/
def canTxStart (c : Chip) (n : Nat) : Chip :=
  if !canHears c n || canRestricted c n || (can c n).sleepReq || (txObject c n).isSome then c
  else match bestPending c n with
    | none => c
    | some (o, f) =>
      let f := { f with esi := f.fd && (can c n).state == 3 }
      let c := modCan c n fun k => { k with offered := o }
      modObj c n o fun s => { s with tx := some f, pending := none }

/-- The frame as the model logs it: identifier, flags, length, data. -/
def canBytes (f : CanFrame) : List Byte :=
  beBytes 4 f.id ++ [BitVec.ofNat 8 (packBits [f.ide, f.fd, f.brs, f.esi]), BitVec.ofNat 8 f.len] ++ f.data

/-- An attempt ends without success: the frame waits for another attempt, gives way to a newer request,
or is dropped as FAILED under ONE_SHOT or ID_CLASH (R540, R541, R548). -/
def attemptFails (c : Chip) (n o : Nat) : Chip :=
  let once := bitOf (objCfg c n o 0) 26 || (obj c n o).clash || (hdr c (canPage n)).st == .draining
  modObj c n o fun s =>
    if once then { s with tx := none, failed := true }
    else match s.pending with
      | some _ => { s with tx := none, superseded := true }
      | none => { s with pending := s.tx, tx := none }

/-- A transmission ends (R530, R539 to R541, R546 to R548), with no change of a counter in restricted operation
(R551). `tdcv` is the delay measured in an FD frame. An error other than of the ACK ends a run of ACK errors: they are
no longer consecutive (log entry 79). -/
def canTxEnd (c : Chip) (n : Nat) (r : CanTxResult) (extra tdcv : Nat) : Chip :=
  match txObject c n with
  | none => c
  | some o =>
    let f := (obj c n o).tx
    let fd := (f.map (·.fd)).getD false
    let c := if fd then modCan c n fun k => { k with tdcv := min tdcv 127 } else c
    let counts := fun (g : CanSt → CanSt) (c : Chip) => if canRestricted c n then c else modCan c n g
    let clashRun := fun (g : Nat → Nat) (c : Chip) =>
      if canRestricted c n then c else modObj c n o fun s => { s with clashRun := g s.clashRun }
    let up := fun (c : Chip) (exempt : Bool) =>
      errorState (counts (fun k => { k with tec := k.tec + (if exempt then 0 else 8) + 8 * extra }) c) n
    match r with
    | .ok =>
      let c := send c (.can n) (match f with | some f => canBytes f | none => [])
      let c := clashRun (fun _ => 0) (modObj c n o fun s => { s with
        tx := none, sentSince := true, frames := (s.frames + 1) % 65536 })
      let c := counts (fun k => { k with tec := k.tec - 1 }) c
      let c := modCan c n fun k => { k with txFrames := (k.txFrames + 1) % 65536 }
      errorState (ackClear (setClash c n o false) n) n
    | .ackError exempt =>
      let c := counts (fun k => { k with ackRun := satInc 255 k.ackRun }) c
      up (attemptFails (clashRun (fun _ => 0) c) n o) (exempt && (can c n).state == 3)
    | .fieldBitError => up (attemptFails (clashRun (satInc 3) (ackClear c n)) n o) false
    | .otherError exempt => up (attemptFails (clashRun (fun _ => 0) (ackClear c n)) n o) exempt

/-- Arbitration is lost: CLASH_RUN is unchanged (R541, R548). -/
def arbitrationLoss (c : Chip) (n : Nat) : Chip :=
  match txObject c n with
  | none => c
  | some o => attemptFails c n o

/-- ACK_RUN has reached 16 (R547). -/
def aloneSet (c : Chip) (n : Nat) : Chip := if 16 ≤ (can c n).ackRun && canOn c n then setAlone c n true else c

/-- CLASH_RUN has reached 3: the pending frame is dropped (R548). -/
def idClash (c : Chip) (n o : Nat) : Chip :=
  if !objUsed c n o || !objSends c n o || canRestricted c n || (obj c n o).clashRun < 3 then c
  else setClash (dropPending c n o) n o true

/-- 128 occurrences of 11 recessive bits (R546). -/
def busOffRecovery (c : Chip) (n : Nat) : Chip :=
  if (can c n).state ≠ 5 then c else canTo (modCan c n fun k => { k with tec := 0, recv := 0 }) n 2

/-- Bus integration completes: error-active, or error-passive where the kept counters say so (R550). -/
def canIntegrated (c : Chip) (n : Nat) : Chip :=
  if (can c n).state ≠ 1 then c
  else canTo c n (if 127 < (can c n).tec || 127 < (can c n).recv then 3 else 2)

/-! ### Sleep and wake (R549, R550) -/

/-- The current frame has ended: sleep; pending frames are dropped as FAILED (R549, R559). -/
def canSleepEnter (c : Chip) (n : Nat) : Chip :=
  if !(can c n).sleepReq || (txObject c n).isSome || !canOn c n then c
  else
    let c := (txObjects c n).foldl (fun c o => modObj (dropPending c n o) n o fun s => { s with next := none }) c
    canSleepTo (modCan c n fun k => { k with sleepReq := false, wakeErr := 0 }) n 6 0

/-- A sleeping controller wakes and integrates (R550, R558, R559). -/
def canWakeUp (c : Chip) (n reason id : Nat) : Chip :=
  if (can c n).state ≠ 6 || c.mode.mode = .dormant then c
  else canSleepTo (modCan c n fun k => { k with wakeReason := reason }) n 1 id

/-- The frame is the wake frame (R550). -/
def wakeMatches (c : Chip) (n : Nat) (f : CanFrame) : Bool :=
  let g := cfg c (canPage n) 0x064
  let mask := leBytes 4 (cfg c (canPage n) 0x070).toNat ++ leBytes 4 (cfg c (canPage n) 0x074).toNat
  !f.fd && ((BitVec.ofNat 32 f.id ^^^ cfg c (canPage n) 0x068) &&& cfg c (canPage n) 0x06C) == 0
    && bitOf g 2 == f.ide && f.len == fld g 11 8
    && (f.len == 0 || (List.range 8).any fun i => f.data.getD i 0 &&& mask.getD i 0 != 0)

/-- What a sleeping controller meets on its bus (R550). FD frames are ignored. -/
def canWakeEvent (c : Chip) (n : Nat) (w : CanWakeSource) : Chip :=
  if (can c n).state ≠ 6 || c.mode.mode = .dormant || !canOn c n then c
  else
    let frames := bitOf (cfg c (canPage n) 0x064) 0
    match w with
    | .dominant => if frames then c else canWakeUp c n 1 0
    | .frame f =>
      if !frames || f.fd then c
      else if wakeMatches c n f then canWakeUp c n 2 f.id
      else modCan c n fun k => { k with wakeErr := k.wakeErr - 1 }
    | .erroneous =>
      if !frames then c
      else
        let c := modCan c n fun k => { k with wakeErr := k.wakeErr + 1 }
        if 31 < (can c n).wakeErr then canWakeUp c n 3 0 else c

/-- CAN_CMD SLEEP is refused when the controller is not used or is bus-off (R549). -/
def sleepRefused (c : Chip) (n : Nat) : Bool := !canUsed c n || (can c n).state == 4 || (can c n).state == 5
/-- CAN_CMD RECOVER is refused unless bus-off with BUSOFF_AUTO clear (R555). -/
def recoverRefused (c : Chip) (n : Nat) : Bool := (can c n).state != 4 || busOffAuto c n
def canSleep (c : Chip) (n : Nat) : Chip := modCan c n fun k => { k with sleepReq := true }
def canRecover (c : Chip) (n : Nat) : Chip := canTo c n 5

/-- DRAINING drops the pending frames (R71, R554). -/
def canDrain (c : Chip) (n : Nat) : Chip :=
  (txObjects c n).foldl (fun c o => modObj (dropPending c n o) n o fun s => { s with next := none }) c

/-- Frames waiting or on the bus: the work in flight of a controller. -/
def canInFlight (c : Chip) (n : Nat) : Nat := if (txObject c n).isSome then 1 else 0

/-! ### Registers and configuration -/

/-- TRIPLE_EFF (R531): the quantum is NBRP × 12.5 ns. -/
def tripleEff (w : Word) : Bool :=
  let q := (fld w 30 23 + 1) * 125
  let t1 := fld w 22 15 + 1
  let t2 := fld w 14 8 + 1
  bitOf w 31 && 80000 ≤ q * (1 + t1 + t2) && 15000 ≤ q * (1 + t1)

/-- A write of NBT is refused with CONDITION (R529). -/
def nbtBad (w : Word) : Bool :=
  let n := 1 + (fld w 22 15 + 1) + (fld w 14 8 + 1)
  let t := n * (fld w 30 23 + 1) * 125
  n < 8 || t < 10000 || 1000000 < t || fld w 14 8 < fld w 6 0

/-- A write of DBT is refused with CONDITION (R529). -/
def dbtBad (w : Word) : Bool :=
  let n := 1 + (fld w 15 11 + 1) + (fld w 10 7 + 1)
  n < 5 || n * (fld w 20 16 + 1) * 125 < 1250 || fld w 10 7 < fld w 3 0

/-- Nominal and data bit times in tenths of a ns. -/
def nominalBit (w : Word) : Nat := (3 + fld w 22 15 + fld w 14 8) * (fld w 30 23 + 1) * 125
def dataBit (w : Word) : Nat := (3 + fld w 15 11 + fld w 10 7) * (fld w 20 16 + 1) * 125

/-- Reads of the read-only registers of a controller page (R555 to R557). -/
def readCan (c : Chip) (n off sel : Nat) : Word :=
  let k := can c n
  if off = 0x048 then pack [(k.state, 31, 29), (b2n (canOn c n && canRestricted c n), 28, 28),
    (b2n k.alone, 27, 27), (b2n (tripleEff (cfg c (canPage n) 0x04C)), 26, 26), (k.wakeReason, 25, 24),
    (k.ackRun, 23, 16), (min k.tec 255, 15, 8), (min k.recv 255, 7, 0)]
  else if off = 0x078 then
    pack [(k.busOffs, 31, 24), (k.rxOverflow, 23, 16), (k.unmatched, 15, 8), (k.alones, 7, 0)]
  else if off = 0x07C then pack [(k.rxFrames, 31, 16), (k.txFrames, 15, 0)]
  else if off = 0x098 then
    let s := obj c n sel
    pack [(b2n (s.pending.isSome || s.tx.isSome), 31, 31), (b2n s.tx.isSome, 30, 30), (b2n s.clash, 29, 29),
      (b2n s.lenFault, 28, 28), (if canRestricted c n then 0 else s.clashRun, 27, 26), (s.frames, 15, 0)]
  else BitVec.ofNat 32 (packBits ((List.range 32).map fun b =>
    let s := obj c n ((off - 0x0A0) / 4 * 32 + b)
    s.clash || s.lenFault))

/-- R553: the CAN configuration is inconsistent. -/
def canBad (c : Chip) (procWord anyWord : Nat → Bool) : Bool :=
  (List.range 16).any fun n =>
    canUsed c n &&
    (let span := fun o => (List.range (2 + (objMax c n o + 3) / 4)).map (objBase c n o + ·)
     let g := cfg c (canPage n) 0x058
     let outOf := fun (ws : List Nat) => ws.any fun w => anyWord w || 0x3FFF < w
     nominalBit (cfg c (canPage n) 0x04C) < dataBit (cfg c (canPage n) 0x050)
     || (dataBit (cfg c (canPage n) 0x050) < 10000 && !bitOf (cfg c (canPage n) 0x054) 15)
     || (bitOf g 31 && fld g 15 0 ≠ 0xFFFF
          && outOf ((List.range (1 + 16 * fld g 21 16)).map (fld g 15 0 + ·)))
     || (rxObjects c n).any (fun o => outOf (span o)
          || fld (objCfg c n o 0) 22 20 ≠ 0 || bitOf (objCfg c n o 0) 26 || bitOf (objCfg c n o 0) 25)
     || (txObjects c n).any (fun o => (span o).any (fun w => !procWord w || 0x3FFF < w)
          || (fld (objCfg c n o 4) 31 16 ≠ 0xFFFF && outOf [fld (objCfg c n o 4) 31 16])
          || fld (objCfg c n o 0) 29 28 = 2
          || (bitOf (objCfg c n o 0) 20 && objTime c n o ≤ fld (objCfg c n o 4) 15 0)))

end Sys2Proof.Machine
end

