-- ==== Sys2Proof/Machine/Serial.lean ====
section
/-!
DEFINITION. The serial ports, page 0x75 (R590 to R596, R601, R602): Modbus RTU masters and NMEA 0183
listeners.
-/
namespace Sys2Proof.Machine

def serPort (c : Chip) (p : Nat) : SerPort := smGet SerPort.reset c.serial p
def modSer (c : Chip) (p : Nat) (f : SerPort → SerPort) : Chip :=
  { c with serial := smMod SerPort.reset c.serial p f }
def serEnt (c : Chip) (p e : Nat) : SerEnt := smGet SerEnt.reset (serPort c p).ents e
def modEnt (c : Chip) (p e : Nat) (f : SerEnt → SerEnt) : Chip :=
  modSer c p fun s => { s with ents := smMod SerEnt.reset s.ents e f }

/-- SP_CFGp, and word `k` of entry `e` of port `p` (R601). -/
def spCfg (c : Chip) (p : Nat) : Word := cfg c 0x75 (0x100 + 16 * p)
def spMode (c : Chip) (p : Nat) : Nat := fld (spCfg c p) 31 30
def spEnt (c : Chip) (p e k : Nat) : Word := cfgW c 0x75 (16 * p + e) (0x044 + 4 * k)
def entUsed (c : Chip) (p e : Nat) : Bool := spMode c p ≠ 0 && bitOf (spEnt c p e 0) 31
def entFn (c : Chip) (p e : Nat) : Nat := fld (spEnt c p e 0) 15 8
def entCount (c : Chip) (p e : Nat) : Nat := fld (spEnt c p e 0) 24 16
def entBase (c : Chip) (p e : Nat) : Nat := fld (spEnt c p e 2) 31 16
def entStat (c : Chip) (p e : Nat) : Nat := fld (spEnt c p e 2) 15 0
def entWrites (c : Chip) (p e : Nat) : Bool := spMode c p == 1 && (entFn c p e == 6 || entFn c p e == 16)

/-- Image words of an entry's data (R592, R593). -/
def entWords (c : Chip) (p e : Nat) : Nat :=
  if spMode c p = 2 then 20
  else if entFn c p e ≤ 2 then (entCount c p e + 31) / 32 else entCount c p e

/-- The entry runs in this mode (R595). -/
def entRuns (c : Chip) (p e : Nat) : Bool :=
  working c 0x75 && entUsed c p e && (match c.mode.mode with
    | .run | .hold => true
    | .config | .stop | .safeHalt => !entWrites c p e
    | _ => false)

/-- CRC-16 of Modbus RTU: polynomial 0xA001 reflected, preset to all ones. -/
def crc16 (bs : List Byte) : Nat :=
  (bs.foldl (fun (r : BitVec 16) b =>
    (List.range 8).foldl (fun r _ => if r.getLsbD 0 then (r >>> 1) ^^^ 0xA001#16 else r >>> 1)
      (r ^^^ b.setWidth 16)) 0xFFFF#16).toNat

/-- The status word of an entry (R594). -/
def entWord (s : SerEnt) : Word :=
  pack [(b2n s.valid, 31, 31), (b2n s.new, 30, 30), (b2n s.timeout, 29, 29), (b2n s.bad, 28, 28),
    (b2n s.exc, 27, 27), (b2n s.noChk, 26, 26), (s.code, 23, 16), (s.good, 15, 0)]

/-- STALE (R602). -/
def serConds (c : Chip) : Chip :=
  setCond c 0x75 3 ((List.range 6).any fun p => (List.range 16).any fun e =>
    entUsed c p e && entStat c p e != 0xFFFF && !(serEnt c p e).valid)

/-- An entry's state is set; a change of VALID is recorded, at most once per entry per 100 strokes
(R602). -/
def entTo (c : Chip) (p e why : Nat) (f : SerEnt → SerEnt) : Chip :=
  let old := (serEnt c p e).valid
  let c := serConds (modEnt c p e f)
  let s := serEnt c p e
  if s.valid == old then c
  else
    let (due, c) := rateAllow c (rateKey 0x75 0xE0 (16 * p + e)) 100
    match due with
    | some _ => emit c 0x75 0xE0 (16 * p + e) (b2w s.valid) (BitVec.ofNat 32 why) (entWord s) c.stroke.count
    | none => c

/-! ### Modbus (R591, R592) -/

/-- Due flags set at T0, and listeners age (R591, R594). -/
def tickSerial (c : Chip) : Chip :=
  forN 6 (fun p c => forN 16 (fun e c =>
    if !entUsed c p e then c
    else if spMode c p = 1 then
      let k := fld (spEnt c p e 1) 15 0
      if k ≠ 0 && c.stroke.count.toNat % k = 0 then modEnt c p e fun s => { s with due := true } else c
    else
      let s := serEnt c p e
      let c := modEnt c p e fun s => { s with age := s.age + 1 }
      if s.valid && fld (spEnt c p e 0) 30 16 ≤ s.age + 1 then
        entTo c p e 1 fun s => { s with valid := false }
      else c) c) c

/-- At TF an idle port chooses its lowest due entry (R591). Where the watchdog has tripped, no write entry starts: it
would carry program values (R113, R595). -/
def finishSerial (c : Chip) : Chip :=
  forN 6 (fun p c =>
    let c := modSer c p fun s => { s with starting := none }
    if spMode c p ≠ 1 || (serPort c p).busy.isSome || !drives c || (hdr c 0x75).st ≠ .enabled then c
    else match (List.range 16).find? fun e => (serEnt c p e).due && entRuns c p e
        && !(c.stroke.haltAtStrobe && entWrites c p e) with
      | none => c
      | some e => modSer (modEnt c p e fun s => { s with due := false }) p fun s => { s with starting := some e }) c

/-- The request of an entry (R591, R592), with its CRC-16. The low byte of the CRC goes first, as Modbus RTU has it
(PRESUMED, log entry 76): chapter 15 gives no format table, and R6 alone would put the high byte first. -/
def modbusRequest (c : Chip) (p e : Nat) : List Byte :=
  let fn := entFn c p e
  let head := [BitVec.ofNat 8 (fld (spEnt c p e 0) 7 0), BitVec.ofNat 8 fn]
    ++ beBytes 2 (fld (spEnt c p e 1) 31 16)
  let value := fun i => fld (smGet 0 c.latch.words (entBase c p e + i)) 15 0
  let body := match fn with
    | 6 => beBytes 2 (value 0)
    | 16 => beBytes 2 (entCount c p e) ++ [BitVec.ofNat 8 (2 * entCount c p e)]
        ++ (List.range (entCount c p e)).flatMap fun i => beBytes 2 (value i)
    | _ => beBytes 2 (entCount c p e)
  head ++ body ++ leBytes 2 (crc16 (head ++ body))

/-- The chosen entries start transmission at TF + 30 µs (R591), unless the seat has gone meanwhile (R411) or the entry
does not run in the mode any more (R595). -/
def strobeSerial (c : Chip) : Chip :=
  forN 6 (fun p c =>
    match (serPort c p).starting with
    | none => c
    | some e =>
      if !(drives c && entRuns c p e) then modSer c p fun s => { s with starting := none }
      else send (modSer c p fun s => { s with starting := none, busy := some e }) (.serial p) (modbusRequest c p e)) c

/-- The length of a good reply (R591). -/
def replyLength (c : Chip) (p e : Nat) : Nat :=
  match entFn c p e with
  | 1 | 2 => 5 + (entCount c p e + 7) / 8
  | 3 | 4 => 5 + 2 * entCount c p e
  | _ => 8

/-- The image words of a good reply of a read entry (R592). -/
def replyWords (c : Chip) (p e : Nat) (bs : List Byte) : List Word :=
  let data := bs.drop 3
  if entFn c p e ≤ 2 then
    let n := entCount c p e
    let v := leVal (data.take ((n + 7) / 8)) % 2 ^ n
    (List.range ((n + 31) / 32)).map fun i => BitVec.ofNat 32 (v / 2 ^ (32 * i))
  else (List.range (entCount c p e)).map fun i => BitVec.ofNat 32 (beAt data (2 * i) 2)

/-- The checks on a good reply: slave, function, length and CRC-16, and what a write echoes (R591). -/
def replyGood (c : Chip) (p e : Nat) (bs : List Byte) : Bool :=
  let n := bs.length
  bs.getD 0 0 == BitVec.ofNat 8 (fld (spEnt c p e 0) 7 0) && bs.getD 1 0 == BitVec.ofNat 8 (entFn c p e)
    && n == replyLength c p e && leAt bs (n - 2) 2 == crc16 (bs.take (n - 2))
    && (entWrites c p e || beAt bs 2 1 + 5 == n)

/-- The reply is an EXCEPTION (R591). -/
def replyException (c : Chip) (p e : Nat) (bs : List Byte) : Bool :=
  bs.length == 5 && bs.getD 0 0 == BitVec.ofNat 8 (fld (spEnt c p e 0) 7 0)
    && beAt bs 1 1 == entFn c p e + 128 && leAt bs 3 2 == crc16 (bs.take 3)

/-- A reply ends and is checked (R591, R594, R602). -/
def modbusReply (c : Chip) (p : Nat) (bs : List Byte) : Chip :=
  match (serPort c p).busy with
  | none => c
  | some e =>
    let c := modSer c p fun s => { s with busy := none }
    if replyGood c p e bs then
      let ws := if entWrites c p e then [] else replyWords c p e bs
      entTo c p e 0 fun s => { s with
        valid := true, new := true, timeout := false, bad := false, exc := false
        good := (s.good + 1) % 65536, words := if entWrites c p e then s.words else ws }
    else if replyException c p e bs then
      let c := raise (modSer c p fun s => { s with exceptions := satInc 255 s.exceptions }) 0x75 2
      entTo c p e 3 fun s => { s with
        valid := false, timeout := false, bad := false, exc := true, code := beAt bs 2 1 }
    else
      let c := raise (modSer c p fun s => { s with bad := satInc 255 s.bad }) 0x75 1
      entTo c p e 2 fun s => { s with valid := false, timeout := false, bad := true, exc := false }

/-- No reply within RESP_TIMEOUT (R591). -/
def modbusTimeout (c : Chip) (p : Nat) : Chip :=
  match (serPort c p).busy with
  | none => c
  | some e =>
    let c := modSer c p fun s => { s with busy := none, timeouts := satInc 255 s.timeouts }
    entTo (raise c 0x75 0) p e 1 fun s => { s with
      valid := false, timeout := true, bad := false, exc := false }

/-! ### NMEA 0183 (R593) -/

/-- The hexadecimal digit a character spells. -/
def hexDigit (b : Byte) : Option Nat :=
  let n := b.toNat
  if 48 ≤ n && n ≤ 57 then some (n - 48)
  else if 65 ≤ n && n ≤ 70 then some (n - 55)
  else if 97 ≤ n && n ≤ 102 then some (n - 87)
  else none

/-- The checksum of a sentence body: none where it carries none, else whether it is right. -/
def nmeaCheck (body : List Byte) : Option Bool :=
  let data := body.takeWhile (· != 42)
  let tail := body.drop data.length
  match tail with
  | [] => none
  | _ :: a :: b :: [] =>
    match hexDigit a, hexDigit b with
    | some x, some y => some (data.foldl (fun r b => r ^^^ b) 0#8 == BitVec.ofNat 8 (16 * x + y))
    | _, _ => some false
  | _ => some false

/-- Entry `e`'s five address characters match (R593). -/
def nmeaMatch (c : Chip) (p e : Nat) (body : List Byte) : Bool :=
  let chars := beBytes 4 (spEnt c p e 1).toNat ++ [BitVec.ofNat 8 (fld (spEnt c p e 0) 7 0)]
  (List.range 5).all fun i =>
    let w := chars.getD i 0
    w == 0 || (decide (i < body.length) && body.getD i 0 == w)

/-- Listeners listen in this mode: also on a module that does not hold the seat (R595). -/
def listens : Mode → Bool
  | .config | .stop | .run | .hold | .safeHalt | .standby | .takeover => true
  | .reset | .boot | .unaddressed | .activate | .dormant => false

/-- An NMEA sentence, from its "$" or "!" to CR LF (R593). -/
def nmeaSentence (c : Chip) (p : Nat) (bs : List Byte) : Chip :=
  let first := bs.getD 0 0
  if 6 ≤ p || !listens c.mode.mode || spMode c p ≠ 2 || (first ≠ 36 && first ≠ 33) || !working c 0x75 then c
  else
    let body := (bs.drop 1).takeWhile (· != 13)
    let taker := (List.range 16).find? fun e => entUsed c p e && nmeaMatch c p e body
    let chk := nmeaCheck body
    if 82 < bs.length || chk = some false then
      let c := raise (modSer c p fun s => { s with bad := satInc 255 s.bad }) 0x75 1
      match taker with
      | some e => modEnt c p e fun s => { s with bad := true }
      | none => c
    else match taker with
      | none => modSer c p fun s => { s with unmatched := satInc 255 s.unmatched }
      | some e =>
        let text := first :: body
        entTo c p e 0 fun s => { s with
          valid := true, new := true, bad := false, noChk := chk.isNone, good := (s.good + 1) % 65536, age := 0
          words := (List.range 20).map fun i => BitVec.ofNat 32 (leAt text (4 * i) 4) }

/-! ### Catch, registers and configuration -/

/-- Image words of the serial entries at a catch (R592 to R594), for the process crew. -/
def serialWords (c : Chip) : List (Nat × Word) :=
  if !working c 0x75 then []
  else (List.range 6).flatMap fun p => (List.range 16).flatMap fun e =>
    if !entUsed c p e then []
    else
      (if entWrites c p e then [] else (serEnt c p e).words.zipIdx.map fun x => (entBase c p e + x.2, x.1))
      ++ (if entStat c p e = 0xFFFF then [] else [(entStat c p e, entWord (serEnt c p e))])

/-- The addresses that the serial entries may write at a catch, whatever they have taken (R579, R592, R593). -/
def serialSpan (c : Chip) : List Nat :=
  (List.range 6).flatMap fun p => (List.range 16).flatMap fun e =>
    if !entUsed c p e then []
    else
      (if entWrites c p e then [] else (List.range (entWords c p e)).map (entBase c p e + ·))
      ++ (if entStat c p e = 0xFFFF then [] else [entStat c p e])

/-- NEW covers one catch (R594). -/
def catchSerial (c : Chip) : Chip :=
  forN 6 (fun p c => forN 16 (fun e c =>
    if (serEnt c p e).new then modEnt c p e fun s => { s with new := false } else c) c) c

/-- Reads of SP_STATp and SP_COUNTp (R601). -/
def readSerial (c : Chip) (off : Nat) : Word :=
  let s := serPort c ((off - 0x100) / 16)
  if off % 16 = 4 then pack [(b2n s.busy.isSome, 31, 31), (s.busy.getD 255, 23, 16)]
  else pack [(s.timeouts, 31, 24), (s.bad, 23, 16), (s.exceptions, 15, 8), (s.unmatched, 7, 0)]

/-- R596: the serial configuration is inconsistent. -/
def serialBad (c : Chip) (procWord anyWord : Nat → Bool) : Bool :=
  (List.range 6).any fun p => (List.range 16).any fun e =>
    entUsed c p e &&
      (let ws := (List.range (entWords c p e)).map (entBase c p e + ·)
       (if entWrites c p e then ws.any (fun w => !procWord w)
        else ws.any (fun w => anyWord w || 0x3FFF < w))
       || (entStat c p e ≠ 0xFFFF && (anyWord (entStat c p e) || 0x3FFF < entStat c p e)))

end Sys2Proof.Machine
end

