-- ==== Sys2Proof/Machine/PlantNet.lean ====
section
/-!
DEFINITION. The plant networks, pages 0x70 and 0x71 (R563 to R568, R597, R598): links, supervision, PTP
ports, discarded datagrams, and the ARP and ICMP answers of every Ethernet port.
-/
namespace Sys2Proof.Machine

/-- LAN port `q` of network `net` (0 A, 1 B). -/
def lan (c : Chip) (net q : Nat) : LanPort := smGet LanPort.reset c.lans (2 * net + q)
def modLan (c : Chip) (net q : Nat) (f : LanPort → LanPort) : Chip :=
  { c with lans := smMod LanPort.reset c.lans (2 * net + q) f }
def netPage (net : Nat) : Nat := 0x70 + net
def ptpEn (c : Chip) (net : Nat) : Bool := bitOf (cfg c (netPage net) 0x040) 0

/-- A LAN port counts as SLAVE while its network takes part in PTP (R568). -/
def isSlave (c : Chip) (net q : Nat) : Bool := ptpEn c net && (lan c net q).state == 9

/-- The port whose master ranks best among those in SLAVE, ties in the order A0, A1, B0, B1 (R568). -/
def ptpBest (c : Chip) (ports : List (Nat × Nat)) : Option (Nat × Nat) :=
  ports.foldl (fun (b : Option (Nat × Nat)) x =>
    if !isSlave c x.1 x.2 then b
    else match b with
      | none => some x
      | some y => if (lan c x.1 x.2).rank < (lan c y.1 y.2).rank then some x else b) none

/-- The module's reference port (R568). -/
def ptpSelected (c : Chip) : Option (Nat × Nat) := ptpBest c [(0, 0), (0, 1), (1, 0), (1, 1)]

/-- PN_STAT (R597). -/
def pnStat (c : Chip) (net : Nat) : Word :=
  let a := lan c net 0
  let b := lan c net 1
  let sel := match ptpSelected c with
    | some (n, q) => if n = net then q + 1 else 0
    | none => 0
  pack [(packBits [a.up, b.up], 31, 30), (packBits [a.supervised, b.supervised], 29, 28),
    (b.state, 23, 20), (a.state, 19, 16), (sel, 1, 0)]

/-- PN_PTP and PN_GM come from the better SLAVE port of the network (R597). -/
def pnBest (c : Chip) (net : Nat) : Option LanPort :=
  (ptpBest c [(net, 0), (net, 1)]).map fun x => lan c x.1 x.2

/-- The conditions of a plant page that works (R598). -/
def netConds (c : Chip) (net : Nat) : Chip :=
  let p := netPage net
  let on := working c p
  let a := lan c net 0
  let b := lan c net 1
  let c := setCond c p 0 (on && !(a.up && b.up))
  let c := setCond c p 1 (on && !(a.supervised && b.supervised))
  setCond c p 2 (on && ptpEn c net && !(isSlave c net 0 || isSlave c net 1))

/-- In RESET the PHYs are off and every link is down (R615). -/
def physOff (c : Chip) : Bool := c.mode.mode == .reset

/-- A plant port's link goes up or down (R598); in RESET it cannot come up (R615). -/
def lanState (c : Chip) (net q : Nat) (up : Bool) : Chip :=
  if 2 ≤ net || 2 ≤ q || physOff c || (lan c net q).up == up then c
  else
    let c := modLan c net q fun l => { l with up := up }
    netConds (emit c (netPage net) 0xD0 q (b2w up) (pnStat c net) 0 c.stroke.count) net

/-- A supervision frame arrives on a LAN; the module's own do not count (R597), and none arrives in RESET (R615). -/
def supervisionReceive (c : Chip) (net q : Nat) (own : Bool) : Chip :=
  if 2 ≤ net || 2 ≤ q || own || physOff c then c
  else netConds (modLan c net q fun l => { l with supervised := true }) net

/-- No supervision frame from another node for 6 s (R597). -/
def supervisionMissing (c : Chip) (net q : Nat) : Chip :=
  if 2 ≤ net || 2 ≤ q then c
  else netConds (modLan c net q fun l => { l with supervised := false }) net

/-- The module serves its networks from CONFIG or UNADDRESSED on, but not in ACTIVATE (R563). -/
def netServes (c : Chip) (net : Nat) : Bool :=
  enabled c (netPage net)
    && (match c.mode.mode with | .reset | .boot | .unaddressed | .activate => false | _ => true)

/-- The module's supervision frames, on both LANs of both networks (R565). -/
def sendSupervision (c : Chip) : Chip :=
  forN 2 (fun net c =>
    if netServes c net then
      forN 2 (fun q c => send c (.prp net q) (Config.supervisionFrame net q)) c
    else c) c

/-- A port's state machine moves, with its record (R567, R598). -/
def ptpTo (c : Chip) (net q st : Nat) : Chip :=
  let old := (lan c net q).state
  let c := modLan c net q fun l => { l with state := st }
  let c := if old = st then c
    else emit c (netPage net) 0xD1 q (BitVec.ofNat 32 old) (BitVec.ofNat 32 st)
      (wOfInt ((pnBest c net).map (·.offset) |>.getD 0)) c.stroke.count
  netConds c net

/-- A port that follows a master, in UNCALIBRATED, 8, or SLAVE, 9, measures the path to it: it sends a delay request
(the default delay request-response profile of R567). When the requests go is the standard's: the model sends one after
each message that leaves the port so (PRESUMED, log entry 106). -/
def delayRequest (c : Chip) (net q : Nat) : Chip :=
  if 8 ≤ (lan c net q).state then send c (.ptp net q) (Config.delayRequest net q c.fresh) else c

/-- A PTP message of the network's domain, PN_CFG.PTP_DOMAIN, leaves its port in `st`, with the offset, grandmaster
and rank that IEEE 1588-2019 gives it; the module never enters PRE_MASTER, MASTER or PASSIVE (R567). A message of
another domain is not the port's (PRESUMED, log entry 106). -/
def ptpMessage (c : Chip) (net q domain st : Nat) (offset : Int) (gm : Word) (rank : Nat) : Chip :=
  if 2 ≤ net || 2 ≤ q || !ptpEn c net || !netServes c net || st = 0 || 9 < st || (5 ≤ st && st ≤ 7)
      || domain ≠ fld (cfg c (netPage net) 0x040) 15 8 then c
  else
    delayRequest (ptpTo (modLan c net q fun l => { l with offset := offset, gm := gm, rank := rank }) net q st) net q

/-- A port stops hearing its master and leaves SLAVE, or UNCALIBRATED on the way there: a slave-only port goes to
LISTENING, 4 (IEEE 1588-2019; PRESUMED, log entry 106). -/
def ptpTimeout (c : Chip) (net q : Nat) : Chip :=
  if 2 ≤ net || 2 ≤ q || !ptpEn c net || (lan c net q).state < 8 then c else ptpTo c net q 4

/-- A datagram is discarded under R564. -/
def discardDatagram (c : Chip) (net : Nat) : Chip :=
  if 2 ≤ net || !netServes c net then c
  else raise { c with badFrames := smMod 0 c.badFrames net (satInc 255) } (netPage net) 3

/-! ### Addresses, ARP and ICMP (R560, R561, R564) -/

/-- H.L of R561. -/
def hostPart (c : Chip) : Nat := 0x1000 + 4 * station c + b2n (sideB c)

/-- The module's address at a port (R560, R561). -/
def moduleIp (c : Chip) : Port → Nat
  | .plantA => fld (cfg c 0x70 0x040) 31 16 * 65536 + hostPart c
  | .plantB => fld (cfg c 0x71 0x040) 31 16 * 65536 + hostPart c
  | .engineering => 0x0AFD0000 + hostPart c
  | .service => 0x0AFE0001
  | .backplane => 0

/-- The port answers in this mode (R563). -/
def portAnswers (c : Chip) (p : Port) : Bool :=
  match c.mode.mode with
  | .reset | .boot | .activate => false
  | .unaddressed => p == .service || p == .backplane
  | _ => match p with
    | .plantA => enabled c 0x70
    | .plantB => enabled c 0x71
    | _ => true

/-- The Internet checksum of a byte string (RFC 1071, which ICMP uses). -/
def inetSum (bs : List Byte) : Nat :=
  let rec go : List Byte → Nat
    | [] => 0
    | [a] => a.toNat * 256
    | a :: b :: r => a.toNat * 256 + b.toNat + go r
  let s := go bs
  let s := s % 65536 + s / 65536
  let s := s % 65536 + s / 65536
  65535 - s

/-- An ARP request for the module's address is answered (R564). -/
def arpRequest (c : Chip) (p : Port) (mac ip target : Nat) : Chip :=
  if !portAnswers c p || p == .backplane || target ≠ moduleIp c p then c
  else send c (.eth p) (beBytes 2 1 ++ beBytes 2 0x0800 ++ [6, 4] ++ beBytes 2 2
    ++ beBytes 6 (Config.macAddress p.code) ++ beBytes 4 target ++ beBytes 6 mac ++ beBytes 4 ip)

/-- An ICMP echo request is answered with its own data (R564). -/
def icmpEcho (c : Chip) (p : Port) (target : Nat) (rest : List Byte) : Chip :=
  if !portAnswers c p || p == .backplane || target ≠ moduleIp c p then c
  else send c (.eth p) ([0, 0] ++ beBytes 2 (inetSum ([0, 0] ++ rest)) ++ rest)

/-- Traffic that no command carries moves ONE_LAN and FCS on: by free numbers of frames, before a read looks (log
entry 63). -/
def countTraffic (c : Chip) (net : Nat) : Chip :=
  forN 2 (fun q c =>
    let (n, c) := freshNat c
    let (m, c) := freshNat c
    modLan c net q fun l => { l with oneLan := (l.oneLan + n) % 65536, fcs := min 255 (l.fcs + m) }) c

/-- PN_COUNT: ONE_LAN wraps, FCS and BAD_FRAME saturate (R597). -/
def pnCount (c : Chip) (net : Nat) : Word :=
  let a := lan c net 0
  let b := lan c net 1
  pack [((a.oneLan + b.oneLan) % 65536, 31, 16), (min 255 (a.fcs + b.fcs), 15, 8), (smGet 0 c.badFrames net, 7, 0)]

/-- Reads of the read-only registers of a plant page (R597). -/
def readNet (c : Chip) (net off : Nat) : Word × Chip :=
  if off = 0x044 then (pnStat c net, c)
  else if off = 0x048 then (wOfInt ((pnBest c net).map (·.offset) |>.getD 0), c)
  else if off = 0x04C then ((pnBest c net).map (·.gm) |>.getD 0, c)
  else
    let c := countTraffic c net
    (pnCount c net, c)

end Sys2Proof.Machine
end

