-- ==== Sys2Proof/Machine/Sessions.lean ====
section
/-!
DEFINITION. Sessions of the Register Access Protocol, page 0x72 (R569 to R574, R581 to R589, R599, R600):
opening and closing, admission and waiting, responses and attention messages, and staging.
-/
namespace Sys2Proof.Machine

/-- The port of a code. -/
def portOf : Nat → Port
  | 0 => .plantA | 1 => .plantB | 2 => .engineering | 3 => .service | _ => .backplane

/-- The class a port gives: 0 S, 1 E, 2 P (R560, R562); the address plug sets the backplane's. -/
def portClass (c : Chip) : Port → Nat
  | .plantA | .plantB => 2
  | .engineering => 1
  | .service => 0
  | .backplane => if bpClassE c then 1 else 2

def session (c : Chip) (s : Nat) : Option Session := smFind c.hosts.sessions s
def modHosts (c : Chip) (f : HostSt → HostSt) : Chip := { c with hosts := f c.hosts }
def modSession (c : Chip) (s : Nat) (f : Session → Session) : Chip :=
  match session c s with
  | some x => modHosts c fun h => { h with sessions := smPut h.sessions s (f x) }
  | none => c

/-- Queue entries of a message (R569). -/
def entriesOf (bs : List Byte) : Nat := (bs.length + 63) / 64

/-- Occupancy of a session's command queue (R572). -/
def occupancy (s : Session) : Nat := (s.queue.map fun w => entriesOf w.bytes).foldl (· + ·) 0

/-- HS_ALLOWs (R599). -/
def allowWord (s : Session) : Word := pack [(s.queueMax, 23, 16), (s.writesMax, 15, 0)]

/-! ### Messages of the module (R569 to R572, R583) -/

/-- A module message: ROLE is the one beacons carry (R388, R569). -/
def rapMessage (c : Chip) (op sess status seq : Nat) (body : List Byte) : List Byte :=
  beBytes 2 0x5241 ++ [1, BitVec.ofNat 8 op, BitVec.ofNat 8 sess, BitVec.ofNat 8 status,
    BitVec.ofNat 8 (if paired c then beaconRole c else 0), 0] ++ beBytes 2 body.length ++ [0, 0]
    ++ beBytes 4 seq ++ beBytes 4 (ownEpoch c).toNat ++ body

/-- A message to a peer: a datagram, where its port answers now (R563), or BAR1's response buffer while it is free
(R583). -/
def deliverTo (c : Chip) (p : Port) (ip udp : Nat) (bs : List Byte) : Chip :=
  match p with
  | .backplane =>
    if c.hosts.bar1 = [] then modHosts c fun h => { h with bar1 := bs }
    else modHosts c fun h => { h with bar1Wait := h.bar1Wait ++ [bs] }
  | p => if portAnswers c p then send c (.host p ip udp) bs else c

/-- BAR1's response buffer is released: the next response moves in (R583). -/
def releaseBar1 (c : Chip) : Chip :=
  match c.hosts.bar1Wait with
  | [] => modHosts c fun h => { h with bar1 := [] }
  | b :: bs => modHosts c fun h => { h with bar1 := b, bar1Wait := bs }

/-- Entries that wait in a session's response queue: BAR1's alone wait (R572, R583). -/
def respWaiting (c : Chip) (s : Session) : Nat :=
  if s.port = 4 then (c.hosts.bar1Wait.map entriesOf).foldl (· + ·) 0 else 0

/-- The response queue has room for a message: network responses leave at once (R572, R583). -/
def hasRoom (c : Chip) (s : Session) (bs : List Byte) : Bool :=
  s.port != 4 || respWaiting c s + entriesOf bs ≤ 64

/-! ### Opening and closing (R581, R582, R584) -/

/-- The defaults of R584: QUEUE_MAX and WRITES_MAX. -/
def defaultAllow : Nat → Nat × Nat
  | 0 => (64, 1024)
  | 1 => (32, 256)
  | _ => (8, 32)

/-- The free session numbers. -/
def freeSessions (c : Chip) : List Nat := (List.range 16).filter fun s => (session c s).isNone

/-- OPEN takes the lowest free session; the last free one is kept for class S (R581). -/
def openSession (c : Chip) (p : Port) (ip udp filter : Nat) : Option Nat × Chip :=
  let cls := portClass c p
  let free := freeSessions c
  match free with
  | [] => (none, c)
  | s :: rest =>
    if rest = [] && cls ≠ 0 then (none, c)
    else
      let (q, w) := defaultAllow cls
      let x : Session := { port := p.code, cls := cls, ip := ip, udp := udp, filter := filter, queueMax := q
                           writesMax := w, writes := 0, refused := 0, queue := [], last := none
                           staging := none, attnDue := false }
      let c := modHosts c fun h => { h with sessions := smPut h.sessions s x }
      let c := raise c 0x72 0
      (some s, emit c 0x72 0xC0 s (BitVec.ofNat 32 cls) (BitVec.ofNat 32 p.code) (BitVec.ofNat 32 ip)
        c.stroke.count)

/-- A session closes for reason 0 CLOSE, 1 HS_CLOSE, 2 timeout, 3 reset or ACTIVATE (R582, R600), and the entries of
both its queues are discarded. Its
reader context of the wake recorder closes with it (R652). -/
def closeSession (c : Chip) (s why : Nat) : Chip :=
  match session c s with
  | none => c
  | some x =>
    let lost := occupancy x + respWaiting c x
    let c := modHosts c fun h => { h with sessions := smDel h.sessions s }
    let c := { c with
      wake := { c.wake with ctxs := smDel c.wake.ctxs s }
      stroke := { c.stroke with
        hiLatch := smDel (smDel (smDel c.stroke.hiLatch s) (s + 32)) (s + 64) } }
    let c := if x.port = 4 then modHosts c fun h => { h with bar1Wait := [] } else c
    emit (raise c 0x72 0) 0x72 0xC1 s (BitVec.ofNat 32 why) (BitVec.ofNat 32 lost)
      (BitVec.ofNat 32 x.ip) c.stroke.count

/-- Every open session closes (R563, R582). -/
def closeAll (c : Chip) (why : Nat) : Chip := forN 16 (fun s c => closeSession c s why) c

/-! ### Admission and waiting (R573, R585, R600) -/

/-- OVER_ALLOWANCE is counted, raised, and recorded at most once per session per 100 strokes. -/
def overAllowance (c : Chip) (s : Nat) : Chip :=
  let c := raise (modSession c s fun x => { x with refused := satInc 255 x.refused }) 0x72 1
  let (due, c) := rateAllow c (rateKey 0x72 0xC2 s) 100
  match due, session c s with
  | some n, some x => emit c 0x72 0xC2 s (BitVec.ofNat 32 (n + 1)) (BitVec.ofNat 32 (occupancy x))
      (allowWord x) c.stroke.count
  | _, _ => c

/-- A message that has waited CMD_TIMEOUT strokes is removed and answered TIMEOUT (R573). -/
def cmdTimeout (c : Chip) (s : Nat) : Chip :=
  match session c s with
  | none => c
  | some x =>
    match x.queue with
    | [] => c
    | w :: ws =>
      if w.strokes < fld (cfg c 0x72 0x040) 15 0 then c
      else
        let c := modSession c s fun x => { x with queue := ws }
        let c := modHosts c fun h => { h with timeouts := satInc 255 h.timeouts }
        deliverTo (raise c 0x72 3) (portOf x.port) x.ip x.udp
          (rapMessage c (beAt w.bytes 3 1) s 0x13 (beAt w.bytes 12 4) [])

/-- One stroke, or 2 ms without strokes, passes for every session: write counts return to 0 (R586) and
waiting messages age (R573). -/
def sessionStroke (c : Chip) : Chip :=
  modHosts c fun h => { h with sessions := h.sessions.map fun e =>
    (e.1, { e.2 with writes := 0, queue := e.2.queue.map fun w => { w with strokes := w.strokes + 1 } }) }

/-- No message from the peer for SESSION_TIMEOUT seconds (R582). -/
def sessionTimeout (c : Chip) (s : Nat) : Chip :=
  if (session c s).isNone then c
  else closeSession (modHosts c fun h => { h with expired := satInc 255 h.expired }) s 2

/-! ### Attention messages (R83, R84, R589) -/

/-- The message a session gets: groups its FILTER does not select read 0. -/
def attnBody (c : Chip) (filter : Nat) : List Byte :=
  let g := fun n => if filter.testBit n then attnGroup c n else 0
  let sum := c.attn.summary &&& BitVec.ofNat 32 (filter % 16)
  beBytes 4 c.attn.seq.toNat ++ beBytes 4 sum.toNat
    ++ (List.range 4).flatMap (fun n => beBytes 4 (g n).toNat)
    ++ beBytes 4 (modeStat c).toNat ++ beBytes 4 c.stroke.count.toNat

/-- The attention check (R83, R84): a message that finds its response queue full is refused (R26) and withheld. One
that is due stays due while FILTER is 0, and leaves at the first check after FILTER selects a group again; the spec
does not say whether it then still is (DESIGN CHOICE, log entry 75). A withheld message counts as refused at each check
where ATTN_SEQ advanced, and not again at a later check that finds no room for one already due (DESIGN CHOICE, log
entry 101). -/
def attnCheck (c : Chip) : Chip :=
  let advanced := c.attn.seq != c.attn.checkedSeq
  let c := { c with attn := { c.attn with checkedSeq := c.attn.seq } }
  forN 16 (fun s c =>
    match session c s with
    | none => c
    | some x =>
      if x.filter = 0 || !(advanced || x.attnDue) then c
      else
        let bs := rapMessage c 0x40 s 0 0 (attnBody c x.filter)
        if hasRoom c x bs then
          deliverTo (modSession c s fun x => { x with attnDue := false }) (portOf x.port) x.ip x.udp bs
        else modSession (if advanced then queueRefused c (16 + s) else c) s fun x => { x with attnDue := true }) c

/-! ### Staging (R588) -/

/-- The largest LENGTH of a kind on a page, where the kind suits the page (R588). -/
def stageLimit (kind page : Nat) : Option Nat :=
  match kind with
  | 1 => if page = 8 || page = 9 then some 12582912 else none
  | 2 => if 0x10 ≤ page && page ≤ 0x17 then some 16420 else none
  | 3 => if page = 0x18 then some 1060 else none
  | 4 => if page = 0x1A || page = 0x1B then some 10276 else none
  | 5 => if page = 0x79 then some 33554432 else none
  | _ => none

/-- The session staging for a page. -/
def stagingFor (c : Chip) (page : Nat) : Option Nat :=
  (List.range 16).find? fun s => match session c s with
    | some x => (x.staging.map fun t => t.page == page).getD false
    | none => false

/-- STAGE_OPEN's STATUS and effect (R588); `busy` tells that the page's load result reads 0xFF. -/
def stageOpen (c : Chip) (s kind page length : Nat) (crc : Word) (busy : Bool) : Nat × Chip :=
  match session c s with
  | none => (0x11, c)
  | some x =>
    if x.cls = 2 then (0x14, c)
    else match stageLimit kind page with
      | none => (0x10, c)
      | some m =>
        if length = 0 || m < length then (0x10, c)
        else if busy || (match stagingFor c page with | some t => t != s | none => false) then (0x15, c)
        else (0, modSession c s fun x => { x with
          staging := some ⟨kind, page, length, crc, [], 0, 0xFFFFFFFF#32⟩ })

/-- STAGE_DATA (R588): UPDATE data go to queue 62, which holds 1,024 entries. -/
def stageData (c : Chip) (s offset : Nat) (data : List Byte) : Nat × Chip :=
  match (session c s).bind (·.staging) with
  | none => (0x16, c)
  | some t =>
    if offset ≠ t.got || t.length < t.got + data.length then (0x16, c)
    else
      let step := fun (d : List Byte) => modSession c s fun x => { x with
        staging := some { t with data := d, got := t.got + data.length, run := crcRun t.run data } }
      if t.kind ≠ 5 then (0, step (t.data ++ data))
      else if 65536 < c.upd.queue.length + data.length then
        (0x15, queueRefused c 62)
      else
        let c := step []
        (0, { c with upd := { c.upd with queue := c.upd.queue ++ data } })

/-- STAGE_CLOSE (R588): a whole object with the right CRC is staged for its page. -/
def stageClose (c : Chip) (s : Nat) : Nat × Option (Nat × Nat × List Byte) × Chip :=
  match (session c s).bind (·.staging) with
  | none => (0x16, none, c)
  | some t =>
    let c := modSession c s fun x => { x with staging := none }
    if t.got = t.length && ~~~t.run = t.crc then (0, some (t.kind, t.page, t.data), c) else (0x17, none, c)

/-! ### Registers of page 0x72 (R599) -/

/-- HS_STAT, HS_COUNT and the read-only session registers. -/
def readHosts (c : Chip) (off : Nat) : Word :=
  if off = 0x044 then
    pack [(if plugRead c then (if bpClassE c then 2 else 1) else 0, 17, 16),
      (packBits ((List.range 16).map fun s => (session c s).isSome), 15, 0)]
  else if off = 0x054 then
    pack [(c.hosts.noFree, 31, 24), (c.hosts.timeouts, 23, 16), (c.hosts.bad, 15, 8), (c.hosts.expired, 7, 0)]
  else match session c ((off - 0x100) / 16) with
    | none => 0
    | some x =>
      match off % 16 / 4 with
      | 0 => if x.port = 4 then 0 else BitVec.ofNat 32 x.ip
      | 1 => pack [(1, 31, 31), (x.cls, 30, 29), (x.port, 28, 26), (x.filter, 19, 16),
          (if x.port = 4 then 0 else x.udp, 15, 0)]
      | 2 => allowWord x
      | _ => pack [(occupancy x, 31, 24), (x.refused, 23, 16), (x.writes, 15, 0)]

/-- The window bits and words as HS_WIN_BITS and HS_WIN_WORDS set them (R577, R599). -/
def inWindow (w : Word) (a : Nat) : Bool := fld w 15 0 ≤ a && a < fld w 15 0 + fld w 31 16

/-- An IMAGE_WRITE item's code, past the allowance check (R577). -/
def imageWriteCode (c : Chip) (kind addr : Nat) (v : Word) : Nat :=
  if kind ≠ 0 && kind ≠ 1 then 0x09
  else if kind = 0 && (!inWindow (cfg c 0x72 0x048) addr || 1 < v.toNat) then 0x09
  else if kind = 1 && !inWindow (cfg c 0x72 0x04C) addr then 0x09
  else match c.mode.mode with
    | .standby | .takeover => 0x0A
    | _ => 0

/-- An accepted item waits for the next catch of the process crew (R578). -/
def imageWriteItem (c : Chip) (kind addr : Nat) (v : Word) : Chip :=
  modHosts c fun h =>
    if kind = 0 then { h with winBits := smPut h.winBits addr (v == 1) }
    else { h with winWords := smPut h.winWords addr v }

end Sys2Proof.Machine
end

