-- ==== Sys2Proof/Machine/Operands.lean ====
section
/-!
DEFINITION. The operand forms of the logic instructions: the instruction word (R133), the operand
classes (R134, R135), effective addresses and their ranges (R136, R137), and the reads and writes of
a core's data memory (R131, R132).
-/
namespace Sys2Proof.Machine

/-- The instruction word of an opcode with its class and operand (R133). -/
def instrWord (opcode : Nat) (o : Opnd) : Word :=
  BitVec.ofNat 32 (opcode * 0x1000000 + o.cls.toNat * 0x400000 + o.val.toNat)

/-- Fault codes of R161 that the operand forms raise. -/
def faultOpcode : Nat := 1
def faultClass : Nat := 2
def faultReserved : Nat := 3
def faultAddress : Nat := 4
def faultTarget : Nat := 5

/-- The bits that must be zero are zero (R134, R135): the whole operand with class 0, the bits
above the field with class 2. -/
def operandClean (immBits : Nat) (o : Opnd) : Bool :=
  if o.cls = 0 then o.val == 0
  else if o.cls = 2 then decide (o.val.toNat < 2 ^ immBits)
  else true

/-- CLASS is listed for the opcode, and no reserved bit is set; the lower fault code wins (R161). -/
def checkForm (classes : List Nat) (immBits : Nat) (o : Opnd) : Except Nat Unit :=
  if !classes.contains o.cls.toNat then .error faultClass
  else if !operandClean immBits o then .error faultReserved
  else .ok ()

/-- The effective address: the operand, or with class 3 the operand plus the index register as a
signed 32-bit sum (R136); outside `0 … limit − 1` it faults (R137). -/
def effAddr (limit : Nat) (index : Word) (o : Opnd) : Except Nat Nat :=
  let a : Int := if o.cls = 3 then (o.val.setWidth 32 + index).toInt else (o.val.toNat : Int)
  if 0 ≤ a ∧ a < (limit : Int) then .ok a.toNat else .error faultAddress

/-- The bit spaces end at 0x1_FFFF, the word spaces at 0x03_7FFF (R137). -/
def bitLimit : Nat := 0x20000
def wordLimit : Nat := 0x38000

/-- A bit address: the Boolean image, then the markers (R131). -/
def readBit (m : CrewMem) (a : Nat) : Bool :=
  if a < 0x10000 then smGet false m.img.bits a else smGet false m.markers (a - 0x10000)

/-- Write a bit address. -/
def writeBit (m : CrewMem) (a : Nat) (b : Bool) : CrewMem :=
  if a < 0x10000 then { m with img := { m.img with bits := smSet false m.img.bits a b } }
  else { m with markers := smSet false m.markers (a - 0x10000) b }

/-- A word address: the word image, then the private words (R131). -/
def readWord (m : CrewMem) (a : Nat) : Word :=
  if a < 0x4000 then smGet 0 m.img.words a else smGet 0 m.priv a

/-- Write a word address. -/
def writeWord (m : CrewMem) (a : Nat) (w : Word) : CrewMem :=
  if a < 0x4000 then { m with img := { m.img with words := smSet 0 m.img.words a w } }
  else { m with priv := smSet 0 m.priv a w }

/-- The constant of LDW and LDWB: 22 bits, sign-extended (R135). -/
def immSigned (o : Opnd) : Word := o.val.signExtend 32

/-- The word operand of a load, or its constant (R148). -/
def loadOperand (s : CoreSt) (o : Opnd) : Except Nat Word :=
  if o.cls = 2 then .ok (immSigned o)
  else (effAddr wordLimit s.wa o).map (readWord s.mem)

/-- One more clock with class 3 (R140, R148). -/
def indexClock (o : Opnd) : Nat := if o.cls = 3 then 1 else 0

end Sys2Proof.Machine
end

