-- ==== Sys2Proof/Machine/Layout.lean ====
section
/-!
DEFINITION. The lines of a checkpoint (R5, R131, R401, R404): where a core's data SRAM holds its cells, and the 256
bytes of each line, both ways. Within a region that belongs to the G1 the order is the model's (log entry 10).
-/
namespace Sys2Proof.Machine

/-! ### Lines of a core's data memory (R131) -/

/-- Byte `i` of a space of bits: bit a in bit a mod 8 of byte a ÷ 8 (R5). -/
def bitByte (m : SMap Bool) (i : Nat) : Byte :=
  BitVec.ofNat 8 (packBits ((List.range 8).map fun b => smGet false m (8 * i + b)))

/-- Line `j` of a space of bits, and the bits that a line's bytes bring. -/
def bitLine (m : SMap Bool) (j : Nat) : List Byte := (List.range 256).map fun i => bitByte m (256 * j + i)
def takeBits (m : SMap Bool) (j : Nat) (bs : List Byte) : SMap Bool :=
  smWrites false m ((List.range 2048).map fun b => (2048 * j + b, ((bs[b / 8]?).getD 0).getLsbD (b % 8)))

/-- The 64 words of a line from index `first`, least significant byte first (R5), and back. -/
def wordLine (m : SMap Word) (first : Nat) : List Byte :=
  (List.range 64).flatMap fun w => leBytes 4 (smGet 0 m (first + w)).toNat
def takeWords (m : SMap Word) (first : Nat) (bs : List Byte) : SMap Word :=
  smWrites 0 m ((List.range 64).map fun w => (first + w, BitVec.ofNat 32 (leAt bs (4 * w) 4)))

/-- A timer record's 16 bytes: start time, PT, and IN, Q, DONE and running in bits 0 to 3. -/
def timerBytes (t : Timer) : List Byte :=
  leBytes 4 t.start.toNat ++ leBytes 4 t.pt.toNat
    ++ leBytes 8 (b2n t.inp + 2 * b2n t.q + 4 * b2n t.done + 8 * b2n t.running)
def timerOf (bs : List Byte) : Timer :=
  let f := leAt bs 8 1
  ⟨f % 2 == 1, BitVec.ofNat 32 (leAt bs 0 4), f / 2 % 2 == 1, f / 4 % 2 == 1, BitVec.ofNat 32 (leAt bs 4 4),
    f / 8 % 2 == 1⟩

/-- A counter record's 8 bytes: CV, and UP and DN in bits 0 and 1. -/
def counterBytes (t : Counter) : List Byte := leBytes 4 t.cv.toNat ++ leBytes 4 (b2n t.up + 2 * b2n t.dn)
def counterOf (bs : List Byte) : Counter :=
  ⟨BitVec.ofNat 32 (leAt bs 0 4), leAt bs 4 1 % 2 == 1, leAt bs 4 1 / 2 % 2 == 1⟩

/-- First line of each space of R131, in the order of its table; the last 32 lines are reserved. -/
def markerLine : Nat := 32
def imgWordLine : Nat := 64
def privLine : Nat := 320
def edgeLine : Nat := 3648
def timerLine : Nat := 3680
def counterLine : Nat := 3936
def spareLine : Nat := 4064

/-- Line `l` (0 to 4,095) of a core's data memory: 256 bytes. -/
def memLine (l : Nat) (m : CrewMem) : List Byte :=
  if l < markerLine then bitLine m.img.bits l
  else if l < imgWordLine then bitLine m.markers (l - markerLine)
  else if l < privLine then wordLine m.img.words (64 * (l - imgWordLine))
  else if l < edgeLine then wordLine m.priv (0x4000 + 64 * (l - privLine))
  else if l < timerLine then bitLine m.edges (l - edgeLine)
  else if l < counterLine then (List.range 16).flatMap fun i =>
    timerBytes (smGet Timer.reset m.timers (16 * (l - timerLine) + i))
  else if l < spareLine then (List.range 32).flatMap fun i =>
    counterBytes (smGet Counter.reset m.counters (32 * (l - counterLine) + i))
  else List.replicate 256 0

/-- A core's data memory takes the bytes of line `l`. -/
def takeMemLine (l : Nat) (bs : List Byte) (m : CrewMem) : CrewMem :=
  if l < markerLine then { m with img := { m.img with bits := takeBits m.img.bits l bs } }
  else if l < imgWordLine then { m with markers := takeBits m.markers (l - markerLine) bs }
  else if l < privLine then { m with img := { m.img with
    words := takeWords m.img.words (64 * (l - imgWordLine)) bs } }
  else if l < edgeLine then { m with priv := takeWords m.priv (0x4000 + 64 * (l - privLine)) bs }
  else if l < timerLine then { m with edges := takeBits m.edges (l - edgeLine) bs }
  else if l < counterLine then { m with timers := smWrites Timer.reset m.timers ((List.range 16).map fun i =>
    (16 * (l - timerLine) + i, timerOf (slice bs (16 * i) 16))) }
  else if l < spareLine then { m with counters := smWrites Counter.reset m.counters ((List.range 32).map fun i =>
    (32 * (l - counterLine) + i, counterOf (slice bs (8 * i) 8))) }
  else m

/-- A data-memory cell as an instruction writes it: a bit address (space 0), a word address (1), an edge (2), a
timer record (3) or a counter record (4). Its byte offset in the core's data SRAM. -/
def cellOffset (cell : Nat × Nat) : Nat :=
  match cell.1 with
  | 0 => cell.2 / 8
  | 1 => if cell.2 < 0x4000 then 256 * imgWordLine + 4 * cell.2 else 256 * privLine + 4 * (cell.2 - 0x4000)
  | 2 => 256 * edgeLine + cell.2 / 8
  | 3 => 256 * timerLine + 16 * cell.2
  | _ => 256 * counterLine + 8 * cell.2

/-- The memory with bit 0 of a cell's data inverted (R249). -/
def flipCell (m : CrewMem) (cell : Nat × Nat) : CrewMem :=
  match cell.1 with
  | 0 => writeBit m cell.2 (!readBit m cell.2)
  | 1 => writeWord m cell.2 (readWord m cell.2 ^^^ 1)
  | 2 => { m with edges := smSet false m.edges cell.2 (!smGet false m.edges cell.2) }
  | 3 => { m with timers := smMod Timer.reset m.timers cell.2 fun t => { t with start := t.start ^^^ 1 } }
  | _ => { m with counters := smMod Counter.reset m.counters cell.2 fun t => { t with cv := t.cv ^^^ 1 } }

/-! ### Image copies (R404, R420) -/

/-- Line `j` of an image copy: 32 lines of bits, then 256 lines of words. -/
def imgLine (m : Img) (j : Nat) : List Byte :=
  if j < 32 then bitLine m.bits j else wordLine m.words (64 * (j - 32))

/-- An image copy takes the bytes of its line `j`. -/
def takeImgLine (m : Img) (j : Nat) (bs : List Byte) : Img :=
  if j < 32 then { m with bits := takeBits m.bits j bs }
  else { m with words := takeWords m.words (64 * (j - 32)) bs }

/-- CRC-32C of a crew's output latch (R404), over its Boolean image and then its word image as an image copy's lines
hold them: the order is the model's (log entry 10). -/
def latchCrc (m : Img) : Word := crc32c ((List.range 288).flatMap (imgLine m))

/-! ### Snapshots of loops and heats (R278, R313) -/

/-- Fields of widths in bytes, least significant byte first (R5). -/
def packFields (fs : List (Nat × Nat)) : List Byte := fs.flatMap fun (n, v) => leBytes n v

/-- A signed number as an unsigned field of `n` bytes. -/
def asField (n : Nat) (x : Int) : Nat × Nat := (n, (x % (2 ^ (8 * n) : Nat)).toNat)

/-- A signed field of `n` bytes at an offset. -/
def signedAt (bs : List Byte) (o n : Nat) : Int := signed (8 * n) (leAt bs o n)

/-- 256 bytes. -/
def fit256 (bs : List Byte) : List Byte := bs.take 256 ++ List.replicate (256 - bs.length) 0

/-- The line of a loop: eight sections of 16 bytes, then I, u, STALE, mode and flags; empty where the set has no such
loop. -/
def loopLine (v : Option LoopSnap) : List Byte :=
  match v with
  | none => fit256 []
  | some s =>
    let secs := (List.range 8).flatMap fun i =>
      let m := s.secs.getD i ⟨0, 0, 0, 0, 0⟩
      packFields [asField 2 m.x1, asField 2 m.x2, asField 2 m.y1, asField 2 m.y2, asField 4 m.r, (4, 0)]
    fit256 (secs ++ packFields [asField 4 s.integ, asField 2 s.u, (2, s.stale), (1, s.mode),
      (1, 1 + 2 * b2n s.digOn + 4 * b2n s.measBad + 8 * b2n s.held
        + 16 * b2n s.wasSafe)])

def takeLoop (bs : List Byte) : Option LoopSnap :=
  let f := leAt bs 137 1
  if f % 2 = 0 then none
  else some {
    secs := (List.range 8).map fun i =>
      ⟨signedAt bs (16 * i) 2, signedAt bs (16 * i + 2) 2, signedAt bs (16 * i + 4) 2, signedAt bs (16 * i + 6) 2,
        signedAt bs (16 * i + 8) 4⟩
    integ := signedAt bs 128 4, u := signedAt bs 132 2, stale := leAt bs 134 2, mode := leAt bs 136 1
    digOn := f / 2 % 2 == 1, measBad := f / 4 % 2 == 1, held := f / 8 % 2 == 1, wasSafe := f / 16 % 2 == 1 }

/-- The line of a heat: mode, warm-up, leader and output, then eight lanes of 8 bytes. -/
def heatLine (v : Option HeatSnap) : List Byte :=
  match v with
  | none => fit256 []
  | some s =>
    fit256 (packFields [(1, 1 + 2 * b2n s.warm), (1, s.mode), (1, s.arrived.toNat), (1, s.leader.getD 8),
        asField 2 s.out, (2, 0)]
      ++ (List.range 8).flatMap fun l => match s.lanes.getD l none with
        | none => packFields [(8, 0)]
        | some n => packFields [(2, 1 + 2 * b2n n.off + 4 * b2n n.held + 8 * b2n n.timedOut), asField 2 n.c,
            (2, n.age), asField 2 n.u])

def takeHeat (bs : List Byte) : Option HeatSnap :=
  let f := leAt bs 0 1
  if f % 2 = 0 then none
  else some {
    warm := f / 2 % 2 == 1, mode := leAt bs 1 1, arrived := BitVec.ofNat 8 (leAt bs 2 1)
    leader := if leAt bs 3 1 < 8 then some (leAt bs 3 1) else none, out := signedAt bs 4 2
    lanes := (List.range 8).map fun l =>
      let o := 8 + 8 * l
      let g := leAt bs o 2
      if g % 2 = 0 then none
      else some ⟨signedAt bs (o + 6) 2, signedAt bs (o + 2) 2, g / 2 % 2 == 1, g / 4 % 2 == 1, g / 8 % 2 == 1, leAt bs (o + 4) 2⟩ }

/-! ### The control block (R193, R200, R202, R289) -/

/-- A crew's DRIVE_NO, CRAB pending, the drive number of its last task list and its catch (the due tasks follow from
them, R181), START due, and the position of its trim journal. -/
def driveLine (s : CleanSt) (journal : Nat) : List Byte :=
  fit256 (packFields [(8, s.driveNo), (8, s.listDrive.getD 0), (4, s.catchCount.toNat), (2, journal),
    (1, b2n s.crab + 2 * b2n s.startDue + 4 * b2n s.listDrive.isSome + 8 * b2n s.caughtOnce)])

/-- What a drive line brings; the memories are those that crew data lines have brought. -/
def takeDrive (bs : List Byte) (mems : List CrewMem) : CleanSt :=
  let f := leAt bs 22 1
  { mems := mems, driveNo := leAt bs 0 8, listDrive := if f / 4 % 2 = 1 then some (leAt bs 8 8) else none
    catchCount := BitVec.ofNat 32 (leAt bs 16 4), crab := f % 2 == 1, startDue := f / 2 % 2 == 1
    caughtOnce := f / 8 % 2 == 1 }

/-- 32 force entries of a crew, ENTRY and VALUE. -/
def forceLine (m : SMap Force) (first : Nat) : List Byte :=
  (List.range 32).flatMap fun i =>
    let f := smGet Force.reset m (first + i)
    packFields [(4, f.entry.toNat), (4, f.value.toNat)]

def takeForces (m : SMap Force) (first : Nat) (bs : List Byte) : SMap Force :=
  smWrites Force.reset m ((List.range 32).map fun i =>
    (first + i, ⟨BitVec.ofNat 32 (leAt bs (8 * i) 4), BitVec.ofNat 32 (leAt bs (8 * i + 4) 4)⟩))

/-- The trims applied at a stroke's catch, each with a mark on the first of its batch. -/
def markTrims (batches : List (List Trim)) : List (Bool × Trim) :=
  batches.flatMap fun b => b.zipIdx.map fun (t, i) => (i == 0, t)

/-- Marked trims as batches again. -/
def unmarkTrims : List (Bool × Trim) → List (List Trim)
  | [] => []
  | (_, t) :: rest =>
    match unmarkTrims rest, rest with
    | b :: bs, (false, _) :: _ => (t :: b) :: bs
    | bs, _ => [t] :: bs

/-- Up to 31 of the trims of STROKE_COUNT `stroke`, of 8 bytes; the count and the stroke stand before them. -/
def trimLine (stroke : Word) (ts : List (Bool × Trim)) : List Byte :=
  if ts = [] then fit256 []
  else fit256 (packFields [(4, stroke.toNat), (4, ts.length)] ++ ts.flatMap fun (b, t) =>
    packFields [(1, t.part), (1, b2n b), (2, t.index), (4, t.value.toNat)])

def takeTrims (bs : List Byte) : List (Bool × Trim) :=
  (List.range (min 31 (leAt bs 4 4))).map fun i =>
    let o := 8 + 8 * i
    (leAt bs (o + 1) 1 == 1, ⟨leAt bs o 1, leAt bs (o + 2) 2, BitVec.ofNat 32 (leAt bs (o + 4) 4)⟩)

/-- Up to 15 tunes and points applied at a stroke's T0, each with its engine. -/
def tuneLine (stroke : Word) (ts : List (Nat × Tune)) : List Byte :=
  if ts = [] then fit256 []
  else fit256 (packFields [(4, stroke.toNat), (4, ts.length)] ++ ts.flatMap fun (e, t) =>
    packFields [(2, e), (2, t.loop), (4, t.w0.toNat), (4, t.w1.toNat), (4, t.w2.toNat)])

def takeTunes (bs : List Byte) : List (Nat × Tune) :=
  (List.range (min 15 (leAt bs 4 4))).map fun i =>
    let o := 8 + 16 * i
    let w := fun k => BitVec.ofNat 32 (leAt bs (o + k) 4)
    (leAt bs o 2, ⟨leAt bs (o + 2) 2, w 4, w 8, w 12⟩)

/-! ### Safety groups and connections (R351, R360) -/

/-- 16 safety groups, of 16 bytes; the demand-free time runs on from `now` (R349). -/
def groupLine (m : SMap GroupSt) (first now : Nat) : List Byte :=
  (List.range 16).flatMap fun i =>
    let g := smGet GroupSt.reset m (first + i)
    packFields [(1, g.state), (1, g.cause), (1, g.which), (1, g.proofSeen.toNat), (1, g.demand.toNat),
      (3, b2n g.quietFrom.isSome), (8, now - g.quietFrom.getD now)]

def takeGroups (m : SMap GroupSt) (first now : Nat) (bs : List Byte) : SMap GroupSt :=
  smWrites GroupSt.reset m ((List.range 16).map fun i =>
    let o := 16 * i
    (first + i, { state := leAt bs o 1, cause := leAt bs (o + 1) 1, which := leAt bs (o + 2) 1
                  proofSeen := BitVec.ofNat 8 (leAt bs (o + 3) 1), demand := BitVec.ofNat 3 (leAt bs (o + 4) 1)
                  quietFrom := if leAt bs (o + 5) 3 = 1 then some (now - leAt bs (o + 8) 8) else none }))

/-- The lockout set, then CAUSE and WHICH of each group's last lockout. -/
def lockoutLine (set_ : Word) (causes : SMap (Nat × Nat)) : List Byte :=
  fit256 (leBytes 4 set_.toNat ++ (List.range 32).flatMap fun g =>
    let x := smGet (0, 0) causes g
    packFields [(1, x.1), (1, x.2)])

def takeCauses (m : SMap (Nat × Nat)) (bs : List Byte) : SMap (Nat × Nat) :=
  smWrites (0, 0) m ((List.range 32).map fun g => (g, (leAt bs (4 + 2 * g) 1, leAt bs (5 + 2 * g) 1)))

end Sys2Proof.Machine
end

