-- ==== Sys2Proof/Machine/ProgramLoad.lean ====
section
/-!
DEFINITION. The program image and the loader's checks (R166 to R174): from a staged image to a program,
or the result, section and place of the first check that fails.
-/
namespace Sys2Proof.Machine

/-- Classes, immediate field width and the limit of a direct operand of an opcode, as its table row lists
them (R134, R135, R140 to R153); none for an opcode no table lists (R160). -/
def opForm (op : Nat) : Option (List Nat × Nat × Nat) :=
  if (0x0E ≤ op ∧ op ≤ 0x15) ∨ (0x28 ≤ op ∧ op ≤ 0x2B) then some ([1, 3], 22, bitLimit)
  else if (0x16 ≤ op ∧ op ≤ 0x19) ∨ (0x20 ≤ op ∧ op ≤ 0x23) then some ([0], 22, 0)
  else if op = 0x30 ∨ op = 0x31 then some ([2], 16, 0)
  else if (0x38 ≤ op ∧ op ≤ 0x3C) ∨ (0x40 ≤ op ∧ op ≤ 0x44) then some ([2], 12, 0)
  else if op = 0x50 ∨ op = 0x54 then some ([1, 2, 3], 22, wordLimit)
  else if op = 0x51 then some ([2], 16, 0)
  else if op = 0x52 then some ([1, 3], 22, wordLimit)
  else if op = 0x53 ∨ (0x58 ≤ op ∧ op ≤ 0x5E) ∨ (0x60 ≤ op ∧ op ≤ 0x62) then some ([0], 22, 0)
  else if 0x63 ≤ op ∧ op ≤ 0x65 then some ([2], 5, 0)
  else if 0x68 ≤ op ∧ op ≤ 0x6D then some ([0], 22, 0)
  else if op = 0x00 ∨ op = 0x01 ∨ op = 0x76 then some ([0], 22, 0)
  else if op = 0x70 ∨ op = 0x71 ∨ op = 0x72 ∨ op = 0x74 ∨ op = 0x75 then some ([2], 20, 0)
  else none

def opcodeOf (w : Word) : Nat := fld w 31 24
def opndOf (w : Word) : Opnd := ⟨w.extractLsb' 22 2, w.extractLsb' 0 22⟩

/-- A CODE word that check 0x06 passes: legal under R160, a CLASS 1 operand within R137. -/
def wordLegal (w : Word) : Bool :=
  match opForm (opcodeOf w) with
  | none => false
  | some (classes, imm, limit) =>
    let o := opndOf w
    classes.contains o.cls.toNat && operandClean imm o
      && (o.cls != 1 || decide (o.val.toNat < limit))

/-- The target of a jump or call word. -/
def jumpTarget (w : Word) : Option Nat :=
  let op := opcodeOf w
  if op = 0x70 ∨ op = 0x71 ∨ op = 0x72 ∨ op = 0x74 ∨ op = 0x75 then some (fld w 19 0) else none

/-- A failed load: RESULT, SECTION and WHERE (R174, R208, R210). -/
structure LoadFail where
  result : Nat
  sect : Nat
  at_ : Nat
  deriving DecidableEq, Repr

/-- A section table entry (R168). -/
structure SecEnt where
  index : Nat
  type : Nat
  part : Nat
  resv : Nat
  off : Nat
  len : Nat
  crc : Nat
  deriving DecidableEq, Repr

/-- The section table. -/
def secTable (bs : List Byte) : List SecEnt :=
  (List.range (leAt bs 0x1C 2)).map fun i =>
    let o := 0x40 + 16 * i
    ⟨i, leAt bs o 2, leAt bs (o + 2) 1, leAt bs (o + 3) 1, leAt bs (o + 4) 4, leAt bs (o + 8) 4,
      leAt bs (o + 12) 4⟩

/-- Check 0x02: R167, in the order the row lists the fields; the offset of the field that fails. -/
def headerFault (bs : List Byte) : Option Nat :=
  if leAt bs 0 4 ≠ 0x49503147 then some 0x00
  else if leAt bs 4 2 ≠ 1 then some 0x04
  else if leAt bs 0x3C 4 ≠ (crc32c (slice bs 0 0x3C)).toNat then some 0x3C
  else if leAt bs 8 4 = 0 then some 0x08
  else if leAt bs 0x18 4 < 64 ∨ 12 * 1024 * 1024 < leAt bs 0x18 4 then some 0x18
  else if !zerosAt bs 0x1E 30 then some 0x1E
  else if bs.length ≠ leAt bs 0x18 4 then some 0x18
  else none

/-- Check 0x03: TARGET against the page and the scull option, PARTITIONS against TARGET (R167, R174). -/
def targetFault (bs : List Byte) (cr : Crew) (scull : Bool) : Option Nat :=
  let t := leAt bs 6 1
  let good := match cr with
    | .safety => t == 0
    | .process => if scull then t == 2 else t == 1
  if !good then some 0x06
  else if leAt bs 7 1 ≠ (if t = 2 then 3 else 1) then some 0x07
  else none

/-- LENGTH of a section suits its TYPE (R169); what PRIVATE_INIT and NOTES hold is not a matter of
length. -/
def lengthOk (target type len : Nat) : Bool :=
  match type with
  | 1 => len % 4 == 0 && decide (len ≤ if target = 2 then 0x200000 else 0x400000)
  | 2 => len == 176
  | 3 => len % 12 == 0 && 12 ≤ len && len ≤ 3072
  | 4 => len == 8192
  | 5 => true
  | 6 => len % 16 == 0 && len ≤ 65536
  | 7 => true
  | _ => false

/-- Two byte ranges share a byte. -/
def overlaps (a b : SecEnt) : Bool :=
  decide (0 < a.len ∧ 0 < b.len ∧ a.off < b.off + b.len ∧ b.off < a.off + a.len)

/-- One entry of the table breaks R166, R168 or R169, given those before it. -/
def entryBad (bs : List Byte) (target : Nat) (before : List SecEnt) (e : SecEnt) : Bool :=
  decide (e.type = 0 ∨ 7 < e.type) || decide ((if target = 2 then 2 else 0) < e.part) || e.resv != 0
    || e.off % 4 != 0 || decide (leAt bs 0x18 4 < e.off + e.len)
    || decide (0 < e.len ∧ e.off < 0x40 + 16 * leAt bs 0x1C 2) || !lengthOk target e.type e.len
    || before.any (fun b => overlaps b e) || before.any (fun b => b.type == e.type && b.part == e.part)

/-- The first bad entry of the table. -/
def firstBadEntry (bs : List Byte) (target : Nat) : List SecEnt → List SecEnt → Option SecEnt
  | _, [] => none
  | before, e :: es =>
    if entryBad bs target before e then some e else firstBadEntry bs target (e :: before) es

/-- Check 0x04. -/
def tableFault (bs : List Byte) : Option (Nat × Nat) :=
  let n := leAt bs 0x1C 2
  let target := leAt bs 6 1
  if n < 3 ∨ 24 < n ∨ leAt bs 0x18 4 < 0x40 + 16 * n then some (0xFF, 0x1C)
  else match firstBadEntry bs target [] (secTable bs) with
    | some e => some (e.index, 0x40 + 16 * e.index)
    | none =>
      let parts := List.range (leAt bs 7 1)
      let missing := parts.any fun p => [1, 2, 3].any fun t =>
        !(secTable bs).any fun e => e.type == t && e.part == p
      if missing then some (0xFF, 0x1C) else none

/-- The section of a type and partition. -/
def secOf (bs : List Byte) (type part : Nat) : Option SecEnt :=
  (secTable bs).find? fun e => e.type == type && e.part == part

/-- Instruction words of a CODE section. -/
def codeWords (bs : List Byte) (e : SecEnt) : List Word :=
  (List.range (e.len / 4)).map fun i => BitVec.ofNat 32 (leAt bs (e.off + 4 * i) 4)

/-- The code of a partition. -/
def codeOf (bs : List Byte) (part : Nat) : List Word :=
  match secOf bs 1 part with
  | some e => codeWords bs e
  | none => []

/-- Task entry `t` at a byte offset (R170). -/
def taskAt (bs : List Byte) (o : Nat) : TaskEntry :=
  ⟨leAt bs o 1 == 1, leAt bs (o + 4) 4, leAt bs (o + 8) 2, leAt bs (o + 10) 2⟩

/-- Task entry `t` obeys R170, START apart. -/
def taskOk (bs : List Byte) (o t : Nat) : Bool :=
  let fl := leAt bs o 1
  let iv := leAt bs (o + 8) 2
  let ph := leAt bs (o + 10) 2
  fl ≤ 1 && leAt bs (o + 1) 1 == t && zerosAt bs (o + 2) 2 && zerosAt bs (o + 12) 4
    && (if fl = 0 then zerosAt bs (o + 4) 8 && t != 2
        else if 3 ≤ t then 1 ≤ iv && decide (ph < iv) else iv == 0 && ph == 0)

/-- The IOMAP entry at a byte offset (R171). -/
def ioAt (bs : List Byte) (o : Nat) : IoRange := ⟨leAt bs o 2 == 1, leAt bs (o + 4) 4, leAt bs (o + 8) 4⟩

/-- An IOMAP entry obeys R171. -/
def ioOk (bs : List Byte) (o : Nat) : Bool :=
  let r := ioAt bs o
  leAt bs o 2 ≤ 1 && zerosAt bs (o + 2) 2 && 1 ≤ r.count
    && decide (r.first + r.count ≤ if r.word then 0x4000 else 0x10000)

/-- Two ranges share an address. -/
def ioOverlap (a b : IoRange) : Bool :=
  a.word == b.word && decide (a.first < b.first + b.count ∧ b.first < a.first + a.count)

/-- An address lies in an output range. -/
def inIo (io : List IoRange) (word : Bool) (a : Nat) : Bool :=
  io.any fun r => r.word == word && decide (r.first ≤ a ∧ a < r.first + r.count)

/-- The first IOMAP entry that breaks R171 or overlaps one before it. -/
def firstBadIo (bs : List Byte) : List IoRange → List Nat → Option Nat
  | _, [] => none
  | before, o :: os =>
    let r := ioAt bs o
    if ioOk bs o && !before.any (ioOverlap r) then firstBadIo bs (r :: before) os else some o

/-- Byte offsets of the `size`-byte records of a section. -/
def recordOffs (e : SecEnt) (size : Nat) : List Nat :=
  (List.range (e.len / size)).map fun i => e.off + size * i

/-- The PRIVATE_INIT records from `o` to `stop`, `prev` the end of the record before: the words they
give, or where they break R169. -/
def privRecords (bs : List Byte) (stop : Nat) : Nat → Nat → Nat → Except Nat (List (Nat × Word))
  | 0, o, _ => if o = stop then .ok [] else .error o
  | fuel + 1, o, prev =>
    if o = stop then .ok []
    else if stop < o + 8 then .error o
    else
      let first := leAt bs o 4
      let count := leAt bs (o + 4) 4
      if first < prev ∨ count = 0 ∨ wordLimit < first + count ∨ stop < o + 8 + 4 * count then .error o
      else
        match privRecords bs stop fuel (o + 8 + 4 * count) (first + count) with
        | .error e => .error e
        | .ok ws => .ok ((List.range count).map (fun i =>
            (first + i, BitVec.ofNat 32 (leAt bs (o + 8 + 4 * i) 4))) ++ ws)

/-- The PRIVATE_INIT section of a partition, read. -/
def privOf (bs : List Byte) (part : Nat) : Except (Nat × Nat) (List (Nat × Word)) :=
  match secOf bs 5 part with
  | none => .ok []
  | some e =>
    match privRecords bs (e.off + e.len) (e.len / 12 + 1) e.off 0x4000 with
    | .ok ws => .ok ws
    | .error o => .error (e.index, o)

/-- The trim entry at a byte offset (R172). -/
def trimAt (bs : List Byte) (o : Nat) : TrimEntry :=
  ⟨leAt bs o 1, leAt bs (o + 4) 4, signed 32 (leAt bs (o + 8) 4), signed 32 (leAt bs (o + 12) 4)⟩

/-- A trim entry obeys R172 and R173 for its partition. -/
def trimOk (bs : List Byte) (code : List Word) (io : List IoRange) (o : Nat) : Bool :=
  let t := trimAt bs o
  let bitRange := decide (t.min = 0 ∧ t.max = 1)
  zerosAt bs (o + 1) 3 && decide (t.min ≤ t.max)
    && (match t.kind with
        | 0 => bitRange && 0x10000 ≤ t.addr && decide (t.addr < bitLimit)
        | 1 => bitRange && inIo io false t.addr
        | 2 => 0x4000 ≤ t.addr && decide (t.addr < wordLimit)
        | 3 => inIo io true t.addr
        | 4 =>
          match code[t.addr]? with
          | none => false
          | some w =>
            if opcodeOf w = 0x50 then
              decide ((opndOf w).cls = 2 ∧ -2097152 ≤ t.min ∧ t.max ≤ 2097151)
            else opcodeOf w == 0x51 && decide (0 ≤ t.min ∧ t.max ≤ 65535)
        | _ => false)

/-- The first of a list that fails a check. -/
def firstFail {α : Type} (ok : α → Bool) (xs : List α) : Option α := xs.find? fun x => !ok x

/-- Sections of one type, in table order. -/
def secsOf (bs : List Byte) (type : Nat) : List SecEnt := (secTable bs).filter fun e => e.type == type

/-- The first failure that a check finds over the sections of one type. -/
def overSecs (bs : List Byte) (type result : Nat) (f : SecEnt → Option Nat) : Option LoadFail :=
  (secsOf bs type).findSome? fun e => (f e).map fun w => ⟨result, e.index, w⟩

/-- Index of the first code word that fails a test. -/
def firstWord (ok : Word → Bool) : Nat → List Word → Option Nat
  | _, [] => none
  | i, w :: ws => if ok w then firstWord ok (i + 1) ws else some i

/-- The output ranges of a partition. -/
def ioOf (bs : List Byte) (part : Nat) : List IoRange :=
  match secOf bs 3 part with
  | some e => (recordOffs e 12).map (ioAt bs)
  | none => []

/-- The first check of R174 that an image fails, from 0x02 on. -/
def imageFault (bs : List Byte) (cr : Crew) (scull : Bool) : Option LoadFail :=
  match headerFault bs with
  | some w => some ⟨2, 0xFF, w⟩
  | none =>
  match targetFault bs cr scull with
  | some w => some ⟨3, 0xFF, w⟩
  | none =>
  match tableFault bs with
  | some (i, w) => some ⟨4, i, w⟩
  | none =>
  ((secTable bs).find? fun e => (crc32c (slice bs e.off e.len)).toNat != e.crc).map
      (fun e => (⟨5, e.index, e.off⟩ : LoadFail))
  <|> overSecs bs 1 6 (fun e => firstWord wordLegal 0 (codeWords bs e))
  <|> overSecs bs 1 7 (fun e => firstWord (fun w => match jumpTarget w with
        | none => true
        | some t => decide (t < e.len / 4)) 0 (codeWords bs e))
  <|> overSecs bs 2 7 (fun e => firstFail (fun o =>
        decide ((taskAt bs o).start < (codeOf bs e.part).length))
        (recordOffs e 16))
  <|> overSecs bs 2 8 (fun e => firstFail (fun o => taskOk bs o ((o - e.off) / 16)) (recordOffs e 16))
  <|> overSecs bs 3 9 (fun e => firstBadIo bs [] (recordOffs e 12))
  <|> overSecs bs 5 10 (fun e => match privOf bs e.part with
        | .ok _ => none
        | .error (_, w) => some w)
  <|> overSecs bs 6 11 (fun e => firstFail (trimOk bs (codeOf bs e.part) (ioOf bs e.part))
        (recordOffs e 16))

/-- The marker bits of a MARKER_INIT section (R169). -/
def markersOf (bs : List Byte) (part : Nat) : SMap Bool :=
  match secOf bs 4 part with
  | none => []
  | some e => smWrites false [] ((List.range 65536).filterMap fun n =>
      if (BitVec.ofNat 8 (leAt bs (e.off + n / 8) 1)).getLsbD (n % 8) then some (n, true) else none)

/-- One partition of an image that passed every check. -/
def partOf (bs : List Byte) (p : Nat) : Part :=
  { code := codeOf bs p
    tasks := match secOf bs 2 p with
      | some e => (recordOffs e 16).map (taskAt bs)
      | none => []
    iomap := ioOf bs p
    trims := match secOf bs 6 p with
      | some e => (recordOffs e 16).map (trimAt bs)
      | none => []
    markerInit := markersOf bs p
    privInit := match privOf bs p with
      | .ok ws => smWrites 0 [] ws
      | .error _ => [] }

/-- The loader's outcome for a crew (R174): a program, or the first check that fails. -/
def checkProgram (obj : Option (List Byte)) (cr : Crew) (scull : Bool) : Except LoadFail Program :=
  match obj with
  | none => .error ⟨1, 0xFF, 0⟩
  | some bs =>
    match imageFault bs cr scull with
    | some f => .error f
    | none => .ok
      { id := BitVec.ofNat 32 (leAt bs 8 4)
        version := BitVec.ofNat 32 (leAt bs 12 4)
        target := leAt bs 6 1
        parts := (List.range (leAt bs 7 1)).map (partOf bs) }

/-- Data memory after a program load (R131, R175). -/
def freshMem (p : Part) : CrewMem :=
  { CrewMem.reset with markers := p.markerInit, priv := p.privInit }

end Sys2Proof.Machine
end

