-- ==== Sys2Proof/Machine/Crews.lean ====
section
/-!
DEFINITION. The crews outside the instructions: partitions and outputs, forces and trims, the catch, the
task list, the drive, the commit and the clean state (chapters 5 and 6).
-/
namespace Sys2Proof.Machine

/-! ### Programs and output ranges -/

def emptyPart : Part := ⟨[], [], [], [], [], []⟩

/-- Partition `i` of a crew's program; empty when none is loaded. -/
def partAt (k : CrewSt) (i : Nat) : Part :=
  match k.prog with
  | some p => p.parts.getD i emptyPart
  | none => emptyPart

/-- Core `i`, with its partition's memory (R203). -/
def coreAt (k : CrewSt) (i : Nat) : CoreSt := k.cores.getD i CoreSt.reset

def modCore (c : Chip) (cr : Crew) (i : Nat) (f : CoreSt → CoreSt) : Chip :=
  modCrew c cr fun k => { k with cores := listMod k.cores i f }

def modCores (c : Chip) (cr : Crew) (f : CoreSt → CoreSt) : Chip :=
  modCrew c cr fun k => { k with cores := k.cores.map f }

/-- The crew runs in scull mode (R203, R209): only the process crew can. -/
def sculls (k : CrewSt) : Bool :=
  match k.prog with
  | some p => p.target == 2
  | none => false

/-- An output address of a crew: an IOMAP entry of some partition names it (R171, R205). -/
def isOut (k : CrewSt) (word : Bool) (a : Nat) : Bool :=
  match k.prog with
  | some p => p.parts.any fun q => inIo q.iomap word a
  | none => false

/-! ### Forces (R194 to R200, R213) -/

def force (c : Chip) (cr : Crew) (i : Nat) : Force := smGet Force.reset (ctlSt c cr).forces i
def Force.on (f : Force) : Bool := bitOf f.entry 31
def Force.word (f : Force) : Bool := bitOf f.entry 30
def Force.part (f : Force) : Nat := fld f.entry 21 20
def Force.addr (f : Force) : Nat := fld f.entry 15 0

/-- PRG_STAT.FORCES. -/
def forcesOn (c : Chip) (cr : Crew) : Nat :=
  ((ctlSt c cr).forces.filter fun e => e.2.on).length

/-- FORCE_ACTIVE follows PRG_STAT.FORCES (R215). -/
def forceCond (c : Chip) (cr : Crew) : Chip := setCond c (crewPage cr) 18 (forcesOn c cr != 0)

/-- Write one forced address into an image. -/
def forceImg (m : Img) (f : Force) : Img :=
  if f.word then { m with words := smSet 0 m.words f.addr f.value }
  else { m with bits := smSet false m.bits f.addr (f.value == 1) }

/-- The enabled forces of a crew that `p` picks, written into an image. -/
def forceImgs (c : Chip) (cr : Crew) (p : Force → Bool) (m : Img) : Img :=
  (ctlSt c cr).forces.foldl (fun m e => if e.2.on && p e.2 then forceImg m e.2 else m) m

/-! ### Trims (R189 to R193, R212) -/

/-- A trimmed LDW or LDHI word (R190). -/
def trimWord (w : Word) (v : Word) : Word :=
  if opcodeOf w = 0x50 then setFld w 21 0 (fld v 21 0) else setFld w 15 0 (fld v 15 0)

/-- A memory trim (KIND 0 to 3) in one core's data memory. -/
def trimMem (e : TrimEntry) (v : Word) (m : CrewMem) : CrewMem :=
  match e.kind with
  | 0 | 1 => writeBit m e.addr (v == 1)
  | 2 | 3 => writeWord m e.addr v
  | _ => m

/-- Trim one entry of a crew: its memory, or the constant of an instruction in every core that holds it. -/
def trimOne (k : CrewSt) (t : Trim) : CrewSt :=
  match (partAt k t.part).trims[t.index]? with
  | none => k
  | some e =>
    if e.kind = 4 then { k with prog := k.prog.map fun p => { p with parts := listMod p.parts t.part fun q =>
        { q with code := listMod q.code e.addr (trimWord · t.value) } } }
    else { k with cores := listMod k.cores t.part fun s => { s with mem := trimMem e t.value s.mem } }

/-- The memory trims of a batch in the clean state of a crew that does not run. -/
def trimClean (k : CrewSt) (s : CleanSt) (t : Trim) : CleanSt :=
  match (partAt k t.part).trims[t.index]? with
  | none => s
  | some e => { s with mems := listMod s.mems t.part (trimMem e t.value) }

/-- The constant trims of a batch alone (R242, R406). -/
def trimCode (k : CrewSt) (t : Trim) : CrewSt :=
  match (partAt k t.part).trims[t.index]? with
  | some e => if e.kind = 4 then trimOne k t else k
  | none => k

/-- The pending batches are applied in whole (R190). A crew that does not run has no stroke that could become
clean: its clean state takes them at once. -/
def applyTrims (c : Chip) (cr : Crew) : Chip :=
  match (ctlSt c cr).trimPending with
  | [] => c
  | batches =>
    let all := batches.flatten
    let idle := (crewSt c cr).run == .idle
    let c := modCtl c cr fun t => { t with
      trimPending := [], trimApplied := t.trimApplied ++ batches, lastTrimStroke := c.stroke.count.setWidth 16
      clean := if idle then t.clean.map fun s => all.foldl (trimClean (crewSt c cr)) s else t.clean }
    let c := modCrew c cr fun k => all.foldl trimOne k
    raise c (crewPage cr) 17

/-- One batch is appended to the trim journal, with its record (R192, R216). -/
def journalBatch (cr : Crew) (c : Chip) (batch : List Trim) : Chip :=
  let c := modCtl c cr fun t => { t with journal := t.journal ++ [batch] }
  let first := match batch with
    | t :: _ => pack [(t.part, 13, 12), (t.index, 11, 0)]
    | [] => 0
  emit c (crewPage cr) 0x31 0xFFFF (BitVec.ofNat 32 batch.length)
    (BitVec.ofNat 32 (ctlSt c cr).journal.length) first c.stroke.count

/-- The applied batches are appended to the trim journal in recovery (R192). -/
def journalTrims (c : Chip) (cr : Crew) : Chip :=
  (ctlSt c cr).trimApplied.foldl (journalBatch cr) (modCtl c cr fun t => { t with trimApplied := [] })

/-- Batches applied in a stroke that does not become clean stand pending again (R230). -/
def returnTrims (c : Chip) (cr : Crew) : Chip :=
  modCtl c cr fun t => { t with trimPending := t.trimApplied ++ t.trimPending, trimApplied := [] }

/-! ### Running, halted, stopped -/

/-- The crew takes part in drives: its page takes work (R71), a program is loaded, and neither a fault nor a CREW reset
holds it. -/
def crewAble (c : Chip) (cr : Crew) : Bool :=
  enabled c (crewPage cr) && (crewSt c cr).prog.isSome && !(coxSt c cr).faulty && !inCrewReset c cr

/-- HALTED follows RUNSTATE (R215). -/
def haltCond (c : Chip) (cr : Crew) : Chip :=
  match cr with
  | .safety => c
  | .process => setCond c 9 19 ((crewSt c cr).run == .halted)

/-- No task is under way on a core and none is due. -/
def idleCore (s : CoreSt) : CoreSt :=
  { s with task := none, todo := [], ended := true, faulted := false, passBp := false }

/-- A core in a CREW reset: idle, the registers of R130 cleared (R603). -/
def resetCore (s : CoreSt) : CoreSt :=
  { idleCore s with ba := false, wa := 0, wb := 0, ov := false, pc := 0, branch := [], calls := [] }

/-- The crew stops: it takes no catch and commits nothing until it is started again. A drive that it breaks
off makes the stroke not clean (R225, R230). -/
def stopCrew (c : Chip) (cr : Crew) : Chip :=
  let broken := (crewSt c cr).run != .idle && !(ctlSt c cr).committed
  let c := modCrew (modCores c cr idleCore) cr fun k => { k with run := .idle, caught := false }
  let c := modCtl c cr fun t => { t with
    resume := false, step := false, haltNext := false, midDrive := false, resumed := false }
  haltCond (if broken then returnTrims c cr else c) cr

/-- The clean state of a crew as it stands (R225). -/
def cleanOf (k : CrewSt) : CleanSt :=
  { mems := k.cores.map (·.mem), driveNo := k.driveNo, listDrive := k.listDrive
    catchCount := k.catchCount, caughtOnce := k.firstCatchDone, startDue := k.startDue, crab := k.crab }

/-- The crew starts with the module's entry to RUN from STOP or CONFIG: DRIVE_NO is 0 at its first catch,
START is due in its first drive and timed tasks as R181 gives for the first catch. Its clean state stays the data
memory of its last clean TF (R225). -/
def startCrew (c : Chip) (cr : Crew) : Chip :=
  let c := stopCrew c cr
  if (crewSt c cr).prog.isNone || (coxSt c cr).faulty then c
  else
    let busy := inCrewReset c cr
    let c := modCrew c cr fun k => { k with
      run := if busy then .idle else .running, firstCatchDone := false, listDrive := none, startDue := true }
    modCtl c cr fun t => { t with
      clean := some (match t.clean with
        | some s => { cleanOf (crewSt c cr) with mems := s.mems }
        | none => cleanOf (crewSt c cr)) }

/-- The crew goes on with what it holds at the entry to RUN from TAKEOVER (R416): no START. -/
def resumeCrew (c : Chip) (cr : Crew) : Chip :=
  let c := stopCrew c cr
  if !crewAble c cr then c
  else
    let c := modCrew c cr fun k => { k with run := .running, startDue := false, firstCatchDone := true }
    modCtl c cr fun t => { t with clean := some (cleanOf (crewSt c cr)) }

/-- The crew executes instructions now: running, its drive begun, no core stopped by a fault. -/
def executing (c : Chip) (cr : Crew) : Bool :=
  let k := crewSt c cr
  k.run == .running && k.caught && !(ctlSt c cr).resume && !k.cores.any (·.faulted)

/-- Every core has ended drive (R95, R204). -/
def driveEnded (k : CrewSt) : Bool := k.cores.all (·.ended)

/-! ### The task list (R177 to R182) -/

/-- A timed task is due at drive number `d`, the last list being built at `prev` (R181). -/
def timedDue (e : TaskEntry) (prev : Option Nat) (d : Nat) : Bool :=
  match prev with
  | none => e.phase == 0
  | some p =>
    let next := p + 1 + (e.phase + e.interval - (p + 1) % e.interval) % e.interval
    decide (next ≤ d)

/-- The tasks of one partition due in this drive, in order (R177). -/
def taskList (q : Part) (k : CrewSt) : List Nat :=
  let has := fun t => match q.tasks[t]? with
    | some e => e.present
    | none => false
  (if k.startDue && has 0 then [0] else []) ++ (if k.crab && has 1 then [1] else [])
    ++ (if has 2 then [2] else [])
    ++ ((List.range 8).map (· + 3)).filter fun t =>
      match q.tasks[t]? with
      | some e => e.present && timedDue e k.listDrive k.driveNo
      | none => false

/-- Some partition has the task CRAB. -/
def hasCrab (k : CrewSt) : Bool :=
  match k.prog with
  | some p => p.parts.any fun q => match q.tasks[1]? with
    | some e => e.present
    | none => false
  | none => false

/-- The catch builds the task list (R177, R181, R182): CRAB pending clears where no partition has the
task. -/
def buildTasks (k : CrewSt) : CrewSt :=
  { k with
    cores := (k.cores.zip (List.range k.cores.length)).map fun (s, i) =>
      { s with todo := taskList (partAt k i) k, task := none, ended := false, clocks := 0, passBp := false }
    listDrive := some k.driveNo
    crab := k.crab && hasCrab k }

/-- A core enters the next due task, with the register values of R130 and 8 clocks (R178); with none left
it has ended drive. -/
def enterTask (q : Part) (s : CoreSt) : CoreSt :=
  match s.todo with
  | [] => { s with task := none, ended := true }
  | t :: ts =>
    { s with
      task := some t, todo := ts, ba := false, wa := 0, wb := 0, ov := false, branch := [], calls := []
      pc := match q.tasks[t]? with
        | some e => e.start
        | none => 0
      clocks := s.clocks + 8 }

/-- Every core that has not begun enters its first task. -/
def enterTasks (k : CrewSt) : CrewSt :=
  { k with cores := (k.cores.zip (List.range k.cores.length)).map fun (s, i) =>
      if s.task.isNone && !s.ended then enterTask (partAt k i) s else s }

/-! ### The catch (R92, R195, R201) -/

/-- What one catch brings a crew: bits and words by address, in the order they are written. -/
structure Caught where
  bits : List (Nat × Bool)
  words : List (Nat × Word)
  deriving DecidableEq, Repr

/-- The caught values enter the image copy of core `i` at the addresses its partition does not write
(R132, R171): the other crew's and the other partitions' outputs from the latch (R19, R205), then what the
blocks and hosts bring; input forces last (R195). -/
def catchImg (c : Chip) (cr : Crew) (i : Nat) (x : Caught) (m : Img) : Img :=
  let k := crewSt c cr
  let other := crewSt c (match cr with | .safety => .process | .process => .safety)
  let own := fun word a => inIo (partAt k i).iomap word a
  let theirs := fun word a => !own word a && (isOut other word a || isOut k word a)
  let m : Img :=
    { bits := smWrites false (smOverlay false (theirs false) m.bits c.latch.bits)
        (x.bits.filter fun e => !own false e.1)
      words := smWrites 0 (smOverlay 0 (theirs true) m.words c.latch.words)
        (x.words.filter fun e => !own true e.1) }
  forceImgs c cr (fun f => f.part == i && !own f.word f.addr) m

/-- CRAB pending (R182): a loss marked since the crew's previous catch, counted for CRAB_RUN; without a CRAB
task it clears at this same catch. -/
def crabCatch (k : CrewSt) : CrewSt :=
  let lost := k.lostStations + k.lostIslands
  { k with
    crab := (k.crab || lost != 0) && hasCrab k
    uncleanStations := k.uncleanStations + k.lostStations
    uncleanIslands := k.uncleanIslands + k.lostIslands
    crabStations := if lost = 0 then k.crabStations else k.lostStations
    crabIslands := if lost = 0 then k.crabIslands else k.lostIslands
    lostStations := 0, lostIslands := 0 }

/-- A crew takes a catch, in the order of R201: inputs, input forces, the pending trim batch, DRIVE_NO
(R180), and the task list where `build` says one is built (R185, R232). -/
def crewCatch (c : Chip) (cr : Crew) (x : Caught) (build : Bool) : Chip :=
  let imgs := fun i (s : CoreSt) => { s with mem := { s.mem with img := catchImg c cr i x s.mem.img } }
  let c := modCrew c cr fun k => { k with
    cores := (k.cores.zip (List.range k.cores.length)).map fun (s, i) => imgs i s }
  let c := applyTrims c cr
  let c := modCrew c cr fun k =>
    let k := { k with
      driveNo := if k.firstCatchDone then k.driveNo + (c.stroke.count - k.catchCount).toNat else 0
      firstCatchDone := true, catchCount := c.stroke.count, catchTime := c.stroke.t0
      driveT0 := c.stroke.t0, caught := true, carried := false }
    let k := crabCatch k
    if build then buildTasks k else k
  modCtl c cr fun t => { t with resume := false }

/-- Whether a crew takes a catch at this T0, and whether that catch builds a task list: it runs, no drive
of it is under way (R115), and a halt of R186 does not fall in this stroke. -/
def catchDue (c : Chip) (cr : Crew) : Option Bool :=
  let k := crewSt c cr
  let t := ctlSt c cr
  if !(c.mode.mode.runs && crewAble c cr && k.run == .running) || t.haltNext then none
  else if t.resume && t.midDrive then some false
  else if k.caught then none
  else some true

/-! ### Drive, commit and clean state -/

/-- The drive that is due begins now: no core has entered a task of it. -/
def driveFresh (k : CrewSt) : Bool := k.cores.all fun s => s.task.isNone && !s.ended

/-- At T0 + 20 µs the drive begins (R95): the first due task is entered, a resumed crew goes on past its
breakpoint (R185), and a stepped crew halts before its first task (R186). -/
def driveStart (c : Chip) (cr : Crew) : Chip :=
  let t := ctlSt c cr
  if t.haltNext then
    let c := modCtl (modCrew (modCores c cr idleCore) cr fun k => { k with run := .halted, caught := false })
      cr fun t => { t with
        haltNext := false, midDrive := false
        haltStat := pack [(2, 31, 30), (0xF, 23, 20)], haltPc := [0, 0, 0] }
    let c := haltCond c cr
    emit c (crewPage cr) 0x33 0xF (ctlSt c cr).haltStat 0 0 c.stroke.count
  else if executing c cr then
    let c := if t.midDrive then
        modCores (modCtl c cr fun t => { t with midDrive := false }) cr fun s =>
          { s with clocks := 0, passBp := s.task.isSome }
      else if driveFresh (crewSt c cr) then modCrew c cr fun k => { k with ran := 0 }
      else c
    modCrew c cr enterTasks
  else c

/-- Clocks a crew has used: of the slowest core (R204). -/
def crewClocks (k : CrewSt) : Nat := k.cores.foldl (fun n s => max n s.clocks) 0

/-- Drive use in units of 2 µs, rounded up, saturating (R119): 2.5 ns a clock. -/
def useUnits (clocks : Nat) : Nat := min ((clocks * 5 + 3999) / 4000) 0xFFFF

/-- The union of the partitions' output ranges in their image copies, output forces in place of the
program's values (R196, R205). -/
def latchOf (c : Chip) (cr : Crew) (m : Img) : Img :=
  let k := crewSt c cr
  let m := (List.range k.cores.length).foldl (fun (m : Img) i =>
    let img := (coreAt k i).mem.img
    let own := inIo (partAt k i).iomap
    { bits := smOverlay false (own false) m.bits img.bits
      words := smOverlay 0 (own true) m.words img.words }) m
  forceImgs c cr (fun f => inIo (partAt k f.part).iomap f.word f.addr) m

/-- A crew's values at a committing TF, for IMAGE_READ (R576): core 0's image copy with the latch's
outputs. -/
def commitView (c : Chip) (cr : Crew) : Chip :=
  let k := crewSt c cr
  let img := (coreAt k 0).mem.img
  let view : Img :=
    { bits := smOverlay false (isOut k false) img.bits c.latch.bits
      words := smOverlay 0 (isOut k true) img.words c.latch.words }
  match cr with
  | .safety => { c with committedS := view }
  | .process => { c with committedP := view }

/-- A crew commits at TF (R102): the latch takes its outputs; START is no longer due; a stepped crew
halts at the next T0 + 20 µs (R186). -/
def crewCommit (c : Chip) (cr : Crew) : Chip :=
  let c := commitView { c with latch := latchOf c cr c.latch } cr
  let c := modCrew (modCores c cr idleCore) cr fun k => { k with caught := false, startDue := false }
  modCtl c cr fun t => { t with
    committed := true, haltNext := t.step, step := false, resumed := false }

/-- Capture has completed: the state at TF of a crew that committed becomes its clean state (R225). The batches applied
in this stroke stand pending again in a crew that runs and did not commit (R230); else they go to the journal, those
of a crew that does not run too, applied at T0 (R190, R192). -/
def cleanCapture (c : Chip) (cr : Crew) : Chip :=
  if (ctlSt c cr).committed then
    let c := modCrew c cr fun k => { k with uncleanStations := 0, uncleanIslands := 0 }
    modCtl c cr fun t => { t with clean := some (cleanOf (crewSt c cr)), committed := false }
  else if (crewSt c cr).run == .idle then c
  else returnTrims c cr

/-- The crew's data memory returns to its clean state, in all three data SRAMs (R226). -/
def restoreMem (c : Chip) (cr : Crew) : Chip :=
  match (ctlSt c cr).clean with
  | none => modCores c cr resetCore
  | some s => modCrew c cr fun k => { k with
      cores := (k.cores.zip s.mems).map fun (x, m) => { resetCore x with mem := m }, apart := none }

/-- At the restart catch the crew continues from its clean state (R229): DRIVE_NO, the last list's drive number,
the catch it counts from, START and CRAB pending, and the losses that catches since have counted. -/
def restoreCtl (c : Chip) (cr : Crew) : Chip :=
  match (ctlSt c cr).clean with
  | none => c
  | some s => modCrew c cr fun k => { k with
      driveNo := s.driveNo, listDrive := s.listDrive, catchCount := s.catchCount
      firstCatchDone := s.caughtOnce, startDue := s.startDue, crab := s.crab
      lostStations := k.lostStations + k.uncleanStations, lostIslands := k.lostIslands + k.uncleanIslands
      uncleanStations := 0, uncleanIslands := 0 }

/-- The whole clean state returns at once: a replay's pre-images (R399). -/
def restoreClean (c : Chip) (cr : Crew) : Chip := restoreCtl (restoreMem c cr) cr

/-! ### Loading (R174 to R176) -/

/-- A program image replaces the crew's program (R175). The trim batch that named entries of the old
program goes with it. -/
def installProgram (c : Chip) (cr : Crew) (p : Program) : Chip :=
  let c := modCrew (stopCrew c cr) cr fun k => { k with
    prog := some p, loadResult := 0, loadSection := 0xFF, loadWhere := 0, apart := none
    cores := p.parts.map fun q => { CoreSt.reset with mem := freshMem q } }
  let c := modCtl c cr fun t => { t with
    trimPending := [], trimApplied := [], journal := [], forces := [], bps := []
    clean := some (cleanOf (crewSt c cr)) }
  forceCond c cr

/-- The load ends: LOAD_DONE and its record (R215, R216). -/
def loadDone (c : Chip) (cr : Crew) (id version : Word) (result : Nat) (at_ : Word) : Chip :=
  raise (emit c (crewPage cr) 0x30 0xFFFF id version (BitVec.ofNat 32 result) at_) (crewPage cr) 16

/-- The staged image is checked and loaded, or the load fails (R174 to R176); `.2` tells that it loaded. -/
def programLoad (c : Chip) (cr : Crew) (obj : Option (List Byte)) : Chip × Bool :=
  match checkProgram obj cr (scullOption c) with
  | .ok p => (loadDone (installProgram c cr p) cr p.id p.version 0 0, true)
  | .error f =>
    let w := BitVec.ofNat 32 f.at_
    let c := modCrew c cr fun k => { k with
      loadResult := f.result, loadSection := f.sect, loadWhere := w }
    let bs := obj.getD []
    (loadDone c cr (BitVec.ofNat 32 (leAt bs 8 4)) (BitVec.ofNat 32 (leAt bs 12 4)) f.result w, false)

end Sys2Proof.Machine
end

