-- ==== Sys2Proof/Machine/LoopArith.lean ====
section
/-!
DEFINITION. The arithmetic of one loop sample: Q15 fractions and the 40-bit accumulator (R252 to
R255), input scaling (R256), the error (R257), the biquad cascade (R258, R259), the gain stage
(R260), the limits (R261), back-calculation (R262), output scaling (R263) and the gain table (R316,
R317). Every sum and product is exact over the integers (R253); rounding and saturation are explicit.
-/
namespace Sys2Proof.Machine

/-- A value and the first step that saturated, if one did (R255). -/
structure Sat where
  val : Int
  hit : Option Nat
  deriving DecidableEq, Repr

/-- Round the accumulator (units of 2⁻³⁰) to Q15: add 2¹⁴ and shift right by 15 (R254). -/
def roundQ15 (acc : Int) : Int := (acc + 16384) / 32768

/-- Clamp to the Q15 range (R255). -/
def satQ15 (x : Int) : Int := clampInt (-32768) 32767 x

/-- Saturate, naming step `w` when it saturates. -/
def satAt (w : Nat) (x : Int) : Sat := ⟨satQ15 x, if satQ15 x = x then none else some w⟩

/-- The first saturation of a sample names WHERE (R255). -/
def firstHit (a b : Option Nat) : Option Nat := a.orElse fun _ => b

/-- Input scaling: sat(((raw − OFFSET) × MULT) >> SHIFT), toward minus infinity; WHERE 8 (R256). -/
def scaleIn (b : Binding) (raw : Int) : Sat := satAt 8 (((raw - b.offset) * b.mult) / 2 ^ b.shift)

/-- Output scaling before the sink's range: ((u × MULT) >> SHIFT) + OFFSET (R263). -/
def scaleOut (b : Binding) (u : Int) : Int := (u * b.mult) / 2 ^ b.shift + b.offset

/-- e = sp − pv, or pv − sp with REVERSE; WHERE 8 (R257). -/
def loopError (reverse : Bool) (sp pv : Int) : Sat := satAt 8 (if reverse then pv - sp else sp - pv)

/-- One section: the shifted sum, the residue, the rounded output, the new memory (R258, R259). -/
def sectionStep (k : Nat) (s : Section) (m : SecSt) (x : Int) : SecSt × Sat :=
  let acc := s.b0 * x + s.b1 * m.x1 + s.b2 * m.x2 - s.a1 * m.y1 - s.a2 * m.y2
  let acc := acc * 2 ^ s.shift
  let acc := if s.ef then acc + m.r else acc
  let y := satAt k (roundQ15 acc)
  let r := if s.ef then (if y.hit.isSome then 0 else acc - y.val * 32768) else 0
  (⟨x, m.x1, y.val, m.y1, r⟩, y)

/-- The cascade from section `k` on (R258). -/
def cascadeRun : Nat → List Section → List SecSt → Int → Option Nat → List SecSt × Int × Option Nat
  | _, [], _, x, h => ([], x, h)
  | k, s :: ss, m, x, h =>
    let (m', y) := sectionStep k s (m.headD ⟨0, 0, 0, 0, 0⟩) x
    let (ms, z, h) := cascadeRun (k + 1) ss m.tail y.val (firstHit h y.hit)
    (m' :: ms, z, h)

/-- v = sat(round(GAIN · x × 2^GAIN_SHIFT + ff × 2¹⁵)); WHERE 9 (R260). -/
def gainStage (gain : Int) (shift : Nat) (x ff : Int) : Sat :=
  satAt 9 (roundQ15 (gain * x * 2 ^ shift + ff * 32768))

/-- Limits: lo first, hi second; which took effect (R261). -/
structure Limited where
  u : Int
  clampHi : Bool
  clampLo : Bool
  deriving DecidableEq, Repr

/-- Clamp to lo .. hi (R261). -/
def limitOut (lo hi x : Int) : Limited :=
  let a := if x < lo then lo else x
  ⟨if hi < a then hi else a, decide (hi < a) || decide (hi < lo), decide (x < lo) || decide (hi < lo)⟩

/-- Back-calculation of the last section: y1 and the residue (R262). -/
def backCalc (kinv : Int) (shift : Nat) (u ff : Int) (ms : List SecSt) : List SecSt × Option Nat :=
  let n := ms.length - 1
  let y := satAt n (roundQ15 ((u - ff) * kinv * 2 ^ shift))
  (listMod ms n (fun m => { m with y1 := y.val, r := 0 }), y.hit)

/-- The range of the integrator: −2³⁰ to 2³⁰ − 1 (R316). -/
def limitInteg (x : Int) : Int := clampInt (-1073741824) 1073741823 x

/-- The gain interpolated from the table against the error (R316, R317). -/
def tableGain (g : List Int) (e : Int) : Int :=
  let a := (e + 32768).toNat
  let i := a / 256
  let f : Int := (a % 256 : Nat)
  (g.getD i 0 * (256 - f) + g.getD (min (i + 1) 255) 0 * f + 128) / 256

end Sys2Proof.Machine
end

