-- ==== Sys2Proof/Machine/LoopLoad.lean ====
section
/-!
DEFINITION. Loop sets, table sets and heat sets as bytes: their layouts (R281 to R284, R321, R322,
R324), the checks of a load in order (R285, R325) and the schedule check with DMAX (R273, R319).
-/
namespace Sys2Proof.Machine

/-- A signed little-endian field. -/
def leInt (bs : List Byte) (off len : Nat) : Int := signed (8 * len) (leAt bs off len)

/-- A binding read from 12 bytes (R283). -/
def parseBinding (bs : List Byte) (o : Nat) : Binding :=
  ⟨leAt bs o 1, leAt bs (o + 2) 2, leInt bs (o + 4) 4, leInt bs (o + 8) 2, leAt bs (o + 10) 1⟩

/-- ON and OFF of a DIGITAL binding (R283). -/
def Binding.onLevel (b : Binding) : Int := signed 16 ((b.offset % 4294967296).toNat / 65536)
def Binding.offLevel (b : Binding) : Int := signed 16 ((b.offset % 4294967296).toNat % 65536)

/-- A binding obeys R283 for one of the kinds allowed in its place; its two reserved bytes are 0. -/
def bindingOk (bs : List Byte) (o : Nat) (allowed : List Nat) (self : Nat) (inSet : List Nat) : Bool :=
  let b := parseBinding bs o
  allowed.contains b.kind && zerosAt bs (o + 1) 1 && zerosAt bs (o + 11) 1 && decide (b.shift ≤ 31)
    && (match b.kind with
      | 0 => b.index == 0
      | 1 => decide (b.index ≤ 0x3FFF)
      | 2 => decide (b.index ≤ 15)
      | 3 => decide (b.index ≤ 7)
      | 4 => decide (b.index ≤ 16383)
      | 5 => decide (b.index ≤ 63) && b.index != self && inSet.contains b.index
      | 6 => decide (b.index ≤ 47) && b.mult == 0 && b.shift == 0 && decide (b.offLevel < b.onLevel)
      | _ => decide (b.index ≤ 127) && b.mult == 0 && b.shift == 0)

/-- What a load checks of the 32-byte header (R281, R285, R321): MAGIC, FORMAT, SET_ID, HEADER_CRC and the object's
length. Its reserved bytes are in no row of R285; a COUNT above its range fails with the block numbers. -/
def setHeaderOk (bs : List Byte) (magic blockLen : Nat) : Bool :=
  decide (36 ≤ bs.length) && leAt bs 0 4 == magic && leAt bs 4 2 == 1 && leAt bs 8 4 != 0
    && (crc32c (slice bs 0 0x1C)).toNat == leAt bs 0x1C 4
    && bs.length == 36 + blockLen * leAt bs 7 1

/-- HEADER_CRC alone is good (R285: the TICKS are read before the load is accepted). -/
def setHeaderCrcOk (bs : List Byte) : Bool :=
  decide (32 ≤ bs.length) && (crc32c (slice bs 0 0x1C)).toNat == leAt bs 0x1C 4

/-- BODY_CRC over all the blocks (R281). -/
def bodyCrcOk (bs : List Byte) (blockLen : Nat) : Bool :=
  let n := blockLen * leAt bs 7 1
  (crc32c (slice bs 32 n)).toNat == leAt bs (32 + n) 4

/-- Byte offsets of the blocks. -/
def blockOffs (bs : List Byte) (blockLen : Nat) : List Nat :=
  (List.range (leAt bs 7 1)).map fun k => 32 + blockLen * k

/-- Blocks stand in ascending number with none repeated; the first that breaks the order. -/
def orderFault : Option Nat → List Nat → Option Nat
  | _, [] => none
  | none, n :: ns => orderFault (some n) ns
  | some p, n :: ns => if p < n then orderFault (some n) ns else some n

/-- A section entry (R284). -/
def parseSection (bs : List Byte) (o : Nat) : Section :=
  ⟨leInt bs o 2, leInt bs (o + 2) 2, leInt bs (o + 4) 2, leInt bs (o + 6) 2, leInt bs (o + 8) 2,
   leAt bs (o + 10) 1, leAt bs (o + 11) 1 == 1⟩

/-- A loop block (R282). -/
def parseLoop (bs : List Byte) (o : Nat) : LoopBlock :=
  let f := leAt bs (o + 3) 1
  { com := {
      no := leAt bs o 1, ticks := leAt bs (o + 2) 1
      fromSafe := f.testBit 0, reverse := f.testBit 1, trkUsed := f.testBit 2, manUsed := f.testBit 3
      badAction := leAt bs (o + 4) 1, initMode := leAt bs (o + 5) 1, staleLimit := leAt bs (o + 6) 2
      safe := leInt bs (o + 0xE) 2, outHi := leInt bs (o + 0x10) 2, outLo := leInt bs (o + 0x12) 2
      trkBit := leAt bs (o + 0x14) 2, manBit := leAt bs (o + 0x16) 2
      pv := parseBinding bs (o + 0x20), sp := parseBinding bs (o + 0x2C)
      ff := parseBinding bs (o + 0x38), hi := parseBinding bs (o + 0x44)
      lo := parseBinding bs (o + 0x50), man := parseBinding bs (o + 0x5C)
      trk := parseBinding bs (o + 0x68), out := parseBinding bs (o + 0x74) }
    law := .cascade (leInt bs (o + 8) 2) (leAt bs (o + 0xA) 1) (leInt bs (o + 0xC) 2)
      (leAt bs (o + 0xB) 1)
      ((List.range (leAt bs (o + 1) 1)).map fun s => parseSection bs (o + 0x80 + 16 * s)) }

/-- A section entry's own limits (R284). -/
def sectionOk (bs : List Byte) (o : Nat) : Bool :=
  decide (leAt bs (o + 10) 1 ≤ 3) && decide (leAt bs (o + 11) 1 ≤ 1) && zerosAt bs (o + 12) 4

/-- The checks that loop and table blocks share: mode, action, limits, bit addresses. -/
def commonOk (l : LoopCommon) (flags : Nat) : Bool :=
  decide (1 ≤ l.ticks ∧ l.ticks ≤ 80) && decide (flags < 16) && decide (l.badAction ≤ 2)
    && decide (l.initMode ≤ 2) && decide (l.outLo ≤ l.safe ∧ l.safe ≤ l.outHi)
    && (l.trkUsed || l.trkBit == 0) && !(l.trkUsed && l.trk.kind == 0) && (l.manUsed || l.manBit == 0)

/-- A loop block's fields obey R282 and R284. -/
def loopFieldsOk (bs : List Byte) (o : Nat) : Bool :=
  let l := parseLoop bs o
  let n := leAt bs (o + 1) 1
  decide (l.com.no ≤ 63) && decide (1 ≤ n ∧ n ≤ 8) && commonOk l.com (leAt bs (o + 3) 1)
    && decide (leAt bs (o + 0xA) 1 ≤ 7) && decide (leAt bs (o + 0xB) 1 ≤ 7)
    && zerosAt bs (o + 0x18) 8
    && (List.range 8).all fun s =>
      if s < n then sectionOk bs (o + 0x80 + 16 * s) else zerosAt bs (o + 0x80 + 16 * s) 16

/-- A loop block's bindings obey R283. -/
def loopBindingsOk (bs : List Byte) (inSet : List Nat) (o : Nat) : Bool :=
  let l := parseLoop bs o
  let ok := fun at_ kinds => bindingOk bs (o + at_) kinds l.com.no inSet
  ok 0x20 [1, 2, 3, 4, 5] && ok 0x2C [0, 1, 5] && ok 0x38 [0, 1, 5] && ok 0x44 [0, 1, 5]
    && ok 0x50 [0, 1, 5] && ok 0x5C [0, 1, 5] && ok 0x68 [0, 1, 5] && ok 0x74 [0, 1, 2, 4, 6, 7]

/-- A table block (R324). -/
def parseTable (bs : List Byte) (o : Nat) : LoopBlock :=
  let f := leAt bs (o + 2) 1
  { com := {
      no := leAt bs o 1, ticks := leAt bs (o + 1) 1
      fromSafe := f.testBit 0, reverse := f.testBit 1, trkUsed := f.testBit 2, manUsed := f.testBit 3
      badAction := leAt bs (o + 3) 1, initMode := leAt bs (o + 4) 1, staleLimit := leAt bs (o + 6) 2
      safe := leInt bs (o + 0xC) 2, outHi := leInt bs (o + 0xE) 2, outLo := leInt bs (o + 0x10) 2
      trkBit := leAt bs (o + 0x12) 2, manBit := leAt bs (o + 0x14) 2
      pv := parseBinding bs (o + 0x20), sp := parseBinding bs (o + 0x2C)
      ff := ⟨0, 0, 0, 0, 0⟩, hi := parseBinding bs (o + 0x38), lo := parseBinding bs (o + 0x44)
      man := parseBinding bs (o + 0x50), trk := parseBinding bs (o + 0x5C)
      out := parseBinding bs (o + 0x68) }
    law := .table (leAt bs (o + 5) 1) (leInt bs (o + 8) 2) (leAt bs (o + 0xA) 1)
      ((List.range 256).map fun k => leInt bs (o + 0x80 + 2 * k) 2) }

/-- A table block's fields obey R324. -/
def tableFieldsOk (bs : List Byte) (o : Nat) : Bool :=
  let l := parseTable bs o
  decide (l.com.no ≤ 15) && commonOk l.com (leAt bs (o + 2) 1) && decide (leAt bs (o + 5) 1 ≤ 7)
    && decide (leAt bs (o + 0xA) 1 ≤ 7) && zerosAt bs (o + 0xB) 1 && zerosAt bs (o + 0x16) 10
    && zerosAt bs (o + 0x74) 12

/-- A table block's bindings obey R324. -/
def tableBindingsOk (bs : List Byte) (o : Nat) : Bool :=
  let ok := fun at_ kinds => bindingOk bs (o + at_) kinds 64 []
  ok 0x20 [1, 2, 3, 4] && ok 0x2C [0, 1] && ok 0x38 [0, 1] && ok 0x44 [0, 1] && ok 0x50 [0, 1]
    && ok 0x5C [0, 1] && ok 0x68 [1, 2, 4, 7]

/-- A heat block (R322). -/
def parseHeat (bs : List Byte) (o : Nat) : HeatBlock :=
  { no := leAt bs o 1, lanes := BitVec.ofNat 8 (leAt bs (o + 1) 1)
    exclUsed := BitVec.ofNat 8 (leAt bs (o + 2) 1), manUsed := (leAt bs (o + 3) 1).testBit 0
    hyst := leInt bs (o + 4) 2, safe := leInt bs (o + 6) 2, laneTimeout := leAt bs (o + 8) 2
    manBit := leAt bs (o + 0xA) 2, statusWord := leAt bs (o + 0xC) 2, initMode := leAt bs (o + 0xE) 1
    exclBits := (List.range 8).map fun l => leAt bs (o + 0x10 + 2 * l) 2
    man := parseBinding bs (o + 0x20), out := parseBinding bs (o + 0x2C) }

/-- A heat block's fields obey R322. -/
def heatFieldsOk (bs : List Byte) (o : Nat) : Bool :=
  let h := parseHeat bs o
  decide (h.no ≤ 15) && h.lanes != 0 && (h.exclUsed &&& ~~~h.lanes) == 0
    && decide (leAt bs (o + 3) 1 ≤ 1) && decide (0 ≤ h.hyst ∧ h.hyst ≤ 4096)
    && decide (10 ≤ h.laneTimeout) && (h.manUsed || h.manBit == 0)
    && (decide (h.statusWord ≤ 0x3FFF) || h.statusWord == 0xFFFF) && decide (h.initMode ≤ 2)
    && zerosAt bs (o + 0xF) 1 && zerosAt bs (o + 0x38) 8
    && (List.range 8).all fun l => h.exclUsed.getLsbD l || h.exclBits.getD l 0 == 0

/-- A heat block's bindings obey R322. -/
def heatBindingsOk (bs : List Byte) (o : Nat) : Bool :=
  bindingOk bs (o + 0x20) [0, 1] 64 [] && bindingOk bs (o + 0x2C) [1, 2, 4] 64 []

/-- Two sinks of one set name the same output; the number of the later one (R285). -/
def sinkClash (outs : List (Nat × Binding)) : Option Nat :=
  let rec go : List (Nat × Nat) → List (Nat × Binding) → Option Nat
    | _, [] => none
    | seen, (n, b) :: rest =>
      if b.kind == 0 then go seen rest
      else if seen.contains (b.kind, b.index) then some n
      else go ((b.kind, b.index) :: seen) rest
  go [] outs

/-! ### The schedule (R98, R99, R272, R273, R319), in half nanoseconds -/

/-- Sample instants of one loop in REF clocks of 40 ns: floor(k × P ÷ N) (R98). -/
def tickInstants (pNs ticks : Nat) : List Nat :=
  (List.range ticks).map fun k => k * (pNs / 40) / ticks

/-- Clocks of one sample in half nanoseconds: (32 + 6 × SECTIONS) × 2.5 ns, or 300 ns (R272, R319). -/
def sampleTime (l : LoopBlock) : Nat :=
  match l.law with
  | .cascade _ _ _ _ secs => (32 + 6 * secs.length) * 5
  | .table .. => 600

/-- One sample to be served: instant, next instant of its loop or the end of the stroke's limit,
loop number and duration. -/
structure Job where
  instant : Nat
  limit : Nat
  no : Nat
  dur : Nat
  deriving DecidableEq, Repr

/-- Insert in order of instant, then loop number (R272). -/
def insertJob (j : Job) : List Job → List Job
  | [] => [j]
  | k :: ks =>
    if j.instant < k.instant ∨ (j.instant = k.instant ∧ j.no ≤ k.no) then j :: k :: ks
    else k :: insertJob j ks

/-- Every sample of one stroke at nominal P, in order of service (R273). -/
def strokeJobs (pNs : Nat) (loops : List LoopBlock) : List Job :=
  let jobs := loops.flatMap fun l =>
    (List.range l.com.ticks).map fun k =>
      let at_ := fun k => k * (pNs / 40) / l.com.ticks * 80
      Job.mk (at_ k)
        (if k + 1 < l.com.ticks then at_ (k + 1) else 2 * (pNs - pNs / 1000)) l.com.no (sampleTime l)
  jobs.foldr insertJob []

/-- Serve the samples one at a time: each loop's largest end minus instant, and the first loop whose
sample ends too late (R272, R273). -/
def serveJobs : Nat → SMap Nat → List Job → Except Nat (SMap Nat)
  | _, d, [] => .ok d
  | free, d, j :: js =>
    let fin := max (j.instant + 80) free + j.dur
    if j.instant + 50000 < fin ∨ j.limit < fin then .error j.no
    else serveJobs fin (smSet 0 d j.no (max (smGet 0 d j.no) (fin - j.instant))) js

/-- DMAX of every loop in units of 10 ns, rounded up; or the loop that does not fit (R273). -/
def schedule (pNs : Nat) (loops : List LoopBlock) : Except Nat (SMap Nat) :=
  (serveJobs 0 [] (strokeJobs pNs loops)).map fun d => d.map fun e => (e.1, (e.2 + 19) / 20)

/-- N ÷ P is at most 20 kHz (R99). -/
def ticksOk (pNs ticks : Nat) : Bool := decide (ticks * 50000 ≤ pNs)

/-! ### Loading -/

/-- The loop, table or heat number of the first block that fails a check. -/
def firstBad (bs : List Byte) (offs : List Nat) (ok : Nat → Bool) : Option Nat :=
  (offs.find? (fun o => !ok o)).map fun o => leAt bs o 1

/-- The checks of R285 on a loop set (instance `eng`) or a table set (`isTable`), in order:
`.error (result, number)` with 0xFF for no number, or the set with every DMAX. -/
def checkLoopSet (isTable : Bool) (eng pNs : Nat) (obj : Option (List Byte)) :
    Except (Nat × Nat) (LoopSet × SMap Nat) :=
  match obj with
  | none => .error (1, 0xFF)
  | some bs =>
    let len := if isTable then 640 else 256
    let offs := blockOffs bs len
    let nos := offs.map fun o => leAt bs o 1
    let fieldsOk := if isTable then tableFieldsOk bs else loopFieldsOk bs
    let bindsOk := if isTable then tableBindingsOk bs else loopBindingsOk bs nos
    let loops := offs.map (if isTable then parseTable bs else parseLoop bs)
    if !setHeaderOk bs (if isTable then 0x53543147 else 0x534C3147) len
    then .error (2, 0xFF)
    else if leAt bs 6 1 ≠ eng then .error (3, 0xFF)
    else if !bodyCrcOk bs len then .error (4, 0xFF)
    else match (firstBad bs offs fieldsOk).orElse (fun _ => orderFault none nos) with
      | some n => .error (5, n)
      | none =>
        match (firstBad bs offs bindsOk).orElse
            (fun _ => sinkClash (loops.map fun l => (l.com.no, l.com.out))) with
        | some n => .error (6, n)
        | none =>
          match schedule pNs loops with
          | .error n => .error (8, n)
          | .ok d => .ok (⟨BitVec.ofNat 32 (leAt bs 8 4), BitVec.ofNat 32 (leAt bs 12 4), loops⟩, d)

/-- The checks of R325 on a heat set. -/
def checkHeatSet (obj : Option (List Byte)) :
    Except (Nat × Nat) (Word × Word × List HeatBlock) :=
  match obj with
  | none => .error (1, 0xFF)
  | some bs =>
    let offs := blockOffs bs 64
    let nos := offs.map fun o => leAt bs o 1
    let heats := offs.map (parseHeat bs)
    if !setHeaderOk bs 0x53483147 64 then .error (2, 0xFF)
    else if !bodyCrcOk bs 64 then .error (4, 0xFF)
    else match (firstBad bs offs (heatFieldsOk bs)).orElse (fun _ => orderFault none nos) with
      | some n => .error (5, n)
      | none =>
        match (firstBad bs offs (heatBindingsOk bs)).orElse
            (fun _ => sinkClash (heats.map fun h => (h.no, h.out))) with
        | some n => .error (6, n)
        | none => .ok (BitVec.ofNat 32 (leAt bs 8 4), BitVec.ofNat 32 (leAt bs 12 4), heats)

/-- Every TICKS of a staged set obeys R99 when its header CRC is good; blocks beyond the object do
not count (R285). -/
def stagedTicksOk (isTable : Bool) (pNs : Nat) (obj : Option (List Byte)) : Bool :=
  match obj with
  | none => true
  | some bs =>
    !setHeaderCrcOk bs || (blockOffs bs (if isTable then 640 else 256)).all fun o =>
      decide (bs.length < o + (if isTable then 640 else 256))
        || ticksOk pNs (leAt bs (o + if isTable then 1 else 2) 1)

end Sys2Proof.Machine
end

