-- ==== Sys2Proof/Machine/SafetyGroups.lean ====
section
/-!
DEFINITION. The safety block: pairs and their faults (R337 to R341, R348), the reset input (R353 to
R356), the group unit (R346 to R351), the switch commands (R332 to R336, R342) and the registers and
records of page 0x20 (R373 to R378, R382).
-/
namespace Sys2Proof.Machine

def safeCh (c : Chip) (k : Nat) : SafeCh := smGet SafeCh.reset c.safety.chans k
def pairFault (c : Chip) (n : Nat) : PairFault := smGet PairFault.reset c.safety.pairs n
def safeOut (c : Chip) (o : Nat) : SafeOut := smGet SafeOut.reset c.safety.outs o
def group (c : Chip) (g : Nat) : GroupSt := smGet GroupSt.reset c.safety.groups g

def modChan (c : Chip) (k : Nat) (f : SafeCh → SafeCh) : Chip :=
  { c with safety := { c.safety with chans := smMod SafeCh.reset c.safety.chans k f } }
def modPair (c : Chip) (n : Nat) (f : PairFault → PairFault) : Chip :=
  { c with safety := { c.safety with pairs := smMod PairFault.reset c.safety.pairs n f } }
def modOut (c : Chip) (o : Nat) (f : SafeOut → SafeOut) : Chip :=
  { c with safety := { c.safety with outs := smMod SafeOut.reset c.safety.outs o f } }
def modGroup (c : Chip) (g : Nat) (f : GroupSt → GroupSt) : Chip :=
  { c with safety := { c.safety with groups := smMod GroupSt.reset c.safety.groups g f } }

def pairCfg (c : Chip) (n : Nat) : Word := cfg c 0x20 (0x500 + 4 * n)
def outCfg (c : Chip) (o : Nat) : Word := cfg c 0x20 (0x540 + 4 * o)
def grpCfg (c : Chip) (k g : Nat) : Word := cfg c 0x20 (0x100 + 16 * g + 4 * k)

/-- Channel `k` is in demand: it reads the opposite of its non-demand level (R337). -/
def chanDemand (c : Chip) (k : Nat) : Bool :=
  let antivalentB := k % 2 = 1 && bitOf (pairCfg c (k / 2)) 30
  (safeCh c k).level == antivalentB

/-- A pair is in demand while either filtered channel is (R339). -/
def pairDemand (c : Chip) (n : Nat) : Bool := chanDemand c (2 * n) || chanDemand c (2 * n + 1)

/-- The two channels agree (R340). -/
def pairAgrees (c : Chip) (n : Nat) : Bool := chanDemand c (2 * n) == chanDemand c (2 * n + 1)

/-- The DISCREPANCY fault of a pair is gone once both channels have been in demand together and now
agree (R348). -/
def pairRecheck (c : Chip) (n : Nat) : Chip :=
  let both := chanDemand c (2 * n) && chanDemand c (2 * n + 1)
  let c := if both then modPair c n fun p => { p with both := p.present } else c
  let p := pairFault c n
  if p.present && p.both && pairAgrees c n then
    modPair c n fun p => { p with present := false, both := false }
  else c

/-- A fault of R348 is detected: its groups lock out at the next TF that evaluates (R333). -/
def detect (c : Chip) (cause which : Nat) : Chip :=
  { c with safety := { c.safety with detected := c.safety.detected ++ [(cause, which)] } }

/-- A channel holds a new level for FILTER (R338). -/
def safetyFilterPass (c : Chip) (k : Nat) (level : Bool) : Chip :=
  if 16 ≤ k then c else pairRecheck (modChan c k fun s => { s with level := level }) (k / 2)

/-- The discrepancy timer of pair `n` reaches DISC_TIME (R340). -/
def discrepancy (c : Chip) (n : Nat) : Chip :=
  if 8 ≤ n || pairAgrees c n then c
  else detect (modPair c n fun p => { p with present := true, both := false }) 1 n

/-- A stage test of channel `k` ends: the reading followed, or the channel has a STAGE_FAULT (R341,
R348). -/
def stageTest (c : Chip) (k : Nat) (follows : Bool) : Chip :=
  if 16 ≤ k then c
  else if follows then
    let c := modChan c k fun s =>
      { s with passes := satInc 10 s.passes, stageFault := s.stageFault && decide (s.passes + 1 < 10) }
    if 10 ≤ (safeCh c (k / 2 * 2)).passes && 10 ≤ (safeCh c (k / 2 * 2 + 1)).passes then
      modPair c (k / 2) fun p => { p with stored := false }
    else c
  else
    let s := safeCh c k
    let c := modChan c k fun s => { s with stageFault := true, passes := 0 }
    if s.stageFault then c else detect c 2 (k / 2)

/-- The used connections of a group (R346). -/
def groupConns (c : Chip) (g : Nat) : List Nat :=
  (List.range 4).filterMap fun k =>
    if bitOf (grpCfg c 1 g) (16 + k) then some (fld (grpCfg c 2 g) (8 * k + 7) (8 * k)) else none

def groupPairs (c : Chip) (g : Nat) : List Nat :=
  (List.range 8).filter fun n => bitOf (grpCfg c 0 g) (8 + n)

def groupOuts (c : Chip) (g : Nat) : List Nat :=
  (List.range 8).filter fun o => bitOf (grpCfg c 0 g) (16 + o)

def groupEnabled (c : Chip) (g : Nat) : Bool := bitOf (grpCfg c 0 g) 31

/-- The group uses the pair, output or connection of a fault (R348). -/
def groupUses (c : Chip) (g : Nat) (cause which : Nat) : Bool :=
  if cause ≤ 2 then (groupPairs c g).contains which
  else if cause ≤ 5 then (groupOuts c g).contains which
  else (groupConns c g).contains which

/-- A pair has a fault present (R348, R374). -/
def pairFaulty (c : Chip) (n : Nat) : Bool :=
  (pairFault c n).present || (pairFault c n).stored
    || (safeCh c (2 * n)).stageFault || (safeCh c (2 * n + 1)).stageFault

/-- An output has a fault present (R348). -/
def outFaulty (c : Chip) (o : Nat) : Bool :=
  let s := safeOut c o
  s.stuck || s.short || s.cross

/-- Connection `k` is RUNNING, without FAULT (R347). -/
def zwGood (z : ZwConn) : Bool := z.state == 2 && !z.fault

/-- The fault that CAUSE and WHICH of a lockout name has gone (R348); one that the backup domain brought counts as
present until it has, whatever the configuration uses now (R351). -/
def causeGone (c : Chip) (g : Nat) : Bool :=
  let s := group c g
  match s.cause with
  | 1 | 2 => !c.safety.caughtPairFault.getLsbD s.which
  | 3 | 4 | 5 => !outFaulty c s.which
  | 6 => !smGet false c.safety.caughtConnFault s.which
  | _ => true

/-- Every fault of the group has gone (R349): pairs and connections as caught at T0 (R333), outputs as they read. -/
def groupClean (c : Chip) (g : Nat) : Bool :=
  causeGone c g && (groupPairs c g).all (fun n => !c.safety.caughtPairFault.getLsbD n)
    && (groupOuts c g).all (fun o => !outFaulty c o)
    && (groupConns c g).all (fun k => !smGet false c.safety.caughtConnFault k)

/-- The demand bits of a group at this TF (R347). -/
def groupDemand (c : Chip) (g : Nat) : BitVec 3 :=
  let pair := (groupPairs c g).any fun n => c.safety.caughtDemand.getLsbD n
  let prog := bitOf (grpCfg c 0 g) 29
    && smGet false c.latch.bits (fld (grpCfg c 1 g) 15 0)
  let conn := (groupConns c g).any fun k => !smGet false c.safety.caughtConn k
  BitVec.ofNat 3 (packBits [pair, prog, conn])

/-- GRP_STATg (R376). -/
def groupStat (s : GroupSt) : Word :=
  pack [(s.state, 31, 29), (s.cause, 23, 20), (s.which, 19, 12), (s.proofSeen.toNat, 11, 4),
    (s.demand.toNat, 2, 0)]

/-- LOCKOUT and LOCKED_OUT_ANY follow the lockout set of the backup domain (R351, R378). -/
def lockoutCond (c : Chip) : Chip := setCond c 0x20 2 (c.backup.lockout != 0)

/-- A group changes state, with its record and causes (R349, R378, R382); entering LOCKED_OUT sets its
bit in the backup domain with CAUSE and WHICH, leaving it clears the bit (R351). -/
def groupTo (c : Chip) (g st : Nat) : Chip :=
  let old := group c g
  if old.state = st then c
  else
    let c := modGroup c g fun s => { s with
      state := st
      proofSeen := if st = 1 then 0#8 else s.proofSeen
      quietFrom := none }
    let c := modBackup c fun b => { b with
      lockout := setBit b.lockout g (st = 4)
      lockCause := if st = 4 then smSet (0, 0) b.lockCause g ((group c g).cause, (group c g).which)
        else b.lockCause }
    let c := lockoutCond c
    let c := if st = 4 then raise c 0x20 0 else if st = 3 then raise c 0x20 1 else c
    emit c 0x20 0x60 g (BitVec.ofNat 32 old.state) (BitVec.ofNat 32 st) (groupStat (group c g))
      c.stroke.count

/-- Proofs seen at this TF (R349). -/
def proofPairs (c : Chip) (g : Nat) : List Nat :=
  (groupPairs c g).filter fun n => bitOf (pairCfg c n) 29

/-- One group at one TF: at most one change, in the order faults, demand, reset event, proof (R349,
R350). `rst` tells that a valid reset event acts. -/
def evalGroup (faults : List (Nat × Nat)) (rst : Bool) (g : Nat) (c : Chip) : Chip :=
  let s := group c g
  let dem := groupDemand c g
  let c := modGroup c g fun s => { s with
    demand := dem
    quietFrom := if dem ≠ 0 then none else s.quietFrom.orElse fun _ => some c.stroke.t0 }
  let hasDemand := dem != 0
  let mine := faults.filter fun f => groupUses c g f.1 f.2
  if !groupEnabled c g && s.state ≠ 4 then groupTo c g 0
  else match mine.foldl (fun (b : Option (Nat × Nat)) f =>
      match b with | none => some f | some x => if f.1 < x.1 then some f else some x) none with
  | some f =>
    let c := modGroup c g fun s => { s with cause := f.1, which := f.2 }
    if s.state = 4 then
      modBackup c fun b => { b with lockCause := smSet (0, 0) b.lockCause g f }
    else groupTo c g 4
  | none =>
    match s.state with
    | 2 => if hasDemand then groupTo c g 3 else c
    | 3 =>
      if hasDemand then c
      else if bitOf (grpCfg c 0 g) 30 then (if rst then groupTo c g 2 else c)
      else
        let from_ := (group c g).quietFrom.getD c.stroke.t0
        if fld (grpCfg c 0 g) 7 0 * 100000000 ≤ c.stroke.t0 - from_ then groupTo c g 2 else c
    | 4 =>
      if rst && groupClean c g then groupTo c g (if c.mode.mode.runs then 1 else 0)
      else c
    | 1 =>
      let seen := (proofPairs c g).foldl (fun m n =>
        if c.safety.caughtDemand.getLsbD n then m ||| BitVec.ofNat 8 (2 ^ n) else m) s.proofSeen
      let c := modGroup c g fun s => { s with proofSeen := seen }
      if !hasDemand && (proofPairs c g).all (fun n => seen.getLsbD n) then groupTo c g 2 else c
    | _ => if c.safety.firstTf then groupTo c g 1 else c

/-- The mask of groups for which `p` holds. -/
def groupMask (p : Nat → Bool) : Word := BitVec.ofNat 32 (packBits ((List.range 32).map p))

/-- The module evaluates its groups at this TF (R333, R334): it holds the seat or is simplex, in a
mode that evaluates, and the safety crew is not between a mismatch and its restart catch. -/
def evaluates (c : Chip) : Bool :=
  (match c.mode.mode with | .config | .stop | .run | .hold => true | _ => false)
    && drives c && !inCrewReset c .safety && !c.coxSafety.awaiting
    && !c.coxSafety.faulty

/-- A valid reset event can act (R356): in CONFIG, STOP, RUN and HOLD, on a module that evaluates its groups or will
once its safety crew is back (R333). -/
def resetActs (c : Chip) : Bool :=
  (match c.mode.mode with | .config | .stop | .run | .hold => true | _ => false) && drives c

/-- A valid reset event that cannot act is recorded and does nothing (R356, R382). -/
def resetIgnored (c : Chip) (h : Nat) : Chip := emit c 0x20 0x61 0xFFFF 3 (BitVec.ofNat 32 h) 0 0

def modReset (c : Chip) (f : ResetIn → ResetIn) : Chip :=
  { c with safety := { c.safety with rstIn := f c.safety.rstIn } }

/-- Every event still waiting or caught is ignored: the module enters a mode without strokes (R356). -/
def resetFlush (c : Chip) : Chip :=
  let r := c.safety.rstIn
  (r.caught.toList ++ r.waiting).foldl resetIgnored (modReset c fun r => { r with waiting := [], caught := none })

/-- Both switches of every output are commanded open. -/
def openSafety (c : Chip) : Chip :=
  forN 8 (fun o c => modOut c o fun s => { s with nextHigh := false, nextLow := false }) c

/-- The switch commands of output `o` after the evaluation (R332, R335, R342): energised only when
its bit in the latch is 1 and its group is ARMED; R345 holds the low-side switch open. -/
def outCommand (c : Chip) (o : Nat) : Chip :=
  let owner := (List.range 32).find? fun g => groupEnabled c g && (groupOuts c g).contains o
  let on := bitOf (outCfg c o) 31 && working c 0x20
    && smGet false c.latch.bits (fld (outCfg c o) 15 0)
    && (match owner with | some g => (group c g).state == 2 | none => false)
    && c.mode.mode.runs && !c.stroke.safeLatchS && !c.stroke.haltAtStrobe
  modOut c o fun s => { s with nextHigh := on, nextLow := on && !s.lowOpen }

/-- A fault that a TF evaluates only once a T0 has caught it: one of a pair or a connection (R333). -/
def caughtFault (f : Nat × Nat) : Bool := f.1 ≤ 2 || f.1 == 6

/-- A TF without evaluation (R333): the switches keep their commands, but where safe values are committed, on a
DISABLED page 0x20 and at an overrun they open (R104, R113, R336). A caught event that can never act is ignored. -/
def skipGroups (c : Chip) : Chip :=
  let c := if drives c && (safeMode c || c.stroke.haltAtStrobe || !working c 0x20) then openSafety c else c
  match c.safety.rstIn.caught with
  | some h => if resetActs c then c else resetIgnored (modReset c fun r => { r with caught := none }) h
  | none => c

/-- The groups that a reset event moves: out of TRIPPED where RESTART is MANUAL, and out of LOCKED_OUT (R349, R382). -/
def resetMoves (before c : Chip) (g : Nat) : Bool :=
  (group before g).state != (group c g).state && (group c g).state != 4
    && ((group before g).state == 4 || ((group before g).state == 3 && bitOf (grpCfg c 0 g) 30))

/-- The group unit at TF (R333, R349, R356). -/
def evaluateGroups (c : Chip) : Chip :=
  if !evaluates c then skipGroups c
  else
    let rst := c.safety.rstIn.caught
    let faults := c.safety.caughtFaults ++ c.safety.detected.filter (!caughtFault ·)
    let before := c
    let c := { c with safety := { c.safety with
      caughtFaults := [], detected := c.safety.detected.filter caughtFault
      rstIn := { c.safety.rstIn with caught := none } } }
    let c := forN 32 (evalGroup faults rst.isSome) c
    let c := { c with safety := { c.safety with firstTf := false } }
    let c := forN 8 (fun o c => outCommand c o) c
    match rst with
    | none => c
    | some h =>
      let moved := groupMask (resetMoves before c)
      let refused := groupMask fun g => (group before g).state == 4 && (group c g).state == 4
      let c := raise c 0x20 3
      let c := if refused != 0 then raise c 0x20 4 else c
      emit c 0x20 0x61 0xFFFF 0 (BitVec.ofNat 32 h) moved refused

/-- Groups leave AWAIT_PROOF, ARMED and TRIPPED when the module enters CONFIG, STOP or SAFE_HALT (R349); a first TF in
RUN that has not come any more will not. -/
def inhibitGroups (c : Chip) : Chip :=
  let c := forN 32 (fun g c => if (group c g).state ∈ [1, 2, 3] then groupTo c g 0 else c) c
  { c with safety := { c.safety with firstTf := false } }

/-! ### The reset input -/

/-- The filtered level closes (R353). -/
def resetClose (c : Chip) : Chip := modReset c fun r => { r with closed := true }

/-- The input is released after `h` ms: valid from 500 to 5,000, short below, without effect while it
is declared stuck (R354, R355). In a mode without strokes a valid event is ignored at once (R356). -/
def resetRelease (c : Chip) (h : Nat) : Chip :=
  let r := c.safety.rstIn
  if !r.closed then c
  else
    let c := modReset c fun r => { r with closed := false }
    if r.stuck || 5000 < h then c
    else if h < 500 then
      emit (raise (modReset c fun r => { r with short := satInc 255 r.short }) 0x20 6)
        0x20 0x61 0xFFFF 1 (BitVec.ofNat 32 h) 0 0
    else
      let c := modReset c fun r => { r with valid := satInc 255 r.valid }
      if c.mode.mode.strokes then modReset c fun r => { r with waiting := r.waiting ++ [h] } else resetIgnored c h

/-- H exceeds 5.0 s: the input is declared stuck (R355). -/
def resetStuck (c : Chip) : Chip :=
  if !c.safety.rstIn.closed || c.safety.rstIn.stuck then c
  else
    let c := modReset c fun r => { r with stuck := true, stucks := satInc 255 r.stucks }
    emit (setCond c 0x20 5 true) 0x20 0x61 0xFFFF 2 5001 0 0

/-- A stuck input has read open for 1 s and is heeded again (R355). -/
def resetFreed (c : Chip) : Chip :=
  if !c.safety.rstIn.stuck then c
  else setCond (modReset c fun r => { r with stuck := false, closed := false }) 0x20 5 false

/-! ### Outputs -/

/-- A switch that does not read open has SWITCH_STUCK (R344): a fault on its output. -/
def switchFault (c : Chip) (o : Nat) : Chip :=
  if 8 ≤ o || (safeOut c o).stuck then c else detect (modOut c o fun s => { s with stuck := true }) 3 o

/-- A switch reads closed 1 ms or more after the strobe that turned its output off, which is off still (R344). -/
def switchStuck (c : Chip) (o : Nat) : Chip :=
  if (safeOut c o).high || (safeOut c o).low then c else switchFault c o

/-- A switch test of an energised output ends (R344). -/
def switchTest (c : Chip) (o : Nat) (opened : Bool) : Chip :=
  if (safeOut c o).high && (safeOut c o).low && !opened then switchFault c o else c

/-- The readings of the switches at T0 (R375), with the gone condition they decide (R348). A short is gone when its flag
clears: the terminal has read off for 10 ms (R447, R448; log entry 83). -/
def readSwitches (c : Chip) (hs ls : BitVec 8) : Chip :=
  forN 8 (fun o c => modOut c o fun s =>
    let rh := hs.getLsbD o
    let rl := ls.getLsbD o
    { s with readHigh := rh, readLow := rl
             stuck := s.stuck && !(!s.high && !s.low && !rh && !rl) }) c

/-- PAIR_STAT, OUT_STAT, and the pairs, connections and faults, as caught at T0 (R333, R339, R375). -/
def catchSafety (c : Chip) : Chip :=
  let ps := (List.range 8).foldl (fun w n =>
    w ||| pack [(b2n (pairFaulty c n), 4 * n + 3, 4 * n + 3), (b2n (pairDemand c n), 4 * n + 2, 4 * n + 2),
      (b2n (!chanDemand c (2 * n + 1)), 4 * n + 1, 4 * n + 1), (b2n (!chanDemand c (2 * n)), 4 * n, 4 * n)]) 0
  let os := (List.range 8).foldl (fun w o =>
    let s := safeOut c o
    w ||| pack [(b2n (outFaulty c o), 4 * o + 3, 4 * o + 3), (b2n s.lowOpen, 4 * o + 2, 4 * o + 2),
      (b2n (s.readHigh && s.readLow), 4 * o + 1, 4 * o + 1), (b2n (s.high && s.low), 4 * o, 4 * o)]) 0
  let dem := BitVec.ofNat 8 (packBits ((List.range 8).map (pairDemand c)))
  let conns := fun (p : ZwConn → Bool) => (List.range 256).foldl (fun m k =>
    smSet false m k (p (smGet ZwConn.reset c.zw k))) []
  { c with safety := { c.safety with
      pairStat := ps, outStat := os, caughtDemand := dem
      caughtPairFault := BitVec.ofNat 8 (packBits ((List.range 8).map (pairFaulty c)))
      caughtConn := conns fun z => zwGood z && z.valid
      caughtConnFault := conns (·.fault)
      caughtFaults := c.safety.caughtFaults ++ c.safety.detected.filter caughtFault
      detected := c.safety.detected.filter (!caughtFault ·) } }

/-- The valid reset event that a catch of the safety crew takes, at most one (R333, R354). -/
def catchReset (c : Chip) : Chip :=
  match c.safety.rstIn.waiting with
  | [] => c
  | h :: hs => modReset c fun r => { r with waiting := hs, caught := some h }

/-- The 128 bits from SAF_IMAGE.BASE in the safety crew image (R374); none while page 0x20 does not work (R72). -/
def safetyImageBits (c : Chip) : List (Nat × Bool) :=
  if !working c 0x20 then [] else
  let base := fld (cfg c 0x20 0x04C) 15 0
  let n8 := List.range 8
  let n32 := List.range 32
  let bits := n8.map (pairDemand c) ++ n8.map (pairFaulty c)
    ++ n8.map (fun o => (safeOut c o).readHigh && (safeOut c o).readLow)
    ++ [c.safety.rstIn.caught.isSome] ++ List.replicate 7 false
    ++ n32.map (fun g => (group c g).state == 2) ++ n32.map (fun g => (group c g).state == 4)
    ++ n32.map (fun g => (group c g).state == 3)
  (List.range 128).map fun i => (base + i, bits.getD i false)

/-- The words SAF_SIG covers, in order (R371). -/
def sigWords (c : Chip) : List Word :=
  cfg c 0x20 0x04C :: ((List.range 32).flatMap fun g => [grpCfg c 0 g, grpCfg c 1 g, grpCfg c 2 g])
    ++ (List.range 8).map (pairCfg c) ++ (List.range 8).map (outCfg c) ++ [cfg c 0x21 0x040]
    ++ (List.range 256).flatMap fun k =>
        [cfgW c 0x21 k 0x04C, cfgW c 0x21 k 0x050, cfgW c 0x21 k 0x054, cfgW c 0x21 k 0x058]

/-- The signature is computed: it reads 0, with SIG_MATCH, until CONFIG is first entered, as R373 gives their reset
values (DEDUCED, log entry 73). -/
def sigLive (c : Chip) : Bool :=
  match c.mode.mode with | .reset | .boot | .unaddressed => false | _ => true

/-- SAF_SIG (R371). -/
def safSig (c : Chip) : Word := crc32c ((sigWords c).flatMap fun w => leBytes 4 w.toNat)

/-- SAF_SIG as it reads (R373). -/
def shownSig (c : Chip) : Word := if sigLive c then safSig c else 0

/-- SIG_MATCH (R373). -/
def sigMatch (c : Chip) : Bool := sigLive c && safSig c == cfg c 0x20 0x048

/-- SIG_MISMATCH holds while a group is enabled and SIG_MATCH is 0 (R378). SAF_SIG covers page 0x21 too (R371). -/
def sigCond (c : Chip) : Chip :=
  setCond c 0x20 7 ((List.range 32).any (groupEnabled c) && !sigMatch c)

end Sys2Proof.Machine
end

