-- ==== Sys2Proof/Machine/Digital.lean ====
section
/-!
DEFINITION. Digital field channels, pages 0x30 to 0x33 (chapter 11): inputs, outputs and gangs,
overload and over-temperature, readback faults, field supply groups and frequency capture. The
readback rules also cover the eight safety outputs (R448).
-/
namespace Sys2Proof.Machine

/-- The page and local number of a digital channel (R433). -/
def digPage (ch : Nat) : Nat := 0x30 + ch / 12
def digCfgA (c : Chip) (ch : Nat) : Word := cfg c (digPage ch) (0x100 + 16 * (ch % 12))
def digMode (c : Chip) (ch : Nat) : Nat := fld (digCfgA c ch) 31 30
def digPaired (c : Chip) (ch : Nat) : Bool := bitOf (digCfgA c ch) 27
def digSafe (c : Chip) (ch : Nat) : Bool := bitOf (digCfgA c ch) 26
def digOwEn (c : Chip) (ch : Nat) : Bool := bitOf (digCfgA c ch) 25
def digLoop (c : Chip) (ch : Nat) : Bool := bitOf (digCfgA c ch) 24
def digBit (c : Chip) (ch : Nat) : Nat := fld (digCfgA c ch) 15 0

/-- Channels of one gang: 1, 2 or 4 (R441). -/
def gangSize (c : Chip) (ch : Nat) : Nat := 2 ^ fld (digCfgA c ch) 29 28
/-- The lowest channel of the set (R441). -/
def gangMaster (c : Chip) (ch : Nat) : Nat := ch - ch % gangSize c ch

def digCh (c : Chip) (ch : Nat) : DigCh := smGet DigCh.reset c.dig.chans ch
def digFs (c : Chip) (g : Nat) : FsSt := smGet FsSt.reset c.dig.fs g
def digFreq (c : Chip) (f : Nat) : FreqSt := smGet FreqSt.reset c.dig.freq f
def modDig (c : Chip) (ch : Nat) (f : DigCh → DigCh) : Chip :=
  { c with dig := { c.dig with chans := smMod DigCh.reset c.dig.chans ch f } }
def modFs (c : Chip) (g : Nat) (f : FsSt → FsSt) : Chip :=
  { c with dig := { c.dig with fs := smMod FsSt.reset c.dig.fs g f } }
def modFreq (c : Chip) (n : Nat) (f : FreqSt → FreqSt) : Chip :=
  { c with dig := { c.dig with freq := smMod FreqSt.reset c.dig.freq n f } }

/-- The high-side stage of a channel is on (R439, R441 to R443, R451, R28, R611). -/
def stageOn (c : Chip) (ch : Nat) : Bool :=
  let m := gangMaster c ch
  let s := digCh c m
  digMode c ch == 2 && s.commit && !s.overload && !s.overtemp && !(digFs c (ch / 12)).held
    && (hdr c (digPage ch)).st != .isolated
    && (match c.mode.mode with | .reset | .boot | .unaddressed | .dormant => false | _ => true)

/-- Output `n` in the numbering of R448 is on at its high-side terminal. -/
def outputOn (c : Chip) (n : Nat) : Bool := if n < 48 then stageOn c n else (safeOut c (n - 48)).high

/-- An output whose edges never count: a channel with PAIRED set (R449). -/
def edgeCounts (c : Chip) (n : Nat) : Bool := !(n < 48 && digPaired c n)

/-- Note the outputs that one strobe or sink change turned on and off (R445, R446). -/
def noteEdges (before c : Chip) : Chip :=
  let ns := (List.range 56).filter (edgeCounts c)
  let on := ns.filter fun n => !outputOn before n && outputOn c n
  let off := ns.filter fun n => outputOn before n && !outputOn c n
  { c with dig := { c.dig with
      onEdge := if on = [] then c.dig.onEdge else on
      offEdge := off.foldl (fun m n => smPut m n c.stroke.t0) c.dig.offEdge } }

/-- CH_STATc bits [30:24] of a channel; a set's diagnostics stand on its master (R441, R462). -/
def digFlags (c : Chip) (ch : Nat) : Nat :=
  if gangMaster c ch ≠ ch then 0
  else
    let s := digCh c ch
    let freq := ch < 8 && digMode c ch == 1 && ((digFreq c ch).fault || (bitOf (cfg c 0x30 (0x200 + 16 * ch)) 31 && s.openWire))
    let fsOff := digMode c ch == 2 && (digFs c (ch / 12)).held
    packBits [freq, fsOff, s.cross, s.short, s.openWire, s.overtemp, s.overload]

/-- CH_STATc.FAULT; a gang's members copy the master's (R441). -/
def digFault (c : Chip) (ch : Nat) : Bool := digFlags c (gangMaster c ch) != 0

/-- DG_FAULT.FAULT of group `g` (R461). -/
def groupFaults (c : Chip) (g : Nat) : Nat :=
  packBits ((List.range 12).map fun i => digFault c (12 * g + i))

/-- The conditions of a group page (R464). -/
def groupConds (c : Chip) (g : Nat) : Chip :=
  let chs := (List.range 12).map (12 * g + ·)
  let c := setCond c (0x30 + g) 0 (groupFaults c g != 0)
  let c := setCond c (0x30 + g) 3 (chs.any fun n => (digCh c n).openWire)
  let c := setCond c (0x30 + g) 4 (chs.any fun n => (digCh c n).short)
  let c := setCond c (0x30 + g) 5 (chs.any fun n => (digCh c n).cross)
  let c := setCond c (0x30 + g) 6 ((digFs c g).state != 0)
  let c := setCond c (0x30 + g) 7 ((digFs c g).state == 2)
  setCond c (0x30 + g) 8 (chs.any fun n => digFlags c n % 2 == 1)

/-- Stage current in mA, which the environment alone decides: 0 for an input, else free (R462). -/
def stageCurrent (c : Chip) (ch : Nat) : Nat × Chip :=
  if digMode c ch = 2 then let (n, c) := freshNat c; (n % 4096, c) else (0, c)

/-- Records of the flags that set or cleared on one channel since the last (R465). -/
def recordFlags (ch : Nat) (c : Chip) : Chip :=
  let old := (digCh c ch).flags
  let now := digFlags c ch
  if old = now then c
  else
    let c := modDig c ch fun s => { s with flags := now }
    let w := BitVec.ofNat 32 now
    let c := if ((List.range 7).any fun b => now.testBit b && !old.testBit b) then
        let (i, c) := stageCurrent c ch
        emit c (digPage ch) 0x80 ch w (BitVec.ofNat 32 (digCh c ch).with_) (BitVec.ofNat 32 i) c.stroke.count
      else c
    forN 7 (fun b c => if old.testBit b && !now.testBit b then
      emit c (digPage ch) 0x81 ch w (BitVec.ofNat 32 (24 + b)) 0 c.stroke.count else c) c

/-- After any change of group `g`: records and conditions follow (R464, R465). -/
def digRefresh (c : Chip) (g : Nat) : Chip :=
  groupConds (forN 12 (fun i c => recordFlags (12 * g + i) c) c) g

/-! ### Inputs -/

/-- FREQ_FAULT or OPEN_WIRE: the value is invalid to a loop (R457). -/
def freqInvalid (c : Chip) (f : Nat) : Bool := (digFreq c f).fault || (digCh c f).openWire

/-- Once the fault has cleared, the value computed during it replaces the buffer (R457). -/
def freqSettle (c : Chip) (f : Nat) : Chip :=
  if freqInvalid c f then c
  else match (digFreq c f).next with
    | some (m, p) => modFreq c f fun q => { q with mhz := m, period := p, next := none }
    | none => c


/-- Raw level held for DEBOUNCE: the debounced state changes (R436); an input reading 1 ends its
OPEN_WIRE (R438). -/
def debouncePass (c : Chip) (ch : Nat) (level : Bool) : Chip :=
  if 48 ≤ ch || digMode c ch ≠ 1 then c
  else freqSettle (digRefresh (modDig c ch fun s =>
    { s with level := level, openWire := s.openWire && !level }) (ch / 12)) ch

/-- Input current below 0.2 mA for 100 ms while the input reads 0 (R438). -/
def inputOpenWire (c : Chip) (ch : Nat) : Chip :=
  if 48 ≤ ch || digMode c ch ≠ 1 || !digOwEn c ch || (digCh c ch).level then c
  else digRefresh (modDig c ch fun s => { s with openWire := true }) (ch / 12)

/-- An output in MID off, or below 5.0 mA on, for 100 ms (R444); the on-state test does not run on a
paired output (R452), nor either while the group is forced off. -/
def outputOpenWire (c : Chip) (ch : Nat) : Chip :=
  if 48 ≤ ch || digMode c ch ≠ 2 || gangMaster c ch ≠ ch || !digOwEn c ch
      || (digFs c (ch / 12)).held || (digPaired c ch && stageOn c ch) then c
  else digRefresh (modDig c ch fun s => { s with openWire := true }) (ch / 12)

/-- An OPEN_WIRE condition ends (R438, R444). -/
def openWireClear (c : Chip) (ch : Nat) : Chip :=
  if 48 ≤ ch then c
  else freqSettle (digRefresh (modDig c ch fun s => { s with openWire := false }) (ch / 12)) ch

/-! ### Outputs -/

/-- A value is committed to the set of master `ch`: at 0 the OVERLOAD latch clears, and OVERTEMP once
the junction has fallen below 140 °C, which the environment decides (R442, R443). While the group is
OFF the latches keep their state (R451). -/
def digCommit (c : Chip) (ch : Nat) (v : Bool) : Chip :=
  let s := digCh c ch
  if (digFs c (ch / 12)).state = 2 then modDig c ch fun s => { s with commit := v }
  else
    let (cool, c) := if s.overtemp then let (n, c) := freshNat c; (n % 2 == 1, c) else (true, c)
    modDig c ch fun s =>
      let zero := s.zeroSeen || !v
      { s with
        commit := v
        overload := s.overload && v
        zeroSeen := s.overtemp && !cool && zero
        overtemp := s.overtemp && !(cool && zero) }

/-- The masters of the outputs of group `g`. -/
def groupOutputs (c : Chip) (g : Nat) : List Nat :=
  ((List.range 12).map (12 * g + ·)).filter fun n => digMode c n == 2 && gangMaster c n == n

/-- A paired safety output: every used one of a module with PAIRED set, for R413 allows no other. -/
def safetyPaired (c : Chip) (o : Nat) : Bool := paired c && bitOf (outCfg c o) 31

/-- OUTPUT records drive safety output `o` (R332, R408), unless page 0x20 is DISABLED (R336). -/
def recordDriven (c : Chip) (o : Nat) : Bool :=
  safetyPaired c o && c.seat.outDriven && !safeMode c && working c 0x20

/-- The OUTPUT record's states that a standby drives (R408, R409). -/
def pairedState (c : Chip) (ch : Nat) : Bool :=
  c.seat.outDriven && !safeMode c && c.seat.outStates.digital.getLsbD ch

/-- What the strobe commits to the output of master `ch`, if anything: a loop-driven output keeps its
sink's value (R102 to R104, R113, R116, R72, R439, R440). -/
def strobeValue (c : Chip) (ch : Nat) : Option Bool :=
  if !drives c then some (digPaired c ch && pairedState c ch)
  else if !working c (digPage ch) then some (digSafe c ch)
  else if digLoop c ch then (if sinkSafe c 6 ch then some (digSafe c ch) else none)
  else if c.stroke.safeLatch then some (digSafe c ch)
  else some (smGet false c.latch.bits (digBit c ch))

/-- Safety outputs follow their commands at the strobe; a group that is OFF holds them open (R342,
R712). A module without the seat drives paired outputs from OUTPUT records and opens the others
(R103, R408). -/
def strobeSafety (c : Chip) : Chip :=
  forN 8 (fun o c =>
    let fed := (digFs c (2 + o / 4)).state != 2
    let rec_ := recordDriven c o
    modOut c o fun s =>
      if drives c then { s with high := s.nextHigh && fed, low := s.nextLow && !s.lowOpen && fed }
      else { s with high := rec_ && c.seat.outStates.high.getLsbD o && fed
                    low := rec_ && c.seat.outStates.low.getLsbD o && !s.lowOpen && fed }) c

/-- Digital outputs take their values at the strobe (R102, R439, R441, R451). -/
def strobeDigital (c : Chip) : Chip :=
  forN 4 (fun g c =>
    let c := modFs c g fun f => { f with held := f.held && f.state == 2 }
    let c := (groupOutputs c g).foldl (fun c ch =>
      match strobeValue c ch with
      | some v => digCommit c ch v
      | none => c) c
    digRefresh c g) c

/-- Digital and safety outputs switch together (R102), and the edges count under R445. -/
def strobeOutputs (c : Chip) : Chip := noteEdges c (strobeDigital (strobeSafety c))

/-- On entry to DORMANT every digital and safety output goes off (R28), and stays off after WAKE until a strobe turns it
on. -/
def outputsOff (c : Chip) : Chip :=
  let before := c
  let c := openSafety (forN 48 (fun ch c => modDig c ch fun s => { s with commit := false }) c)
  let c := forN 8 (fun o c => modOut c o fun s => { s with high := false, low := false }) c
  noteEdges before c

/-- A loop's DIGITAL sink changes (R275, R439); a paired one sends an OUTPUT record (R408), which the
caller does. -/
def sinkDigital (c : Chip) (ch : Nat) (on : Bool) : Chip :=
  if 48 ≤ ch || digMode c ch ≠ 2 || !digLoop c ch || gangMaster c ch ≠ ch || !working c (digPage ch)
      || !drives c then c
  else digRefresh (noteEdges c (digCommit c ch on)) (ch / 12)

/-- Paired stages take the states of an OUTPUT record, or are released (R408, R409). -/
def applyPaired (c : Chip) : Chip :=
  if drives c then c
  else
    let before := c
    let c := forN 4 (fun g c => (groupOutputs c g).foldl (fun c ch =>
      if digPaired c ch then digCommit c ch (pairedState c ch) else c) c) c
    let c := forN 8 (fun o c => if safetyPaired c o then
      modOut c o fun s =>
        let on := recordDriven c o
        { s with high := on && c.seat.outStates.high.getLsbD o && (digFs c (2 + o / 4)).state != 2
                 low := on && c.seat.outStates.low.getLsbD o && !s.lowOpen && (digFs c (2 + o / 4)).state != 2 }
      else c) c
    forN 4 (fun g c => digRefresh c g) (noteEdges before c)

/-- The committed states of paired outputs, as an OUTPUT record carries them (R408). -/
def outputStates (c : Chip) : OutStates :=
  { digital := BitVec.ofNat 48 (packBits ((List.range 48).map fun n =>
      digMode c n == 2 && digPaired c n && (digCh c (gangMaster c n)).commit))
    high := BitVec.ofNat 8 (packBits ((List.range 8).map fun o =>
      safetyPaired c o && (safeOut c o).high))
    low := BitVec.ofNat 8 (packBits ((List.range 8).map fun o =>
      safetyPaired c o && (safeOut c o).low)) }

/-- Stage current of a member above its limit for its time: the set switches off and latches (R442). -/
def overload (c : Chip) (ch : Nat) : Chip :=
  if 48 ≤ ch || !stageOn c ch then c
  else digRefresh (raise (noteEdges c (modDig c (gangMaster c ch) fun s => { s with overload := true })) (digPage ch) 1)
    (ch / 12)

/-- A junction at 160 °C: the stage switches off and latches OVERTEMP (R443). While the group is OFF the latch keeps
its state (R451). -/
def overtemp (c : Chip) (ch : Nat) : Chip :=
  if 48 ≤ ch || digMode c ch ≠ 2 || (digFs c (ch / 12)).state = 2 || (digCh c (gangMaster c ch)).overtemp then c
  else
    let m := gangMaster c ch
    digRefresh (raise (noteEdges c (modDig c m fun s => { s with overtemp := true, zeroSeen := false }))
      (digPage m) 2) (m / 12)

/-! ### Terminal readback (R445 to R449) -/

/-- Change the readback flags of output `n`. -/
def modReadback (c : Chip) (n : Nat) (short cross : Bool) (w : Nat) : Chip :=
  if n < 48 then digRefresh (modDig c n fun s => { s with short := short, cross := cross, with_ := w }) (n / 12)
  else modOut c (n - 48) fun s =>
    { s with short := short, cross := cross, with_ := w, lowOpen := short, low := s.low && !short }

def readbackShort (c : Chip) (n : Nat) : Bool := if n < 48 then (digCh c n).short else (safeOut c (n - 48)).short
def readbackCross (c : Chip) (n : Nat) : Bool := if n < 48 then (digCh c n).cross else (safeOut c (n - 48)).cross
def readbackWith (c : Chip) (n : Nat) : Nat := if n < 48 then (digCh c n).with_ else (safeOut c (n - 48)).with_

/-- An output under R445 to R447: a digital output's master, or a safety output (R448). -/
def isOutput (c : Chip) (n : Nat) : Bool :=
  if n < 48 then digMode c n == 2 && gangMaster c n == n else n < 56

/-- A stuck-on reading is classified (R445, R449, R452): SHORT_TO_SUPPLY, unless the reading began
within 1 ms (`near`) after an edge that turned on other outputs, the lowest of which WITH names. -/
def shortToSupply (c : Chip) (n : Nat) (near : Bool) : Chip :=
  if !isOutput c n || outputOn c n || readbackShort c n || readbackCross c n then c
  else
    let others := c.dig.onEdge.filter (· != n)
    match near && !(n < 48 && digPaired c n), others with
    | true, o :: _ =>
      let c := modReadback c n false true o
      if n < 48 then c else detect c 5 (n - 48)
    | _, _ =>
      let c := modReadback c n true false 255
      if n < 48 then c else detect c 4 (n - 48)

/-- The last edge that turned output `n` off can lie within the last 1 ms: it came in a stroke that began no longer ago
than that and P. -/
def turnedOff (c : Chip) (n : Nat) : Bool :=
  match smFind c.dig.offEdge n with
  | some t => decide (c.stroke.t0 ≤ t + periodNs c + 1000000)
  | none => false

/-- A shorted output falls LOW within 1 ms after the edge that turned `other` off (R446). -/
def crossWired (c : Chip) (n other : Nat) : Chip :=
  if !isOutput c n || !readbackShort c n || !turnedOff c other || other = n
      || (n < 48 && digPaired c n) then c
  else
    let c := modReadback c n false true other
    if n < 48 then c else detect c 5 (n - 48)

/-- The terminal has read LOW for 10 ms with the switch off (R447). A CROSS_WIRED that the backup domain brought back
names no partner (WITH is not stored, R351), so it asks for none to be on (DEDUCED, log entry 74). -/
def channelClear (c : Chip) (n : Nat) : Chip :=
  let w := readbackWith c n
  if !isOutput c n || outputOn c n then c
  else if readbackShort c n then modReadback c n false false 255
  else if readbackCross c n && (w = 255 || outputOn c w
      && !(if w < 48 then digFault c w else outFaulty c (w - 48))) then modReadback c n false false 255
  else c

/-! ### Field supply groups -/

/-- A group's supply changes state (R450, R464, R465). Going OFF forces every output of the group off,
safety outputs fed from it included (R712). -/
def fsTo (c : Chip) (g st : Nat) : Chip :=
  let old := (digFs c g).state
  if old = st then c
  else
    let before := c
    let c := modFs c g fun f => { f with state := st, held := f.held || st == 2 }
    let c := if st = 2 && 2 ≤ g then
        forN 8 (fun o c => if o / 4 + 2 = g then modOut c o fun s => { s with high := false, low := false } else c) c
      else c
    let c := noteEdges before c
    let c := emit c (0x30 + g) 0x82 g (BitVec.ofNat 32 old) (BitVec.ofNat 32 st)
      (BitVec.ofNat 32 (digFs c g).volts) c.stroke.count
    digRefresh c g

/-- One sample of FS(g + 1), in units of 10 mV (R450). -/
def fsSample (c : Chip) (g volts : Nat) : Chip :=
  if 4 ≤ g then c
  else
    let c := modFs c g fun f => { f with volts := min volts 0xFFF }
    match (digFs c g).state with
    | 2 => c
    | st =>
      if volts < 1500 then fsTo c g 2
      else if st = 0 && volts < 1920 then fsTo c g 1
      else if st = 1 && 1950 ≤ volts then fsTo c g 0
      else c

/-- Samples above 18.0 V for 10 ms without a break (R450). -/
def fsResume (c : Chip) (g : Nat) : Chip :=
  if 4 ≤ g || (digFs c g).state ≠ 2 then c else fsTo c g 1

/-! ### Frequency and period capture (R454 to R458) -/

def freqCfg (c : Chip) (f : Nat) : Word := cfg c 0x30 (0x200 + 16 * f)

/-- The channel measures (R454). -/
def freqOn (c : Chip) (f : Nat) : Bool := f < 8 && digMode c f == 1 && bitOf (freqCfg c f) 31

/-- n ÷ d to the nearest unit; the spec does not say which way a tie goes, so a tie is free. -/
def nearest (c : Chip) (n d : Nat) : Nat × Chip :=
  if 2 * (n % d) < d then (n / d, c)
  else if 2 * (n % d) = d then let (b, c) := freshNat c; (n / d + b % 2, c)
  else (n / d + 1, c)

/-- The buffer takes a value, or keeps the last valid one while the fault holds (R457). -/
def freqReport (c : Chip) (f mhz period : Nat) : Chip :=
  if freqInvalid c f then modFreq c f fun q => { q with next := some (mhz, period) }
  else modFreq c f fun q => { q with mhz := mhz, period := period, next := none }

/-- An edge completes a period of `t` units of 10 ns (R455, R457). -/
def freqPeriod (c : Chip) (f t : Nat) : Chip :=
  if !freqOn c f then c
  else if t < 5000 then
    digRefresh (modFreq c f fun q => { q with fault := true, good := 0 }) 0
  else
    let avg := fld (freqCfg c f) 23 16
    let c := modFreq c f fun q =>
      { q with window := (t :: q.window).take avg, updates := q.updates + 1, good := q.good + 1
               fault := q.fault && decide (q.good + 1 < 16) }
    let w := (digFreq c f).window
    let sum := w.foldl (· + ·) 0
    let (p, c) := nearest c sum w.length
    let (m, c) := nearest c (w.length * 100000000000) sum
    digRefresh (freqReport c f m p) 0

/-- No period for TIMEOUT ms (R456). -/
def freqTimeout (c : Chip) (f : Nat) : Chip :=
  if !freqOn c f then c
  else freqReport (modFreq c f fun q => { q with window := [], updates := q.updates + 1 }) f 0 0xFFFFFFFF

/-! ### Catch (R437, R458, R461) -/

/-- DG status word of a group; the terminal readings are the environment's. -/
def groupStatus (c : Chip) (g : Nat) (terminals : BitVec 48) : Word :=
  pack [(groupFaults c g, 11, 0), (terminals.toNat / 2 ^ (12 * g), 23, 12),
    (b2n ((digFs c g).state != 0), 24, 24), (b2n ((digFs c g).state == 2), 25, 25)]

/-- Image bits of the inputs whose group works (R437, R72). -/
def digitalBits (c : Chip) : List (Nat × Bool) :=
  (List.range 48).filterMap fun ch =>
    if digMode c ch = 1 && working c (digPage ch) then some (digBit c ch, (digCh c ch).level) else none

/-- Image words of the status words and the frequency channels (R458, R461). -/
def digitalWords (c : Chip) (terminals : BitVec 48) : List (Nat × Word) :=
  ((List.range 4).filterMap fun g =>
    let w := fld (cfg c (0x30 + g) 0x044) 15 0
    if w ≠ 0xFFFF && working c (0x30 + g) then some (w, groupStatus c g terminals) else none)
  ++ ((List.range 8).flatMap fun f =>
    let w := fld (freqCfg c f) 15 0
    if freqOn c f && w ≠ 0xFFFF && working c 0x30 then
      [(w, BitVec.ofNat 32 (digFreq c f).mhz), (w + 1, BitVec.ofNat 32 (digFreq c f).period)]
    else [])

/-! ### Registers -/

/-- CH_STATc (R462): the terminal and current readings are live, so free. -/
def chStat (c : Chip) (ch : Nat) : Word × Chip :=
  let (i, c) := stageCurrent c ch
  let (t, c) := freshNat c
  let st := if digMode c ch = 1 then (digCh c ch).level
    else digMode c ch == 2 && (digCh c (gangMaster c ch)).commit
  (pack [(b2n (digFault c ch), 31, 31), (digFlags c ch, 30, 24), ((digCh c ch).with_, 23, 16), (i, 15, 4),
    (t, 1, 1), (b2n st, 0, 0)], c)

/-- DG_LIVE (R461). -/
def dgLive (c : Chip) (g : Nat) : Word × Chip :=
  let (t, c) := freshNat c
  (pack [(t, 27, 16), (packBits ((List.range 12).map fun i =>
    let ch := 12 * g + i
    if digMode c ch = 1 then (digCh c ch).level
    else digMode c ch == 2 && (digCh c (gangMaster c ch)).commit), 11, 0)], c)

/-- Reads of the read-only registers of page 0x30 + g (R460). -/
def readDigital (c : Chip) (g off : Nat) : Word × Chip :=
  let f := digFs c g
  if off = 0x040 then (pack [(f.volts, 15, 4), (b2n (f.state == 2), 1, 1), (b2n (f.state != 0), 0, 0)], c)
  else if off = 0x048 then dgLive c g
  else if off = 0x04C then (BitVec.ofNat 32 (groupFaults c g), c)
  else if off < 0x200 then chStat c (12 * g + (off - 0x108) / 16)
  else if off % 16 = 8 then (BitVec.ofNat 32 (digFreq c ((off - 0x208) / 16)).period, c)
  else (BitVec.ofNat 32 (digFreq c ((off - 0x20C) / 16)).mhz, c)

/-- R459 and R413: the digital configuration is inconsistent. `loopSinks` are the channels that a
DIGITAL sink names; `procOut` and `anyOut` tell a bit of the process crew's, or any crew's, IOMAP. -/
def digitalBad (c : Chip) (loopSinks : List Nat) (procBit anyBit anyWord : Nat → Bool) (paired : Bool) : Bool :=
  ((List.range 48).any fun ch =>
    let m := digMode c ch
    let size := gangSize c ch
    let master := gangMaster c ch
    let set_ := (List.range size).map (master + ·)
    (size > 1 && (set_.any (fun n => digMode c n ≠ 2 || gangSize c n ≠ size)
        || (ch ≠ master && (digCfgA c ch &&& 0x0700FFFF#32) ≠ 0)))
    || (m == 1 && anyBit (digBit c ch))
    || (m == 2 && master == ch && !digLoop c ch && !procBit (digBit c ch))
    || (digLoop c ch && !loopSinks.contains ch)
    || (!digLoop c ch && loopSinks.contains ch)
    || (m == 1 && (List.range 48).any (fun n => n ≠ ch && digMode c n == 1 && digBit c n == digBit c ch))
    || (m == 2 && paired && !digPaired c ch))
  || ((List.range 8).any fun f =>
    let w := fld (freqCfg c f) 15 0
    bitOf (freqCfg c f) 31 && (digMode c f ≠ 1 || (w ≠ 0xFFFF && (anyWord w || anyWord (w + 1)))))
  || ((List.range 4).any fun g =>
    let w := fld (cfg c (0x30 + g) 0x044) 15 0
    w ≠ 0xFFFF && anyWord w)

end Sys2Proof.Machine
end

