-- ==== Sys2Proof/Machine/Islands.lean ====
section
/-!
DEFINITION. Analogue loop islands, page 0x34 (chapter 12): tiers and starts on the island's side of
the barrier, commands and frames across it, and sequencer 1's buffers, faults and records.
-/
namespace Sys2Proof.Machine

def islCfgA (c : Chip) (i : Nat) : Word := cfg c 0x34 (0x100 + 16 * i)
def islCfgB (c : Chip) (i : Nat) : Word := cfg c 0x34 (0x104 + 16 * i)
def islWord (c : Chip) (i : Nat) : Nat := fld (islCfgA c i) 15 0
def islLoop (c : Chip) (i : Nat) : Bool := bitOf (islCfgA c i) 27

def island (c : Chip) (i : Nat) : Island := smGet Island.reset c.islands i
def modIsland (c : Chip) (i : Nat) (f : Island → Island) : Chip :=
  { c with islands := smMod Island.reset c.islands i f }
def islBuf (c : Chip) (i : Nat) : IslBuf := smGet IslBuf.reset c.isl.bufs i
def modBuf (c : Chip) (i : Nat) (f : IslBuf → IslBuf) : Chip :=
  { c with isl := { c.isl with bufs := smMod IslBuf.reset c.isl.bufs i f } }

/-- A reset has cleared the configuration and no settings are back yet. -/
def unconfigured : Mode → Bool
  | .reset | .boot | .unaddressed => true
  | _ => false

/-- The role an island has (R467): as configured, and while a reset has cleared the configuration, as it was last told.
-/
def islRole (c : Chip) (i : Nat) : Nat :=
  let r := fld (islCfgA c i) 31 30
  if r ≠ 0 then r else if unconfigured c.mode.mode then (island c i).role else 0

def islPaired (c : Chip) (i : Nat) : Bool :=
  if fld (islCfgA c i) 31 30 ≠ 0 then bitOf (islCfgA c i) 29
  else unconfigured c.mode.mode && (island c i).paired

/-- Source and sink islands drive an output. -/
def islOutput (c : Chip) (i : Nat) : Bool := islRole c i == 1 || islRole c i == 2

/-- The fail level in nA (R481). -/
def failLevel (role : Nat) (high : Bool) : Int :=
  if high then 21500000 else if role = 2 then 3200000 else 3500000

/-- The command range of the role (R469). -/
def clampCommand (role : Nat) (nA : Int) : Int :=
  clampInt (if role = 2 then 3200000 else 0) 22000000 nA

/-- The floor of `n ÷ d`, or the next integer where it does not come out even: the spec gives the
formula of R488 and no rounding, so the choice is free. -/
def roundFree (c : Chip) (n : Int) (d : Nat) : Int × Chip :=
  if n % d = 0 then (n / d, c) else let (b, c) := freshNat c; (n / d + (b % 2 : Nat), c)

/-- ISL_CALi's gain and offset trims (R493). -/
def calTrim (c : Chip) (i : Nat) : Int × Int :=
  let w := cfg c 0x34 (0x10C + 16 * i)
  (signed 16 (fld w 31 16), signed 16 (fld w 15 0))

/-- An input value with its trim (R488). -/
def trimIn (c : Chip) (i : Nat) (raw : Int) : Int × Chip :=
  let (g, o) := calTrim c i
  let (v, c) := roundFree c (raw * (1000000 + g)) 1000000
  (v + o * 10, c)

/-- An output command corrected by the inverse of the trim (R488). -/
def trimOut (c : Chip) (i : Nat) (cmd : Int) : Int × Chip :=
  let (g, o) := calTrim c i
  roundFree c ((cmd - o * 10) * 1000000) (1000000 + g).toNat

/-! ### Status, faults and records -/

/-- NE43_FAIL and RANGE of the classes held (R476). -/
def ne43Bit (b : IslBuf) : Bool := b.cls.testBit 0 || b.cls.testBit 3
def rangeBit (b : IslBuf) : Bool := b.cls.testBit 1 || b.cls.testBit 2

/-- An island is in fault (R486). -/
def bufFault (b : IslBuf) : Bool := b.lost || ne43Bit b || b.readback || b.calBad

/-- ISL_STATi (R494). -/
def islStat (b : IslBuf) : Word :=
  pack [(b2n (bufFault b), 31, 31), (b2n b.lost, 30, 30), (b2n b.compliance, 29, 29),
    (b2n (ne43Bit b), 28, 28), (b2n (rangeBit b), 27, 27),
    (b2n b.readback, 26, 26), (b2n b.calBad, 25, 25), (b2n b.pass, 24, 24), (b2n b.failDriven, 23, 23),
    (b2n b.effHigh, 22, 22), (b.tier, 21, 20), (b.headroom, 15, 0)]

/-- AI_LOST and AI_FAULT (R492). -/
def aiLost (c : Chip) : Nat := packBits ((List.range 16).map fun i => (islBuf c i).lost)
def aiFault (c : Chip) : Nat := packBits ((List.range 16).map fun i => bufFault (islBuf c i))

/-- Some link reads both ways (R479). -/
def linkFault (c : Chip) : Bool := (List.range 4).any fun k => c.isl.links.toNat / 4 ^ k % 4 == 3

/-- The conditions of page 0x34 (R495). -/
def islConds (c : Chip) : Chip :=
  let all := (List.range 16).map (islBuf c)
  let c := setCond c 0x34 0 (aiFault c != 0)
  let c := setCond c 0x34 1 (aiLost c != 0)
  let c := setCond c 0x34 2 (all.any (·.compliance))
  let c := setCond c 0x34 4 (all.any ne43Bit)
  let c := setCond c 0x34 5 (all.any (·.readback))
  let c := setCond c 0x34 6 (all.any (·.calBad))
  let c := setCond c 0x34 8 (linkFault c)
  setCond c 0x34 9 c.isl.lsLow

/-- After a change of island `i`'s buffer: a change of ISL_STATi bits [31:24] is recorded and the
conditions follow (R495, R496). -/
def islRefresh (c : Chip) (i : Nat) : Chip :=
  let b := islBuf c i
  let now := fld (islStat b) 31 24
  if now = b.flags then islConds c
  else
    let c := modBuf c i fun b => { b with flags := now }
    islConds (emit c 0x34 0x92 i (BitVec.ofNat 32 b.flags) (BitVec.ofNat 32 now) (wOfInt b.value)
      c.stroke.count)

/-- What an island says of itself, as sequencer 1 holds it (R494). -/
def takeFlags (s : Island) (b : IslBuf) : IslBuf :=
  { b with compliance := s.compliance, readback := s.readback, calBad := s.calBad, cls := s.cls, tier := s.tier }

/-- The flags the island decides reach the core unless the island is lost or sequencer 1 rests (R484, R487, R494,
R28). -/
def islReport (c : Chip) (i : Nat) : Chip :=
  if (islBuf c i).lost || fieldRests c.mode.mode then c
  else islRefresh (modBuf c i (takeFlags (island c i))) i

/-- The value loops and the image see: the substitute of an input island in fault (R486). -/
def islShown (c : Chip) (i : Nat) : Int :=
  let b := islBuf c i
  if islRole c i = 3 && bufFault b then
    match fld (islCfgA c i) 26 25 with
    | 0 => b.caught
    | 1 => (cfg c 0x34 (0x108 + 16 * i)).toInt
    | _ => if b.effHigh then 21500000 else 3500000
  else b.value

/-! ### Tiers (R470 to R472) -/

/-- The threshold of a tier in nA. -/
def tierThreshold : Nat → Int
  | 3 => 3000000
  | 2 => 2000000
  | _ => 1300000

/-- A loop-powered island (R467). -/
def loopPowered (c : Chip) (i : Nat) : Bool := islRole c i == 2 || islRole c i == 3

/-- A move to a lower tier is reported, counted and recorded at most once per 100 strokes (R471,
R494 to R496). -/
def tierDown (c : Chip) (i low : Nat) : Chip :=
  let from_ := (island c i).tier
  let c := modIsland c i fun s => { s with tier := low }
  ungated (fun c =>
    let c := islReport (modBuf c i fun b => { b with tierDowns := satInc 255 b.tierDowns }) i
    let c := raise c 0x34 3
    let (due, c) := rateAllow c (rateKey 0x34 0x93 i) 100
    match due with
    | some n => emit c 0x34 0x93 i (BitVec.ofNat 32 from_) (BitVec.ofNat 32 low) (BitVec.ofNat 32 n)
        c.stroke.count
    | none => c) c

/-- A tier decision on the current averaged over 1 ms, in nA (R470, R471). -/
def tierDecision (c : Chip) (i : Nat) (nA : Int) : Chip :=
  if 16 ≤ i || !loopPowered c i then c
  else
    let s := island c i
    let c := modIsland c i fun s => { s with
      decisions := (nA :: s.decisions).take 10
      onCap := if nA < 1100000 then s.onCap + 1 else 0 }
    if s.tier = 3 && nA < 2900000 then tierDown c i (if 2000000 ≤ nA then 2 else 1)
    else if s.tier = 2 && nA < 1900000 then tierDown c i 1
    else c

/-- The last ten decisions all reached `nA`. -/
def tenAtLeast (s : Island) (nA : Int) : Bool :=
  s.decisions.length == 10 && s.decisions.all (fun x => decide (nA ≤ x))

/-- Ten decisions at a higher threshold: the island moves up (R471). -/
def tierUp (c : Chip) (i : Nat) : Chip :=
  let s := island c i
  if 16 ≤ i || !loopPowered c i then c
  else if (s.tier = 1 || s.tier = 2) && tenAtLeast s 3000000 then islReport (modIsland c i fun s => { s with tier := 3 }) i
  else if s.tier = 1 && tenAtLeast s 2000000 then islReport (modIsland c i fun s => { s with tier := 2 }) i
  else c

/-- An island starts: nothing heard, nothing driven yet. COMPLIANCE and READBACK clear by R484 alone. -/
def islStart (tier : Nat) (s : Island) : Island :=
  { s with tier := tier, heard := false, onCap := 0, next := none, failed := none, drive := .none }

/-- What an island reports of itself in a frame. -/
def upFrame (s : Island) (brownout : Bool) (value : Int) (headroom : Nat) : UpFrame :=
  { brownout := brownout, value := value, headroom := headroom, applied := s.applied, tier := s.tier
    pass := s.drive == .pass
    failDriven := (match s.drive with | .fail _ => true | _ => false), failed := s.failed }

/-- A stopped island with enough current at ten decisions starts in T1 and sends a first frame
(R471). -/
def islandStart (c : Chip) (i : Nat) : Chip :=
  let s := island c i
  if 16 ≤ i || !loopPowered c i || s.tier ≠ 0 || !tenAtLeast s 1300000 then c
  else modIsland c i fun s =>
    let s := islStart 1 s
    { s with up := s.up ++ [upFrame s false s.raw 0] }

/-- The fifth decision below 1.1 mA on the capacitor: a BROWNOUT frame, then stopped (R471). -/
def islandBrownout (c : Chip) (i : Nat) : Chip :=
  let s := island c i
  if 16 ≤ i || !loopPowered c i || s.tier ≠ 1 || s.onCap < 5 then c
  else modIsland c i fun s =>
    { s with up := s.up ++ [upFrame s true s.raw 0], tier := 0, onCap := 0, drive := .none }

/-- AI_LS bits [1:0]. -/
def lsBits (c : Chip) : Nat := b2n c.isl.lsLow + 2 * b2n c.isl.lsStop

/-- A change of the LS monitor's bits, with its record (R472, R496). -/
def lsChange (before c : Chip) : Chip :=
  if lsBits before = lsBits c then c
  else islConds (emit c 0x34 0x96 0xFFFF (BitVec.ofNat 32 (lsBits before)) (BitVec.ofNat 32 (lsBits c))
    (BitVec.ofNat 32 c.isl.volts) c.stroke.count)

/-- A sample of LS in units of 10 mV, with LS_LOW and LS_STOP (R472, R492). -/
def lsSample (c : Chip) (volts : Nat) : Chip :=
  lsChange c { c with isl := { c.isl with
    volts := min volts 0xFFF
    lsLow := if volts < 1920 then true else if 1950 ≤ volts then false else c.isl.lsLow
    lsStop := decide (volts < 1200) } }

/-- Every source island. -/
def sources (c : Chip) : List Nat := (List.range 16).filter fun i => islRole c i == 1

/-- LS below 12.0 V for 1 ms: the source islands stop (R472). -/
def lsStop (c : Chip) : Chip :=
  (sources c).foldl (fun c i => modIsland c i fun s => { s with tier := 0, drive := .none }) c

/-- LS at 14.0 V for 10 ms: the source islands start again in T3 (R472). -/
def lsStart (c : Chip) : Chip :=
  (sources c).foldl (fun c i => if (island c i).tier = 0 then modIsland c i (islStart 3) else c) c

/-! ### Frames from the core (R475, R478 to R480) -/

/-- Link `k`'s reading: 0 open, 1 FD_HI, 2 FD_LO, 3 both. -/
def linkOf (w : BitVec 8) (k : Nat) : Nat := w.toNat / 4 ^ k % 4

/-- The fail direction that the link readings give island `i` (R479). -/
def linkHigh (c : Chip) (i : Nat) : Bool :=
  match linkOf c.isl.links (i / 4) with
  | 0 => bitOf (islCfgA c i) 28
  | 1 => true
  | 2 => false
  | _ => match c.isl.dirs with
    | some d => d.getLsbD i
    | none => bitOf (islCfgA c i) 28

/-- The effective fail direction of island `i`: a change of a link reading waits for the next finish (R479). -/
def effHigh (c : Chip) (i : Nat) : Bool :=
  match c.isl.dirs with
  | some d => d.getLsbD i
  | none => linkHigh c i

/-- At a finish the link readings and DIR take effect (R479). -/
def finishDirs (c : Chip) : Chip :=
  let d := BitVec.ofNat 16 (packBits ((List.range 16).map (linkHigh c)))
  forN 16 (fun i c => modBuf c i fun b => { b with effHigh := d.getLsbD i }) { c with isl := { c.isl with dirs := some d } }

/-- The links are read at BOOT and at T0 (R479); a change is recorded (R496). -/
def readLinks (c : Chip) (w : BitVec 8) : Chip :=
  let old := c.isl.links
  islConds (forN 4 (fun k c =>
    if linkOf old k = linkOf w k then c
    else emit c 0x34 0x95 k (BitVec.ofNat 32 (linkOf old k)) (BitVec.ofNat 32 (linkOf w k))
      (BitVec.ofNat 32 w.toNat) c.stroke.count) { c with isl := { c.isl with links := w } })

/-- A frame to island `i`; none leaves a block held ISOLATED (R611). -/
def sendDown (c : Chip) (i : Nat) (k : DownKind) : Chip :=
  if (hdr c 0x34).st == .isolated then c
  else
    let f : DownFrame := ⟨k, effHigh c i⟩
    let c := modBuf c i fun b => { b with lastDown := some f }
    modIsland c i fun s => { s with down := s.down ++ [f] }

/-- A command in nA is clamped, corrected and sent (R469, R475, R488). -/
def sendCommand (c : Chip) (i : Nat) (nA : Int) : Chip :=
  let (x, c) := trimOut c i (clampCommand (islRole c i) nA)
  sendDown c i (.regulate x)

/-- A loop's or heat's command (R475, R469). -/
def loopCommand (c : Chip) (i : Nat) (nA : Int) : Chip :=
  if 16 ≤ i || !islOutput c i || !drives c || !working c 0x34 then c
  else sendCommand (modBuf c i fun b => { b with loopCmd := some nA }) i nA

/-- The configured safe value in nA (R493). -/
def islSafe (c : Chip) (i : Nat) : Int := (fld (islCfgB c i) 15 0 : Nat) * 1000

/-- A loop-driven island takes its safe value; the loop's last command is gone (R277). -/
def islandSafe (c : Chip) (i : Nat) : Chip :=
  sendCommand (modBuf c i fun b => { b with loopCmd := none }) i (islSafe c i)

/-- At the output strobe of a native overrun every loop-driven island is commanded safe (R113). -/
def strobeIslands (c : Chip) : Chip :=
  forN 16 (fun i c => if islOutput c i && islLoop c i then islandSafe c i else c) c

/-- What sequencer 1 sends island `i` at a finish (R478, R483, R104, R113, R72). An unused island takes no part any more
(R467). -/
def finishIsland (i : Nat) (c : Chip) : Chip :=
  if islRole c i = 0 then
    if (island c i).role = 0 then c else modIsland c i fun s => { s with role := 0, paired := false }
  else if islRole c i = 3 then sendDown c i .direction
  else if !drives c then
    if islPaired c i then sendDown c i .pass else sendCommand c i (islSafe c i)
  else if !working c 0x34 then sendCommand c i (islSafe c i)
  else if islLoop c i then
    if sinkSafe c 2 i then islandSafe c i else sendCommand c i ((islBuf c i).loopCmd.getD (islSafe c i))
  else if c.stroke.safeLatch then sendCommand c i (islSafe c i)
  else sendCommand c i (smGet 0 c.latch.words (islWord c i)).toInt

/-- The island frames of a finish (R478). -/
def finishIslands (c : Chip) : Chip := forN 16 finishIsland (finishDirs c)

/-- On release from a BLOCK reset the islands take their safe values, or PASS, at once (R611, R483). -/
def islandsReleased (c : Chip) : Chip := if fieldRests c.mode.mode then c else finishIslands c

/-- During ACTIVATE every island gets its last command again every 10 ms (R478). -/
def activateRefresh (c : Chip) : Chip :=
  if c.mode.mode ≠ .activate then c
  else forN 16 (fun i c =>
    if islRole c i = 0 then c
    else match (islBuf c i).lastDown with
      | some f => sendDown c i f.kind
      | none =>
        if islRole c i = 3 then sendDown c i .direction
        else if islPaired c i && !drives c then sendDown c i .pass
        else sendCommand c i (islSafe c i)) c

/-! ### The island's side (R473, R475, R480, R482) -/

/-- An island is told its role: a source runs in T3 whenever it runs (R472). -/
def told (role : Nat) (paired : Bool) (s : Island) : Island :=
  { s with role := role, paired := paired, tier := if role = 1 && s.tier ≠ 0 then 3 else s.tier }

/-- The island receives the oldest frame sent to it: direction cell, hold timer, command (R475, R480,
R482). -/
def islandCommand (c : Chip) (i : Nat) : Chip :=
  match (island c i).down with
  | [] => c
  | f :: fs =>
    let c := modIsland c i fun s => { told (islRole c i) (islPaired c i) s with down := fs }
    if (island c i).tier = 0 then c
    else modIsland c i fun s => { s with
      heard := true, high := f.high
      next := match f.kind with | .direction => s.next | k => some k }

/-- An output island without its core drives its fail level, or passes where it is paired (R482). -/
def goFail (c : Chip) (i why : Nat) : Chip :=
  let role := islRole c i
  let paired := islPaired c i
  modIsland c i fun s => { s with
    drive := if paired then .pass else .fail (failLevel role s.high)
    failed := if paired then none else some why }

/-- The hold time ends (R482). -/
def failDriven (c : Chip) (i : Nat) : Chip :=
  if 16 ≤ i || !islOutput c i || (island c i).tier = 0 then c else goFail c i 0

/-- A sample: the island measures `nA`, applies any new command, and sends its value (R473, R475,
R482). -/
def islandSample (c : Chip) (i : Nat) (nA : Int) (headroom : Nat) : Chip :=
  if 16 ≤ i || islRole c i = 0 || (island c i).tier = 0 then c
  else
    let c := match (island c i).next with
      | some (.regulate x) => modIsland c i fun s =>
          { s with drive := .command x, applied := x, next := none
                   leftPass := if s.drive == .pass then some c.stroke.t0 else s.leftPass }
      | some .pass => modIsland c i fun s => { s with drive := .pass, next := none }
      | _ => if islOutput c i && !(island c i).heard && (island c i).drive == .none then goFail c i 1 else c
    modIsland c i fun s => { s with
      raw := nA, failed := none
      up := s.up ++ [upFrame s false nA
        (if islRole c i = 3 || s.drive == .pass then 0 else min headroom 0xFFFF)] }

/-- The class of a value (R476): 0 valid, 1 failure low, 2 under-range, 3 over-range, 4 failure high. -/
def ne43Class (nA : Int) : Nat :=
  if nA ≤ 3600000 then 1 else if nA < 3800000 then 2 else if nA ≤ 20500000 then 0
  else if nA < 21000000 then 3 else 4

/-- The value has held its class for 10 ms: a class other than valid is entered, and only the valid band leaves those
entered, so that two can be held together (R476; DEDUCED, log entry 103). -/
def ne43Fail (c : Chip) (i : Nat) : Chip :=
  if 16 ≤ i || islRole c i ≠ 3 then c
  else islReport (modIsland c i fun s =>
    { s with cls := if ne43Class s.raw = 0 then 0 else s.cls ||| 2 ^ (ne43Class s.raw - 1) }) i

/-- COMPLIANCE is not evaluated from leaving the pass role until HOLD has elapsed (R483). -/
def complianceHeld (c : Chip) (i : Nat) : Bool :=
  islPaired c i && (match (island c i).leftPass with
    | some t => decide (c.stroke.t0 < t + fld (islCfgB c i) 31 16 * 1000000)
    | none => false)

/-- COMPLIANCE is met or lost for 1 ms (R484). -/
def compliance (c : Chip) (i : Nat) (v : Bool) : Chip :=
  if 16 ≤ i || !islOutput c i || (island c i).drive == .pass || complianceHeld c i then c
  else islReport (modIsland c i fun s => { s with compliance := v }) i

/-- The actual current is off by 0.2 mA for 50 ms with headroom, or back within 0.1 mA (R484). -/
def readback (c : Chip) (i : Nat) (v : Bool) : Chip :=
  if 16 ≤ i || !islOutput c i then c
  else islReport (modIsland c i fun s => { s with readback := v }) i

/-- The calibration check ends (R487). -/
def calCheck (c : Chip) (i : Nat) (ok : Bool) : Chip :=
  if 16 ≤ i || (island c i).tier = 0 then c
  else islReport (modIsland c i fun s => { s with calBad := !ok }) i

/-! ### Sequencer 1 receives (R473, R485, R494) -/

/-- Island `i` is bound to the crew's image: an input's WORD to both, a crew-driven output's to the
process crew (R182, R474). -/
def islBound (c : Chip) (cr : Crew) (i : Nat) : Bool :=
  islWord c i ≠ 0xFFFF && (islRole c i == 3 || (islOutput c i && !islLoop c i && cr == .process))

/-- An island is marked lost: 0 by a BROWNOUT frame, 1 after 5 ms without one (R485, R496). -/
def islLose (c : Chip) (i why : Nat) : Chip :=
  let b := islBuf c i
  if b.lost then c
  else
    let c := modBuf c i fun b => { b with lost := true }
    let c := [Crew.safety, Crew.process].foldl (fun c cr =>
      if islBound c cr i then modCrew c cr fun s => { s with lostIslands := s.lostIslands ||| 2 ^ i } else c) c
    islRefresh (emit c 0x34 0x90 i (BitVec.ofNat 32 why) (islStat b) (wOfInt b.value) c.stroke.count) i

/-- No frame for 5 ms (R485). -/
def islandLost (c : Chip) (i : Nat) : Chip := if 16 ≤ i || islRole c i = 0 then c else islLose c i 1

/-- The oldest frame from island `i` arrives (R473, R485, R495, R496). -/
def islandFrameReceive (c : Chip) (i : Nat) : Chip :=
  match (island c i).up with
  | [] => c
  | f :: fs =>
    let c := modIsland c i fun s => { s with up := fs }
    if f.brownout then islLose (modBuf c i fun b => { b with brownouts := satInc 255 b.brownouts }) i 0
    else
      let found := (islBuf c i).lost
      let (v, c) := if islRole c i = 3 then trimIn c i f.value else (f.value, c)
      let s := island c i
      let c := modBuf c i fun b => { takeFlags s b with
        lost := false, value := v, headroom := f.headroom, applied := f.applied, tier := f.tier
        pass := f.pass, failDriven := f.failDriven, updates := (b.updates + 1) % 65536 }
      let b := islBuf c i
      let c := if found then
          emit c 0x34 0x91 i (islStat b) (wOfInt b.value) (BitVec.ofNat 32 b.brownouts) c.stroke.count
        else c
      let c := islRefresh c i
      match f.failed with
      | some why => emit (raise c 0x34 7) 0x34 0x94 i (BitVec.ofNat 32 why)
          (b2w (islBuf c i).effHigh) (wOfInt (failLevel (islRole c i) (island c i).high)) c.stroke.count
      | none => c

/-- A frame that arrives while sequencer 1 rests is lost: no value of it is read (R615). -/
def islandFrameLost (c : Chip) (i : Nat) : Chip := modIsland c i fun s => { s with up := s.up.drop 1 }

/-! ### Catch and registers (R474, R492, R494) -/

/-- The caught value of an island that is not in fault is kept for SUBST (R486). -/
def catchIslands (c : Chip) : Chip :=
  forN 16 (fun i c => if bufFault (islBuf c i) then c else modBuf c i fun b => { b with caught := b.value }) c

/-- Image words of input islands and of the status word (R474, R492). -/
def islandWords (c : Chip) : List (Nat × Word) :=
  if !working c 0x34 then []
  else
    ((List.range 16).filterMap fun i =>
      if islRole c i = 3 && islWord c i ≠ 0xFFFF then some (islWord c i, wOfInt (islShown c i)) else none)
    ++ (let w := fld (cfg c 0x34 0x048) 15 0
        if w = 0xFFFF then [] else [(w, pack [(aiLost c, 15, 0), (aiFault c, 31, 16)])])

/-- Reads of the read-only registers of page 0x34 (R491). -/
def readIslands (c : Chip) (off : Nat) : Word :=
  let i := (off % 256) / 16
  if off = 0x040 then pack [(c.isl.volts, 15, 4), (lsBits c, 1, 0)]
  else if off = 0x044 then BitVec.ofNat 32 c.isl.links.toNat
  else if off = 0x04C then BitVec.ofNat 32 (aiLost c)
  else if off = 0x050 then BitVec.ofNat 32 (aiFault c)
  else match off % 16 / 4 with
    | 0 => islStat (islBuf c i)
    | 1 => wOfInt (islBuf c i).value
    | 2 => wOfInt (islBuf c i).applied
    | _ => pack [((islBuf c i).brownouts, 31, 24), ((islBuf c i).tierDowns, 23, 16),
        ((islBuf c i).updates, 15, 0)]

/-- R490, R413: the island configuration is inconsistent. `sinks` are the islands that an ISLAND or
heat OUT binding names. -/
def islandBad (c : Chip) (sinks : List Nat) (procWord anyWord : Nat → Bool) (paired : Bool) (lease : Nat) : Bool :=
  ((List.range 16).any fun i =>
    let role := fld (islCfgA c i) 31 30
    let w := islWord c i
    let safe := fld (islCfgB c i) 15 0
    (role == 3 && w ≠ 0xFFFF && anyWord w)
    || ((role == 1 || role == 2) && !islLoop c i && (w == 0xFFFF || !procWord w))
    || (islLoop c i && (!sinks.contains i || w ≠ 0xFFFF)) || (!islLoop c i && sinks.contains i)
    || (role == 1 && 22000 < safe) || (role == 2 && (safe < 3200 || 22000 < safe))
    || (role ≠ 0 && paired && !bitOf (islCfgA c i) 29)
    || (role ≠ 0 && bitOf (islCfgA c i) 29 && paired
        && fld (islCfgB c i) 31 16 * 1000000 ≤ (lease + 4) * periodNs c))
  || (let w := fld (cfg c 0x34 0x048) 15 0
      w ≠ 0xFFFF && anyWord w)

end Sys2Proof.Machine
end

