-- ==== Sys2Proof/Machine/Remote.lean ====
section
/-!
DEFINITION. Remote I/O links, pages 0x40 to 0x5F (chapter 13): the frames, the cycle, the stations'
states, what the catch takes and the configuration checks.
-/
namespace Sys2Proof.Machine

def link (c : Chip) (l : Nat) : LinkSt := smGet LinkSt.reset c.links l
def modLink (c : Chip) (l : Nat) (f : LinkSt → LinkSt) : Chip :=
  { c with links := smMod LinkSt.reset c.links l f }
def stn (c : Chip) (l a : Nat) : StnSt := smGet StnSt.reset (link c l).stns a
def modStn (c : Chip) (l a : Nat) (f : StnSt → StnSt) : Chip :=
  modLink c l fun k => { k with stns := smMod StnSt.reset k.stns a f }

def linkPage (l : Nat) : Nat := 0x40 + l
def expects (c : Chip) (l a : Nat) : Bool := a < 8 && bitOf (cfg c (linkPage l) 0x040) a
/-- Expected stations in ascending line address. -/
def expected (c : Chip) (l : Nat) : List Nat := (List.range 8).filter (expects c l)

/-! ### Channels (R501, R518 to R522) -/

def chCfg (c : Chip) (l a n : Nat) : Word := cfgW c (linkPage l) (64 * a + n) 0x204
def chValue (c : Chip) (l a n : Nat) : Word := cfgW c (linkPage l) (64 * a + n) 0x208
def chDir (c : Chip) (l a n : Nat) : Nat := fld (chCfg c l a n) 31 30
def chWord (c : Chip) (l a n : Nat) : Bool := bitOf (chCfg c l a n) 29
def chLoop (c : Chip) (l a n : Nat) : Bool := bitOf (chCfg c l a n) 26
def chSafe (c : Chip) (l a n : Nat) : Int := signed 16 (fld (chValue c l a n) 31 16)
def chFixed (c : Chip) (l a n : Nat) : Int := signed 16 (fld (chValue c l a n) 15 0)
def bitBase (c : Chip) (l a : Nat) : Nat := fld (cfg c (linkPage l) (0x104 + 32 * a)) 31 16
def wordBase (c : Chip) (l a : Nat) : Nat := fld (cfg c (linkPage l) (0x104 + 32 * a)) 15 0

/-- Channels of a station with a direction and kind, in channel order. -/
def chans (c : Chip) (l a dir : Nat) (word : Bool) : List Nat :=
  (List.range 64).filter fun n => chDir c l a n == dir && chWord c l a n == word

/-- A mask of channels as 8 bytes, channel c in bit (c mod 8) of byte c ÷ 8 (R500). -/
def maskBytes (p : Nat → Bool) : List Byte := leBytes 8 (packBits ((List.range 64).map p))

/-! ### Frames (R499, R500) -/

/-- A payload shorter than 46 bytes is padded with zeros. -/
def padPayload (bs : List Byte) : List Byte := bs ++ List.replicate (46 - bs.length) 0

/-- A module frame of link `l`: destination, source and EtherType, then the header, the body, padding (R499); the
link's counter advances. -/
def sendRemote (c : Chip) (l type station : Nat) (body : List Byte) : Chip :=
  let seq := (link c l).seq + 1
  let hdr := beBytes 2 0x5249 ++ [1, BitVec.ofNat 8 type, BitVec.ofNat 8 station, 0]
    ++ beBytes 2 (16 + body.length) ++ beBytes 4 (ownEpoch c).toNat ++ beBytes 4 seq.toNat
  send (modLink c l fun k => { k with seq := seq }) (.remote l) (beBytes 6 0x03444D430000
    ++ beBytes 6 (Config.linkMac l) ++ beBytes 2 0x88B5 ++ padPayload (hdr ++ body))

/-- A 16-bit output value from a 32-bit image word: what a word outside the range sends is not said. -/
def outWord (c : Chip) (w : Int) : Int × Chip :=
  if -32768 ≤ w ∧ w ≤ 32767 then (w, c) else let (n, c) := freshNat c; (signed 16 (n % 65536), c)

/-- The value of output channel `n` at this finish (R502, R104, R113, R72). -/
def outValue (c : Chip) (l a n : Nat) (safe : Bool) : Int × Chip :=
  if safe then (chSafe c l a n, c)
  else if chLoop c l a n then
    ((if sinkSafe c 4 (512 * l + 64 * a + n) then none else smFind (link c l).sinks (64 * a + n)).getD
      (chSafe c l a n), c)
  else if c.stroke.safeLatch then (chSafe c l a n, c)
  else if chWord c l a n then outWord c (smGet 0 c.latch.words (wordBase c l a + n)).toInt
  else (if smGet false c.latch.bits (bitBase c l a + n) then 1 else 0, c)

/-- One LINE_OUT section (R500). -/
def outSection (l : Nat) (safe : Bool) (x : List Byte × Chip) (a : Nat) : List Byte × Chip :=
  let (bs, c) := x
  let bits := (chans c l a 2 false).foldl (fun m n =>
    if (outValue c l a n safe).1 % 2 = 1 then m + 2 ^ n else m) 0
  let words := chans c l a 2 true
  let (vals, c) := words.foldl (fun (x : List Byte × Chip) n =>
    let (v, c) := outValue x.2 l a n safe
    (x.1 ++ beBytes 2 (v % 65536).toNat, c)) ([], c)
  (bs ++ [BitVec.ofNat 8 a, BitVec.ofNat 8 (b2n safe), BitVec.ofNat 8 words.length, 0]
    ++ leBytes 8 bits ++ vals, c)

/-- RUNNING stations in ascending line address. -/
def running (c : Chip) (l : Nat) : List Nat := (expected c l).filter fun a => (stn c l a).state == 3

/-- A link starts its cycle with one LINE_OUT, whether or not it expects a station (R502). A DISABLED page commits safe
values (R72). -/
def lineOut (l : Nat) (c : Chip) : Chip :=
  if (hdr c (linkPage l)).st == .isolated then c
  else
    let safe := loopsSafe c || !working c (linkPage l)
    let (secs, c) := (running c l).foldl (outSection l safe) ([], c)
    let c := sendRemote c l 0x10 0xFF (beBytes 4 (periodNs c / 1000) ++ secs)
    let c := (running c l).foldl (fun c a => modStn c l a fun s => { s with awaiting := true }) c
    modLink c l fun k => { k with
      outSeq := k.seq, managed := false, sinks := k.sinks.filter fun x => !sinkSafe c 4 (512 * l + x.1) }

/-- The LINE_OUTs of a finish, on a module that commits to remote stations (R102, R103, R502). -/
def finishLinks (c : Chip) : Chip := if drives c then forN 32 lineOut c else c

/-! ### Station states (R509 to R511, R520, R523) -/

/-- RL_STN (R520). -/
def rlStn (c : Chip) (l : Nat) : Word :=
  let of (st : Nat) := packBits ((List.range 8).map fun a => expects c l a && (stn c l a).state == st)
  pack [(of 4, 15, 8), (of 3, 7, 0)]

/-- RL_COUNT (R520). -/
def rlCount (k : LinkSt) : Word :=
  pack [(k.bad, 31, 24), (k.aged, 23, 16), (k.misses, 15, 8), (k.losses, 7, 0)]

/-- The conditions of a link page (R523). -/
def linkConds (c : Chip) (l : Nat) : Chip :=
  let p := linkPage l
  let ss := (expected c l).map (stn c l)
  let c := setCond c p 0 (ss.any fun s => s.state == 4)
  let c := setCond c p 1 (ss.any fun s => s.state != 3)
  let c := setCond c p 2 (!(link c l).up)
  let c := setCond c p 3 (ss.any fun s => s.typeBad || s.capBad)
  setCond c p 4 (ss.any fun s => s.downBad)

/-- A station is bound to a crew's image (R182, R513). -/
def stnBound (c : Chip) (cr : Crew) (l a : Nat) : Bool :=
  (List.range 64).any fun n =>
    chDir c l a n == 1 || (chDir c l a n == 2 && !chLoop c l a n && cr == .process)

/-- A station changes state for a reason of R523, with its record. One that enters RUNNING has not answered the latest
LINE_OUT yet (R510). -/
def stnTo (c : Chip) (l a st why : Nat) : Chip :=
  let old := (stn c l a).state
  let c := modStn c l a fun s => { s with state := st, misses := 0, awaiting := st == 3 }
  linkConds (emit c (linkPage l) 0xA0 a (BitVec.ofNat 32 old) (BitVec.ofNat 32 st) (BitVec.ofNat 32 why)
    c.stroke.count) l

/-- A RUNNING station is marked LOST (R509, R182). -/
def stnLose (c : Chip) (l a why : Nat) : Chip :=
  if (stn c l a).state ≠ 3 || !expects c l a then c
  else
    let c := modLink c l fun k => { k with losses := satInc 255 k.losses }
    let c := [Crew.safety, Crew.process].foldl (fun c cr =>
      if stnBound c cr l a then modCrew c cr fun s =>
        { s with lostStations := s.lostStations ||| 2 ^ (8 * l + a) } else c) c
    stnTo c l a 4 why

/-- MISS_LIMIT consecutive misses (R509, R510). -/
def stationLost (c : Chip) (l a : Nat) : Chip :=
  if 32 ≤ l || (stn c l a).misses < fld (cfg c (linkPage l) 0x040) 23 20 then c else stnLose c l a 0

/-- Every expected station starts in ABSENT (R509); what its last frames told stays (R521). -/
def stnsAbsent (c : Chip) (l : Nat) : Chip :=
  linkConds ((expected c l).foldl (fun c a => modStn c l a fun s =>
    { StnSt.reset with
      serial := s.serial, position := s.position, fenced := s.fenced, downBad := s.downBad, stat := s.stat
      bits := s.bits, words := s.words, last := s.last, subst := s.subst, updates := s.updates }) c) l

/-- A link's PHY goes down or comes up (R509, R523). -/
def linkChange (c : Chip) (l : Nat) (up : Bool) : Chip :=
  if 32 ≤ l || (link c l).up == up then c
  else
    let c := modLink c l fun k => { k with up := up }
    let c := if up then stnsAbsent c l else (expected c l).foldl (fun c a => stnLose c l a 2) c
    linkConds (emit c (linkPage l) 0xA1 0xFFFF (b2w up) (rlStn c l) 0 c.stroke.count) l

/-- At T0 after the latch, each RUNNING station that has not answered the latest LINE_OUT counts a
miss (R510); LOOP_CLOSED tells whether a LINE_OUT came in the stroke (R517). -/
def tickLink (l : Nat) (c : Chip) : Chip :=
  let c := (running c l).foldl (fun c a =>
    if (stn c l a).awaiting then
      modStn (modLink c l fun k => { k with misses := satInc 255 k.misses }) l a fun s =>
        { s with misses := satInc 15 s.misses }
    else c) c
  modLink c l fun k => { k with loopClosed := decide (0 < k.heardOuts), heardOuts := 0 }

/-- The standby counts a LINE_OUT of the seat holder at its end of the line (R517). -/
def lineOutReceive (c : Chip) (l : Nat) : Chip :=
  if 32 ≤ l || drives c then c else modLink c l fun k => { k with heardOuts := k.heardOuts + 1 }

/-! ### Management (R508) -/

/-- The CONFIGURE body of a station (R500). -/
def configureBody (c : Chip) (l a : Nat) : List Byte :=
  beBytes 2 (fld (cfg c (linkPage l) (0x100 + 32 * a)) 31 16) ++ [0, 0]
    ++ maskBytes (fun n => chDir c l a n == 1) ++ maskBytes (fun n => chDir c l a n == 2)
    ++ maskBytes (fun n => chDir c l a n != 0 && chWord c l a n)
    ++ maskBytes (fun n => chDir c l a n == 2 && !chWord c l a n && chSafe c l a n % 2 == 1)
    ++ (chans c l a 2 true).flatMap fun n => beBytes 2 (chSafe c l a n % 65536).toNat

/-- The stations that need a request, in turn from the one after the last served (R508, R509). -/
def needy (c : Chip) (l : Nat) : List Nat :=
  let t := (link c l).turn
  let ok := fun a => expects c l a &&
    (match (stn c l a).state with
      | 3 => false
      | 2 => !(stn c l a).confSent
      | _ => true)
  ((List.range 8).filter (fun a => t ≤ a) ++ (List.range 8).filter (fun a => a < t)).filter ok

/-- At most one management request per stroke: DISCOVER or CONFIGURE to one station (R508). -/
def managementRequest (c : Chip) (l : Nat) : Chip :=
  if 32 ≤ l || !drives c || !c.mode.mode.strokes || (link c l).managed || !(link c l).up
      || !working c (linkPage l) then c
  else match needy c l with
    | [] => c
    | a :: _ =>
      let c := modLink c l fun k => { k with managed := true, turn := (a + 1) % 8 }
      if (stn c l a).state = 2 then
        sendRemote (modStn c l a fun s => { s with confSent := true }) l 0x03 a (configureBody c l a)
      else sendRemote c l 0x01 a []

/-- A station frame of the wanted type from an expected address, with a good header. -/
def stnFrame (c : Chip) (l type : Nat) (bs : List Byte) : Option Nat :=
  let a := beAt bs 4 1
  if l < 32 && beAt bs 0 2 == 0x5249 && beAt bs 2 1 == 1 && beAt bs 3 1 == type && expects c l a
    then some a else none

/-- An IDENT: it shows its serial number and position at any time, and moves a station that is ABSENT or LOST (R509,
R521). An IDENT has no FLAGS (R500), so it is not FENCED. -/
def ident (c : Chip) (l : Nat) (bs : List Byte) : Chip :=
  match stnFrame c l 0x02 bs with
  | none => c
  | some a =>
    let st := (stn c l a).state
    let c := modStn c l a fun s => { s with
      serial := BitVec.ofNat 32 (beAt bs 20 4), position := beAt bs 5 1, fenced := false }
    if st = 2 || st = 3 then c
    else
      let typeId := beAt bs 16 4
      let want := (cfg c (linkPage l) (0x10C + 32 * a)).toNat
      let capIn := leAt bs 24 8
      let capOut := leAt bs 32 8
      let capWord := leAt bs 40 8
      let typeBad := want ≠ 0 && want ≠ typeId
      let capBad := (List.range 64).any fun n =>
        (chDir c l a n == 1 && !capIn.testBit n) || (chDir c l a n == 2 && !capOut.testBit n)
        || (chDir c l a n != 0 && chWord c l a n && !capWord.testBit n)
      let c := modStn c l a fun s => { s with typeBad := typeBad, capBad := capBad }
      if typeBad || capBad then linkConds c l
      else stnTo (modStn c l a fun s => { s with confSent := false }) l a 2 4

/-- A CONF_ACK: it shows the station's position and flags, and moves a station that was sent its CONFIGURE (R509,
R521). -/
def confAck (c : Chip) (l : Nat) (bs : List Byte) : Chip :=
  match stnFrame c l 0x04 bs with
  | none => c
  | some a =>
    let c := modStn c l a fun s => { s with
      position := beAt bs 5 1, fenced := (beAt bs 17 1).testBit 0
      downBad := if (beAt bs 17 1).testBit 0 then s.downBad else (beAt bs 17 1).testBit 1 }
    if (stn c l a).state ≠ 2 || !(stn c l a).confSent then linkConds c l
    else
      if beAt bs 16 1 = 0 then
        stnTo (modStn c l a fun s => { s with seq := none, got := false }) l a 3 4
      else linkConds (modStn c l a fun s => { s with state := 1 }) l

/-- No CONF_ACK within 4 strokes (R509). -/
def confAckTimeout (c : Chip) (l a : Nat) : Chip :=
  if 32 ≤ l || !expects c l a || (stn c l a).state ≠ 2 || !(stn c l a).confSent then c
  else linkConds (modStn c l a fun s => { s with state := 1 }) l

/-! ### IN frames (R504, R509) -/

/-- A frame is discarded at check `k` of R504: 1 BAD_FRAME, 2 FENCED, 3 OLD, 4 AGED (R520). BAD_FRAME and FENCED write
at most one record per link per 100 strokes, with the frames that they discarded since the last (R523). -/
def inDiscard (c : Chip) (l a k : Nat) : Chip :=
  let c := modLink c l fun n =>
    if k = 1 then { n with bad := satInc 255 n.bad }
    else if 3 ≤ k then { n with aged := satInc 255 n.aged } else n
  if 3 ≤ k then c
  else
    let c := raise c (linkPage l) (if k = 1 then 5 else 6)
    let (due, c) := rateAllow c (rateKey (linkPage l) 0xA2 0) 100
    match due with
    | some n => emit c (linkPage l) 0xA2 a (BitVec.ofNat 32 k) (BitVec.ofNat 32 (n + 1)) (rlCount (link c l))
        c.stroke.count
    | none => c

/-- The check at which an IN frame is discarded, if any (R504). -/
def inCheck (c : Chip) (l : Nat) (bs : List Byte) : Option Nat :=
  let a := beAt bs 4 1
  let ai := beAt bs 22 1
  let s := stn c l a
  if beAt bs 0 2 ≠ 0x5249 || beAt bs 2 1 ≠ 1 || beAt bs 3 1 ≠ 0x11 || !expects c l a || s.state ≠ 3
      || beAt bs 6 2 ≠ 44 + 2 * ai || ai ≠ (chans c l a 1 true).length then some 1
  else if (beAt bs 21 1).testBit 0 || (ownEpoch c).toNat < beAt bs 8 4 then some 2
  else
    let d := match s.seq with
      | none => 1
      | some q => (BitVec.ofNat 32 (beAt bs 12 4) - q).toNat
    if d = 0 || 2 ^ 31 ≤ d then some 3
    else if BitVec.ofNat 32 (beAt bs 16 4) ≠ (link c l).outSeq then some 4
    else none

/-- An accepted frame updates the station's buffer (R504, R501). -/
def inAccept (c : Chip) (l a cycle : Nat) (bs : List Byte) : Chip :=
  let words := (chans c l a 1 true).zipIdx.foldl (fun m x =>
    smSet 0 m x.1 (signed 16 (beAt bs (44 + 2 * x.2) 2))) []
  let c := modStn c l a fun s => { s with
    seq := some (BitVec.ofNat 32 (beAt bs 12 4)), got := true, awaiting := false, misses := 0
    bits := BitVec.ofNat 64 (leAt bs 28 8), bad := BitVec.ofNat 64 (leAt bs 36 8), words := words
    position := beAt bs 5 1, fenced := false, downBad := (beAt bs 21 1).testBit 1
    stat := BitVec.ofNat 32 (beAt bs 24 4)
    updates := s.updates + 1 }
  linkConds (modLink c l fun k => { k with cycle := min cycle 0xFFFF }) l

/-- An IN frame arrives `cycle` µs after the LINE_OUT's start; `fcsOk` tells its FCS. The second
result is an epoch above the own one, to which R390 applies. -/
def remoteIn (c : Chip) (l : Nat) (fcsOk : Bool) (cycle : Nat) (bs : List Byte) : Chip × Option Nat :=
  if 32 ≤ l then (c, none)
  else if !fcsOk then (modLink c l fun n => { n with bad := satInc 255 n.bad }, none)
  else
    let a := beAt bs 4 1
    match inCheck c l bs with
    | some 1 => (inDiscard c l a 1, none)
    | some k =>
      let c := modStn c l a fun s => { s with fenced := k == 2, position := beAt bs 5 1 }
      (inDiscard c l a k, if k = 2 ∧ (ownEpoch c).toNat < beAt bs 8 4 then some (beAt bs 8 4) else none)
    | none =>
      let c := inAccept c l a cycle bs
      let c := if (beAt bs 21 1).testBit 1 then
          (running c l).foldl (fun c b =>
            if (stn c l a).position < (stn c l b).position then stnLose c l b 3 else c) c
        else c
      (if beAt bs 20 1 = 2 then c else stnLose c l a 1, none)

/-! ### Values (R501, R512, R513) -/

/-- A channel takes its substitute at a catch (R512). -/
def chSubst (c : Chip) (l a n : Nat) : Bool :=
  let s := stn c l a
  !expects c l a || s.state != 3 || !s.got || s.bad.getLsbD n

/-- The substitute of a channel (R512), and the value that its station's last accepted frame brought (R501). -/
def chSubstValue (c : Chip) (l a n : Nat) : Int :=
  match fld (chCfg c l a n) 28 27 with
  | 0 => smGet 0 (stn c l a).last n
  | 1 => if chWord c l a n then chFixed c l a n else (fld (chValue c l a n) 0 0 : Nat)
  | _ => if chWord c l a n then -32768 else 0
def chFrame (c : Chip) (l a n : Nat) : Int :=
  let s := stn c l a
  if chWord c l a n then smGet 0 s.words n else if s.bits.getLsbD n then 1 else 0

/-- The value a catch takes of a channel. -/
def chNow (c : Chip) (l a n : Nat) : Int := if chSubst c l a n then chSubstValue c l a n else chFrame c l a n

/-- The value that loops read between catches, and whether it is invalid: the last catch has decided on the substitute
(R511, R512). -/
def chLoopValue (c : Chip) (l a n : Nat) : Int × Bool :=
  if (stn c l a).subst.getLsbD n then (chSubstValue c l a n, true) else (chFrame c l a n, false)

/-- Input channels of the links that work: (link, station, channel). -/
def remoteInputs (c : Chip) : List (Nat × Nat × Nat) :=
  (List.range 32).flatMap fun l =>
    if working c (linkPage l) then
      (expected c l).flatMap fun a =>
        ((List.range 64).filter fun n => chDir c l a n == 1).map fun n => (l, a, n)
    else []

/-- A catch decides which channels take their substitutes, and keeps the values caught from frames for LAST (R512). -/
def catchRemote (c : Chip) : Chip :=
  (remoteInputs c).foldl (fun c x =>
    let (l, a, n) := x
    let bit : BitVec 64 := BitVec.ofNat 64 (2 ^ n)
    if chSubst c l a n then modStn c l a fun s => { s with subst := s.subst ||| bit }
    else modStn c l a fun s => { s with last := smSet 0 s.last n (chNow c l a n), subst := s.subst &&& ~~~bit }) c

/-- Image bits of the links (R513). -/
def remoteBits (c : Chip) : List (Nat × Bool) :=
  (remoteInputs c).filterMap fun (l, a, n) =>
    if chWord c l a n then none else some (bitBase c l a + n, chNow c l a n != 0)

/-- Image words of the links and their status words (R513, R520). -/
def remoteWords (c : Chip) : List (Nat × Word) :=
  ((remoteInputs c).filterMap fun (l, a, n) =>
    if chWord c l a n then some (wordBase c l a + n, wOfInt (chNow c l a n)) else none)
  ++ (List.range 32).filterMap fun l =>
    let w := fld (cfg c (linkPage l) 0x050) 15 0
    if w ≠ 0xFFFF && working c (linkPage l) then
      some (w, pack [((rlStn c l).toNat % 65536, 15, 0), (b2n (link c l).up, 16, 16)])
    else none

/-- A REMOTE sink's raw value (R502, R263). -/
def remoteSink (c : Chip) (index : Nat) (v : Int) : Chip :=
  modLink c (index / 512) fun k => { k with sinks := smPut k.sinks (index % 512) v }

/-! ### Registers and configuration -/

/-- Reads of the read-only registers of a link page (R519 to R521). -/
def readLink (c : Chip) (l off : Nat) : Word :=
  let k := link c l
  if off = 0x044 then pack [(b2n k.up, 31, 31), (b2n k.loopClosed, 30, 30), (k.cycle, 15, 0)]
  else if off = 0x048 then pack [(k.cBound, 31, 16), (k.mBound, 15, 0)]
  else if off = 0x04C then rlStn c l
  else if off = 0x054 then rlCount k
  else
    let a := (off - 0x100) / 32
    let s := stn c l a
    if off % 32 = 8 then
      pack [(if expects c l a then s.state else 0, 31, 29), (b2n s.typeBad, 28, 28), (b2n s.capBad, 27, 27),
        (b2n s.downBad, 26, 26), (b2n s.fenced, 25, 25), (s.position, 23, 16), (s.misses, 3, 0)]
    else s.serial

/-- Wire bytes of a payload (R506). -/
def wire (payload : Nat) : Nat := 38 + max 46 payload

/-- The cycle and management bounds of a link, in tenths of a µs (R506). -/
def cycleBounds (c : Chip) (l : Nat) : Nat × Nat :=
  let ss := expected c l
  let ao := fun a => (chans c l a 2 true).length
  let wOut := wire (20 + (ss.map fun a => 12 + 2 * ao a).foldl (· + ·) 0)
  let wIn := (ss.map fun a => wire (44 + 2 * (chans c l a 1 true).length)).foldl (· + ·) 0
  let wConf := (ss.map fun a => wire (52 + 2 * ao a)).foldl max 0
  (8 * (wOut + wIn) + 50 * ss.length + 200, 8 * (wConf + 86) + 50 * ss.length + 200)

/-- RL_CYCLE is set at COMMIT_CONFIG (R520); how a fraction of a µs is rounded the spec does not say. -/
def setBounds (c : Chip) : Chip :=
  forN 32 (fun l c =>
    if expected c l = [] then modLink c l fun k => { k with cBound := 0, mBound := 0 }
    else
      let (cb, mb) := cycleBounds c l
      let (x, c) := roundFree c cb 10
      let (y, c) := roundFree c mb 10
      modLink c l fun k => { k with cBound := x.toNat, mBound := y.toNat }) c

/-- R507 fails on a link. -/
def boundBad (c : Chip) (l : Nat) : Bool :=
  expected c l != [] &&
    decide (periodNs c < 50000 + ((cycleBounds c l).1 + (cycleBounds c l).2) * 100)

/-- R518, R413: the remote configuration is inconsistent. `srcs` and `sinks` are the REMOTE indices
that bindings read and write. -/
def remoteBad (c : Chip) (srcs sinks : List Nat) (procBit procWord anyBit anyWord : Nat → Bool)
    (paired : Bool) (lease : Nat) : Bool :=
  ((List.range 32).any fun l =>
    let w := fld (cfg c (linkPage l) 0x050) 15 0
    (w ≠ 0xFFFF && anyWord w) || boundBad c l
    || (paired && (expected c l).any fun a =>
        fld (cfg c (linkPage l) (0x100 + 32 * a)) 31 16 ≤ lease + 4)
    || ((List.range 8).any fun a => (List.range 64).any fun n =>
        let d := chDir c l a n
        let word := chWord c l a n
        let i := 512 * l + 64 * a + n
        (d ≠ 0 && !expects c l a)
        || (d == 1 && (if word then anyWord (wordBase c l a + n) else anyBit (bitBase c l a + n)))
        || (d == 2 && !chLoop c l a n
            && !(if word then procWord (wordBase c l a + n) else procBit (bitBase c l a + n)))
        || ((srcs.contains i) && (d ≠ 1 || !word)) || (sinks.contains i && (d ≠ 2 || !word))
        || (d == 2 && chLoop c l a n != sinks.contains i) || (d ≠ 2 && chLoop c l a n)))

end Sys2Proof.Machine
end

