-- ==== Sys2Proof/Machine/Sinks.lean ====
section
/-!
DEFINITION. What loops and heats read and drive outside their engines: PV sources with their validity
and update counts (R268, R271, R283), and the IMAGE, ISLAND and REMOTE sinks (R263).
-/
namespace Sys2Proof.Machine

/-- A PV source's raw value, whether it reports the value as invalid, and its update count (R268). -/
def pvSource (c : Chip) (b : Binding) : Int × Bool × Nat :=
  match b.kind with
  | 2 => (islShown c b.index, bufFault (islBuf c b.index), (islBuf c b.index).updates)
  | 3 => (((digFreq c b.index).mhz : Nat), freqInvalid c b.index, (digFreq c b.index).updates)
  | 4 =>
    let (l, a, n) := (b.index / 512, b.index % 512 / 64, b.index % 64)
    let (v, invalid) := chLoopValue c l a n
    (v, invalid, (stn c l a).updates)
  | _ => (0, false, 0)

/-- A word of the engines' image output: crews and engines see it from the next catch (R275). -/
def sinkImage (c : Chip) (w : Nat) (v : Word) : Chip := { c with engOut := smPut c.engOut w v }

/-- Words that a replaced set wrote leave the engines' image output (R286). -/
def dropImages (c : Chip) (ws : List Nat) : Chip :=
  { c with engOut := c.engOut.filter fun e => !ws.contains e.1 }

/-- u through an output binding: the sink's raw value (R263). -/
def sinkRaw (b : Binding) (u : Int) : Int :=
  let raw := (u * b.mult) / 2 ^ b.shift + b.offset
  if b.kind = 4 then clampInt (-32768) 32767 raw else clampInt (-2147483648) 2147483647 raw

/-- u through an output binding to an IMAGE, ISLAND or REMOTE sink (R263). -/
def writeSink (c : Chip) (b : Binding) (u : Int) : Chip :=
  match b.kind with
  | 1 => sinkImage c b.index (wOfInt (sinkRaw b u))
  | 2 => loopCommand c b.index (sinkRaw b u)
  | 4 => remoteSink c b.index (sinkRaw b u)
  | _ => c

/-- What the old seat holder's loops and heats had last written stands in a new seat holder: the image words, and the
values that its next finishes send to islands and stations (R278, R313, R426). -/
def resumeSink (c : Chip) (b : Binding) (u : Int) : Chip :=
  match b.kind with
  | 2 => if b.index < 16 && islOutput c b.index then
      modBuf c b.index fun s => { s with loopCmd := some (sinkRaw b u) }
    else c
  | _ => writeSink c b u

end Sys2Proof.Machine
end

