-- ==== Sys2Proof/Machine/Loops.lean ====
section
/-!
DEFINITION. Loop engines and table engines at work: the tick latch (R271, R308), one sample (R256 to
R270, R316 to R318), starts and stops (R276 to R280), the registers a sample writes (R291 to R298) and
the safe values of loop sinks (R277).
-/
namespace Sys2Proof.Machine

/-- Change engine `e`. -/
def modEng (c : Chip) (e : Nat) (f : EngSt → EngSt) : Chip :=
  { c with engines := smMod EngSt.reset c.engines e f }

/-- Loop `j` of engine `e`. -/
def loopSt (c : Chip) (e j : Nat) : LoopSt := smGet LoopSt.reset (eng c e).loops j

/-- Change loop `j` of engine `e`. -/
def modLoop (c : Chip) (e j : Nat) (f : LoopSt → LoopSt) : Chip :=
  modEng c e fun g => { g with loops := smMod LoopSt.reset g.loops j f }

/-- The block of loop `j` in the loaded set. -/
def loopBlock (c : Chip) (e j : Nat) : Option LoopBlock :=
  (eng c e).set.bind fun s => s.loops.find? (fun b => b.com.no == j)

/-- Loops sample in RUN and HOLD only, on an ENABLED engine with a loaded set (R276). -/
def sampling (c : Chip) (e : Nat) : Bool :=
  c.mode.mode.runs && enabled c (engPage e) && (eng c e).set.isSome

/-- A sample under way completes: the loops sample, or the engine drains (R71, R279). -/
def completing (c : Chip) (e : Nat) : Bool :=
  c.mode.mode.runs && working c (engPage e) && (eng c e).set.isSome

/-- Sections of a block; none for a table. -/
def Law.sections : Law → Nat
  | .cascade _ _ _ _ secs => secs.length
  | .table .. => 0

/-- KINV is not 0; a table always back-calculates (R262, R318). -/
def Law.backCalcs : Law → Bool
  | .cascade _ _ k _ _ => k != 0
  | .table .. => true

/-- A loop starts afresh (R276, R320): states and residues 0, the last u SAFE or 0, the DIGITAL sink's state off
(R263). The back-calculation from SAFE of a cascade takes place in its first sample, whose ff it needs. STALE goes on
(R268), and the registers report the last completed sample until then (R295, R296). -/
def freshLoop (b : LoopBlock) (s : LoopSt) : LoopSt :=
  { s with
    started := true, offDone := false, digOn := false, latch := none
    secs := List.replicate b.law.sections ⟨0, 0, 0, 0, 0⟩
    u := if b.com.fromSafe then b.com.safe else 0
    integ := if b.com.fromSafe then b.com.safe * 32768 else 0
    wasSafe := b.com.fromSafe && (match b.law with | .cascade _ _ k _ _ => k != 0 | .table .. => false) }

/-- Every loop of an engine starts afresh (R276). -/
def startLoops (c : Chip) (e : Nat) : Chip :=
  match (eng c e).set with
  | none => c
  | some s => s.loops.foldl (fun c b => modLoop c e b.com.no (freshLoop b)) c

/-- A Boolean image bit in the engines' working copy (R271). -/
def workBit (c : Chip) (a : Nat) : Bool := smGet false c.work.bits a

/-- An image word in the engines' working copy. -/
def workWord (c : Chip) (a : Nat) : Int := (smGet 0 c.work.words a).toInt

/-- A bound value from the tick's latch: NONE yields 0, IMAGE the word latched, LOOP the latched u (R256, R271). -/
def boundValue (t : TickLatch) (b : Binding) : Sat :=
  match b.kind with
  | 1 => scaleIn b (smGet 0 t.words b.index).toInt
  | 5 => scaleIn b (smGet 0 t.sources b.index)
  | _ => ⟨0, none⟩

/-- The measurement: the latched raw value, an image word or another loop's u. -/
def pvValue (t : TickLatch) (b : Binding) : Sat :=
  match b.kind with
  | 1 | 5 => boundValue t b
  | _ => scaleIn b t.raw

/-- LOOP_STATj (R295). -/
def loopStatWord (s : LoopSt) : Word :=
  pack [(s.mode, 31, 30), (b2n s.measBad, 24, 24), (b2n s.held, 23, 23), (b2n s.clampHi, 22, 22),
    (b2n s.clampLo, 21, 21), (b2n s.sat, 20, 20), (s.where_, 19, 16), (s.stale, 15, 0)]

/-- A Q15 value as 16 register bits. -/
def q16 (x : Int) : Nat := (x % 65536).toNat

/-- LOOP_OUTj (R296). -/
def loopOutWord (s : LoopSt) : Word := pack [(q16 s.u, 31, 16), (q16 s.v, 15, 0)]

/-- Some loop of the engine has MEAS_BAD or HELD set (R294, R297, R331). -/
def alertBits (g : EngSt) (lo : Nat) : Nat :=
  packBits ((List.range 32).map fun b =>
    let s := smGet LoopSt.reset g.loops (lo + b)
    s.measBad || s.held)

/-- The MEAS_BAD condition follows LOOP_ALERT (R297). -/
def alertCond (c : Chip) (e : Nat) : Chip :=
  let g := eng c e
  setCond c (engPage e) 1 (alertBits g 0 != 0 || alertBits g 32 != 0)

/-- The lane that a loop feeds, as (heat, lane). -/
def laneOf (b : LoopBlock) : Option (Nat × Nat) :=
  if b.com.out.kind = 7 then some (b.com.out.index / 8, b.com.out.index % 8) else none

/-- Heats decide in RUN and HOLD only, on an ENABLED selector with a loaded set (R312). -/
def deciding (c : Chip) : Bool := c.mode.mode.runs && enabled c 0x18 && c.sel.set.isSome

/-- An arrival reaches a heat: it goes into the decision in progress where that began in the same TABLE clock of 5 ns,
waits for the next where one is in progress, and begins one where none is (R303). -/
def arrive (hs : HeatSt) (l : Nat) (a : Arrival) (tracked : Bool) : HeatSt :=
  let joins := match hs.deciding with
    | none => true
    | some t => t / 5 == a.at_ / 5
  { hs with
    deciding := hs.deciding.orElse fun _ => some a.at_
    arrived := hs.arrived ||| BitVec.ofNat 8 (2 ^ l)
    lanes := listMod hs.lanes l fun n =>
      let n := if joins then { n with taken := some a } else { n with waiting := some a }
      { n with timedOut := false, tracked := tracked } }

/-- A loop with a HEAT sink delivers an arrival to its lane (R300). A selector that does not decide takes none, but
HEAT_STATh.TRACKED follows the sample (R327). -/
def deliver (c : Chip) (b : LoopBlock) (a : Arrival) (tracked : Bool) : Chip :=
  match laneOf b with
  | none => c
  | some (h, l) =>
    if !deciding c then
      if c.sel.set.isNone then c
      else { c with sel := { c.sel with heats := smMod HeatSt.reset c.sel.heats h fun hs =>
        { hs with lanes := listMod hs.lanes l fun n => { n with tracked := tracked } } } }
    else { c with sel := { c.sel with heats := smMod HeatSt.reset c.sel.heats h fun hs => arrive hs l a tracked } }

/-- u goes to the loop's sink (R263); DIGITAL sinks keep their state between OFF and ON. -/
def driveLoopSink (c : Chip) (b : LoopBlock) (digOn : Bool) (u : Int) : Chip × Bool :=
  let o := b.com.out
  match o.kind with
  | 6 =>
    let on := if o.onLevel ≤ u then true else if u ≤ o.offLevel then false else digOn
    (sinkDigital c o.index on, on)
  | 7 => (c, digOn)
  | _ => (writeSink c o u, digOn)

/-- The heat tracks the lane (R308): OFF, MANUAL, or AUTO with the lane not leading; never in WARMUP,
nor while the selector is DISABLED (R314). The tracking value is the published output. -/
def laneTrack (c : Chip) (h l : Nat) : Option Int :=
  let hs := smGet HeatSt.reset c.sel.heats h
  if !working c 0x18 || !c.sel.set.isSome || !hs.started || hs.mode = 3
      || (hs.mode = 1 && hs.leader = some l) then none
  else some hs.out

/-- What a loop latches at a tick (R98, R267, R268, R271, R308): its PV source's value, validity and count, the LOOP
sources and image values that its bindings name, its REQ, and what its lane's heat has published. -/
def tickLatch (c : Chip) (e instant : Nat) (b : LoopBlock) (st : LoopSt) : TickLatch :=
  let (raw, invalid, cnt) := pvSource c b.com.pv
  let named := [b.com.pv, b.com.sp, b.com.ff, b.com.hi, b.com.lo, b.com.man, b.com.trk]
  let steady := b.com.pv.kind == 1 || b.com.pv.kind == 5
  { raw := raw, invalid := invalid, count := cnt
    sources := named.foldl (fun m x => if x.kind = 5 then smSet 0 m x.index (loopSt c e x.index).u else m) []
    words := named.foldl (fun m x => if x.kind = 1 then smSet 0 m x.index (smGet 0 c.work.words x.index) else m) []
    trkBit := b.com.trkUsed && workBit c b.com.trkBit
    manBit := b.com.manUsed && workBit c b.com.manBit
    req := st.req
    stale := if steady || cnt ≠ st.count then 0 else satInc 0xFFFF st.tickStale
    track := (laneOf b).bind fun (h, l) => laneTrack c h l
    instant := instant * 40 }

/-- A change of MAN_BIT between two ticks writes a MODE_REQUEST record (R298). The first tick after a load or a takeover
has no earlier state to compare. -/
def manBitRecord (c : Chip) (e j : Nat) (st : LoopSt) (now : Bool) : Chip :=
  match st.manBit with
  | none => c
  | some was =>
    if now = was then c
    else emit c (engPage e) 0x43 j (b2w was) (b2w now) (loopOutWord st) c.stroke.count

/-- The tick of one loop: its latch and its record, `before` being the engine at the instant. A loop stopped by R280
starts no sample. -/
def tickLoop (before : Chip) (e instant : Nat) (c : Chip) (b : LoopBlock) : Chip :=
  let old := loopSt before e b.com.no
  let st := if old.started then old else freshLoop b old
  let t := tickLatch before e instant b st
  manBitRecord (modLoop c e b.com.no fun _ =>
      if old.stopped then { old with manBit := some t.manBit }
      else { st with latch := some t, tickStale := t.stale, count := t.count, manBit := some t.manBit })
    e b.com.no old t.manBit

/-- The tick of engine `e` at `instant` REF clocks after T0: every loop due latches in one clock (R98, R271). -/
def loopTick (c : Chip) (e instant : Nat) : Chip :=
  match (eng c e).set with
  | none => c
  | some s =>
    if !sampling c e then c
    else
      atTime (c.stroke.t0 + instant * 40)
        (fun before => (s.loops.filter fun b => (tickInstants (periodNs c) b.com.ticks).contains instant).foldl
          (tickLoop before e instant) before) c

/-- The effective mode before limits of R264: OFF 0, AUTO 1, MANUAL 2, TRACK 3. -/
def loopMode (t : TickLatch) : Nat :=
  if t.req = 0 then 0
  else if t.track.isSome || t.trkBit then 3
  else if t.req = 2 || t.manBit then 2
  else 1

/-- The law's own value before limits, and the new memory: sections for a cascade, I1 and p for a
table (R258 to R260, R316). -/
structure LawOut where
  secs : List SecSt
  integ : Int
  p : Int
  v : Sat
  g : Int
  deriving DecidableEq, Repr

/-- Run the law on the error. -/
def runLaw (law : Law) (st : LoopSt) (e ff : Int) : LawOut :=
  match law with
  | .cascade gain gs _ _ secs =>
    let (ms, x, h) := cascadeRun 0 secs st.secs e none
    let v := gainStage gain gs x ff
    ⟨ms, st.integ, 0, ⟨v.val, firstHit h v.hit⟩, 0⟩
  | .table ts kp ks pts =>
    let g := tableGain pts e
    let p := kp * e * 2 ^ ks
    let i1 := limitInteg (st.integ + g * e * 2 ^ ts)
    ⟨st.secs, i1, p, satAt 9 (roundQ15 (i1 + p)), g⟩

/-- Back-calculation when u differs from the law's value (R262, R316). -/
def lawBack (law : Law) (o : LawOut) (u ff : Int) : List SecSt × Int × Option Nat :=
  match law with
  | .cascade _ _ kinv ks _ =>
    if kinv = 0 ∨ u = o.v.val then (o.secs, o.integ, none)
    else let (ms, h) := backCalc kinv ks u ff o.secs; (ms, o.integ, h)
  | .table .. =>
    if u = o.v.val then (o.secs, o.integ, none)
    else (o.secs, limitInteg (u * 32768 - o.p), none)

/-- Back-calculate the memory from SAFE before a sample, with the step that saturates (R262, R270, R276). -/
def lawFromSafe (law : Law) (st : LoopSt) (safe e ff : Int) : LoopSt × Option Nat :=
  match law with
  | .cascade _ _ kinv ks _ =>
    if kinv = 0 then (st, none)
    else let (ms, h) := backCalc kinv ks safe ff st.secs; ({ st with secs := ms }, h)
  | .table _ kp ks _ => ({ st with integ := limitInteg (safe * 32768 - kp * e * 2 ^ ks) }, none)

/-- A sample that holds (R269): u stands or is SAFE, no section or residue changes, and the inputs are still scaled. -/
def heldSample (b : LoopBlock) (st : LoopSt) (mode : Nat) (pv sp : Sat) : LoopSt :=
  let safe := b.com.badAction = 2
  let hit := firstHit pv.hit sp.hit
  { st with
    u := if safe then b.com.safe else st.u
    mode := mode, measBad := true, held := true, pv := pv.val, sp := sp.val
    sat := hit.isSome, where_ := hit.getD 0, clampHi := false, clampLo := false, wasSafe := safe || st.wasSafe }

/-- One sample: every register of the loop, and the candidate (R256 to R270). -/
def computeSample (b : LoopBlock) (st : LoopSt) (t : TickLatch) : LoopSt × Int :=
  let mode := loopMode t
  let staleBad := b.com.staleLimit ≠ 0 && decide (b.com.staleLimit < t.stale)
  let bad := t.invalid || staleBad
  let hi := if b.com.hi.kind = 0 then ⟨b.com.outHi, none⟩ else boundValue t b.com.hi
  let lo := if b.com.lo.kind = 0 then ⟨b.com.outLo, none⟩ else boundValue t b.com.lo
  let pv := pvValue t b.com.pv
  let sp := boundValue t b.com.sp
  let e := loopError b.com.reverse sp.val pv.val
  let ff := boundValue t b.com.ff
  let st := { st with stale := t.stale }
  if bad && b.com.badAction ≠ 0 then
    let new := heldSample b st mode pv sp
    (new, new.u)
  else
    let (st, safeHit) := if st.wasSafe then lawFromSafe b.law st b.com.safe e.val ff.val else (st, none)
    let o := runLaw b.law st e.val ff.val
    let want : Sat := match mode with
      | 3 => match t.track with
        | some x => ⟨x, none⟩
        | none => boundValue t b.com.trk
      | 2 => if b.com.man.kind = 0 then ⟨st.u, none⟩ else boundValue t b.com.man
      | _ => ⟨o.v.val, none⟩
    let lim := limitOut lo.val hi.val want.val
    let cand := (limitOut lo.val hi.val o.v.val).u
    let (secs, integ, backHit) := lawBack b.law o lim.u ff.val
    let hit := [pv.hit, sp.hit, e.hit, ff.hit, safeHit, o.v.hit, want.hit, lo.hit, hi.hit, backHit].foldl
      firstHit none
    ({ st with
        secs := secs, integ := integ, u := lim.u
        v := (match b.law with | .cascade .. => o.v.val | .table .. => o.g)
        pv := pv.val, sp := sp.val, mode := mode, measBad := bad, held := false
        clampHi := lim.clampHi, clampLo := lim.clampLo
        sat := hit.isSome, where_ := hit.getD 0, wasSafe := false }, cand)

/-- A change of MEAS_BAD writes its record (R298). On leaving, nothing is invalid or stale any more and the spec
names no reason: it is free. -/
def measBadRecord (c : Chip) (e j : Nat) (old new : LoopSt) (invalid : Bool) : Chip :=
  if old.measBad = new.measBad then c
  else
    let (stale, c) := if new.measBad then (!invalid, c) else let (n, c) := freshNat c; (n % 2 == 1, c)
    emit c (engPage e) 0x42 j (b2w new.measBad) (b2w stale) (loopStatWord new) c.stroke.count

/-- Module time in ns at which a sample's value leaves the engine. -/
def leavesAt (c : Chip) (t : TickLatch) (delay : Nat) : Int := (c.stroke.t0 + t.instant + delay : Nat)

/-- An uncorrectable ECC error stops the loop: SAFE to its sink, MODE OFF (R280). -/
def stopLoop (c : Chip) (e j delay : Nat) (b : LoopBlock) (st : LoopSt) (t : TickLatch) (offset : Nat) : Chip :=
  let (c, on) := driveLoopSink c b st.digOn b.com.safe
  let c := deliver c b ⟨b.com.safe, b.com.safe, true, false, leavesAt c t delay⟩ false
  let c := modLoop c e j fun s =>
    { s with stopped := true, mode := 0, digOn := on, latch := none }
  let c := raise (raise (alertCond c e) (engPage e) 28) (engPage e) 5
  emit c (engPage e) 0x45 j (BitVec.ofNat 32 offset) (BitVec.ofInt 32 st.u) 0 c.stroke.count

/-- The first tick in OFF: SAFE to the sink, and one arrival marked OFF (R266, R300). Later ones do nothing. -/
def offSample (c : Chip) (e j delay : Nat) (b : LoopBlock) (st : LoopSt) (t : TickLatch) : Chip :=
  if st.offDone then modLoop c e j fun s => { s with latch := none }
  else
    let (c, on) := driveLoopSink c b st.digOn b.com.safe
    let c := deliver c b ⟨b.com.safe, b.com.safe, true, false, leavesAt c t delay⟩ t.track.isSome
    alertCond (modLoop c e j fun s =>
      { s with mode := 0, offDone := true, digOn := on, latch := none, u := b.com.safe }) e

/-- A sample that runs: the arithmetic, the sink, the arrival, the registers, the causes and records (R263, R274,
R297, R298, R300). -/
def runSample (c : Chip) (e j delay : Nat) (b : LoopBlock) (st : LoopSt) (t : TickLatch) : Chip :=
  let (new, cand) := computeSample b (if st.offDone then freshLoop b st else st) t
  let (c, on) := driveLoopSink c b (st.digOn && !st.offDone) new.u
  let c := deliver c b ⟨new.u, cand, false, new.held, leavesAt c t delay⟩ t.track.isSome
  let c := modLoop c e j fun _ => { new with digOn := on, offDone := false, latch := none }
  let c := modEng c e fun g => { g with samples := g.samples + 1 }
  let c := measBadRecord (alertCond c e) e j st new t.invalid
  let c := if new.sat then raise c (engPage e) 2 else c
  if st.dmax * 10 < delay then
    emit (raise c (engPage e) 4) (engPage e) 0x44 j (BitVec.ofNat 32 t.instant)
      (BitVec.ofNat 32 delay) (BitVec.ofNat 32 st.dmax) c.stroke.count
  else c

/-- A sample of loop `j` completes `delay` ns after its tick instant (R272, R274); `ecc` is an error met: a single-bit one
is corrected without delay and sets ECC_CORRECTED, an uncorrectable one stops the loop (R49, R280). -/
def loopSample (c : Chip) (e j delay : Nat) (ecc : Option LoopEcc) : Chip :=
  match loopBlock c e j, (loopSt c e j).latch with
  | some b, some t =>
    let st := loopSt c e j
    if !completing c e || st.stopped then c
    else
      let sample := fun c => if t.req = 0 then offSample c e j delay b st t else runSample c e j delay b st t
      atTime (leavesAt c t delay).toNat (fun c => match ecc with
        | some (.uncorrectable off) => stopLoop c e j delay b st t off
        | some .corrected => sample (raise c (engPage e) 29)
        | none => sample c) c
  | _, _ => c

/-- Whenever safe values are committed, an IMAGE sink takes the loop's SAFE, converted (R277). The
other sinks take the safe value of the output behind them, which the output commits itself. -/
def loopSafeImages (c : Chip) (e : Nat) : Chip :=
  match (eng c e).set with
  | none => c
  | some s => s.loops.foldl (fun c b =>
      if b.com.out.kind = 1 then writeSink c b.com.out b.com.safe else c) c

/-- A staged tune or table point changes the block it names (R288, R289, R330). -/
def tuneBlock (t : Tune) (b : LoopBlock) : LoopBlock :=
  if b.com.no ≠ t.loop then b
  else match b.law with
    | .cascade _ _ _ _ secs =>
      { com := { b.com with outHi := signed 16 (fld t.w2 31 16), outLo := signed 16 (fld t.w2 15 0) }
        law := .cascade (signed 16 (fld t.w0 15 0)) (fld t.w0 18 16) (signed 16 (fld t.w1 15 0))
          (fld t.w1 18 16) secs }
    | .table ts kp ks pts =>
      { b with law := .table ts kp ks (listMod pts (fld t.w0 23 16) fun _ => signed 16 (fld t.w0 15 0)) }

/-- The previous value of a table point, for its record (R331). -/
def pointBefore (b : LoopBlock) (t : Tune) : Word :=
  match b.law with
  | .table _ _ _ pts => BitVec.ofInt 32 (pts.getD (fld t.w0 23 16) 0)
  | .cascade .. => 0

/-- An engine stops sampling: samples under way end undone (R276). -/
def dropLatches (c : Chip) (e : Nat) : Chip :=
  modEng c e fun g => { g with loops := g.loops.map fun x => (x.1, { x.2 with latch := none }) }

/-- The loop whose sample is in progress: the first of those latched, in order of instant and loop number (R272). -/
def inProgress (g : EngSt) : Option Nat :=
  (g.loops.foldl (fun (m : Option (Nat × Nat)) x =>
    match x.2.latch, m with
    | some t, some (i, j) => if t.instant < i || (t.instant == i && x.1 < j) then some (t.instant, x.1) else m
    | some t, none => some (t.instant, x.1)
    | none, _ => m) none).map (·.2)

/-- In DRAINING no sample starts: of those latched, only the one in progress stays (R279). -/
def drainLoops (c : Chip) (e : Nat) : Chip :=
  modEng c e fun g =>
    let keep := inProgress g
    { g with loops := g.loops.map fun x => (x.1, if keep = some x.1 then x.2 else { x.2 with latch := none }) }

/-- A staged tune or point is applied in whole at T0 (R289, R330, R331). -/
def applyTune (c : Chip) (e : Nat) : Chip :=
  match (eng c e).tune with
  | none => c
  | some t =>
    let before := (loopBlock c e t.loop).map (fun b => pointBefore b t)
    let c := modEng c e fun g =>
      { g with tune := none, tuned := g.tuned ++ [t]
               set := g.set.map fun s => { s with loops := s.loops.map (tuneBlock t) } }
    let c := raise c (engPage e) 3
    if e < 8 then emit c (engPage e) 0x41 t.loop t.w0 t.w1 t.w2 c.stroke.count
    else emit c (engPage e) 0x41 t.loop t.w0 (before.getD 0) 0 c.stroke.count

/-- The staged set is loaded, or the load fails (R285, R286, R325). -/
def loopSetLoad (c : Chip) (e : Nat) (obj : Option (List Byte)) : Chip × Bool :=
  let p := engPage e
  match checkLoopSet (decide (8 ≤ e)) (if e < 8 then e else e - 8) (periodNs c) obj with
  | .error (r, n) =>
    let c := modEng c e fun g => { g with result := r, failNo := n }
    let (i, v) := match obj with
      | none => (0#32, 0#32)
      | some bs => (BitVec.ofNat 32 (leAt bs 8 4), BitVec.ofNat 32 (leAt bs 12 4))
    (emit (raise c p 0) p 0x40 0xFFFF i v (BitVec.ofNat 32 r) (BitVec.ofNat 32 n), false)
  | .ok (s, d) =>
    let old := match (eng c e).set with
      | some x => (x.loops.filter fun b => b.com.out.kind == 1).map (·.com.out.index)
      | none => []
    let c := modEng (dropImages c old) e fun g => { g with
      result := 0, failNo := 0xFF, set := some s, tune := none
      loops := s.loops.foldl (fun m b => smSet LoopSt.reset m b.com.no
        { LoopSt.reset with req := b.com.initMode, dmax := smGet 0 d b.com.no }) [] }
    (emit (raise (alertCond c e) p 0) p 0x40 0xFFFF s.id s.version 0 0xFF, true)

end Sys2Proof.Machine
end

