-- ==== Sys2Proof/Machine/Heats.lean ====
section
/-!
DEFINITION. The heat selector: live lanes (R301), the decision (R303, R304), effective modes (R306),
warm-up (R307), tracking published to the lanes (R308), status words (R323), the registers and causes
(R327, R328), starts (R312) and loads (R325).
-/
namespace Sys2Proof.Machine

/-- Heat `h`. -/
def heat (c : Chip) (h : Nat) : HeatSt := smGet HeatSt.reset c.sel.heats h

/-- Change heat `h`. -/
def modHeat (c : Chip) (h : Nat) (f : HeatSt → HeatSt) : Chip :=
  { c with sel := { c.sel with heats := smMod HeatSt.reset c.sel.heats h f } }

/-- The block of heat `h` in the loaded set. -/
def heatBlock (c : Chip) (h : Nat) : Option HeatBlock :=
  c.sel.set.bind fun s => s.2.2.find? (fun b => b.no == h)

/-- The lane is not taken out by its exclusion bit (R301). -/
def notExcluded (c : Chip) (b : HeatBlock) (l : Nat) : Bool :=
  !(b.exclUsed.getLsbD l && workBit c (b.exclBits.getD l 0))

/-- The lane is live (R301), `last` being its last arrival. -/
def laneLive (c : Chip) (b : HeatBlock) (n : LaneSt) (last : Option Arrival) (l : Nat) : Bool :=
  b.lanes.getLsbD l && notExcluded c b l && !n.timedOut
    && (match last with
      | none => false
      | some a => !a.off && !a.held)

/-- The lane's last arrival, decided on or not. -/
def LaneSt.newest (n : LaneSt) : Option Arrival := n.waiting.orElse fun _ => n.taken.orElse fun _ => n.last

/-- The live lanes with the candidates of the last arrivals that `pick` names, in ascending lane number. -/
def liveLanes (c : Chip) (b : HeatBlock) (hs : HeatSt) (pick : LaneSt → Option Arrival) : List (Nat × Int) :=
  (List.range 8).filterMap fun l =>
    let n := hs.lanes.getD l LaneSt.reset
    if laneLive c b n (pick n) l then (pick n).map fun a => (l, a.c) else none

/-- HEAT_STATh.LIVE: bit l tells that lane l is live now (R301, R327). -/
def liveMask (c : Chip) (h : Nat) : Nat :=
  match heatBlock c h with
  | none => 0
  | some b =>
    let live := liveLanes c b (heat c h) LaneSt.newest
    packBits ((List.range 8).map fun l => live.any fun x => x.1 == l)

/-- The lowest candidate; ties to the lowest lane number (R304). -/
def lowest : List (Nat × Int) → Option (Nat × Int)
  | [] => none
  | x :: xs => match lowest xs with
    | none => some x
    | some y => if y.2 < x.2 then some y else some x

/-- The leader by R304 from the live lanes and the old leader. -/
def chooseLeader (live : List (Nat × Int)) (old : Option Nat) (hyst : Int) : Option (Nat × Int) :=
  match old.bind fun k => live.find? (fun x => x.1 == k) with
  | none => lowest live
  | some cur =>
    match lowest (live.filter fun x => x.1 != cur.1) with
    | none => some cur
    | some m => if m.2 < cur.2 - hyst then some m else some cur

/-- The NO_LEADER condition (R328). -/
def noLeaderCond (c : Chip) : Chip := setCond c 0x18 2 (c.sel.heats.any fun e => e.2.noLeader)

/-- The NO_LEADER condition and its record (R328). -/
def noLeaderRecord (c : Chip) (h : Nat) (old new : HeatSt) : Chip :=
  let c := noLeaderCond c
  if old.noLeader = new.noLeader then c
  else emit c 0x18 0x52 h (b2w new.noLeader) (BitVec.ofNat 32 (liveMask c h)) (BitVec.ofInt 32 new.out)
    c.stroke.count

/-- The LANE_TIMEOUT condition: any TIMED_OUT bit of an enabled lane (R328). -/
def laneTimeoutCond (c : Chip) : Chip :=
  let any := match c.sel.set with
    | none => false
    | some s => s.2.2.any fun b =>
        (List.range 8).any fun l =>
          b.lanes.getLsbD l && (((heat c b.no).lanes[l]?).map (·.timedOut)).getD false
  setCond c 0x18 3 any

/-- A change of leader: count, event, and the record at most once per heat per 100 strokes (R328). -/
def leaderRecord (c : Chip) (h : Nat) (old new : Option Nat) (out : Int) : Chip :=
  if old = new then c
  else
    let c := raise (modHeat c h fun s => { s with leads := s.leads + 1 }) 0x18 1
    let hs := heat c h
    let due := match hs.lastRecord with
      | none => true
      | some k => decide (100 ≤ (c.stroke.count - k).toNat)
    if due then
      let c := modHeat c h fun s => { s with lastRecord := some c.stroke.count, unrecorded := 0 }
      emit c 0x18 0x51 h (BitVec.ofNat 32 (old.getD 8)) (BitVec.ofNat 32 (new.getD 8))
        (BitVec.ofInt 32 out) (BitVec.ofNat 32 hs.unrecorded)
    else modHeat c h fun s => { s with unrecorded := s.unrecorded + 1 }

/-- Every arrival that the decision in progress has taken in becomes its lane's last; those that wait go into the next,
which begins when this one ends, 100 ns after its start, unless the selector drains (R303, R314). -/
def takeArrivals (c : Chip) (hs : HeatSt) : HeatSt :=
  let again := enabled c 0x18 && hs.lanes.any fun n => n.waiting.isSome
  { hs with
    deciding := if again then hs.deciding.map (· + 100) else none
    lanes := hs.lanes.map fun n =>
      { n with last := n.taken.orElse fun _ => n.last, taken := if again then n.waiting else none, waiting := none } }

/-- The mode REQ and MAN_BIT ask for: 0 OFF, 1 AUTO, 2 MANUAL (R306). -/
def heatWant (c : Chip) (b : HeatBlock) (hs : HeatSt) : Nat :=
  if hs.req = 0 then 0 else if hs.req = 2 || (b.manUsed && workBit c b.manBit) then 2 else 1

/-- Warm-up at a decision (R307): entered from OFF to AUTO, passed over by MANUAL, left when every lane that counts has
arrived since entry or LANE_TIMEOUT has passed (`warmOver`). -/
def warmUp (c : Chip) (b : HeatBlock) (hs : HeatSt) (want : Nat) (warmOver : Bool) : HeatSt :=
  let hs := if want = 1 && hs.mode = 0 then { hs with warm := true, arrived := 0 } else hs
  let all := (List.range 8).all fun l =>
    !b.lanes.getLsbD l || !notExcluded c b l || hs.arrived.getLsbD l
  { hs with warm := hs.warm && want != 2 && !(want == 1 && (all || warmOver)) }

/-- The heat after a decision (R304 to R307). -/
def decided (c : Chip) (b : HeatBlock) (old : HeatSt) (warmOver : Bool) : HeatSt :=
  let hs := takeArrivals c old
  let want := heatWant c b hs
  let hs := warmUp c b hs want warmOver
  let mode := if want = 1 && hs.warm then 3 else want
  let live := liveLanes c b hs (·.last)
  let pick := if mode = 1 then chooseLeader live (if old.mode = 1 then old.leader else none) b.hyst else none
  let out : Int := match mode with
    | 1 => match pick with | some x => x.2 | none => b.safe
    | 2 => if b.man.kind = 0 then hs.out else (scaleIn b.man (workWord c b.man.index)).val
    | _ => b.safe
  { hs with
    started := true, mode := mode, leader := pick.map (·.1), out := out
    minC := ((lowest live).map (·.2)).getD 0, noLeader := decide (mode = 1) && pick.isNone }

/-- A decision of heat `h` ends (R303 to R307); `warmOver` tells that LANE_TIMEOUT µs have passed
since the entry to warm-up. Without a decision in progress nothing ends. -/
def heatDecision (c : Chip) (h : Nat) (warmOver : Bool) : Chip :=
  match heatBlock c h with
  | none => c
  | some b =>
    let old := heat c h
    if !c.mode.mode.runs || !working c 0x18 || old.deciding.isNone then c
    else
      let new := decided c b old warmOver
      let c := modHeat c h fun _ => new
      let c := { c with sel := { c.sel with decisions := c.sel.decisions + 1 } }
      let c := writeSink c b.out new.out
      let c := leaderRecord c h old.leader new.leader new.out
      laneTimeoutCond (noLeaderRecord c h old new)

/-- A lane's last arrival becomes older than LANE_TIMEOUT, whether or not the heats decide (R301, R327, R328). -/
def laneTimeout (c : Chip) (h l : Nat) : Chip :=
  match heatBlock c h with
  | none => c
  | some _ => laneTimeoutCond (modHeat c h fun s =>
      { s with lanes := listMod s.lanes l fun n =>
          if n.newest.isSome then { n with timedOut := true } else n })

/-- A heat starts afresh: the mode HEAT_MODEh gives, no leader, no arrivals, in warm-up (R307, R312). HEAT_OUTh shows
the last decision until the next (R327), and the records' limit goes on (R328). -/
def freshHeat (s : HeatSt) : HeatSt :=
  { HeatSt.reset with
    req := s.req, leads := s.leads, lastRecord := s.lastRecord, unrecorded := s.unrecorded
    out := s.out, minC := s.minC, started := true, warm := true, mode := if s.req = 1 then 3 else s.req }

/-- Heats were as `old` has them: each change of NO_LEADER since writes its record (R328). -/
def noLeaderChanges (old : SMap HeatSt) (c : Chip) : Chip :=
  noLeaderCond (old.foldl (fun c x => noLeaderRecord c x.1 x.2 (heat c x.1)) c)

/-- Every heat starts afresh (R312). -/
def startHeats (c : Chip) : Chip :=
  laneTimeoutCond (noLeaderChanges c.sel.heats ((allHeats c).foldl (fun c b => modHeat c b.no freshHeat) c))

/-- Decisions in progress end undone, and arrivals that wait go (R312). -/
def dropDecisions (c : Chip) : Chip :=
  { c with sel := { c.sel with heats := c.sel.heats.map fun x =>
      (x.1, { x.2 with deciding := none, lanes := x.2.lanes.map fun n => { n with taken := none, waiting := none } }) } }

/-- In DRAINING no decision begins: arrivals that wait go (R314). -/
def drainHeats (c : Chip) : Chip :=
  { c with sel := { c.sel with heats := c.sel.heats.map fun x =>
      (x.1, { x.2 with lanes := x.2.lanes.map fun n => { n with waiting := none } }) } }

/-- Sampling and deciding stop with RUN and HOLD (R276, R312). -/
def stopSampling (c : Chip) : Chip := dropDecisions (forN 10 (fun e c => dropLatches c e) c)

/-- The image words that the selector writes: IMAGE sinks and status words. -/
def heatImages (c : Chip) : List Nat :=
  (allHeats c).flatMap fun b => [b.statusWord] ++ (if b.out.kind = 1 then [b.out.index] else [])

/-- At each TF the selector writes each heat's STATUS_WORD into the image (R323), where it works and the image is the
module's own. -/
def heatStatusWords (c : Chip) : Chip :=
  if !working c 0x18 || c.mode.mode = .standby || c.mode.mode = .takeover then c
  else (allHeats c).foldl (fun c b =>
    let hs := heat c b.no
    if b.statusWord = 0xFFFF then c
    else sinkImage c b.statusWord (pack [(q16 hs.out, 31, 16), (b2n hs.noLeader, 15, 15),
      (b2n hs.leader.isSome, 14, 14), (hs.leader.getD 0, 13, 11), (liveMask c b.no, 7, 0)])) c

/-- Safe values for heats with IMAGE sinks (R277, R312). -/
def heatSafeImages (c : Chip) : Chip :=
  match c.sel.set with
  | none => c
  | some s => s.2.2.foldl (fun c b =>
      if b.out.kind = 1 then writeSink c b.out b.safe else c) c

/-- The staged heat set is loaded, or the load fails (R325, R328). -/
def heatSetLoad (c : Chip) (obj : Option (List Byte)) : Chip × Bool :=
  match checkHeatSet obj with
  | .error (r, n) =>
    let c := { c with sel := { c.sel with result := r, failNo := n } }
    let (i, v) := match obj with
      | none => (0#32, 0#32)
      | some bs => (BitVec.ofNat 32 (leAt bs 8 4), BitVec.ofNat 32 (leAt bs 12 4))
    (emit (raise c 0x18 0) 0x18 0x50 0xFFFF i v (BitVec.ofNat 32 r) (BitVec.ofNat 32 n), false)
  | .ok (i, v, hs) =>
    let c := dropImages c (heatImages c)
    let old := c.sel.heats
    let c := { c with sel := { c.sel with
      result := 0, failNo := 0xFF, set := some (i, v, hs)
      heats := hs.foldl (fun m b => smSet HeatSt.reset m b.no
        (freshHeat { HeatSt.reset with
          req := b.initMode, lastRecord := (heat c b.no).lastRecord, unrecorded := (heat c b.no).unrecorded })) [] } }
    (emit (raise (laneTimeoutCond (noLeaderChanges old c)) 0x18 0) 0x18 0x50 0xFFFF i v 0 0xFF, true)

end Sys2Proof.Machine
end

