-- ==== Sys2Proof/Machine/Settings.lean ====
section
/-!
DEFINITION. The stored settings set (R676 to R682): its entries, versions, journal and digest; storing it
at COMMIT_CONFIG and after loads; and restoring it (R730, R681).
-/
namespace Sys2Proof.Machine

/-! ### Entries -/

/-- An entry's place in the order of R676. -/
def SetEntry.place (e : SetEntry) : Nat :=
  ((e.type * 256 + e.page) * 65536 + e.offset) * 65536 + e.index

def insertEntry (e : SetEntry) : List SetEntry → List SetEntry
  | [] => [e]
  | x :: xs => if e.place < x.place then e :: x :: xs else x :: insertEntry e xs

/-- Entries in the order of R676. -/
def sortEntries : List SetEntry → List SetEntry
  | [] => []
  | e :: es => insertEntry e (sortEntries es)

/-- An entry's 16 bytes (R676). -/
def entryBytes (e : SetEntry) : List Byte :=
  leBytes 1 e.type ++ leBytes 1 e.page ++ leBytes 2 e.offset ++ leBytes 2 e.index ++ leBytes 2 0
    ++ leBytes 4 e.value.toNat ++ leBytes 4 e.extra.toNat

/-- SETTINGS_DIGEST of a version (R680). -/
def setDigest (v : SetVersion) : Word := crc32c (v.entries.flatMap entryBytes)

/-- SETTINGS_DIGEST of the current version. -/
def currentDigest (c : Chip) : Word :=
  match c.upd.current with
  | some v => setDigest v
  | none => 0

/-- A register entry. -/
def regEntry (p off idx : Nat) (v : Word) : SetEntry := ⟨1, p, off, idx, v, 0⟩

/-- The header entries that every version records (R677). -/
def headerEntries (c : Chip) (p : Nat) : List SetEntry :=
  let h := hdr c p
  [ regEntry p 0x008 0xFFFF (pack [(h.drainTimeout, 15, 8), (b2n (h.st == .enabled), 0, 0)]),
    regEntry p 0x014 0xFFFF h.mask,
    regEntry p 0x020 0xFFFF (pack [(b2n h.ownerP, 2, 2), (b2n h.ownerE, 1, 1), (1, 0, 0)]) ]

/-- The page, window index (0xFFFF for none) and offset behind a key of `cfg`. -/
def cfgPlace (key : Nat) : Nat × Nat × Nat :=
  let off := key % 4096
  let p := key / 4096 % 128
  let w := key / 4096 / 128
  (p, if w = 0 then 0xFFFF else w - 1, off)

/-- A stored register that a version records: a configuration register that differs from its reset value
(R677). -/
def cfgEntry (c : Chip) (key : Nat) (v : Word) : Option SetEntry :=
  let (p, idx, off) := cfgPlace key
  let reset := if idx = 0xFFFF then cfgReset p off else cfgResetW c p idx off
  match blockReg c p off with
  | some r => if r.cfg && v != reset then some (regEntry p off idx v) else none
  | none => none

/-- The register part as the registers stand (R677). -/
def regEntries (c : Chip) : List SetEntry :=
  sortEntries (pageList.flatMap (headerEntries c) ++ [regEntry 0 0x054 0xFFFF (cfg c 0 0x054)]
    ++ c.cfg.filterMap fun e => cfgEntry c e.1 e.2)

/-- The entry of an object. -/
def objEntry (kind page : Nat) (bs : List Byte) : SetEntry :=
  ⟨2, page, 0, kind, BitVec.ofNat 32 bs.length, crc32c bs⟩

/-- The object entries as the object store stands. -/
def objEntries (c : Chip) : List SetEntry :=
  sortEntries (c.upd.objects.map fun e => objEntry (e.1 / 128) (e.1 % 128) e.2)

/-! ### Versions (R677 to R679) -/

/-- A new version becomes current, and the record says why: 0 COMMIT_CONFIG, 1 load, 2 migration. -/
def writeVersion (c : Chip) (format : Nat) (entries journal : List SetEntry) (cause : Nat) : Chip :=
  let v : SetVersion := ⟨c.upd.highest + 1, format, entries, journal⟩
  let c := { c with upd := { c.upd with
    current := some v, previous := c.upd.current, highest := v.seq } }
  emit c 0x79 0x14 0xFFFF v.seq (BitVec.ofNat 32 format) (setDigest v) (BitVec.ofNat 32 cause)

def currentEntries (c : Chip) : List SetEntry :=
  match c.upd.current with
  | some v => v.entries
  | none => regEntries c

def currentJournal (c : Chip) : List SetEntry :=
  match c.upd.current with
  | some v => v.journal
  | none => []

/-- A consistent COMMIT_CONFIG stores the values of that instant (R677). -/
def storeSettings (c : Chip) : Chip :=
  writeVersion c c.upd.running.format (regEntries c ++ objEntries c) (currentJournal c) 0

/-- A successful load stores the object and a version that names it (R165, R677, R679). The journal
entries of what the page held before go with it. -/
def storeObject (c : Chip) (kind page : Nat) (bs : List Byte) : Chip :=
  let regs := (currentEntries c).filter fun e => e.type == 1
  let journal := (currentJournal c).filter fun e => e.page != page
  let c := { c with upd := { c.upd with
    objects := smPut c.upd.objects (kind * 128 + page) bs, staged := smDel c.upd.staged page } }
  writeVersion c c.upd.running.format (regs ++ objEntries c) journal 1

/-- Entries are appended to the current version's journal (R678). -/
def journalAdd (c : Chip) (es : List SetEntry) : Chip :=
  { c with upd := { c.upd with
    current := c.upd.current.map fun v => { v with journal := v.journal ++ es } } }

/-- The entries of a trim batch (R676, TYPE 3). -/
def trimEntries (page : Nat) (stroke : Word) (batch : List Trim) : List SetEntry :=
  (batch.zip (List.range batch.length)).map fun (t, i) =>
    ⟨3, page, batch.length * 256 + i, t.part * 4096 + t.index, t.value, stroke⟩

/-- The entries of a tune (TYPE 4 and 5) or of a table point (TYPE 6) of engine `e`. -/
def tuneEntries (e : Nat) (stroke : Word) (t : Tune) : List SetEntry :=
  if e < 8 then [⟨4, engPage e, 0, t.loop, t.w0, t.w1⟩, ⟨5, engPage e, 0, t.loop, t.w2, 0⟩]
  else [⟨6, engPage e, 0, t.loop, setFld t.w0 31 31 0, stroke⟩]

/-- Recovery stores the tunes and points applied at this stroke's T0, and any left from strokes before (R289, R330). -/
def journalTunes (c : Chip) : Chip :=
  forN 10 (fun e c =>
    modEng ((eng c e).tuned.foldl (fun c t => journalAdd c (tuneEntries e c.stroke.count t)) c) e fun g =>
      { g with tuned := [] }) c

/-- Recovery journals the batches applied to a crew in this stroke (R192). -/
def captureTrims (c : Chip) (cr : Crew) : Chip :=
  (ctlSt c cr).trimApplied.foldl (fun c batch => journalAdd c (trimEntries (crewPage cr) c.stroke.count batch))
    (journalTrims c cr)

/-! ### Restoring (R681, R730) -/

/-- STROKE_CFG breaks R91, R99 (of the sets loaded and of those whose load is under way) or R108, or R122's rule on
links of more than four stations. -/
def strokeCfgBad (c : Chip) (v : Word) : Bool :=
  let p := fld v 8 0 * 250000
  let b := fld v 29 16 * 10000
  decide (p < 50000 + b + max 100000 (p / 4))
    || (List.range 10).any (fun e => match (eng c e).set with
        | some s => s.loops.any fun l => !ticksOk p l.com.ticks
        | none => false)
    || (List.range 10).any (fun e => (eng c e).result == 0xFF
      && !stagedTicksOk (8 ≤ e) p (smFind c.upd.staged (engPage e)))
    || (fld v 14 13 == 2 && 1000000000 % p != 0)
    || (decide (p < 1000000) && (List.range 32).any fun l => decide (4 < (expected c l).length))

/-- The register map allows the value of a register entry (R730). -/
def entryAllowed (c : Chip) (e : SetEntry) : Bool :=
  populated e.page && (e.index == 0xFFFF || windowOf e.page e.offset && e.index < windowSize e.page)
    && match regAt c e.page e.offset with
      | none => false
      | some r =>
        (e.value &&& r.resv) == 0
          && (if e.offset < 0x040 then true
              else rangeOk e.page e.offset (e.page == 0x75 && serialNmea c (e.index / 16)) e.value)

/-- One register entry is placed; BLK_CTRL apart (R730). -/
def restoreReg (c : Chip) (e : SetEntry) : Chip :=
  if e.type ≠ 1 ∨ e.offset = 0x008 then c
  else if e.offset = 0x014 then modHdr c e.page fun h => { h with mask := e.value }
  else if e.offset = 0x020 then modHdr c e.page fun h => { h with
    ownerP := bitOf e.value 2, ownerE := bitOf e.value 1 }
  else if e.index = 0xFFFF then setCfg c e.page e.offset e.value
  else setCfgW c e.page e.index e.offset e.value

/-- A page's BLK_CTRL entry, after its others. A fixed page stays enabled (R68). -/
def restoreCtrl (c : Chip) (e : SetEntry) : Chip :=
  if e.type = 1 ∧ e.offset = 0x008 then
    modHdr c e.page fun h => { h with
      drainTimeout := max 1 (fld e.value 15 8)
      st := if fixedPage e.page || bitOf e.value 0 then .enabled else .disabled }
  else c

/-- The object of an entry is loaded with every check of its kind of load (R730). A load that fails leaves
its page empty, with its result; a set that R99 does not allow at the stored P is not loaded, as its LOAD would be
refused (DEDUCED, log entry 89). -/
def restoreObject (c : Chip) (e : SetEntry) : Chip :=
  let obj := smFind c.upd.objects (e.index * 128 + e.page)
  if e.type ≠ 2 || ((e.index == 2 || e.index == 4) && !stagedTicksOk (e.index == 4) (periodNs c) obj) then c
  else
    match e.index with
    | 1 => (programLoad c (if e.page = 8 then .safety else .process) obj).1
    | 2 => (loopSetLoad c (e.page - 0x10) obj).1
    | 3 => (heatSetLoad c obj).1
    | 4 => (loopSetLoad c (e.page - 0x1A + 8) obj).1
    | _ => c

/-- One trim of the journal goes back onto the program (R192). -/
def replayTrim (c : Chip) (e : SetEntry) : Chip :=
  if e.type ≠ 3 then c
  else
    let cr := if e.page = 8 then Crew.safety else Crew.process
    let t : Trim := ⟨e.index / 4096, e.index % 4096, e.value⟩
    let c := modCrew c cr (trimOne · t)
    modCtl c cr fun k => { k with
      journal := match e.offset % 32, k.journal.reverse with
        | 0, _ => k.journal ++ [[t]]
        | _, [] => [[t]]
        | _, b :: bs => bs.reverse ++ [b ++ [t]]
      clean := some (cleanOf (crewSt c cr)) }

/-- One tune or point of the journal goes back onto its set (R289, R330). -/
def replayTune (c : Chip) (e : SetEntry) : Chip :=
  let eng := if e.page < 0x18 then e.page - 0x10 else e.page - 0x1A + 8
  let put := fun t => modEng c eng fun g => { g with
    set := g.set.map fun s => { s with loops := s.loops.map (tuneBlock t) } }
  match e.type with
  | 4 =>
    let limits := ((currentJournal c).filter fun f => f.type == 5 && f.page == e.page && f.index == e.index)
    match limits.getLast? with
    | some f => put ⟨e.index, e.value, e.extra, f.value⟩
    | none => c
  | 6 => put ⟨e.index, e.value, 0, 0⟩
  | _ => c

/-- On its way to ENABLED an engine reloads its set from the stored settings set, with the tunes journaled since, and
its stopped loops can run again (R280). -/
def reloadSet (c : Chip) (e : Nat) : Chip :=
  let c := modEng c e fun g => { g with loops := g.loops.map fun x => (x.1, { x.2 with stopped := false }) }
  match (currentEntries c).find? fun x => x.type == 2 && x.page == engPage e with
  | none => c
  | some x =>
    match checkLoopSet (decide (8 ≤ e)) (if e < 8 then e else e - 8) (periodNs c)
        (smFind c.upd.objects (x.index * 128 + x.page)) with
    | .error _ => c
    | .ok (s, d) =>
      let c := modEng c e fun g => { g with
        set := some s, loops := g.loops.map fun y => (y.1, { y.2 with dmax := smGet 0 d y.1 }) }
      ((currentJournal c).filter fun y => y.page == engPage e).foldl replayTune c

/-- The registers of a version are placed, each page's BLK_CTRL last (R730). -/
def restoreRegs (c : Chip) (v : SetVersion) : Chip :=
  v.entries.foldl restoreCtrl (v.entries.foldl restoreReg c)

/-- Objects and journal of a version, at boot (R192, R289, R730). -/
def restoreObjects (c : Chip) (v : SetVersion) : Chip :=
  let c := v.entries.foldl restoreObject c
  v.journal.foldl (fun c e => replayTune (replayTrim c e) e) c

/-- A version in format `from_` converts to the running firmware's (R681). -/
def migrates (c : Chip) (v : SetVersion) : Bool :=
  let r := c.upd.running
  let placed := restoreRegs c v
  r.minFormat ≤ v.format && v.format ≤ r.format
    && (v.format == r.format || v.entries.all fun e =>
          Config.convertible v.format r.format e.type e.page e.offset e.index e.value)
    && v.entries.all fun e => match e.type with
      | 1 => entryAllowed placed e && !(e.page == 2 && e.offset == 0x040 && strokeCfgBad placed e.value)
      | 2 => (smFind c.upd.objects (e.index * 128 + e.page)).isSome
      | _ => true

/-- Migration writes a new version in the running firmware's format, where the format differs (R681). -/
def migrate (c : Chip) (v : SetVersion) : Chip :=
  if v.format = c.upd.running.format then c
  else writeVersion c c.upd.running.format v.entries v.journal 2

end Sys2Proof.Machine
end

