-- ==== Sys2Proof/Machine/Zwistra.lean ====
section
/-!
DEFINITION. Zwistra safe frames: what is sent at TF (R358 to R360), the checks on each copy (R361,
R362), the skew window and the comparison (R363 to R365), the watchdog (R367), what the catch takes
(R366) and the causes and records of page 0x21 (R380 to R382).
-/
namespace Sys2Proof.Machine

def zwConn (c : Chip) (k : Nat) : ZwConn := smGet ZwConn.reset c.zw k
def modZw (c : Chip) (k : Nat) (f : ZwConn → ZwConn) : Chip :=
  { c with zw := smMod ZwConn.reset c.zw k f }

def zwCfg (c : Chip) (k i : Nat) : Word := cfgW c 0x21 k (0x04C + 4 * i)
def zwUsed (c : Chip) (k : Nat) : Bool := bitOf (zwCfg c k 0) 31
def zwSends (c : Chip) (k : Nat) : Bool := bitOf (zwCfg c k 0) 30
def zwBit (c : Chip) (k : Nat) : Nat := fld (zwCfg c k 3) 31 16
def zwWord (c : Chip) (k : Nat) : Nat := fld (zwCfg c k 3) 15 0

/-- STATE as ZW_CSTAT shows it: a used receive connection that has accepted nothing is WAITING (R367). -/
def zwState (c : Chip) (k : Nat) : Nat :=
  if !zwUsed c k then 0 else if (zwConn c k).state = 0 && !zwSends c k then 1 else (zwConn c k).state

/-- A used receive connection that is not RUNNING or is in FAULT (R380). -/
def zwNotRunning (c : Chip) (k : Nat) : Bool :=
  zwUsed c k && !zwSends c k && !zwGood (zwConn c k)

/-- ZW_CSTAT (R380). -/
def zwStat (c : Chip) (k : Nat) : Word :=
  let z := zwConn c k
  pack [(zwState c k, 31, 30), (b2n z.fault, 29, 29), (b2n z.single, 28, 28), (b2n z.valid, 27, 27),
    (z.equalRun, 20, 16), (z.lastSkew, 15, 0)]

/-- ZW_CCOUNT (R380). -/
def zwCount (z : ZwConn) : Word :=
  pack [(z.mismatches, 31, 24), (z.singles, 23, 16), (z.fenced, 15, 8), (z.bad, 7, 0)]

/-- The conditions NOT_RUNNING and SINGLE_NET (R381). -/
def zwConds (c : Chip) : Chip :=
  let ks := List.range 256
  let c := setCond c 0x21 0 (ks.any (zwNotRunning c))
  setCond c 0x21 2 (ks.any fun k => zwUsed c k && !zwSends c k && (zwConn c k).single)

/-- STATE of a connection changes, with its record (R382). -/
def zwTo (c : Chip) (k st : Nat) : Chip :=
  let old := zwState c k
  let c := modZw c k fun z => { z with state := st }
  if old = st then c
  else emit c 0x21 0x60 k (BitVec.ofNat 32 old) (BitVec.ofNat 32 st) (zwStat c k) c.stroke.count

/-- CRC-32C with the register preset to CONN_SIG (R358). -/
def zwCrc (sig : Word) (pdu : List Byte) : Word := ~~~(crcRun sig pdu)

/-- The safety PDU of a frame: bytes 0x04 to 0x37 (R358). -/
def zwPdu (bs : List Byte) : List Byte := slice bs 4 52

/-- Pack 128 bits, bit i in bit (i mod 8) of byte i ÷ 8 (R358). -/
def packBytes (n : Nat) (f : Nat → Bool) : List Byte :=
  (List.range n).map fun b => BitVec.ofNat 8 (packBits ((List.range 8).map fun i => f (8 * b + i)))

/-- One frame of send connection `k` for one network (R358, R359). -/
def zwFrame (c : Chip) (k : Nat) (netA : Bool) (safe : Bool) (seq : Word) : List Byte :=
  let bits := if safe then List.replicate 16 0
    else packBytes 16 fun i => smGet false c.latch.bits (zwBit c k + i)
  let words := if safe then List.replicate 16 0
    else (List.range 4).flatMap fun i => beBytes 4 (smGet 0 c.latch.words (zwWord c k + i)).toNat
  let status := b2n (!safe) + 2 * b2n (c.stroke.sync == .locked)
  let pdu := beBytes 2 (station c) ++ beBytes 1 (fld (zwCfg c k 0) 7 0) ++ beBytes 1 status
    ++ beBytes 4 (ownEpoch c).toNat ++ beBytes 4 seq.toNat ++ beBytes 8 c.stroke.t0 ++ bits ++ words
  beBytes 2 0x5A57 ++ [1#8, if netA then 0x0A#8 else 0x0B#8] ++ pdu
    ++ beBytes 4 (zwCrc (zwCfg c k 1) pdu).toNat

/-- Where a Zwistra frame goes (R358, R566). -/
def zwLine (c : Chip) (netA : Bool) : Line :=
  .zwistra netA (multicast (fld (cfg c (if netA then 0x70 else 0x71) 0x040) 23 16) (station c)) 54400

/-- At a committing TF one frame leaves for each send connection, on both networks (R359, R360). -/
def zwSend (c : Chip) (safe : Bool) : Chip :=
  if !enabled c 0x21 then c
  else forN 256 (fun k c =>
    if !(zwUsed c k && zwSends c k) then c
    else
      let seq := (zwConn c k).seq + 1
      let c := modZw c k fun z => { z with seq := seq, epoch := ownEpoch c }
      send (send c (zwLine c true) (zwFrame c k true safe seq)) (zwLine c false) (zwFrame c k false safe seq)) c

/-- The receive connection that expects a frame's SRC_ADDR and CONN (R361). -/
def zwMatch (c : Chip) (bs : List Byte) : Option Nat :=
  (List.range 256).find? fun k => zwUsed c k && !zwSends c k
    && fld (zwCfg c k 0) 25 16 == beAt bs 4 2 && fld (zwCfg c k 0) 7 0 == beAt bs 6 1

/-- A send connection of this module that a frame came back from (R390). -/
def zwOwn (c : Chip) (bs : List Byte) : Option Nat :=
  (List.range 256).find? fun k => zwUsed c k && zwSends c k && beAt bs 4 2 == station c
    && fld (zwCfg c k 0) 7 0 == beAt bs 6 1
    && (zwCrc (zwCfg c k 1) (zwPdu bs)).toNat == beAt bs 0x38 4

/-- The frame's fixed fields are right (R361, check 1). -/
def zwShapeOk (netA : Bool) (bs : List Byte) : Bool :=
  bs.length == 60 && beAt bs 0 2 == 0x5A57 && beAt bs 2 1 == 1
    && beAt bs 3 1 == (if netA then 0x0A else 0x0B)

/-- The limiter key of DISCARD records of a connection, and that of the discards of one kind among them. -/
def discardKey (k : Option Nat) (kind : Nat) : Nat := rateKey 0x21 0x62 ((k.getD 256) * 8 + kind)

/-- Change the count of a connection's discards of one kind since its last record. -/
def tallyDiscard (c : Chip) (k : Option Nat) (f : Nat → Nat) (kind : Nat) : Chip :=
  { c with rates := smMod RateSt.reset c.rates (discardKey k kind) fun r => { r with since := f r.since } }

/-- A discarded copy: counted, its cause raised, and its record at most once per connection per 100 strokes, with the
discards of its kind since the connection's last (R361, R381, R382). `kind` is the check: 1 BAD_FRAME, 2 FENCED, 4
AGED. -/
def zwDiscard (c : Chip) (k : Option Nat) (kind : Nat) : Chip :=
  let c := match k with
    | none => c
    | some k => modZw c k fun z =>
        if kind = 2 then { z with fenced := satInc 255 z.fenced }
        else { z with bad := satInc 255 z.bad }
  let c := raise c 0x21 (if kind = 2 then 3 else if kind = 1 then 4 else 5)
  let c := tallyDiscard c k (· + 1) kind
  let n := (smGet RateSt.reset c.rates (discardKey k kind)).since
  match rateAllow c (discardKey k 0) 100 with
  | (some _, c) =>
    let c := [1, 2, 4].foldl (fun c kind => tallyDiscard c k (fun _ => 0) kind) c
    emit c 0x21 0x62 (k.getD 0xFFFF) (BitVec.ofNat 32 kind) (BitVec.ofNat 32 n)
      (match k with | none => 0 | some k => zwCount (zwConn c k)) c.stroke.count
  | (none, c) => c

/-- µs between the two copies of a pair, as LAST_SKEW shows them (R380). -/
def skewMicros (ns : Nat) : Nat := min 0xFFFF (ns / 1000)

/-- A copy's PDU as the data it delivers (R358). -/
def zwDataOf (pdu : List Byte) : ZwData := ⟨slice pdu 0x14 16, slice pdu 0x24 16, (beAt pdu 3 1).testBit 0⟩

/-- `new` is newer than `old`: the difference modulo 2³² lies in 1 to 2³¹ − 1 (R361). -/
def newerSeq (new old : Word) : Bool :=
  let d := (new - old).toNat
  decide (1 ≤ d ∧ d < 2147483648)

/-- A connection accepts a PDU; `single` tells that one copy did it (R363 to R365, R367). -/
def zwAccept (c : Chip) (k : Nat) (pdu : List Byte) (single : Bool) (skewNs : Nat) : Chip :=
  let z := zwConn c k
  let run := if single then 0 else min 16 (z.equalRun + 1)
  let clears := z.fault && decide (16 ≤ run)
  let c := modZw c k fun z => { z with
    single := single
    singles := if single then satInc 255 z.singles else z.singles
    valid := (zwDataOf pdu).valid
    equalRun := run
    lastSkew := if single then z.lastSkew else skewMicros skewNs
    seq := BitVec.ofNat 32 (beAt pdu 8 4)
    epoch := BitVec.ofNat 32 (beAt pdu 4 4)
    seen := true
    dropped := z.dropped.filter fun d => newerSeq (BitVec.ofNat 32 d.2) (BitVec.ofNat 32 (beAt pdu 8 4))
    window := none
    data := if z.fault then none else some (zwDataOf pdu)
    fault := z.fault && !clears }
  zwConds (zwTo c k 2)

/-- EPOCH and SEQ of a PDU. -/
def zwKey (pdu : List Byte) : Nat × Nat := (beAt pdu 4 4, beAt pdu 8 4)

/-- The window of a connection closes with one copy: accepted, or dropped with DUAL_REQUIRED (R364). Either way it
counts under SINGLE (R380). -/
def zwWindowClose (c : Chip) (k : Nat) : Chip :=
  match (zwConn c k).window with
  | none => c
  | some (_, pdu, _) =>
    if bitOf (zwCfg c k 0) 29 then
      modZw c k fun z => { z with window := none, dropped := zwKey pdu :: z.dropped, singles := satInc 255 z.singles }
    else zwAccept c k pdu true 0

/-- The two copies differ: neither is accepted, the connection enters FAULT (R363). -/
def zwMismatch (c : Chip) (k : Nat) (a b : List Byte) (skewNs : Nat) : Chip :=
  let off := ((List.range 52).find? fun i => a.getD i 0 != b.getD i 0).getD 0
  let c := modZw c k fun z => { z with
    window := none, fault := true, equalRun := 0, mismatches := satInc 255 z.mismatches, data := none
    lastSkew := skewMicros skewNs }
  let c := detect (zwConds (raise c 0x21 1)) 6 k
  emit c 0x21 0x61 k (BitVec.ofNat 32 (beAt b 8 4)) (BitVec.ofNat 32 (beAt b 4 4))
    (BitVec.ofNat 32 (off + 4)) c.stroke.count

/-- A copy that passed every check meets the skew window (R363, R364). -/
def zwWindow (c : Chip) (k : Nat) (netA : Bool) (bs : List Byte) (now : Nat) : Chip :=
  let pdu := zwPdu bs
  let opens := fun (c : Chip) => modZw c k fun z => { z with window := some (netA, pdu, now) }
  match (zwConn c k).window with
  | none => opens c
  | some (net, p, t) =>
    if zwKey p = zwKey pdu then
      if net = netA then c
      else if p = pdu then zwAccept c k pdu false (now - t)
      else zwMismatch c k p pdu (now - t)
    else if (zwKey p).1 < (zwKey pdu).1
        || ((zwKey p).1 == (zwKey pdu).1
            && newerSeq (BitVec.ofNat 32 (zwKey pdu).2) (BitVec.ofNat 32 (zwKey p).2)) then
      opens (zwWindowClose c k)
    else c

/-- A copy of a Zwistra frame arrives on one network at module time `now` (R361 to R364). -/
def zwCopy (c : Chip) (netA : Bool) (bs : List Byte) (now : Nat) : Chip :=
  if !enabled c 0x21 then c
  else if !zwShapeOk netA bs then zwDiscard c none 1
  else match zwMatch c bs with
  | none => zwDiscard c none 1
  | some k =>
    let z := zwConn c k
    let epoch := beAt bs 8 4
    let seq := BitVec.ofNat 32 (beAt bs 0xC 4)
    let maxAge := fld (zwCfg c k 2) 15 0
    if (zwCrc (zwCfg c k 1) (zwPdu bs)).toNat ≠ beAt bs 0x38 4 then zwDiscard c (some k) 1
    else if epoch < z.epoch.toNat then zwDiscard c (some k) 2
    else if (epoch = z.epoch.toNat && z.seen && !newerSeq seq z.seq) || z.dropped.contains (epoch, seq.toNat) then c
    else if maxAge ≠ 0 && (beAt bs 7 1).testBit 1 && c.stroke.sync == .locked
        && decide (beAt bs 0x10 8 + maxAge * 1000000 < now) then zwDiscard c (some k) 4
    else zwWindow c k netA bs now

/-- No data accepted for WATCHDOG ms: TIMED_OUT (R367). -/
def zwWatchdog (c : Chip) (k : Nat) : Chip :=
  if zwState c k = 2 && !zwSends c k then zwConds (zwTo c k 3) else c

/-- Used receive connections return to WAITING at each entry to CONFIG, STOP or RUN (R367). -/
def zwWaiting (c : Chip) : Chip :=
  zwConds (forN 256 (fun k c => if zwUsed c k && !zwSends c k then zwTo c k 1 else c) c)

/-- A connection's ZW_CFG registers have been written, `before` them: a used receive connection is WAITING from its
configuration, with a record of a change of STATE (R367, R382). -/
def zwConfigured (before c : Chip) (k : Nat) : Chip :=
  let old := zwState before k
  let c := modZw c k fun z => { z with
    state := if zwUsed c k && !zwSends c k then 1 else 0, window := none, dropped := [] }
  let now := zwState c k
  if old = now then c
  else emit c 0x21 0x60 k (BitVec.ofNat 32 old) (BitVec.ofNat 32 now) (zwStat c k) c.stroke.count

/-- The bits and words a catch takes: all 0 unless RUNNING and not in FAULT (R366); none while page 0x21 does not work
(R72). -/
def zwCatch (c : Chip) : List (Nat × Bool) × List (Nat × Word) :=
  let ks := (List.range 256).filter fun k => working c 0x21 && zwUsed c k && !zwSends c k
  (ks.flatMap fun k =>
      let d := if zwGood (zwConn c k) then (zwConn c k).data else none
      (List.range 128).map fun i =>
        (zwBit c k + i, match d with
          | none => false
          | some d => ((d.bits.getD (i / 8) 0)).getLsbD (i % 8)),
   ks.flatMap fun k =>
      let d := if zwGood (zwConn c k) then (zwConn c k).data else none
      (List.range 4).map fun i =>
        (zwWord c k + i, match d with
          | none => 0
          | some d => BitVec.ofNat 32 (beAt d.words (4 * i) 4)))

end Sys2Proof.Machine
end

