-- ==== Sys2Proof/Machine/ConfigCheck.lean ====
section
/-!
DEFINITION. The configuration check of R35: what COMMIT_CONFIG, and the arrival in CONFIG, find missing or
inconsistent (R171, R287, R315, R372, R380, R413, R459, R490, R507, R518, R553, R579, R596).
-/
namespace Sys2Proof.Machine

/-! ### What loops and heats drive -/

/-- The PV bindings that read a source outside the engine, and every output binding. -/
def pvBindings (c : Chip) : List Binding := (allLoops c).map fun l => l.2.com.pv
def loopOuts (c : Chip) : List Binding := (allLoops c).map fun l => l.2.com.out
def heatOuts (c : Chip) : List Binding := (allHeats c).map (·.out)

def ofKind (k : Nat) (bs : List Binding) : List Nat := (bs.filter fun b => b.kind == k).map (·.index)

/-- Two entries of a list are equal. -/
def repeats : List Nat → Bool
  | [] => false
  | x :: xs => xs.contains x || repeats xs

/-! ### Addresses -/

/-- Every output range of a crew. -/
def crewRanges (k : CrewSt) : List (List IoRange) :=
  match k.prog with
  | some p => p.parts.map (·.iomap)
  | none => []

def rangesClash (a b : List IoRange) : Bool := a.any fun x => b.any (ioOverlap x)

/-- Ranges of two crews, or of two partitions of one, overlap (R171). -/
def iomapsClash : List (List IoRange) → Bool
  | [] => false
  | r :: rs => rs.any (rangesClash r) || iomapsClash rs

def procOut (c : Chip) (word : Bool) (a : Nat) : Bool := isOut c.crewP word a
def safeOutAddr (c : Chip) (word : Bool) (a : Nat) : Bool := isOut c.crewS word a
def anyOut (c : Chip) (word : Bool) (a : Nat) : Bool := isOut c.crewP word a || isOut c.crewS word a

/-- Any of `n` addresses from `a` on satisfies `p`. -/
def anyOf (p : Nat → Bool) (a n : Nat) : Bool := (List.range n).any fun i => p (a + i)

/-- The module with every page enabled: a check asks what a block would write, working or not. -/
def allOn (c : Chip) : Chip :=
  { c with pages := pageList.foldl (fun m p => smMod (PageHdr.reset p) m p fun h =>
      { h with st := .enabled, waits := false }) c.pages }

/-- The image bits that the blocks write at a catch. -/
def blockBits (c : Chip) : List Nat :=
  let d := allOn c
  ((digitalBits d ++ remoteBits d ++ safetyImageBits d ++ (zwCatch d).1).map (·.1))

/-- The image words that the blocks write at a catch, engine outputs and status words among them. -/
def blockWords (c : Chip) : List Nat :=
  let d := allOn c
  ((digitalWords d 0 ++ islandWords d ++ remoteWords d ++ (zwCatch d).2).map (·.1)) ++ canSpan d ++ serialSpan d
    ++ ofKind 1 (loopOuts c) ++ ofKind 1 (heatOuts c)
    ++ ((allHeats c).map (·.statusWord)).filter (· ≠ 0xFFFF)

/-! ### The checks -/

/-- The role that an island is configured in (R467): 0 unused, 1 source output, 2 sink output, 3 input. -/
def configuredRole (c : Chip) (i : Nat) : Nat := fld (islCfgA c i) 31 30

/-- R287: what loops drive. -/
def loopsBad (c : Chip) : Bool :=
  let outs := loopOuts c
  [1, 2, 4, 6].any (fun k => repeats (ofKind k outs))
    || (ofKind 1 outs).any (anyOut c true)
    || (ofKind 2 outs).any (fun i => configuredRole c i == 0 || configuredRole c i == 3)
    || (ofKind 2 (pvBindings c)).any (fun i => configuredRole c i != 3)
    || (ofKind 6 outs).any (fun ch => digMode c ch != 2 || gangMaster c ch != ch)

/-- R315: lanes and heat outputs. -/
def heatsBad (c : Chip) : Bool :=
  let lanes := (allLoops c).filterMap fun l => (laneOf l.2).map fun x => (x, l.1, l.2)
  let fed := fun h l => (lanes.filter fun x => x.1 == (h, l)).length
  let outs := heatOuts c
  ((allHeats c).any fun b => (List.range 8).any fun l =>
      if b.lanes.getLsbD l then fed b.no l != 1 else fed b.no l != 0)
    || lanes.any (fun x => !(allHeats c).any fun b => b.no == x.1.1)
    || lanes.any (fun x => x.2.2.com.manUsed || x.2.2.com.initMode == 2
        || (x.2.1 < 8 && !x.2.2.law.backCalcs))
    || [1, 2, 4].any (fun k => repeats (ofKind k outs)
        || (ofKind k outs).any fun i => (ofKind k (loopOuts c)).contains i)
    || (ofKind 1 outs).any (anyOut c true)

/-- R171 and R372: safety outputs, groups, connections and the safety image. -/
def safetyBad (c : Chip) : Bool :=
  let gs := (List.range 32).filter (groupEnabled c)
  (!gs.isEmpty && !sigMatch c)
    || ((List.range 8).any fun o => bitOf (outCfg c o) 31
        && ((gs.filter fun g => (groupOuts c g).contains o).length != 1
            || !safeOutAddr c false (fld (outCfg c o) 15 0)))
    || (gs.any fun g => (groupPairs c g).any (fun n => !bitOf (pairCfg c n) 31)
        || (groupOuts c g).any (fun o => !bitOf (outCfg c o) 31)
        || (groupConns c g).any fun k => !zwUsed c k)
    || ((List.range 256).any fun k => zwUsed c k &&
        (if zwSends c k then anyOf (fun a => !safeOutAddr c false a) (zwBit c k) 128
            || anyOf (fun a => !safeOutAddr c true a) (zwWord c k) 4
          else anyOf (anyOut c false) (zwBit c k) 128 || anyOf (anyOut c true) (zwWord c k) 4))
    || anyOf (anyOut c false) (fld (cfg c 0x20 0x04C) 15 0) 128

/-- R380: connection numbers. -/
def connsBad (c : Chip) : Bool :=
  let used := (List.range 256).filter (zwUsed c)
  repeats ((used.filter (zwSends c)).map fun k => fld (zwCfg c k 0) 7 0)
    || repeats ((used.filter fun k => !zwSends c k).map fun k => (zwCfg c k 0).toNat % 0x4000000)

/-- R579: the host window. -/
def windowBad (c : Chip) : Bool :=
  let b := cfg c 0x72 0x048
  let w := cfg c 0x72 0x04C
  (blockBits c).any (inWindow b) || (blockWords c).any (inWindow w)
    || anyOf (anyOut c false) (fld b 15 0) (fld b 31 16)
    || anyOf (anyOut c true) (fld w 15 0) (fld w 31 16)

/-- The configuration is missing: no crew holds a program. -/
def configMissing (c : Chip) : Bool := c.crewS.prog.isNone && c.crewP.prog.isNone

/-- The check of R35 finds the configuration missing or inconsistent. -/
def configBad (c : Chip) : Bool :=
  configMissing c || iomapsClash (crewRanges c.crewS ++ crewRanges c.crewP)
    || loopsBad c || heatsBad c || safetyBad c || connsBad c || windowBad c
    || digitalBad c (ofKind 6 (loopOuts c)) (procOut c false) (anyOut c false) (anyOut c true) (paired c)
    || islandBad c (ofKind 2 (loopOuts c ++ heatOuts c)) (procOut c true) (anyOut c true) (paired c)
        (leaseStrokes c)
    || remoteBad c (ofKind 4 (pvBindings c)) (ofKind 4 (loopOuts c ++ heatOuts c)) (procOut c false)
        (procOut c true) (anyOut c false) (anyOut c true) (paired c) (leaseStrokes c)
    || canBad c (procOut c true) (anyOut c true)
    || serialBad c (procOut c true) (anyOut c true)

end Sys2Proof.Machine
end

