-- ==== Sys2Proof/Machine/Boathouse.lean ====
section
/-!
DEFINITION. The Boathouse's sensors (R628 to R633), page 0x7A's registers, causes and records (R640,
R641).
-/
namespace Sys2Proof.Machine

/-- Change page 0x7A's state. -/
def modBoat (c : Chip) (f : BoatSt → BoatSt) : Chip := { c with boat := f c.boat }

/-- A 16-bit pattern as a word; a faulted sensor reads 0x8000 (R629). -/
def pat16 : Option Int → Word
  | none => 0x8000
  | some x => BitVec.ofNat 32 (x % 65536).toNat

/-- The signed reading of a 16-bit pattern. -/
def sense (w : Word) : Int := signed 16 (fld w 15 0)

/-- WARN and LIMIT of temperature point `k` in 0.1 °C (R630). -/
def tempLimits : Nat → Int × Int
  | 0 | 1 | 2 | 3 => (1000, 1150)
  | 4 | 5 => (850, 950)
  | 6 => (1000, 1150)
  | 7 => (900, 1050)
  | 8 => (1000, 1200)
  | 9 => (900, 1050)
  | 10 => (700, 800)
  | _ => (750, 850)

/-- The operating range of rail `r` in mV (R631). -/
def railRange : Nat → Nat × Nat
  | 0 => (873, 927) | 1 => (1164, 1236) | 2 => (1746, 1854) | _ => (18000, 32000)

/-- Temperature point `k` and rail `r` as last sampled. -/
def tempOf (c : Chip) (k : Nat) : Word := smGet 0x8000 c.boat.temps k
def railMv (c : Chip) (r : Nat) : Nat := fld (smGet 0 c.boat.rails r) 15 0

/-- A sensor did not answer, or read outside its physical range, when it was last read (R629). -/
def sensorFaulted (c : Chip) (i : Nat) : Bool := smGet false c.boat.faults i

/-- The coldest of points 4 to 11 that answer (R631). -/
def coldest (c : Chip) : Option Int :=
  ((List.range 8).map (· + 4)).foldl (fun m k =>
    if sensorFaulted c k then m
    else match m with
      | none => some (sense (tempOf c k))
      | some x => some (min x (sense (tempOf c k)))) none

/-- RH and the dew point call for CONDENSATION (R631). -/
def condensing (c : Chip) : Bool :=
  950 ≤ c.boat.rh.toNat || (match coldest c with
    | some t => decide (t ≤ c.boat.dew.toInt + 20)
    | none => false)

/-- The last sample lies beyond the threshold of a condition (R629 to R631). -/
def beyond (c : Chip) (bit i : Nat) : Bool :=
  match bit with
  | 1 => i < 12 && !sensorFaulted c i && decide ((tempLimits i).1 ≤ sense (tempOf c i))
  | 2 => i < 12 && !sensorFaulted c i && decide ((tempLimits i).2 ≤ sense (tempOf c i))
  | 3 => 16 ≤ i && i < 19 && !sensorFaulted c i
      && (railMv c (i - 16) < (railRange (i - 16)).1 || (railRange (i - 16)).2 < railMv c (i - 16))
  | 4 => (i == 19 || i == 20) && !sensorFaulted c i
      && (railMv c (i - 16) < (railRange (i - 16)).1 || (railRange (i - 16)).2 < railMv c (i - 16))
  | 5 => i == 32 && !sensorFaulted c 32 && condensing c
  | _ => false

/-- The last sample lies back inside; a temperature only once it is 2.0 °C inside (R629). -/
def backInside (c : Chip) (bit i : Nat) : Bool :=
  match bit with
  | 1 => i < 12 && !sensorFaulted c i && decide (sense (tempOf c i) ≤ (tempLimits i).1 - 20)
  | 2 => i < 12 && !sensorFaulted c i && decide (sense (tempOf c i) ≤ (tempLimits i).2 - 20)
  | 3 | 4 | 5 => !sensorFaulted c i && !beyond c bit i
  | _ => false

/-- The value a SENSOR_STATE record shows (R641). -/
def sensorValue (c : Chip) (i : Nat) : Word :=
  if i < 16 then tempOf c i else if i < 32 then BitVec.ofNat 32 (railMv c (i - 16))
  else if i = 32 then BitVec.ofNat 32 c.boat.rh.toNat
  else if i = 34 then BitVec.ofNat 32 c.boat.rms else BitVec.ofNat 32 c.boat.cell

/-- The index a SENSOR_STATE record shows: R641 lists none for the accelerometer, whose is the implementation's (log
entry 109). -/
def sensorShown (i : Nat) : Nat := if i = 34 then Config.motionIndex else i

/-- A sensor's condition sets or clears, with its record; the cause holds while any sensor's does. -/
def sensorTo (c : Chip) (bit i : Nat) (v : Bool) : Chip :=
  let c := modBoat c fun b => { b with conds := smSet false b.conds (bit * 64 + i) v }
  let c := setCond c 0x7A bit (c.boat.conds.any fun e => e.1 / 64 == bit)
  emit c 0x7A 0xF0 bit (b2w v) (BitVec.ofNat 32 (sensorShown i)) (sensorValue c i) c.stroke.count

/-- A condition held now. -/
def sensorHeld (c : Chip) (bit i : Nat) : Bool := smGet false c.boat.conds (bit * 64 + i)

/-- The condition and sensor of each threshold that a sample is held against (R629 to R631). -/
def sensorPoints : List (Nat × Nat) :=
  (List.range 12).flatMap (fun k => [(1, k), (2, k)]) ++ [(3, 16), (3, 17), (3, 18), (4, 19), (4, 20), (5, 32)]

/-- A sample of every sensor lengthens or ends each run of consecutive samples beyond, or back inside, a threshold. -/
def countRuns (c : Chip) : Chip :=
  let run := fun (p : Nat → Nat → Bool) (m : SMap Nat) => sensorPoints.foldl (fun m x =>
    smMod 0 m (x.1 * 64 + x.2) fun n => if p x.1 x.2 then satInc 3 n else 0) m
  modBoat c fun b => { b with outside := run (beyond c) b.outside, inside := run (backInside c) b.inside }

/-- The last three samples, or more, lie beyond a threshold, or back inside it (R629). -/
def stayedOut (c : Chip) (bit i : Nat) : Bool := beyond c bit i && 3 ≤ smGet 0 c.boat.outside (bit * 64 + i)
def stayedIn (c : Chip) (bit i : Nat) : Bool := backInside c bit i && 3 ≤ smGet 0 c.boat.inside (bit * 64 + i)

/-- Three consecutive samples beyond, or back inside, a threshold (R629). -/
def sensorState (c : Chip) (bit i : Nat) (set : Bool) : Chip :=
  if set then (if stayedOut c bit i && !sensorHeld c bit i then sensorTo c bit i true else c)
  else if stayedIn c bit i && sensorHeld c bit i then sensorTo c bit i false else c

/-- SENSOR_FAULT holds while a sensor is faulted: no run of samples delays it (R629). The cell and the capacitor share
index 33. -/
def faultConds (c : Chip) : Chip :=
  (List.range 12 ++ [16, 17, 18, 19, 20, 32, 33, 34]).foldl (fun c i =>
    let now := sensorFaulted c i || (i == 33 && sensorFaulted c 35)
    if now = sensorHeld c 8 i then c else sensorTo c 8 i now) c

/-! ### The panel's temperature band (R694) -/

/-- Lower edge of a band in 0.1 °C. -/
def bandEdge : Nat → Int
  | 0 => -100000 | 1 => -100 | 2 => 50 | 3 => 200 | 4 => 350 | _ => 500

/-- The band moves up at a band's lower edge, down 1.0 °C below it; 3 while point 10 is faulted. -/
def bandStep (old : Nat) (t : Option Int) : Nat :=
  match t with
  | none => 3
  | some x =>
    let up := (List.range 6).foldl (fun m k => if bandEdge k ≤ x then k else m) 0
    if old < up then up
    else (List.range (old + 1)).foldl (fun m k => if bandEdge k - 10 < x then k else m) 0

/-- BAND follows temperature point 10, and BAND_SENSOR its fault (R694, R700). -/
def bandUpdate (c : Chip) : Chip :=
  let t := tempOf c 10
  let c := { c with panel := { c.panel with
    band := bandStep c.panel.band (if sensorFaulted c 10 then none else some (sense t)) } }
  setCond c 0x7B 2 (sensorFaulted c 10)

/-- Which sensors a sample finds faulted. -/
def sampleFaults (s : SensorIn) (m : SMap Bool) : SMap Bool :=
  let m := forN 12 (fun k m => smSet false m k ((s.temps[k]?).join).isNone) m
  let m := forN 5 (fun r m => smSet false m (16 + r) ((s.rails[r]?).join).isNone) m
  smSet false (smSet false (smSet false m 32 s.humidity.isNone) 33 s.cap.isNone) 34 s.motion.isNone

/-- One sample of every sensor (R629, R631, R640). -/
def sensorSample (c : Chip) (s : SensorIn) : Chip :=
  let peaks := (s.motion.map (·.1)).getD []
  let c := modBoat c fun b => { b with
    temps := forN 12 (fun k m => smSet 0x8000 m k (pat16 ((s.temps[k]?).join))) b.temps
    peaks := forN 12 (fun k m =>
      let v := pat16 ((s.temps[k]?).join)
      if sense (smGet 0x8000 m k) < sense v then smSet 0x8000 m k v else m) b.peaks
    rails := forN 5 (fun r m => smPut m r (match (s.rails[r]?).join with
      | some (ma, mv) => pack [(min ma 0xFFFF, 31, 16), (min mv 0xFFFF, 15, 0)]
      | none => 0x80008000)) b.rails
    dew := match s.humidity with | some (d, _) => BitVec.ofInt 16 d | none => 0x8000
    rh := match s.humidity with | some (_, h) => BitVec.ofNat 16 h | none => 0x8000
    shockPeak := min 0xFFFF (peaks.foldl max b.shockPeak)
    rms := match s.motion with | some (_, r) => min 0xFFFF r | none => 0x8000
    cap := match s.cap with | some v => min 0xFFFF v | none => 0x8000
    faults := sampleFaults s b.faults }
  let c := faultConds (bandUpdate (countRuns c))
  match (List.range 3).find? (fun a => decide (500 < (peaks[a]?).getD 0)) with
  | none => c
  | some axis =>
    let c := raise c 0x7A 6
    let (due, c) := rateAllow c (rateKey 0x7A 0xF1 0) 100
    match due with
    | none => c
    | some n => emit c 0x7A 0xF1 axis (BitVec.ofNat 32 ((peaks[axis]?).getD 0)) (BitVec.ofNat 32 n) 0
        c.stroke.count

/-- The backup cell is measured (R628), or does not answer (R629); BACKUP_SECONDS is read with it. -/
def cellMeasure (c : Chip) (mv : Option Nat) (secs : Nat) : Chip :=
  let c := modBoat c fun b => { b with
    cell := match mv with | some v => min 0xFFFF v | none => 0x8000
    faults := smSet false b.faults 35 mv.isNone }
  let c := faultConds (modBackup c fun b => { b with seconds := max b.seconds (min 0xFFFFFFFF secs) })
  let low := match mv with | some v => decide (v < 2700) | none => false
  if low = sensorHeld c 7 33 then c else sensorTo c 7 33 low

/-- CELL_LOW holds. -/
def cellLow (c : Chip) : Bool := sensorHeld c 7 33

/-- SENSOR_CLEAR.PEAKS (R640). -/
def sensorClear (c : Chip) : Chip := modBoat c fun b => { b with peaks := b.temps, shockPeak := 0 }

/-! ### Health (R633) -/

/-- The sensors have been sampled since reset. -/
def sampled (c : Chip) : Bool := c.boat.rails != []

/-- HEALTH_SUM.SUPPLIES_OK and SENSORS_OK. -/
def suppliesOk (c : Chip) : Bool :=
  sampled c && !(sensorHeld c 3 16 || sensorHeld c 3 17 || sensorHeld c 3 18)
    && !(sensorHeld c 4 19 && sensorHeld c 4 20)
def condAny (c : Chip) (bit : Nat) : Bool := c.boat.conds.any fun e => e.1 / 64 == bit
def sensorsOk (c : Chip) : Bool :=
  sampled c && !condAny c 2 && !condAny c 3 && !condAny c 5 && !condAny c 8 && !condAny c 7

/-- Page 0x7A's registers (R640). -/
def readBoat (c : Chip) (off : Nat) : Word :=
  if off = 0x040 then
    pack [(b2n (suppliesOk c), 7, 7), (b2n (sensorsOk c), 6, 6), (b2n (sampled c && !condAny c 4), 5, 5),
      (b2n (sampled c && !cellLow c), 4, 4), (b2n (sampled c && !condAny c 5), 3, 3),
      (if condAny c 2 then 2 else if condAny c 1 then 1 else 0, 1, 0)]
  else if 0x100 ≤ off ∧ off < 0x130 then
    let k := (off - 0x100) / 4
    pack [(fld (smGet 0x8000 c.boat.peaks k) 15 0, 31, 16), (fld (tempOf c k) 15 0, 15, 0)]
  else if 0x140 ≤ off ∧ off < 0x154 then smGet 0 c.boat.rails ((off - 0x140) / 4)
  else match off with
    | 0x160 => pack [(c.boat.dew.toNat, 31, 16), (c.boat.rh.toNat, 15, 0)]
    | 0x164 => pack [(c.boat.shockPeak, 31, 16), (c.boat.rms, 15, 0)]
    | 0x168 => pack [(c.boat.cell, 31, 16), (c.boat.cap, 15, 0)]
    | 0x16C => BitVec.ofNat 32 c.backup.seconds
    | 0x170 => BitVec.ofNat 32 c.boat.locked.toNat
    | _ => 0

end Sys2Proof.Machine
end

