-- ==== Sys2Proof/Machine/Seat.lean ====
section
/-!
DEFINITION. The seat of a pair (R383 to R398): epochs, roles, health, the records and beacons a module
sends, and the conditions of page 0x28.
-/
namespace Sys2Proof.Machine

def modSeat (c : Chip) (f : SeatSt → SeatSt) : Chip := { c with seat := f c.seat }
def modMirror (c : Chip) (f : MirrorSt → MirrorSt) : Chip := { c with mirror := f c.mirror }
def modPairCnt (c : Chip) (f : PairCnt → PairCnt) : Chip := { c with pairCnt := f c.pairCnt }

/-! ### The partner -/

/-- SOC_REV of this part (R46). -/
def socRev : Nat := 0x41

/-- The pair block works: PAIRED is set, page 0x28 takes work and strokes run. -/
def pairOn (c : Chip) : Bool := paired c && working c 0x28 && c.mode.mode.strokes

/-- PAIR_STAT.PARTNER_SEEN (R398, R428). -/
def partnerSeen (c : Chip) : Bool := paired c && !c.seat.lost

/-- The partner stands by (R30). -/
def standsBy (c : Chip) : Bool := partnerSeen c && c.seat.partnerRole == 2

/-- The partner reports READY (R423). -/
def partnerReady (c : Chip) : Bool := partnerSeen c && bitOf c.seat.partnerHealth 31

/-- A HELLO's sender is compatible with this module (R396). -/
def compatibleWith (c : Chip) (h : Hello) : Bool :=
  h.station == station c && h.fleet == b2n (fleet c) && h.scull == b2n (scullOption c)
    && h.socRev == socRev && h.format == c.upd.running.ckpt && h.digest == currentDigest c
    && h.side != b2n (sideB c)

/-- PAIR_STAT.COMPATIBLE. -/
def compatible (c : Chip) : Bool :=
  paired c && match c.seat.partner with
    | some h => compatibleWith c h
    | none => false

/-! ### Epochs (R384, R385) -/

/-- The highest epoch that a candidate must exceed. -/
def epochFloor (c : Chip) : Nat :=
  max c.backup.epoch.toNat (max c.backup.partnerEpoch.toNat c.seat.beaconEpoch.toNat)

/-- The candidate epoch would exceed 0xFFFF_FFFF. -/
def exhausted (c : Chip) : Bool := 0xFFFFFFFF ≤ epochFloor c

/-- The new epoch is written to the backup domain (R385). -/
def writeEpoch (c : Chip) : Chip :=
  modBackup c fun b => { b with epoch := BitVec.ofNat 32 (epochFloor c + 1) }

/-! ### Health (R419, R423, R430) -/

/-- HEALTH: this module's own report, 0 while it is no half of a pair. -/
def health (c : Chip) : Word :=
  if !paired c then 0
  else
    let fresh := c.mirror.lastComplete.isSome && decide (c.mirror.applyAge ≤ fld (pairCfgW c) 31 24)
    let bits : List Bool := [compatible c, c.mirror.whole, fresh, c.mirror.paddleOk,
      c.mirror.selftestFails == 0, suppliesOk c, !c.coxSafety.faulty, !c.coxProcess.faulty]
    let ready := c.mode.mode == .standby && bits.all (·)
    pack [(b2n ready, 31, 31), (b2n (compatible c), 30, 30), (b2n c.mirror.whole, 29, 29),
      (b2n fresh, 28, 28), (b2n c.mirror.paddleOk, 27, 27), (b2n (c.mirror.selftestFails == 0), 26, 26),
      (b2n (!c.coxSafety.faulty), 25, 25), (b2n (!c.coxProcess.faulty), 24, 24),
      (b2n (c.seat.laneUp == 3), 23, 23), (b2n (suppliesOk c), 22, 22),
      (b2n c.mirror.resyncWaiting, 21, 21), (c.mirror.selftestFails.toNat, 15, 8)]

/-- HEALTH.READY. -/
def ready (c : Chip) : Bool := bitOf (health c) 31

/-- A change of a READY report, with its record (R432). -/
def readyChange (c : Chip) (src : Nat) (old new : Word) : Chip :=
  if bitOf old 31 = bitOf new 31 then c
  else emit c 0x28 0x74 src old new (BitVec.ofNat 32 (min 0xFF c.mirror.age)) c.stroke.count

/-- The conditions of page 0x28 and the own READY report follow the state (R431, R432). -/
def pairConds (c : Chip) : Chip :=
  let on := paired c
  let h := health c
  let old := c.pairCnt.lastHealth
  let c := readyChange (modPairCnt c fun p => { p with lastHealth := h }) 0 old h
  let c := setCond c 0x28 0 (on && c.seat.lost)
  let c := setCond c 0x28 1 (on && c.seat.laneUp != 3)
  let c := setCond c 0x28 2 (on &&
    (if c.seat.holds then partnerSeen c && !bitOf c.seat.partnerHealth 31
     else c.mode.mode == .standby && !bitOf h 31))
  let c := setCond c 0x28 8 (on && c.seat.partner.isSome && !compatible c)
  setCond c 0x28 11 (on && exhausted c)

/-- The partner's report of its HEALTH arrives (R423). -/
def partnerReports (c : Chip) (h : Word) : Chip :=
  let old := c.seat.partnerHealth
  pairConds (readyChange (modSeat c fun s => { s with partnerHealth := h }) 1 old h)

/-! ### Records sent (R394 to R396) -/

/-- One record of the Aderoth link (R394). -/
def aderothRecord (c : Chip) (type : Nat) (stroke : Word) (payload : List Byte) : List Byte :=
  let h := [BitVec.ofNat 8 type, 0] ++ beBytes 2 payload.length ++ beBytes 4 (ownEpoch c).toNat
    ++ beBytes 4 stroke.toNat
  h ++ beBytes 4 (crc32c (h ++ payload)).toNat ++ payload

/-- The lane with less traffic queued (R394): the one that is up; of two, which has less the commands do not tell, so it
is free (log entry 77). -/
def recordLane (c : Chip) : Nat × Chip :=
  if c.seat.laneUp = 1 then (0, c)
  else if c.seat.laneUp = 2 then (1, c)
  else let (n, c) := freshNat c; (n % 2, c)

/-- A record leaves while a lane is up (R394). -/
def sendRecord (c : Chip) (type : Nat) (stroke : Word) (payload : List Byte) : Chip :=
  if pairOn c && c.seat.laneUp != 0 then
    let (n, d) := recordLane c
    send d (.aderoth n) (aderothRecord c type stroke payload)
  else c

/-- The HELLO payload (R396). -/
def helloPayload (c : Chip) : List Byte :=
  beBytes 2 (station c) ++ [BitVec.ofNat 8 (b2n (sideB c)), BitVec.ofNat 8 (b2n (fleet c)),
    BitVec.ofNat 8 (b2n (scullOption c)), BitVec.ofNat 8 socRev] ++ beBytes 2 c.upd.running.ckpt
    ++ beBytes 4 (currentDigest c).toNat ++ beBytes 4 (ownEpoch c).toNat
    ++ [BitVec.ofNat 8 c.mode.mode.code, BitVec.ofNat 8 (beaconRole c)]
    ++ beBytes 2 c.upd.running.build ++ List.replicate 12 0

/-- This stroke in the seat holder's count, as records carry it (R394). -/
def recStroke (c : Chip) : Word := if c.seat.holds then c.stroke.count else c.stroke.count - c.mirror.skew

/-- A standby asks for checkpoints (R424). -/
def sendSyncReq (c : Chip) : Chip :=
  let c := modMirror c fun m => { m with syncSent := true, resyncWaiting := false, anyBase := true }
  sendRecord c 0x22 (recStroke c) (List.replicate 16 0)

/-- A HELLO leaves; a standby whose SYNC_REQ no checkpoint record has answered sends it again (R395,
R424). -/
def sendHello (c : Chip) : Chip :=
  let c := sendRecord c 0x01 (recStroke c) (helloPayload c)
  if c.mode.mode == .standby && c.mirror.syncSent then sendSyncReq c else c

/-- The base of the next checkpoint (R402): the last acknowledged, else the stroke before, or the base that an
incomplete checkpoint leaves (R403). -/
def ckptBase (c : Chip) : Word := c.pairCnt.acked.getD (c.pairCnt.keptBase.getD (c.stroke.count - 1))

/-- The LEASE record of a renewing seat holder (R387, R395). -/
def sendLease (c : Chip) : Chip :=
  if !renewing c then c
  else sendRecord c 0x02 c.stroke.count (beBytes 8 c.stroke.t0
    ++ beBytes 4 (ckptBase c).toNat
    ++ [BitVec.ofNat 8 c.mode.mode.code, 0, 0, 0])

/-- PADDLE_STAT (R429). -/
def paddleStat (c : Chip) : Word :=
  pack [(c.mirror.runs, 31, 16), (c.mirror.fails, 15, 8), (c.mirror.result, 3, 0)]

/-- A standby's ACK (R395). -/
def sendAck (c : Chip) : Chip :=
  if c.mode.mode ≠ .standby then c
  else sendRecord c 0x03 (recStroke c) (beBytes 4 (c.mirror.lastComplete.getD 0).toNat
    ++ beBytes 4 (health c).toNat ++ beBytes 4 (paddleStat c).toNat ++ beBytes 4 0)

/-- The OUTPUT record (R395, R408). -/
def sendOutput (c : Chip) (o : OutStates) : Chip :=
  if !(paired c && c.seat.holds) then c
  else sendRecord c 0x04 c.stroke.count (beBytes 8 o.digital.toNat
    ++ [o.high, o.low] ++ List.replicate 6 0)

/-- The states that this TF commits to paired outputs (R408): what the strobe will switch. -/
def finishStates (c : Chip) : OutStates :=
  { digital := BitVec.ofNat 48 (packBits ((List.range 48).map fun n =>
      digMode c n == 2 && digPaired c n
        && (strobeValue c (gangMaster c n)).getD (digCh c (gangMaster c n)).commit))
    high := BitVec.ofNat 8 (packBits ((List.range 8).map fun o => safetyPaired c o && (safeOut c o).nextHigh))
    low := BitVec.ofNat 8 (packBits ((List.range 8).map fun o => safetyPaired c o && (safeOut c o).nextLow)) }

/-- A loop has changed a paired DIGITAL sink (R408): `before` is the state ahead of the sample. -/
def loopOutput (before c : Chip) : Chip :=
  if outputStates before = outputStates c then c else sendOutput c (outputStates c)

/-- The seat beacon (R388). -/
def beaconBytes (c : Chip) : List Byte :=
  beBytes 2 0x5342 ++ [0x01, BitVec.ofNat 8 (b2n (sideB c))] ++ beBytes 2 (station c)
    ++ [BitVec.ofNat 8 (beaconRole c), 0] ++ beBytes 4 (ownEpoch c).toNat
    ++ beBytes 4 (if c.seat.holds then c.seat.partnerHealth else health c).toNat

/-- Where a beacon goes (R388, R566). -/
def beaconLine (c : Chip) (net : Nat) : Line :=
  .beacon net (multicast (fld (cfg c (netPage net) 0x040) 23 16) (station c)) 54401

/-- Both partners send a beacon on both plant networks at each T0 (R387, R388). -/
def sendBeacons (c : Chip) : Chip :=
  if !pairOn c then c
  else forN 2 (fun net c => if netServes c net then send c (beaconLine c net) (beaconBytes c) else c) c

/-! ### Taking and leaving the seat (R386, R429) -/

/-- The stroke of the old seat holder's last strobe in this module's count, as far as it can tell (DEDUCED, log entry
98): the later of the last checkpoint found complete and the last OUTPUT record of a TF. -/
def lastStrobe (c : Chip) : Option Word :=
  let later := match c.mirror.lastComplete, c.seat.lastStrobe with
    | some a, some b => some (if (b - a).toNat < 2147483648 then b else a)
    | some a, none => some a
    | none, b => b
  later.map (· + c.mirror.skew)

/-- Strokes from the old seat holder's last strobe to this module's first, in this stroke (R429). Of a start, and where
no strobe is known, the spec gives no value: it is free. -/
def takeoverGap (c : Chip) (cause : Nat) : Nat × Chip :=
  match cause, lastStrobe c with
  | 3, _ | _, none => let (n, c) := freshNat c; (n % 256, c)
  | _, some k => (min 255 (c.stroke.count - k).toNat, c)

/-- The module takes the seat: counts, event and record (R429, R431, R432). `ckpt` is the stroke of the
checkpoint used. -/
def takeSeat (c : Chip) (cause : Nat) (ckpt : Word) : Chip :=
  let (gap, c) := takeoverGap c cause
  let c := modSeat c fun s => { s with
    holds := true, handover := false, offers := 0, haltRow := none, takeEpoch := none, takeSent := false
    takeDue := false, lastStrobe := none, outDriven := false, outPending := none }
  let c := modPairCnt c fun p => { p with
    takeCount := satInc 0xFFFF p.takeCount, takeCause := cause, gap := gap }
  emit (raise c 0x28 3) 0x28 0x70 cause c.backup.epoch ckpt (BitVec.ofNat 32 gap) c.stroke.count

/-- The module no longer holds the seat; a handover of it ends. -/
def leaveSeat (c : Chip) : Chip :=
  modSeat c fun s => { s with
    holds := false, handover := false, offers := 0, haltRow := none, takeEpoch := none, takeDue := false }

/-- STANDBY is entered from mode `old` (R391, R392, R407, R424), `handed` by handing the seat over. The
stages keep their last states then, and through an activation (R674). -/
def enterStandby (c : Chip) (handed : Bool) (old : Mode) : Chip :=
  let c := modSeat c fun s => { s with
    leaseHeard := false, leaseSeen := false, leaseMiss := 0, waited := 0, fromConfig := old == .config
    quiet := 0, takeSent := false, byHandover := false, takeDue := false, lastStrobe := none
    outDriven := handed || (old == .activate && s.outDriven)
    outStates := if handed then outputStates c else s.outStates
    outPending := none }
  let c := modMirror c fun m => { m with
    streaming := false, syncSent := false, resyncWaiting := !handed && fleet c
    rx := [], done := [], lastComplete := if handed then some c.stroke.count else none
    anyBase := handed, succession := 0, whole := handed
    age := if handed then 0 else 0xFF, applyAge := if handed then 0 else 256, incompleteRun := 0
    replay := none, loopSnap := if handed then m.loopSnap else [], heatSnap := if handed then m.heatSnap else []
    skew := 0, lineImg := if handed then m.lineImg.filter fun e => 0x4260 ≤ e.1 && e.1 < 0x4360 else [], changedAt := []
    tfLines := [], streamed := [] }
  if handed || fleet c then c else sendSyncReq c

end Sys2Proof.Machine
end

