-- ==== Sys2Proof/Machine/Modes.lean ====
section
/-!
DEFINITION. Entering a mode (R28 to R30): what starts, stops and is released on the way; the halts that
hand the seat over first (R393).
-/
namespace Sys2Proof.Machine

/-! ### RUN from TAKEOVER (R416) -/

/-- A stroke timer's start moves with the count it is measured in: the mirror counts in the old seat
holder's strokes (R394, R416). -/
def shiftTimers (skew : Word) (m : CrewMem) : CrewMem :=
  { m with timers := m.timers.map fun e =>
      if e.1 < 2048 then (e.1, { e.2 with start := e.2.start + skew }) else e }

/-- A crew goes on from the checkpoint's state. -/
def crewTakesOver (c : Chip) (cr : Crew) : Chip :=
  let skew := c.mirror.skew
  let c := modCrew c cr fun k => { k with
    catchCount := k.catchCount + skew
    cores := k.cores.map fun s => { s with mem := shiftTimers skew s.mem } }
  resumeCrew c cr

/-- A loop goes on from its snapshot (R278): the snapshot's state, the module's own REQ and DMAX, and STALE counted on
against the module's own source. -/
def resumeLoop (c : Chip) (b : LoopBlock) (v : LoopSnap) (s : LoopSt) : LoopSt :=
  { s with
    started := true, offDone := v.mode == 0, latch := none, secs := v.secs.take b.law.sections, integ := v.integ
    u := v.u, mode := v.mode, digOn := v.digOn, stale := v.stale, tickStale := v.stale
    count := (pvSource c b.com.pv).2.2, measBad := v.measBad, held := v.held
    wasSafe := v.wasSafe, manBit := none }

/-- A lane goes on from its snapshot: its arrival is as old as it was. -/
def resumeLane (now : Nat) : Option LaneSnap → LaneSt
  | none => LaneSt.reset
  | some n => { LaneSt.reset with
      last := some ⟨n.u, n.c, n.off, n.held, (now : Int) - n.age * 1000⟩, timedOut := n.timedOut }

/-- A heat goes on from its snapshot (R313), with the module's own REQ. -/
def resumeHeat (now : Nat) (v : HeatSnap) (s : HeatSt) : HeatSt :=
  { freshHeat s with
    mode := v.mode, warm := v.warm, arrived := v.arrived, leader := v.leader, out := v.out
    noLeader := v.mode == 1 && v.leader.isNone, lanes := v.lanes.map (resumeLane now) }

/-- Loops and heats resume from their snapshots (R278, R313). -/
def loopsTakeOver (c : Chip) : Chip :=
  let c := startHeats (forN 10 (fun e c => startLoops c e) c)
  let fresh := c.sel.heats
  let c := (allLoops c).foldl (fun c (e, b) => match smFind c.mirror.loopSnap (e * 64 + b.com.no) with
    | some v => modLoop c e b.com.no (resumeLoop c b v)
    | none => c) c
  let c := (allHeats c).foldl (fun c b => match smFind c.mirror.heatSnap b.no with
    | some v => modHeat c b.no (resumeHeat c.stroke.t0 v)
    | none => c) c
  laneTimeoutCond (noLeaderChanges fresh (forN 10 (fun e c => alertCond c e) c))

/-- What a resumed loop had last written to its sink: u, and in OFF its SAFE (R263, R266). -/
def resumeLoopSink (c : Chip) (x : Nat × LoopBlock) : Chip :=
  let s := loopSt c x.1 x.2.com.no
  let o := x.2.com.out
  if o.kind = 6 then sinkDigital c o.index s.digOn
  else resumeSink c o (if s.mode = 0 then x.2.com.safe else s.u)

/-- The commands of the last TF that evaluated are the old seat holder's, as its OUTPUT records gave them (R333, R408).
-/
def switchesTakeOver (c : Chip) : Chip :=
  forN 8 (fun o c => modOut c o fun s =>
    let on := recordDriven c o
    { s with nextHigh := on && c.seat.outStates.high.getLsbD o
             nextLow := on && c.seat.outStates.low.getLsbD o && !s.lowOpen }) c

/-- The sinks of loops and heats stand as the old seat holder's left them (R278, R313, R426). -/
def sinksTakeOver (c : Chip) : Chip :=
  let c := (allLoops c).foldl resumeLoopSink c
  (allHeats c).foldl (fun c b => if b.out.kind = 7 then c else resumeSink c b.out (heat c b.no).out) c

/-- The entry to RUN from TAKEOVER (R416): no START, groups as they stand. Checkpoints stream at once to a
partner that has handed the seat over, to any other after its SYNC_REQ (R424). -/
def runFromTakeover (c : Chip) : Chip :=
  let c := modPairCnt (modMirror c fun m => { m with
      streaming := c.seat.byHandover, streamed := [], rx := [], changedAt := [], tfLines := [] })
    fun p => { p with acked := none, keptBase := none }
  let c := crewTakesOver (crewTakesOver c .safety) .process
  let c := { c with latch := latchOf c .process (latchOf c .safety c.latch)
                    stroke := { c.stroke with
                      safeLatch := !enabled c 9, safeLatchS := !enabled c 8, haltAtStrobe := false } }
  let c := switchesTakeOver (loopsTakeOver (commitView (commitView c .safety) .process))
  sinksTakeOver (canTakeSeat (takeSeat c (if c.seat.byHandover then 2 else 1) (c.mirror.lastComplete.getD 0)))

/-- The entry to RUN from STOP or CONFIG: a module of a pair takes the seat unless it holds it (R386);
crews, loops and heats start afresh (R179, R276, R312, R349). -/
def runFromStop (c : Chip) : Chip :=
  let c := if paired c && !c.seat.holds then canTakeSeat (takeSeat (writeEpoch c) 3 0) else c
  let c := startCrew (startCrew c .safety) .process
  let c := startHeats (forN 10 (fun e c => startLoops c e) c)
  { c with safety := { c.safety with firstTf := true } }

/-! ### Any mode -/

/-- The crews go back to the last checkpoint applied: the pre-images of the replay return (R399). -/
def paddleRestore (c : Chip) : Chip :=
  let back := fun c cr =>
    if (crewSt c cr).caught || (crewSt c cr).run == .running then
      stopCrew (restoreClean c cr) cr
    else c
  back (back c .safety) .process

/-- A standby leaves STANDBY for another mode than TAKEOVER: a replay ends unjudged, and checkpoint reception
ends (R30). -/
def leaveStandby (c : Chip) : Chip :=
  let c := if c.mirror.replay.isSome then paddleRestore c else c
  modMirror c fun m => { m with replay := none, rx := [], done := [] }

/-- Both crews stop. -/
def stopCrews (c : Chip) : Chip := stopCrew (stopCrew c .safety) .process

/-- The module enters mode `m` from `old`. `row` is the row of R30 that takes it there; row 17 hands the seat over. At
RUN from TAKEOVER the receive connections stay as they are, for no safety group trips at a takeover (R426), where R367
taken alone would have them wait (DEDUCED, log entry 99). -/
def modeEntry (c : Chip) (old m : Mode) (row : Nat) : Chip :=
  canSyncAll (match m with
  | .run =>
    match old with
    | .stop | .config => zwWaiting (runFromStop c)
    | .takeover => zwConds (runFromTakeover c)
    | _ => zwWaiting c
  | .hold => c
  | .stop => zwWaiting (inhibitGroups (stopCrews c))
  | .config =>
    let c := zwWaiting (inhibitGroups (stopCrews (openSafety (leaveSeat c))))
    forN 32 (fun l c => stnsAbsent c l) c
  | .safeHalt =>
    let c := inhibitGroups (stopCrews c)
    modSeat c fun s => { s with haltByOverrun := row == 20, handover := false, haltRow := none, takeEpoch := none }
  | .standby => openSafety (applyPaired (enterStandby (stopCrews (leaveSeat c)) (row == 17) old))
  | .takeover => modSeat c fun s => { s with takeDue := false }
  | .activate => closeAll (leaveSeat (resetFlush c)) 3
  | .dormant => outputsOff (leaveSeat (resetFlush c))
  | .reset | .boot | .unaddressed => c)

/-- The module changes to mode `m` on row `row` of R30. -/
def enterMode (c : Chip) (m : Mode) (row : Nat) : Chip :=
  if c.mode.mode = m then c
  else
    let old := c.mode.mode
    let c := if old == .standby && m != .takeover then leaveStandby c else c
    let c := if old.runs && !m.runs then stopSampling c else c
    pairConds (modeEntry (changeMode c m row) old m row)

/-! ### Halts (R393) -/

/-- A handover begins: OFFERs leave from the recovery of the next stroke on (R417); `halt` names the row of
R30 that halts the module once the seat has passed. -/
def beginHandover (c : Chip) (halt : Option Nat) : Chip :=
  modSeat c fun s =>
    if s.handover then { s with haltRow := s.haltRow.orElse fun _ => halt }
    else { s with handover := true, handoverAfter := c.stroke.count, offers := 0, haltRow := halt }

/-- SAFE_HALT for another cause than an overrun or an execution fault: a seat holder whose partner reports READY hands
the seat over first, in whatever mode it holds the seat (R30, R393). -/
def haltOrHandover (c : Chip) (row : Nat) : Chip :=
  if paired c && c.seat.holds && partnerReady c && c.mode.mode != .safeHalt then beginHandover c (some row)
  else enterMode c .safeHalt row

end Sys2Proof.Machine
end

