-- ==== Sys2Proof/Machine/SeqLines.lean ====
section
/-!
DEFINITION. The sequencer region of a checkpoint (R401, R517, R552, R595): the states of stations, CAN FD objects and
serial entries as one run of bytes, and back. Their order is the model's (log entry 10).
-/
namespace Sys2Proof.Machine

/-- Read a field of `n` bytes, and the rest. -/
def rdN (n : Nat) (bs : List Byte) : Nat × List Byte := (leAt bs 0 n, bs.drop n)

/-- Read `k` items. -/
def rdMany {α : Type} (rd : List Byte → α × List Byte) : Nat → List Byte → List α × List Byte
  | 0, bs => ([], bs)
  | k + 1, bs =>
    let (x, bs) := rd bs
    let (xs, bs) := rdMany rd k bs
    (x :: xs, bs)

/-! ### Stations (R517) -/

/-- Channel values: how many, then channel and value of each. -/
def chanBytes (m : SMap Int) : List Byte :=
  leBytes 1 m.length ++ m.flatMap fun (n, v) => packFields [(1, n), asField 2 v]

def rdChans (bs : List Byte) : SMap Int × List Byte :=
  let (k, bs) := rdN 1 bs
  rdMany (fun bs => ((leAt bs 0 1, signedAt bs 1 2), bs.drop 3)) k bs

def stnBytes (s : StnSt) : List Byte :=
  packFields [(1, s.state), (1, packBits [s.typeBad, s.capBad, s.downBad, s.fenced, s.got, s.seq.isSome]),
    (1, s.position), (1, s.misses), (4, s.serial.toNat), (4, (s.seq.getD 0).toNat), (8, s.bits.toNat),
    (8, s.bad.toNat), (8, s.subst.toNat), (4, s.stat.toNat), (2, s.updates)]
  ++ chanBytes s.words ++ chanBytes s.last

/-- A station's state. Nothing is under way on a link that the reader has not served yet. -/
def rdStn (bs : List Byte) : StnSt × List Byte :=
  let f := (leAt bs 1 1).testBit
  let (words, rest) := rdChans (bs.drop 42)
  let (last, rest) := rdChans rest
  ({ state := leAt bs 0 1, typeBad := f 0, capBad := f 1, downBad := f 2, fenced := f 3, got := f 4
     seq := if f 5 then some (BitVec.ofNat 32 (leAt bs 8 4)) else none
     position := leAt bs 2 1, misses := leAt bs 3 1, serial := BitVec.ofNat 32 (leAt bs 4 4)
     awaiting := false, confSent := false, bits := BitVec.ofNat 64 (leAt bs 12 8)
     bad := BitVec.ofNat 64 (leAt bs 20 8), subst := BitVec.ofNat 64 (leAt bs 28 8)
     stat := BitVec.ofNat 32 (leAt bs 36 4), updates := leAt bs 40 2, words := words, last := last }, rest)

/-! ### CAN FD objects (R552) -/

def canFrameBytes : Option CanFrame → List Byte
  | none => [0]
  | some f =>
    packFields [(1, 1 + packBits [false, f.ide, f.fd, f.brs, f.esi]), (4, f.id), (1, f.len), (1, f.data.length)] ++ f.data

def rdCanFrame (bs : List Byte) : Option CanFrame × List Byte :=
  let f := (leAt bs 0 1).testBit
  if !f 0 then (none, bs.drop 1)
  else
    let n := leAt bs 6 1
    (some { id := leAt bs 1 4, ide := f 1, fd := f 2, brs := f 3, esi := f 4, len := leAt bs 5 1
            data := slice bs 7 n }, bs.drop (7 + n))

def askedBytes : Option (Nat × Nat × List Byte) → List Byte
  | none => [0]
  | some (l, i, d) => packFields [(1, 1), (1, l), (4, i), (1, d.length)] ++ d

def rdAsked (bs : List Byte) : Option (Nat × Nat × List Byte) × List Byte :=
  if leAt bs 0 1 = 0 then (none, bs.drop 1)
  else
    let n := leAt bs 6 1
    (some (leAt bs 1 1, leAt bs 2 4, slice bs 7 n), bs.drop (7 + n))

def objBytes (s : ObjSt) : List Byte :=
  packFields [(1, packBits [s.truncated, s.sentSince, s.failed, s.superseded, s.clash, s.lenFault]), (2, s.since),
    (4, s.age), (1, s.clashRun), (4, s.frames)]
  ++ canFrameBytes s.rx ++ askedBytes s.asked ++ askedBytes s.done ++ canFrameBytes s.next
  ++ canFrameBytes s.pending ++ canFrameBytes s.tx

def rdObj (bs : List Byte) : ObjSt × List Byte :=
  let f := (leAt bs 0 1).testBit
  let (rx, r) := rdCanFrame (bs.drop 12)
  let (asked, r) := rdAsked r
  let (done, r) := rdAsked r
  let (next, r) := rdCanFrame r
  let (pending, r) := rdCanFrame r
  let (tx, r) := rdCanFrame r
  ({ rx := rx, since := leAt bs 1 2, age := leAt bs 3 4, truncated := f 0, asked := asked, done := done
     next := next, pending := pending, tx := tx, sentSince := f 1, failed := f 2, superseded := f 3, clash := f 4
     clashRun := leAt bs 7 1, lenFault := f 5, frames := leAt bs 8 4 }, r)

/-! ### Serial entries (R595) -/

def serBytes (s : SerEnt) : List Byte :=
  packFields [(1, packBits [s.due, s.valid, s.new, s.timeout, s.bad, s.exc, s.noChk]), (1, s.code), (2, s.good),
    (4, s.age), (1, s.words.length)] ++ s.words.flatMap fun w => leBytes 4 w.toNat

def rdSer (bs : List Byte) : SerEnt × List Byte :=
  let f := (leAt bs 0 1).testBit
  let (ws, rest) := rdMany (fun bs => (BitVec.ofNat 32 (leAt bs 0 4), bs.drop 4)) (leAt bs 8 1) (bs.drop 9)
  ({ due := f 0, valid := f 1, new := f 2, timeout := f 3, bad := f 4, exc := f 5, noChk := f 6
     code := leAt bs 1 1, good := leAt bs 2 2, age := leAt bs 4 4, words := ws }, rest)

end Sys2Proof.Machine
end

