-- ==== Sys2Proof/Machine/Checkpoint.lean ====
section
/-!
DEFINITION. Checkpoints and paddle strokes (R399 to R407, R415, R419 to R422): lines, what a seat holder
streams, what a standby receives, applies, replays and restarts from.
-/
namespace Sys2Proof.Machine

/-! ### Lines (R401) -/

/-- The used lines of a voted or a scull module, in line-number order. -/
def usedLines (scull : Bool) : List Nat :=
  List.range (if scull then 0x4000 else 0x2000) ++ (List.range 0x370).map (· + 0x4000)

/-- The crew and core that a line of crew data memory belongs to. -/
def lineCore (line : Nat) : Crew × Nat :=
  if line < 0x1000 then (.safety, 0) else (.process, line / 0x1000 - 1)

/-- Data memory of a core in the crew's clean state (R118, R225, R228). -/
def cleanMem (c : Chip) (cr : Crew) (i : Nat) : CrewMem :=
  match (ctlSt c cr).clean with
  | some s => s.mems.getD i CrewMem.reset
  | none => (coreAt (crewSt c cr) i).mem

/-- A crew's clean state; as it stands before any. -/
def cleanState (c : Chip) (cr : Crew) : CleanSt := (ctlSt c cr).clean.getD (cleanOf (crewSt c cr))

/-- Module time in ns of this stroke's TF. -/
def tfTime (c : Chip) : Nat := c.stroke.t0 + 20000 + budgetNs c

/-- Sending connections of page 0x21 continue SEQ (R360). -/
def seqLine (c : Chip) (first : Nat) : List Byte :=
  (List.range 64).flatMap fun i => leBytes 4 (zwConn c (first + i)).seq.toNat

/-- The sequencer region as one run of bytes: each link's SEQ with its expected stations, then the used objects and the
FIFO's SEQ of each controller, then the used serial entries. -/
def sequencerBytes (c : Chip) : List Byte :=
  ((List.range 32).flatMap fun l =>
    leBytes 4 (link c l).seq.toNat ++ (expected c l).flatMap fun a => stnBytes (stn c l a))
  ++ ((List.range 16).flatMap fun n =>
    if canUsed c n then leBytes 4 (can c n).fifoSeq ++ (rxObjects c n ++ txObjects c n).flatMap fun o =>
      objBytes (obj c n o) else [])
  ++ ((List.range 6).flatMap fun p => ((List.range 16).filter (entUsed c p)).flatMap fun e => serBytes (serEnt c p e))

/-- The trims that the checkpoint of this stroke carries for a crew: those applied and not returned (R193). -/
def strokeTrims (c : Chip) (cr : Crew) : List (Bool × Trim) := markTrims (ctlSt c cr).trimApplied

/-- The tunes and points that it carries (R289). -/
def strokeTunes (c : Chip) : List (Nat × Tune) :=
  (List.range 10).flatMap fun e => (eng c e).tuned.map (e, ·)

/-- Line `k` of the control block: drives, forces, trims and tunes (R401). -/
def controlLine (c : Chip) (k : Nat) : List Byte :=
  let drive := fun cr => driveLine (cleanState c cr) ((ctlSt c cr).journal.length + (ctlSt c cr).trimApplied.length)
  let trims := fun cr i => trimLine c.stroke.count (((strokeTrims c cr).drop (31 * i)).take 31)
  if k = 0 then drive .safety else if k = 1 then drive .process
  else if k < 4 then forceLine c.ctlS.forces (32 * (k - 2))
  else if k < 6 then forceLine c.ctlP.forces (32 * (k - 4))
  else if k < 10 then trims .safety (k - 6)
  else if k < 14 then trims .process (k - 10)
  else tuneLine c.stroke.count (((strokeTunes c).drop (15 * (k - 14))).take 15)

/-- A line of the engine and control regions, 0x4000 to 0x436F (R401): one line to a loop and to a heat. -/
def sysLine (c : Chip) (line : Nat) : List Byte :=
  if line < 0x4200 then loopLine (smFind c.mirror.loopSnap (line - 0x4000))
  else if line < 0x4220 then
    loopLine (smFind c.mirror.loopSnap ((8 + (line - 0x4200) / 16) * 64 + (line - 0x4200) % 16))
  else if line < 0x4230 then heatLine (smFind c.mirror.heatSnap (line - 0x4220))
  else if line = 0x4240 ∨ line = 0x4241 then groupLine c.safety.groups (16 * (line - 0x4240)) c.stroke.t0
  else if line = 0x4242 then lockoutLine c.backup.lockout c.backup.lockCause
  else if 0x4243 ≤ line ∧ line < 0x4247 then seqLine c (64 * (line - 0x4243))
  else if 0x4260 ≤ line ∧ line < 0x4360 then fit256 (slice (sequencerBytes c) (256 * (line - 0x4260)) 256)
  else if 0x4360 ≤ line then controlLine c (line - 0x4360)
  else fit256 []

/-- A line whose state goes on changing after TF: groups, lockouts, connections, the sequencer region and forces. -/
def latchedLine (line : Nat) : Bool :=
  (0x4240 ≤ line && line < 0x4360) || (0x4362 ≤ line && line < 0x4366)

/-- At TF a seat holder latches those lines for the capture (R105). -/
def latchLines (c : Chip) : Chip :=
  if !(pairOn c && c.seat.holds) then c
  else
    let bs := sequencerBytes c
    let line := fun l => if 0x4260 ≤ l && l < 0x4360 then fit256 (slice bs (256 * (l - 0x4260)) 256) else sysLine c l
    modMirror c fun m => { m with
      tfLines := (((List.range 0x126).map (· + 0x4240)).filter latchedLine).map fun l => (l, line l) }

/-- The content of a line as this stroke's checkpoint carries it. -/
def lineContent (c : Chip) (line : Nat) : List Byte :=
  if line < 0x4000 then
    let x := lineCore line
    memLine (line % 0x1000) (cleanMem c x.1 x.2)
  else match smFind c.mirror.tfLines line with
    | some bs => bs
    | none => sysLine c line

/-- Every line as it stands becomes what later captures compare with (R402): what the last checkpoint brought a module
that takes the seat over. -/
def baseLines (c : Chip) : Chip :=
  modMirror c fun m => { m with lineImg := (usedLines (scullOption c)).map fun l => (l, lineContent c l) }

/-- Capture begins: its base is fixed, whatever is acknowledged from now on (R402). -/
def captureBegins (c : Chip) : Chip := modPairCnt c fun p => { p with captureBase := ckptBase c }

/-- Capture reads every line and marks those that changed (R400, R402). -/
def captureLines (c : Chip) : Chip :=
  (usedLines (scullOption c)).foldl (fun c l =>
    let bs := lineContent c l
    if smGet [] c.mirror.lineImg l = bs then c
    else modMirror c fun m => { m with
      lineImg := smPut m.lineImg l bs, changedAt := smPut m.changedAt l c.stroke.count }) c

/-- Lines changed since the TF of the base. -/
def changedLines (c : Chip) (base : Word) : List Nat :=
  (c.mirror.changedAt.filter fun e => (c.stroke.count - e.2).toNat < (c.stroke.count - base).toNat).map (·.1)

/-- The slice of this stroke's checkpoint (R402). -/
def sliceLines (c : Chip) : List Nat :=
  let scull := scullOption c
  let n := if scull then 68 else 36
  ((usedLines scull).drop (c.stroke.count.toNat % 256 * n)).take n

def lanesUp (c : Chip) : Nat := b2n (c.seat.laneUp.getLsbD 0) + b2n (c.seat.laneUp.getLsbD 1)

/-- LINE_CAP (R403). -/
def lineCap (c : Chip) : Nat := min 16384 (1024 * lanesUp c * (periodNs c / 250000))

/-! ### Paddle input lines (R401, R420) -/

/-- The first line of image copy `i`: the safety crew's, then one for each core of the process crew. -/
def imgBase (i : Nat) : Nat := 0x4400 + 0x120 * i

/-- The paddle input lines of this stroke, with their content. -/
def paddleLines (c : Chip) : List (Nat × List Byte) :=
  (c.mirror.caughtImgs.zip (List.range c.mirror.caughtImgs.length)).flatMap (fun (m, i) =>
    (List.range 288).map fun j => (imgBase i + j, imgLine m j))
    ++ [(0x4880, fit256 (leBytes 4 c.stroke.count.toNat ++ leBytes 8 c.stroke.t0))]

/-- The image copy that the paddle input lines of a checkpoint carry. -/
def imgOf (ck : Ckpt) (i : Nat) : Img :=
  (List.range 288).foldl (fun m j => takeImgLine m j (smGet [] ck.lines ((imgBase i + j) * 4 + 2))) Img.reset

/-! ### Streaming (R399 to R405) -/

/-- A crew's output latch before forces, from the memories given (R404). -/
def latchRaw (k : CrewSt) (mems : List CrewMem) : Img :=
  (mems.zip (List.range mems.length)).foldl (fun (m : Img) (x, i) =>
    let own := inIo (partAt k i).iomap
    { bits := smOverlay false (own false) m.bits x.img.bits
      words := smOverlay 0 (own true) m.words x.img.words }) Img.reset

def latchCrcOf (k : CrewSt) (mems : List CrewMem) : Word :=
  latchCrc (latchRaw k mems)

/-- The memories of a crew's clean state. -/
def cleanMems (c : Chip) (cr : Crew) : List CrewMem :=
  (List.range (crewSt c cr).cores.length).map (cleanMem c cr)

/-- A checkpoint is incomplete: 0 late, 1 oversize, 2 dropped on the link (R403, R405, R432). The capture after a late
or oversize one keeps its base. -/
def ckptIncomplete (c : Chip) (why lines : Nat) : Chip :=
  let c := modPairCnt c fun p => { p with keptBase := if why = 2 then p.keptBase else some p.captureBase }
  let c := modMirror c fun m => { m with
    incompleteRun := satInc 255 m.incompleteRun, incomplete := satInc 0xFFFF m.incomplete
    oversize := if why = 1 then satInc 0xFFFF m.oversize else m.oversize }
  let c := raise c 0x28 6
  match rateAllow c (rateKey 0x28 0x76 0) 100 with
  | (none, c) => c
  | (some n, c) => emit c 0x28 0x76 why (BitVec.ofNat 32 lines) (BitVec.ofNat 32 (lineCap c))
      (BitVec.ofNat 32 n) c.stroke.count

/-- One CKPT_LINE record. -/
def sendLine (c : Chip) (line kind : Nat) (bs : List Byte) : Chip :=
  sendRecord c 0x11 c.stroke.count (beBytes 2 line ++ [BitVec.ofNat 8 kind] ++ List.replicate 13 0 ++ bs)

/-- The stroke is recorded for replay (R420); `n` line records are taken already. -/
def recordsPaddle (c : Chip) (base : Word) (n : Nat) : Bool :=
  let every := fld (pairCfgW c) 23 16
  every != 0 && c.stroke.count.toNat % every == 0 && base == c.stroke.count - 1
    && decide (n + (if scullOption c then 1153 else 577) ≤ lineCap c)

/-- A seat holder's capture ends: the checkpoint streams (R402 to R405, R424). -/
def streamCheckpoint (c : Chip) : Chip :=
  if !(pairOn c && c.seat.holds) then c
  else
    let c := captureLines c
    if !c.mirror.streaming then c
    else
      let base := c.pairCnt.captureBase
      let change := changedLines c base
      let slice := sliceLines c
      let n := change.length + slice.length
      let paddle := recordsPaddle c base n
      let inputs := if paddle then paddleLines c else []
      let total := n + inputs.length
      if lineCap c < total then ckptIncomplete c 1 total
      else
        let s := c.stroke.count.toNat % 256
        let c := sendRecord c 0x10 c.stroke.count (beBytes 2 total ++ [BitVec.ofNat 8 s,
          BitVec.ofNat 8 (b2n paddle)] ++ beBytes 4 base.toNat ++ List.replicate 24 0)
        let c := change.foldl (fun c l => sendLine c l 0 (smGet [] c.mirror.lineImg l)) c
        let c := slice.foldl (fun c l => sendLine c l 1 (smGet [] c.mirror.lineImg l)) c
        let c := inputs.foldl (fun c x => sendLine c x.1 2 x.2) c
        let c := sendRecord c 0x12 c.stroke.count (beBytes 2 total ++ [0, 0]
          ++ beBytes 4 (latchCrcOf c.crewS (cleanMems c .safety)).toNat
          ++ beBytes 4 (latchCrcOf c.crewP (cleanMems c .process)).toNat ++ List.replicate 20 0)
        modMirror (modPairCnt c fun p => { p with keptBase := none }) fun m => { m with
          lines := total, slice := s, incompleteRun := 0, streamed := (c.stroke.count, total) :: m.streamed.take 1 }

/-- A frame is a record of the checkpoint of stroke `k`. -/
def isCkptFrame (k : Word) (f : Frame) : Bool :=
  match f.line, f.bytes with
  | .aderoth _, t :: _ => (t == 0x10 || t == 0x11 || t == 0x12) && slice f.bytes 8 4 == beBytes 4 k.toNat
  | _, _ => false

/-- The last `n` frames, of those sent, that `p` picks are taken back. -/
def unsent (p : Frame → Bool) : Nat → List Frame → List Frame
  | _, [] => []
  | 0, fs => fs
  | m + 1, f :: fs => if p f then unsent p m fs else f :: unsent p (m + 1) fs

/-- The last `n` records of a checkpoint have not left by the T0 two strokes later and are dropped (R405). -/
def recordsDropped (c : Chip) (n : Nat) : Chip :=
  match c.mirror.streamed.find? fun e => decide (2 ≤ (c.stroke.count - e.1).toNat) with
  | none => c
  | some (k, lines) =>
    if n = 0 then c
    else ckptIncomplete (modMirror { c with sent := unsent (isCkptFrame k) n c.sent } fun m => { m with
      streamed := m.streamed.filter (·.1 != k) }) 2 lines

/-! ### Receiving (R404, R405, R424) -/

/-- A checkpoint record reaches a standby: it has been answered. -/
def gotCkptRecord (c : Chip) : Chip :=
  modMirror c fun m => { m with syncSent := false, resyncWaiting := false }

/-- The standby takes checkpoint records: it stands by for a compatible partner (R397). -/
def takesCkpt (c : Chip) : Bool := c.mode.mode == .standby && compatible c

/-- What has come of the checkpoint of a stroke. -/
def rxOf (c : Chip) (stroke : Word) : Ckpt :=
  (c.mirror.rx.find? (·.stroke == stroke)).getD
    { stroke := stroke, base := 0, count := 0, slice := 0, paddle := false, lines := [], latchS := 0, latchP := 0
      headed := false, ended := none }

/-- CKPT_HEAD, CKPT_END and LINES distinct CKPT_LINE records have come (R405). -/
def Ckpt.arrived (k : Ckpt) : Bool := k.headed && k.ended == some k.count && k.lines.length == k.count

/-- LINES of a checkpoint, as far as its head or its end told it. -/
def Ckpt.total (k : Ckpt) : Nat := if k.headed then k.count else k.ended.getD k.lines.length

/-- A record of stroke `s` leaves the seat holder only after the records of stroke `s` − 2 that had not left were
dropped: a checkpoint of that stroke or an earlier one is incomplete (R405; DEDUCED, log entry 100). -/
def rxDeadline (c : Chip) (s : Word) : Chip :=
  let late := fun (k : Ckpt) => decide (2 ≤ (s - k.stroke).toNat && (s - k.stroke).toNat < 2147483648)
  (c.mirror.rx.filter late).foldl (fun c k => ckptIncomplete c 2 k.total)
    (modMirror c fun m => { m with rx := m.rx.filter (!late ·) })

/-! ### Paddle results (R421, R422) -/

/-- A paddle stroke fails. -/
def paddleFail (c : Chip) (result : Nat) (stroke where_ : Word) : Chip :=
  let c := modMirror c fun m => { m with
    fails := satInc 255 m.fails, result := result, paddleOk := false, whole := false, succession := 0 }
  pairConds (raise (emit c 0x28 0x73 result stroke where_ (paddleStat c) c.stroke.count) 0x28 7)

/-- The replay ends without a comparison, for `result` (R422). -/
def paddleAbandon (c : Chip) (result : Nat) : Chip :=
  match c.mirror.replay with
  | none => c
  | some ck =>
    let c := modMirror (paddleRestore c) fun m => { m with
      replay := none, done := ck :: m.done, runs := satInc 0xFFFF m.runs }
    paddleFail c result ck.stroke 0

/-! ### Applying (R406, R407) -/

/-- A snapshot takes its place, or goes where the line has none. -/
def putSnap {α : Type} (m : SMap α) (i : Nat) : Option α → SMap α
  | some v => smPut m i v
  | none => smDel m i

/-- A crew's DRIVE_NO, CRAB pending and due tasks. -/
def applyDrive (c : Chip) (cr : Crew) (bs : List Byte) : Chip :=
  let d := takeDrive bs []
  modCrew c cr fun k => { k with
    driveNo := d.driveNo, listDrive := d.listDrive, catchCount := d.catchCount, startDue := d.startDue
    crab := d.crab, firstCatchDone := d.caughtOnce }

/-- Force entries (R200). -/
def applyForces (c : Chip) (cr : Crew) (first : Nat) (bs : List Byte) : Chip :=
  forceCond (modCtl c cr fun t => { t with forces := takeForces t.forces first bs }) cr

/-- One line of the engine and control regions goes to its place; lines of the sequencer region wait until all have
come (R401, R406). -/
def applySys (c : Chip) (line : Nat) (bs : List Byte) : Chip :=
  if line < 0x4200 then
    modMirror c fun m => { m with loopSnap := putSnap m.loopSnap (line - 0x4000) (takeLoop bs) }
  else if line < 0x4220 then modMirror c fun m => { m with
    loopSnap := putSnap m.loopSnap ((8 + (line - 0x4200) / 16) * 64 + (line - 0x4200) % 16) (takeLoop bs) }
  else if line < 0x4230 then
    modMirror c fun m => { m with heatSnap := putSnap m.heatSnap (line - 0x4220) (takeHeat bs) }
  else if line = 0x4240 ∨ line = 0x4241 then { c with safety := { c.safety with
    groups := takeGroups c.safety.groups (16 * (line - 0x4240)) c.stroke.t0 bs } }
  else if line = 0x4242 then modBackup c fun b => { b with
    lockout := BitVec.ofNat 32 (leAt bs 0 4), lockCause := takeCauses b.lockCause bs }
  else if 0x4243 ≤ line ∧ line < 0x4247 then
    forN 64 (fun i c =>
      let k := 64 * (line - 0x4243) + i
      if zwUsed c k && zwSends c k then modZw c k fun z => { z with seq := BitVec.ofNat 32 (leAt bs (4 * i) 4) }
      else c) c
  else if 0x4260 ≤ line ∧ line < 0x4360 then modMirror c fun m => { m with lineImg := smPut m.lineImg line bs }
  else if line = 0x4360 then applyDrive c .safety bs
  else if line = 0x4361 then applyDrive c .process bs
  else if line = 0x4362 ∨ line = 0x4363 then applyForces c .safety (32 * (line - 0x4362)) bs
  else if line = 0x4364 ∨ line = 0x4365 then applyForces c .process (32 * (line - 0x4364)) bs
  else c

/-- The states of stations, objects and serial entries from the sequencer region, once the mirror is whole. -/
def applySequencers (c : Chip) : Chip :=
  if !c.mirror.whole then c
  else
    let bs := (List.range 256).flatMap fun i => fit256 (smGet [] c.mirror.lineImg (0x4260 + i))
    let x := (List.range 32).foldl (fun (c, bs) l => (expected c l).foldl (fun (c, bs) a =>
      let (v, bs) := rdStn bs
      (modStn c l a fun _ => v, bs))
      (modLink c l fun k => { k with seq := BitVec.ofNat 32 (leAt bs 0 4) }, bs.drop 4)) (c, bs)
    let x := (List.range 16).foldl (fun (c, bs) n =>
      if !canUsed c n then (c, bs)
      else (rxObjects c n ++ txObjects c n).foldl (fun (c, bs) o =>
        let (v, bs) := rdObj bs
        (modObj c n o fun _ => v, bs))
        (modCan c n fun k => { k with fifoSeq := leAt bs 0 4 }, bs.drop 4)) x
    ((List.range 6).foldl (fun x p => ((List.range 16).filter (entUsed c p)).foldl (fun (c, bs) e =>
      let (v, bs) := rdSer bs
      (modEnt c p e fun _ => v, bs)) x) x).1

/-- One line of a checkpoint, by its number (R401). -/
def applyLine (c : Chip) (line : Nat) (bs : List Byte) : Chip :=
  if line < 0x4000 then
    let x := lineCore line
    modCore c x.1 x.2 fun s => { s with mem := takeMemLine (line % 0x1000) bs s.mem }
  else applySys c line bs

/-- A line's content in a checkpoint, each line once. -/
def lineOnce (ck : Ckpt) (key : Nat) : Bool :=
  key % 4 == 0 || (key % 4 == 1 && (smFind ck.lines (key - 1)).isNone)

/-- The lines `first` to `first + n − 1` that a checkpoint carries, in order. -/
def ckptLines (ck : Ckpt) (first n : Nat) : List (List Byte) :=
  (ck.lines.filter fun e => lineOnce ck e.1 && first ≤ e.1 / 4 && e.1 / 4 < first + n).map (·.2)

/-- The trim batches of a crew in a checkpoint's control block. -/
def ckptTrims (ck : Ckpt) (cr : Crew) : List (List Trim) :=
  unmarkTrims ((ckptLines ck (match cr with | .safety => 0x4366 | .process => 0x436A) 4).flatMap takeTrims)

/-- The trim batches and tunes of the control block go to the standby's own program and sets, and to its stored
settings set (R406). Data memory has the memory trims already. -/
def applyBatches (c : Chip) (ck : Ckpt) : Chip :=
  let trims := fun c cr => (ckptTrims ck cr).foldl (fun c batch =>
    let c := modCrew c cr fun k => batch.foldl trimCode k
    let c := modCtl c cr fun t => { t with journal := t.journal ++ [batch] }
    journalAdd c (trimEntries (crewPage cr) ck.stroke batch)) c
  ((ckptLines ck 0x436E 2).flatMap takeTunes).foldl (fun c (e, v) =>
    let c := modEng c e fun g => { g with
      set := g.set.map fun s => { s with loops := s.loops.map (tuneBlock v) } }
    journalAdd c (tuneEntries e ck.stroke v)) (trims (trims c .safety) .process)

/-- A crew of this module is declared faulty: MIRROR_WHOLE stays 0 meanwhile (R407, R423). -/
def crewFaulty (c : Chip) : Bool := c.coxSafety.faulty || c.coxProcess.faulty

/-- A complete checkpoint goes into the mirror (R406, R407). -/
def applyCkpt (c : Chip) (ck : Ckpt) : Chip :=
  let c := (ck.lines.filter fun e => lineOnce ck e.1).foldl (fun c e => applyLine c (e.1 / 4) e.2) c
  let c := applyBatches c ck
  let keep := fun c cr => modCtl c cr fun t => { t with clean := some (cleanOf (crewSt c cr)) }
  let c := keep (keep c .safety) .process
  let c := modMirror c fun m =>
    let n := if m.succession != 0 && m.lastStroke + 1 == ck.stroke then min 256 (m.succession + 1) else 1
    { m with
      succession := n, whole := m.whole || (n == 256 && !crewFaulty c), age := 0, applyAge := 0, lastStroke := ck.stroke
      lines := ck.count, slice := ck.slice, incompleteRun := 0 }
  pairConds (serConds (lockoutCond (applySequencers c)))

/-- CHECKPOINT_APPLY: the oldest complete checkpoint, unless a replay holds it back (R406, R421). -/
def checkpointApply (c : Chip) : Chip :=
  match c.mirror.done with
  | [] => c
  | ck :: rest =>
    if c.mode.mode ≠ .standby || c.mirror.replay.isSome then c
    else applyCkpt (modMirror c fun m => { m with done := rest }) ck

/-- A replay that a newer checkpoint overtakes is given up, and the checkpoint that it held back is applied (R406,
R422). -/
def replayCut (c : Chip) : Chip :=
  if c.mirror.replay.isSome then checkpointApply (paddleAbandon c 5) else c

/-- What has come of a checkpoint is judged (R405): it is kept while records are wanting, incomplete on a base that it
does not follow, and complete else, with an ACK. -/
def ckptJudge (c : Chip) (k : Ckpt) : Chip :=
  let c := modMirror c fun m => { m with rx := m.rx.filter (·.stroke != k.stroke) }
  if !k.arrived then modMirror c fun m => { m with rx := m.rx ++ [k] }
  else if !(c.mirror.anyBase || c.mirror.lastComplete == some k.base) then ckptIncomplete c 2 k.count
  else sendAck (modMirror (replayCut c) fun m => { m with
    anyBase := false, lastComplete := some k.stroke, done := m.done ++ [k] })

/-- A checkpoint record of stroke `s` reaches a standby. -/
def ckptRecord (c : Chip) (s : Word) (f : Ckpt → Ckpt) : Chip :=
  if !takesCkpt c then c
  else
    let c := rxDeadline (gotCkptRecord c) s
    if c.mirror.lastComplete == some s then c else ckptJudge c (f (rxOf c s))

/-- CKPT_HEAD, CKPT_LINE and CKPT_END payloads (R401). -/
def takeHead (p : List Byte) (k : Ckpt) : Ckpt :=
  { k with
    base := BitVec.ofNat 32 (beAt p 4 4), count := beAt p 0 2, slice := beAt p 2 1, paddle := beAt p 3 1 % 2 == 1
    headed := true }
def takeLine (p : List Byte) (k : Ckpt) : Ckpt :=
  { k with lines := smPut k.lines (beAt p 0 2 * 4 + beAt p 2 1 % 4) (slice p 16 256) }
def takeEnd (p : List Byte) (k : Ckpt) : Ckpt :=
  { k with ended := some (beAt p 0 2), latchS := BitVec.ofNat 32 (beAt p 4 4), latchP := BitVec.ofNat 32 (beAt p 8 4) }

/-- Every complete checkpoint, in order of stroke (R415). -/
def applyAll (c : Chip) : Chip :=
  c.mirror.done.foldl applyCkpt (modMirror c fun m => { m with done := [] })

/-- The standby holds a checkpoint (R397, R403). -/
def holdsCkpt (c : Chip) : Bool :=
  compatible c && c.mirror.whole && c.mirror.lastComplete.isSome && decide (c.mirror.applyAge ≤ fld (pairCfgW c) 31 24)

/-! ### Paddle strokes (R421) -/

/-- STROKE_COUNT and module time as the recorded stroke caught them. -/
def ckptCaught (ck : Ckpt) : Word × Nat :=
  let bs := smGet [] ck.lines (0x4880 * 4 + 2)
  (BitVec.ofNat 32 (leAt bs 0 4), leAt bs 4 8)

/-- A crew takes the recorded catch and begins its drive. -/
def replayCrew (c : Chip) (cr : Crew) (ck : Ckpt) (first : Nat) : Chip :=
  if !crewAble c cr then c
  else
    let x := ckptCaught ck
    let c := modCtl c cr fun t => { t with clean := some (cleanOf (crewSt c cr)) }
    let c := modCrew c cr fun k =>
      let k := { k with
        cores := (k.cores.zip (List.range k.cores.length)).map fun (s, i) =>
          { s with mem := { s.mem with img := imgOf ck (first + i) } } }
      let k := (ckptTrims ck cr).flatten.foldl trimOne k
      let k := { k with
        driveNo := if k.firstCatchDone then k.driveNo + (x.1 - k.catchCount).toNat else 0
        firstCatchDone := true, catchCount := x.1, catchTime := x.2, driveT0 := c.stroke.t0
        run := .running, caught := true, carried := false }
      enterTasks (buildTasks k)
    modCtl c cr fun t => { t with resume := false }

/-- PADDLE_REPLAY: the standby replays the oldest complete checkpoint where it carries a recorded stroke, after the
other work of the recovery (R105). -/
def paddleReplay (c : Chip) : Chip :=
  match c.mirror.done with
  | [] => c
  | ck :: rest =>
    if c.mode.mode ≠ .standby || c.stroke.phase ≠ .recovery || c.stroke.capturing || c.mirror.replay.isSome || !ck.paddle then c
    else
      let c := modMirror c fun m => { m with replay := some ck, done := rest }
      replayCrew (replayCrew c .safety ck 0) .process ck 1

/-- Lines of crew data memory that the replay changed, with their content. -/
def replayLines (c : Chip) : List (Nat × List Byte) :=
  (usedLines (scullOption c)).filterMap fun l =>
    if 0x4000 ≤ l then none
    else
      let x := lineCore l
      let new := memLine (l % 0x1000) (coreAt (crewSt c x.1) x.2).mem
      if memLine (l % 0x1000) (cleanMem c x.1 x.2) = new then none else some (l, new)

/-- The crew lines that the seat holder's checkpoint shows changed. -/
def ckptChanges (ck : Ckpt) : List (Nat × List Byte) :=
  (ck.lines.filter fun e => e.1 % 4 == 0 && e.1 / 4 < 0x4000).map fun e => (e.1 / 4, e.2)

/-- The first difference of a replay, with its result (R421, R429). -/
def paddleDiff (c : Chip) (ck : Ckpt) : Option (Nat × Word) :=
  let s := latchCrcOf c.crewS (c.crewS.cores.map (·.mem))
  let p := latchCrcOf c.crewP (c.crewP.cores.map (·.mem))
  if s ≠ ck.latchS then some (2, s)
  else if p ≠ ck.latchP then some (2, p)
  else
    let mine := replayLines c
    let theirs := ckptChanges ck
    match (mine.map (·.1) ++ theirs.map (·.1)).find? fun l =>
        (smFind mine l).isSome != (smFind theirs l).isSome with
    | some l => some (3, BitVec.ofNat 32 l)
    | none => (mine.find? fun e => smFind theirs e.1 != some e.2).map fun e => (4, BitVec.ofNat 32 e.1)

/-- Both crews have ended the replayed drive. -/
def replayEnded (c : Chip) : Bool :=
  (!c.crewS.caught || driveEnded c.crewS) && (!c.crewP.caught || driveEnded c.crewP)

/-- PADDLE_REPLAY_END: comparison, restore, and the checkpoint held back is applied (R421, R422). -/
def paddleReplayEnd (c : Chip) : Chip :=
  match c.mirror.replay with
  | none => c
  | some ck =>
    if c.crewS.cores.any (·.faulted) || c.crewP.cores.any (·.faulted) then
      checkpointApply (paddleAbandon c 6)
    else if !replayEnded c then c
    else
      let diff := paddleDiff c ck
      let c := modMirror (paddleRestore c) fun m => { m with
        replay := none, done := ck :: m.done, runs := satInc 0xFFFF m.runs }
      let c := match diff with
        | some (r, w) => paddleFail c r ck.stroke w
        | none => pairConds (modMirror c fun m => { m with result := 1, paddleOk := true })
      checkpointApply c

/-! ### Taking over (R415) -/

/-- A module in TAKEOVER that holds no checkpoint, or whose epochs are used up (R385, R415). -/
def takeoverFails (c : Chip) (noCkpt : Bool) : Chip :=
  enterMode (if noCkpt then raise c 0x28 10 else c) .safeHalt 29

/-- TAKEOVER is entered (R30): without a checkpoint it leads to SAFE_HALT. -/
def enterTakeover (c : Chip) (row : Nat) : Chip :=
  let c := enterMode c .takeover row
  if holdsCkpt c then c else takeoverFails c true

/-- TAKEOVER: its steps end (R415); RUN follows at the next T0. -/
def takeover (c : Chip) : Chip :=
  if c.mode.mode ≠ .takeover || c.seat.takeDue then c
  else
    let c := match c.mirror.replay with
      | some ck => modMirror (paddleRestore c) fun m => { m with replay := none, done := ck :: m.done }
      | none => c
    let c := applyAll c
    if !holdsCkpt c then takeoverFails c true
    else if !c.seat.byHandover && exhausted c then takeoverFails c false
    else modSeat (if c.seat.byHandover then c else writeEpoch c) fun s => { s with takeDue := true }

/-- At the first T0 after the steps of TAKEOVER the module enters RUN and takes the seat (R415, R416). A crew declared
faulty meanwhile counts as declared now (R236). -/
def seatEntered (c : Chip) : Chip :=
  if !(c.mode.mode == .takeover && c.seat.takeDue) then c
  else
    let c := baseLines (enterMode c .run 28)
    if crewFaulty c then haltOrHandover c 21 else c

end Sys2Proof.Machine
end

