-- ==== Sys2Proof/Machine/Cox.lean ====
section
/-!
DEFINITION. The cox of each crew (R217 to R251): mismatches, restores, faulty crews, ECC and its repairs, the
write disturbance of COX_TEST, and commanded CREW resets (R612).
-/
namespace Sys2Proof.Machine

/-! ### Registers -/

/-- Three mismatches stand in fewer than 1,000 strokes (R234). -/
def thirdMismatch (h : List Word) : Bool :=
  match h with
  | [a, _, b] => decide ((a - b).toNat < 1000)
  | _ => false

/-- CREW_STAT.WINDOW: of the last three mismatches, those that lie fewer than 1,000 strokes back (R245). -/
def coxWindow (c : Chip) (k : CoxSt) : Nat :=
  (k.history.filter fun h => decide ((c.stroke.count - h).toNat < 1000)).length

/-- CREW_STAT (R245). -/
def crewStat (c : Chip) (cr : Crew) : Word :=
  let k := coxSt c cr
  pack [(b2n k.faulty, 31, 31), (b2n k.restoring, 30, 30),
    (b2n (cr == .process && scullOption c), 29, 29), (coxWindow c k, 25, 24), (k.mismatches, 15, 0)]

/-- KIND (R246). -/
def kindCode : MismatchKind → Nat
  | .write => 1 | .commit => 2 | .fetch => 3 | .capture => 4 | .ecc => 5 | .injected => 6

/-- ECC_LAST (R247). -/
def eccWord (e : EccHit) (uncorr : Bool) : Word :=
  pack [(b2n e.dataMem, 31, 30), (e.core, 29, 28), (b2n uncorr, 27, 27), (e.offset, 20, 0)]

/-- ECC_STAT. -/
def eccStat (k : CoxSt) : Word := pack [(k.corrected, 31, 16), (k.uncorrectable, 15, 0)]

/-- A single-bit error is corrected on a read or by the scrub (R237, R239). -/
def eccCorrected (c : Chip) (cr : Crew) (e : EccHit) : Chip :=
  raise (modCox c cr fun k => { k with
    corrected := satInc 0xFFFF k.corrected, eccLast := eccWord e false }) (crewPage cr) 29

/-! ### Faulty crews (R234, R235) -/

/-- The crew stops where it stands, and its stroke does not become clean (R225, R230). -/
def breakStroke (c : Chip) (cr : Crew) : Chip :=
  stopCrew (modCtl (if (ctlSt c cr).committed then returnTrims c cr else c) cr fun t =>
    { t with committed := false }) cr

/-- A crew is declared faulty: 0 count, 1 comparators, 2 double uncorrectable (R235, R251). -/
def declareFaulty (c : Chip) (cr : Crew) (reason : Nat) : Chip :=
  let c := modCox c cr fun k => { k with faulty := true, restoring := false, awaiting := false }
  let c := breakStroke c cr
  let k := coxSt c cr
  let c := emit (setCond c (crewPage cr) 2 true) (crewPage cr) 0x12 0xFFFF k.last k.prevStroke k.lastStroke
    (BitVec.ofNat 32 reason)
  let c := if c.mode.mode = .standby then
      modMirror c fun m => { m with whole := false, succession := 0 }
    else c
  let c := pairConds c
  if c.mode.mode.runs then haltOrHandover c 21 else c

/-! ### Mismatches (R218, R226, R246) -/

/-- A reset source asserts: its counter and the total; one that is asserted already is not counted again
(R610). -/
def countSource (c : Chip) (n : Nat) : Chip :=
  if c.rst.asserted.getLsbD n then c
  else
    modBackup { c with rst := { c.rst with asserted := c.rst.asserted ||| (1#12 <<< n) } } fun b => { b with
      counts := smMod 0 b.counts n (satInc 0xFFFF)
      total := satInc 0xFFFFFFFF b.total }

/-- The reset source of a crew's cox (R604). -/
def coxSource : Crew → Nat
  | .safety => 7
  | .process => 8

/-- The core whose program counter core `core` follows: in a voted crew one sequence serves all three (R217). -/
def sequenceOf (k : CrewSt) (core : Nat) : Nat := if sculls k then core else 0

/-- A core of the crew is executing a task, in the drive phase or past it (R115, R421). -/
def inTask (c : Chip) (cr : Crew) : Bool :=
  executing c cr && !(ctlSt c cr).midDrive && (crewSt c cr).cores.any (·.task.isSome)

/-- Task and PC at detection: of the named core, 0xF and 0 where the crew executes no task, and so where it stands
halted (R246). -/
def coxPlace (c : Chip) (cr : Crew) (core : Nat) : Nat × Nat :=
  let s := coreAt (crewSt c cr) (sequenceOf (crewSt c cr) core)
  match inTask c cr, s.task with
  | true, some t => (t, s.pc)
  | _, _ => (0xF, 0)

/-- The lowest core that CORES names. -/
def lowCore (cores : BitVec 3) : Nat :=
  if cores.getLsbD 0 then 0 else if cores.getLsbD 1 then 1 else if cores.getLsbD 2 then 2 else 0

/-- The crew enters a CREW reset (R226, step 1; R612): its cores stop with their registers cleared (R603), and its
batch stands pending again (R230). In a drive that RESUME or STEP began in HOLD the module stays in HOLD, or returns to
it, and the crew is to halt after its restart catch (R232, log entry 61). -/
def crewStops (c : Chip) (cr : Crew) : Chip :=
  let hold := cr == .process && (c.mode.mode == .hold || (ctlSt c cr).resumed)
  let again := fun (k : CoxSt) => k.inHold && (k.awaiting || inCrewReset c cr)
  let c := modCores (breakStroke c cr) cr resetCore
  let c := modCox c cr fun k => { k with awaiting := false, inHold := hold || again k }
  if hold && c.mode.mode == .run then enterMode c .hold 15 else c

/-- The cox's own CREW reset (R226, steps 1 and 2). -/
def coxReset (c : Chip) (cr : Crew) : Chip := modCox (crewStops c cr) cr fun k => { k with restoring := true }

/-- A mismatch at task `task` and PC `pc`: registers, cause, record, and the reset or the declaration. Where it is the
third and has two uncorrectable words too, the reason declared is 0 (DESIGN CHOICE, log entry 91). -/
def mismatchAt (c : Chip) (cr : Crew) (kind : Nat) (cores : BitVec 3) (addr : Word) (task pc : Nat)
    (double : Bool) : Chip :=
  let c := countSource c (coxSource cr)
  let c := modCox c cr fun k => { k with
    mismatches := satInc 0xFFFF k.mismatches
    history := (c.stroke.count :: k.history).take 3
    last := pack [(kind, 31, 28), (cores.toNat, 26, 24), (task, 23, 20), (pc, 19, 0)]
    lastAddr := addr, prevStroke := k.lastStroke, lastStroke := c.stroke.count }
  let held := (coxSt c cr).faulty
  let third := thirdMismatch (coxSt c cr).history
  let c := if held then c else if third || double then modCox c cr fun k => { k with restoring := true } else coxReset c cr
  let c := raise c (crewPage cr) 0
  let c := emit c (crewPage cr) 0x10 task (coxSt c cr).last addr (crewStat c cr) c.stroke.count
  let c := if c.mirror.replay.isSome && c.mode.mode == .standby then
      let busy := (coxSt c cr).restoring
      let c := checkpointApply (paddleAbandon c 6)
      if busy then modCox c cr fun k => { k with restoring := true } else c
    else c
  if !held && (third || double) then declareFaulty c cr (if third then 0 else 2) else c

/-- A mismatch of the given kind can arise now (R218, R238, R241). A crew in CREW reset makes no comparison; its
memories are read all the same. -/
def canMismatch (c : Chip) (cr : Crew) (kind : MismatchKind) : Bool :=
  let k := coxSt c cr
  let votes := !k.faulty && !inCrewReset c cr && !(cr == .process && scullOption c)
  c.mode.mode.strokes
    && match kind with
      | .write | .fetch => votes && inTask c cr
      | .commit => votes && executing c cr && c.stroke.phase == .drive && driveEnded (crewSt c cr)
      | .capture => votes && c.stroke.capturing
      | .ecc => true
      | .injected => false

/-- The instruction address of a program word at a byte offset of core `core`'s program SRAM, and whether
it is the stripe's parity word (R222, R224); for that the first instruction address of its stripe (DESIGN CHOICE, log
entry 92). `scull` tells scull mode, whose program SRAMs are not striped (R242). -/
def programWord (scull : Bool) (core offset : Nat) : Nat × Bool :=
  let i := offset / 4
  if scull then (i, false)
  else
    let p := i % 3
    if core = p then (2 * i, true)
    else
      let lower := if p = 0 then 1 else 0
      (2 * i + (if core = lower then 0 else 1), false)

/-- A voted program's words in its stripes: an instruction word, or the exclusive-or of the two. The half that a
program with an odd number of instructions leaves unused is taken as 0 (DESIGN CHOICE, log entry 66). -/
def stripeWord (k : CrewSt) (i : Nat) (parity : Bool) : Word :=
  let code := (partAt k 0).code
  if parity then code.getD i 0 ^^^ code.getD (i + 1) 0 else code.getD i 0

/-- A scull partition's word as the object store's PROGRAM object has it; none where it cannot supply it (R242). -/
def storedWord (c : Chip) (core i : Nat) : Option Word :=
  match smFind c.upd.objects (1 * 128 + 9) with
  | some bs => (codeOf bs core)[i]?
  | none => none

/-- The constant trims that the journal holds for one instruction, in its order (R242). -/
def retrim (c : Chip) (core i : Nat) (w : Word) : Word :=
  (ctlSt c .process).journal.flatten.foldl (fun w t =>
    match (partAt c.crewP core).trims[t.index]? with
    | some e => if t.part = core && e.kind = 4 && e.addr = i then trimWord w t.value else w
    | none => w) w

/-- The crew runs in scull mode, with or without a program: the process crew of a module with the option (R203). -/
def scullCrew (c : Chip) (cr : Crew) : Bool := cr == .process && scullOption c

/-- Step 4 of R226: a program word is rebuilt, from its stripe or from the object store with its trims, and
written back (R242, R250, R251). -/
def repairWord (c : Chip) (cr : Crew) (e : EccHit) : Chip :=
  let k := crewSt c cr
  let x := programWord (scullCrew c cr) e.core e.offset
  let w := if scullCrew c cr then retrim c e.core x.1 ((storedWord c e.core x.1).getD 0) else stripeWord k x.1 x.2
  let c := if scullCrew c cr then modCrew c cr fun k => { k with prog := k.prog.map fun p => { p with
        parts := listMod p.parts e.core fun q => { q with code := listMod q.code x.1 fun _ => w } } }
    else c
  emit (raise c (crewPage cr) 4) (crewPage cr) 0x13 e.core (BitVec.ofNat 32 x.1) w
    (eccStat (coxSt c cr)) c.stroke.count

/-- An uncorrectable error (R238, R242, R247): its counts, two where `double` tells of two words, the mismatch, and
the repair of a program word. A crew whose word the object store cannot supply is declared faulty for reason 2 (R242;
DESIGN CHOICE, log entry 93). -/
def eccMismatch (c : Chip) (cr : Crew) (cores : BitVec 3) (e : EccHit) (double : Bool) : Chip :=
  let c := raise (modCox c cr fun k => { k with
    uncorrectable := (if double then satInc 0xFFFF else id) (satInc 0xFFFF k.uncorrectable)
    eccLast := eccWord e true }) (crewPage cr) 28
  let x := coxPlace c cr e.core
  let lost := !e.dataMem && scullCrew c cr && (storedWord c e.core (programWord true e.core e.offset).1).isNone
  let c := mismatchAt c cr 5 cores (BitVec.ofNat 32 e.offset) x.1 x.2 (double || lost)
  if e.dataMem || !(coxSt c cr).restoring then c else repairWord c cr e

/-- COX_MISMATCH (R226, R234, R238). `ecc` is the error of a mismatch of kind ECC; `double` tells that two
words of one stripe, or the same line in two memories, are uncorrectable. -/
def coxMismatch (c : Chip) (cr : Crew) (kind : MismatchKind) (cores : BitVec 3) (addr : Word)
    (ecc : Option EccHit) (double : Bool) : Chip :=
  if !canMismatch c cr kind then c
  else match kind, ecc with
    | .ecc, some e => eccMismatch c cr cores e double
    | .ecc, none => c
    | _, _ =>
      let x := coxPlace c cr (lowCore cores)
      mismatchAt c cr (kindCode kind) cores addr x.1 x.2 false

/-- COMPARATOR_DISAGREE (R221): the crew is declared faulty at once. -/
def comparatorDisagree (c : Chip) (cr : Crew) : Chip :=
  if (coxSt c cr).faulty || !c.mode.mode.strokes || (cr == .process && scullOption c) then c
  else declareFaulty c cr 1

/-! ### Restores (R226, R227, R612) -/

/-- A CREW reset source releases. -/
def releaseSource (c : Chip) (n : Nat) : Chip :=
  { c with rst := { c.rst with asserted := c.rst.asserted &&& ~~~(1#12 <<< n) } }

/-- A BLOCK reset's source: SOFT_RESET or CMD_SERVICE (R604). -/
def blkSource (origin : Nat) : Nat := if origin = 0 then 11 else 9

/-- A commanded CREW or BLOCK reset has ended: its source releases with the last of them (R605, R611). -/
def releaseCommanded (c : Chip) (n : Nat) : Chip :=
  if c.rst.crewResets.any (fun e => e.2 / 4 == n)
      || c.rst.blockResets.any (fun e => blkSource e.2.origin == n) then c
  else releaseSource c n

/-- RESTART_DONE: the restore ends (R226), of `lines` lines in `ns` nanoseconds; the crew waits for its
restart catch (R227). The end of a commanded reset is reported on page 0x01 too (R624, R625). -/
def restartDone (c : Chip) (cr : Crew) (lines ns : Nat) : Chip :=
  if !inCrewReset c cr || (coxSt c cr).faulty then c
  else
    let c := restoreMem c cr
    let c := modCox c cr fun k => { k with
      restoring := false, awaiting := true, lines := lines, restoreNs := ns }
    let runs := c.mode.mode.runs && (crewSt c cr).prog.isSome
    let c := modCrew c cr fun k => { k with run := if runs then .running else .idle }
    let c := releaseSource c (coxSource cr)
    let c := raise c (crewPage cr) 1
    let i := crewNo cr
    match smFind c.rst.crewResets i with
    | none => c
    | some v =>
      let c := { c with rst := { c.rst with crewResets := smDel c.rst.crewResets i } }
      let c := releaseCommanded c (v / 4)
      emit (raise c 1 4) 1 0x02 i (BitVec.ofNat 32 (v % 4)) (BitVec.ofNat 32 lines) 0 c.stroke.count

/-- A commanded CREW reset (R612): `cls` is its writer's class, `source` its number in R604. It sets no RESTORING, which
tells of a mismatch (R245). -/
def crewReset (c : Chip) (cr : Crew) (cls source : Nat) : Chip :=
  let old := smFind c.rst.crewResets (crewNo cr)
  let c := crewStops (countSource c source) cr
  let c := { c with rst := { c.rst with crewResets := smPut c.rst.crewResets (crewNo cr) (cls + 4 * source) } }
  match old with
  | some v => releaseCommanded c (v / 4)
  | none => c

/-- The restart catch has been taken: its record (R251). Of a crew restored in a mode in which it does not run, the
record is written at the next T0 all the same, with DRIVE_NO as it stands (DESIGN CHOICE, log entry 94). -/
def restartCaught (c : Chip) (cr : Crew) : Chip :=
  if !(coxSt c cr).awaiting then c
  else
    let k := coxSt c cr
    let c := modCox c cr fun k => { k with awaiting := false, inHold := false }
    emit c (crewPage cr) 0x11 0xFFFF (BitVec.ofNat 32 k.lines) (BitVec.ofNat 32 k.restoreNs)
      (BitVec.ofNat 32 (crewSt c cr).driveNo) c.stroke.count

/-! ### COX_TEST (R249) -/

/-- COX_TEST as it reads. -/
def coxTestWord (k : CoxSt) : Word :=
  pack [(k.testCore, 2, 1), (b2n k.testArm, 0, 0)]

/-- A core of the crew has made a data-memory write in a drive, to cell `cell`, by the instruction at `pc` of task
`task`: an armed test fires (R249). The write has landed with bit 0 of its data inverted in the data SRAM of core
CORE, and the cox detects it. COX_LAST_ADDR is the byte offset of that write (DESIGN CHOICE, log entry 95). -/
def coxTestFires (c : Chip) (cr : Crew) (cell : Nat × Nat) (task pc : Nat) : Chip :=
  let k := coxSt c cr
  if !k.testArm then c
  else
    let c := modCox c cr fun k => { k with testArm := false }
    let c := modCrew c cr fun x => { x with apart := some (k.testCore, flipCell (coreAt x 0).mem cell) }
    mismatchAt c cr 6 (1#3 <<< k.testCore) (BitVec.ofNat 32 (cellOffset cell)) task pc false

/-! ### The scrub (R239) -/

/-- A word lies in the 16 KiB that this recovery's scrub covers. -/
def scrubCovers (k : CoxSt) (e : EccHit) : Bool :=
  e.offset / 16384 == if e.dataMem then k.scrubData else k.scrubProg

/-- The scrub of this recovery (R239): the words among `hits` that lie in its 16 KiB of a crew's memories are
corrected, and it moves on: 128 strokes for a program SRAM, 64 for a data SRAM. -/
def scrub (c : Chip) (hits : List (Crew × EccHit)) : Chip :=
  let c := hits.foldl (fun c h =>
    if scrubCovers (coxSt c h.1) h.2 then eccCorrected c h.1 h.2 else c) c
  let on := fun (k : CoxSt) => { k with
    scrubProg := (k.scrubProg + 1) % 128, scrubData := (k.scrubData + 1) % 64 }
  modCox (modCox c .safety on) .process on

end Sys2Proof.Machine
end

