-- ==== Sys2Proof/Machine/Flags.lean ====
section
/-!
DEFINITION. The overflow flag and the saturating corners of the arithmetic (R149 to R151), and the
comparisons that load BA (R152).
-/
namespace Sys2Proof.Machine

/-- The largest and the smallest signed word. -/
def wMax : Word := 0x7FFFFFFF#32
def wMin : Word := 0x80000000#32

/-- A result does not fit the signed 32-bit range. -/
def overflows (x : Int) : Bool := decide (x < -2147483648) || decide (2147483647 < x)

/-- Keep the low 32 bits of the true result; say whether it overflowed (R149). -/
def narrow (x : Int) : Word × Bool := (wOfInt x, overflows x)

/-- ABS: 0x8000_0000 gives 0x7FFF_FFFF with overflow (R149). -/
def absWord (a : Word) : Word × Bool :=
  if a = wMin then (wMax, true) else (if a.toInt < 0 then -a else a, false)

/-- DIV, truncated toward zero; saturating on overflow and on division by zero (R149, R150). -/
def divWord (b a : Word) : Word × Bool :=
  if a = 0 then (if 0 ≤ b.toInt then wMax else wMin, true)
  else if b = wMin ∧ a = -1 then (wMax, true)
  else (wOfInt (b.toInt.tdiv a.toInt), false)

/-- MOD, with the sign of the dividend; by zero 0 with overflow (R148 to R150). -/
def modWord (b a : Word) : Word × Bool :=
  if a = 0 then (0, true) else (wOfInt (b.toInt.tmod a.toInt), false)

/-- OV is sticky: only LDOV or the end of the task clears it (R151). -/
def stickyOv (s : CoreSt) (ov : Bool) : Bool := s.ov || ov

/-- WA takes a result, OV its overflow. -/
def setResult (s : CoreSt) (r : Word × Bool) : CoreSt :=
  { s with wa := r.1, ov := stickyOv s r.2 }

end Sys2Proof.Machine
end

