-- ==== Sys2Proof/Machine/CrewCore.lean ====
section
/-!
DEFINITION. How a core executes one instruction: when it does, breakpoints (R183), corrected ECC errors
(R237), the clock count (R157), retirement, and execution faults (R161 to R163).
-/
namespace Sys2Proof.Machine

/-- What a retiring instruction leaves: registers and memory, a jump's target, the data-memory cell it wrote
(as Config.cellOffset numbers it), and its clocks. -/
structure Retire where
  core : CoreSt
  jump : Option Nat
  write : Option (Nat × Nat)
  clocks : Nat

/-- An instruction that jumps nowhere and writes no memory. -/
def plain (s : CoreSt) (clocks : Nat) : Except Nat Retire := .ok ⟨s, none, none, clocks⟩

/-- A standby replays a paddle stroke. -/
def replaying (c : Chip) : Bool := c.mode.mode == .standby && c.mirror.replay.isSome

/-- The core is at an instruction with this word, in a drive of its crew (R95). -/
def instrDue (c : Chip) (i : Issue) (w : Word) : Bool :=
  let k := crewSt c i.crew
  let s := coreAt k i.core
  executing c i.crew && !(ctlSt c i.crew).midDrive && decide (i.core < k.cores.length) && s.task.isSome
    && !s.ended
    && (partAt k i.core).code[s.pc]? == some w

/-- With `clocks` used the instruction retires by the REF clock that holds TF (R112); after a skip the process
crew goes on outside the drive phase (R115), and a replay has budget B (R421). -/
def inTime (c : Chip) (k : CrewSt) (clocks : Nat) : Bool :=
  if replaying c then decide (clocks * 5 ≤ 2 * budgetNs c)
  else c.stroke.phase != .drive
    || decide (clocks * 5 < 2 * (c.stroke.t0 - k.driveT0 + budgetNs c + 40))

/-- The lowest enabled breakpoint at the core's PC (R183, R214). -/
def breakpointAt (c : Chip) (i : Issue) : Option Nat :=
  let s := coreAt (crewSt c i.crew) i.core
  if i.crew ≠ .process || replaying c || s.passBp then none
  else (List.range 8).find? fun n =>
    let w := smGet 0 (ctlSt c .process).bps n
    bitOf w 31 && fld w 21 20 == i.core && fld w 19 0 == s.pc

/-- The process crew halts at breakpoint `n` (R183, R184, R214, R216). Of a scull core that has ended its drive HALT_PCc
shows the PC that it stands at (DESIGN CHOICE, log entry 69). -/
def haltAt (c : Chip) (i : Issue) (n : Nat) : Chip :=
  let k := crewSt c .process
  let s := coreAt k i.core
  let pcOf := fun j => BitVec.ofNat 32 (if sculls k then (coreAt k j).pc else s.pc)
  let stat := pack [(1, 31, 30), (i.core, 29, 28), (n, 26, 24), (s.task.getD 0xF, 23, 20), (s.pc, 19, 0)]
  let c := modCrew c .process fun k => { k with run := .halted }
  let c := modCtl c .process fun t => { t with
    haltStat := stat, haltPc := (List.range 3).map pcOf, midDrive := true, step := false, haltNext := false }
  let c := haltCond c .process
  let c := emit c 9 0x33 (s.task.getD 0xF) stat (pcOf 0) (pcOf 1) c.stroke.count
  if c.mode.mode = .run then enterMode c .hold 15 else c

/-- An execution fault (R161 to R163, R248, R250). In a paddle stroke it reaches no queue, so it writes no record
(R421). -/
def faultAt (c : Chip) (i : Issue) (code : Nat) (w : Word) : Chip :=
  let s := coreAt (crewSt c i.crew) i.core
  let task := s.task.getD 0xF
  let c := modCore c i.crew i.core fun s => { s with faulted := true }
  let stat := pack [(code, 31, 28), (i.core, 27, 26), (task, 23, 20), (s.pc, 19, 0)]
  let c := modCox c i.crew fun k => { k with
    faultStat := stat, faultWord := w, faultStroke := c.stroke.count }
  let c := raise c (crewPage i.crew) 3
  if replaying c then c
  else emit c (crewPage i.crew) 0x21 task (BitVec.ofNat 32 code) (BitVec.ofNat 32 s.pc) w c.stroke.count

/-- A corrected ECC error stalls every core of the crew for 1 clock (R237). -/
def eccStall (c : Chip) (i : Issue) : Chip :=
  match i.ecc with
  | none => c
  | some e => eccCorrected (modCores c i.crew fun s =>
      if s.ended then s else { s with clocks := s.clocks + 1 }) i.crew e

/-- What faults at the fetch of the instruction at a core's PC (R161): a word whose opcode no table lists, or a PC
past the last instruction, whose word lies beyond the program and is free. -/
def fetchFault (c : Chip) (i : Issue) : Chip :=
  let k := crewSt c i.crew
  match (partAt k i.core).code[(coreAt k i.core).pc]? with
  | some w => if (opForm (opcodeOf w)).isSome then c else faultAt c i faultOpcode w
  | none =>
    let (n, c) := freshNat c
    faultAt c i faultTarget (BitVec.ofNat 32 n)

/-- A core that has just entered a task fetches its first instruction. -/
def fetchFirst (cr : Crew) (n : Nat) (c : Chip) : Chip :=
  let s := coreAt (crewSt c cr) n
  if s.task.isSome && !s.faulted && executing c cr then fetchFault c ⟨cr, n, none⟩ else c

/-- The instruction retires, and the core fetches the next. PC is kept as a number: after the last address of a full
program it is 0x10_0000, which faults (DESIGN CHOICE, log entry 27). -/
def retire (c : Chip) (i : Issue) (r : Retire) : Chip :=
  let k := crewSt c i.crew
  let s := coreAt k i.core
  let next := r.jump.getD (s.pc + 1)
  let c := modCore c i.crew i.core fun old => { r.core with
    pc := next, clocks := old.clocks + r.clocks, passBp := false }
  let fires := match r.write with
    | some a => if (coxSt c i.crew).testArm then some a else none
    | none => none
  match fires with
  | some a => coxTestFires c i.crew a (s.task.getD 0xF) s.pc
  | none => fetchFault c i

/-- One instruction: opcode, operand and what it does. Unless the core is at this very instruction, and it
retires in time, nothing happens. How many clocks a faulting instruction takes the spec does not say: it is not held
to TF (DESIGN CHOICE, log entry 67). -/
def runInstr (c : Chip) (i : Issue) (op : Nat) (o : Opnd) (body : CrewSt → CoreSt → Except Nat Retire) :
    Chip :=
  if !instrDue c i (instrWord op o) then c
  else match breakpointAt c i with
    | some n => haltAt c i n
    | none =>
      let k := crewSt c i.crew
      let s := coreAt k i.core
      match body k s with
      | .error f => faultAt (eccStall c i) i f (instrWord op o)
      | .ok r =>
        if inTime c k (s.clocks + r.clocks + b2n i.ecc.isSome) then retire (eccStall c i) i r else c

/-- The classes, fields and reserved bits of the opcode are checked first (R160, R161). -/
def checked (classes : List Nat) (immBits : Nat) (o : Opnd) (f : Except Nat Retire) : Except Nat Retire :=
  match checkForm classes immBits o with
  | .error e => .error e
  | .ok _ => f

end Sys2Proof.Machine
end

