-- ==== Sys2Proof/Machine/Arith.lean ====
section
/-!
DEFINITION. The word instructions (R148 to R152).
-/
namespace Sys2Proof.Machine

/-- A load of a word operand or constant by `f` (R148). -/
def wordLoad (o : Opnd) (f : CoreSt → Word → CoreSt) (_k : CrewSt) (s : CoreSt) : Except Nat Retire :=
  checked [1, 2, 3] 22 o <| match loadOperand s o with
    | .error e => .error e
    | .ok w => plain (f s w) (1 + indexClock o)

/-- LDHI (R148). -/
def wordHigh (o : Opnd) (_k : CrewSt) (s : CoreSt) : Except Nat Retire :=
  checked [2] 16 o <|
    plain { s with wa := BitVec.ofNat 32 (o.val.toNat * 0x10000 + s.wa.toNat % 0x10000) } 1

/-- TW: class 3 indexes with WB (R136, R148). -/
def wordStore (o : Opnd) (_k : CrewSt) (s : CoreSt) : Except Nat Retire :=
  checked [1, 3] 22 o <| match effAddr wordLimit s.wb o with
    | .error e => .error e
    | .ok a => .ok ⟨{ s with mem := writeWord s.mem a s.wa }, none, some (1, a), 1 + indexClock o⟩

/-- An instruction without an operand on the accumulators. -/
def wordOp (o : Opnd) (clocks : Nat) (f : CoreSt → CoreSt) (_k : CrewSt) (s : CoreSt) : Except Nat Retire :=
  checked [0] 22 o <| plain (f s) clocks

/-- A shift by OPERAND[4:0] (R135, R148). -/
def wordShift (o : Opnd) (f : Word → Nat → Word) (_k : CrewSt) (s : CoreSt) : Except Nat Retire :=
  checked [2] 5 o <| plain { s with wa := f s.wa o.val.toNat } 1

/-- A comparison of WB and WA loads BA (R152). -/
def compare (o : Opnd) (p : Int → Int → Bool) (_k : CrewSt) (s : CoreSt) : Except Nat Retire :=
  checked [0] 22 o <| plain { s with ba := p s.wb.toInt s.wa.toInt } 1

/-- LDW: WA = the operand. -/
def execLdw (i : Issue) (o : Opnd) : State → Host.Outcome State Fault Refusal :=
  answer fun c => runInstr c i 0x50 o (wordLoad o fun s w => { s with wa := w })
/-- LDHI: the upper half of WA. -/
def execLdhi (i : Issue) (o : Opnd) : State → Host.Outcome State Fault Refusal :=
  answer fun c => runInstr c i 0x51 o (wordHigh o)
/-- TW: the word operand takes WA. -/
def execTw (i : Issue) (o : Opnd) : State → Host.Outcome State Fault Refusal :=
  answer fun c => runInstr c i 0x52 o (wordStore o)
/-- SWAP: exchange WA and WB. -/
def execSwap (i : Issue) (o : Opnd) : State → Host.Outcome State Fault Refusal :=
  answer fun c => runInstr c i 0x53 o (wordOp o 1 fun s => { s with wa := s.wb, wb := s.wa })
/-- LDWB: WB = the operand. -/
def execLdwb (i : Issue) (o : Opnd) : State → Host.Outcome State Fault Refusal :=
  answer fun c => runInstr c i 0x54 o (wordLoad o fun s w => { s with wb := w })
/-- ADD: WA = WB + WA. -/
def execAdd (i : Issue) (o : Opnd) : State → Host.Outcome State Fault Refusal :=
  answer fun c => runInstr c i 0x58 o (wordOp o 1 fun s => setResult s (narrow (s.wb.toInt + s.wa.toInt)))
/-- SUB: WA = WB − WA. -/
def execSub (i : Issue) (o : Opnd) : State → Host.Outcome State Fault Refusal :=
  answer fun c => runInstr c i 0x59 o (wordOp o 1 fun s => setResult s (narrow (s.wb.toInt - s.wa.toInt)))
/-- MUL: WA = WB × WA. -/
def execMul (i : Issue) (o : Opnd) : State → Host.Outcome State Fault Refusal :=
  answer fun c => runInstr c i 0x5A o (wordOp o 2 fun s => setResult s (narrow (s.wb.toInt * s.wa.toInt)))
/-- DIV: WA = WB ÷ WA. -/
def execDiv (i : Issue) (o : Opnd) : State → Host.Outcome State Fault Refusal :=
  answer fun c => runInstr c i 0x5B o (wordOp o 34 fun s => setResult s (divWord s.wb s.wa))
/-- MOD: WA = the remainder. -/
def execMod (i : Issue) (o : Opnd) : State → Host.Outcome State Fault Refusal :=
  answer fun c => runInstr c i 0x5C o (wordOp o 34 fun s => setResult s (modWord s.wb s.wa))
/-- NEG: WA = −WA. -/
def execNeg (i : Issue) (o : Opnd) : State → Host.Outcome State Fault Refusal :=
  answer fun c => runInstr c i 0x5D o (wordOp o 1 fun s => setResult s (narrow (-s.wa.toInt)))
/-- ABS: WA = |WA|. -/
def execAbs (i : Issue) (o : Opnd) : State → Host.Outcome State Fault Refusal :=
  answer fun c => runInstr c i 0x5E o (wordOp o 1 fun s => setResult s (absWord s.wa))
/-- AW: bitwise AND. -/
def execAw (i : Issue) (o : Opnd) : State → Host.Outcome State Fault Refusal :=
  answer fun c => runInstr c i 0x60 o (wordOp o 1 fun s => { s with wa := s.wb &&& s.wa })
/-- OW: bitwise OR. -/
def execOw (i : Issue) (o : Opnd) : State → Host.Outcome State Fault Refusal :=
  answer fun c => runInstr c i 0x61 o (wordOp o 1 fun s => { s with wa := s.wb ||| s.wa })
/-- XW: bitwise XOR. -/
def execXw (i : Issue) (o : Opnd) : State → Host.Outcome State Fault Refusal :=
  answer fun c => runInstr c i 0x62 o (wordOp o 1 fun s => { s with wa := s.wb ^^^ s.wa })
/-- SHL: shift left. -/
def execShl (i : Issue) (o : Opnd) : State → Host.Outcome State Fault Refusal :=
  answer fun c => runInstr c i 0x63 o (wordShift o fun w n => w <<< n)
/-- SHR: logical shift right. -/
def execShr (i : Issue) (o : Opnd) : State → Host.Outcome State Fault Refusal :=
  answer fun c => runInstr c i 0x64 o (wordShift o fun w n => w >>> n)
/-- SAR: arithmetic shift right. -/
def execSar (i : Issue) (o : Opnd) : State → Host.Outcome State Fault Refusal :=
  answer fun c => runInstr c i 0x65 o (wordShift o fun w n => w.sshiftRight n)
/-- EQ: WB = WA. -/
def execEq (i : Issue) (o : Opnd) : State → Host.Outcome State Fault Refusal :=
  answer fun c => runInstr c i 0x68 o (compare o fun b a => decide (b = a))
/-- NE: WB ≠ WA. -/
def execNe (i : Issue) (o : Opnd) : State → Host.Outcome State Fault Refusal :=
  answer fun c => runInstr c i 0x69 o (compare o fun b a => decide (b ≠ a))
/-- GT: WB > WA. -/
def execGt (i : Issue) (o : Opnd) : State → Host.Outcome State Fault Refusal :=
  answer fun c => runInstr c i 0x6A o (compare o fun b a => decide (a < b))
/-- GE: WB ≥ WA. -/
def execGe (i : Issue) (o : Opnd) : State → Host.Outcome State Fault Refusal :=
  answer fun c => runInstr c i 0x6B o (compare o fun b a => decide (a ≤ b))
/-- LT: WB < WA. -/
def execLt (i : Issue) (o : Opnd) : State → Host.Outcome State Fault Refusal :=
  answer fun c => runInstr c i 0x6C o (compare o fun b a => decide (b < a))
/-- LE: WB ≤ WA. -/
def execLe (i : Issue) (o : Opnd) : State → Host.Outcome State Fault Refusal :=
  answer fun c => runInstr c i 0x6D o (compare o fun b a => decide (b ≤ a))

end Sys2Proof.Machine
end

