-- ==== Sys2Proof/Machine/Bits.lean ====
section
/-!
DEFINITION. The bit-logic instructions (R138 to R141).
-/
namespace Sys2Proof.Machine

/-- A load or combining instruction: the operand bit, inverted where `inv`, goes into BA by `f` (R138). -/
def bitLoad (o : Opnd) (inv : Bool) (f : Bool → Bool → Bool) (_k : CrewSt) (s : CoreSt) :
    Except Nat Retire :=
  checked [1, 3] 22 o <| match effAddr bitLimit s.wa o with
    | .error e => .error e
    | .ok a => plain { s with ba := f s.ba (readBit s.mem a != inv) } (1 + indexClock o)

/-- An assignment: the operand bit takes `f` of BA and of the bit itself, where `writes` of BA (R140). -/
def bitStore (o : Opnd) (writes : Bool → Bool) (f : Bool → Bool) (_k : CrewSt) (s : CoreSt) :
    Except Nat Retire :=
  checked [1, 3] 22 o <| match effAddr bitLimit s.wa o with
    | .error e => .error e
    | .ok a =>
      if writes s.ba then
        .ok ⟨{ s with mem := writeBit s.mem a (f s.ba) }, none, some (0, a), 1 + indexClock o⟩
      else plain s (1 + indexClock o)

/-- An instruction without an operand that changes BA and OV. -/
def bitSet (o : Opnd) (f : CoreSt → CoreSt) (_k : CrewSt) (s : CoreSt) : Except Nat Retire :=
  checked [0] 22 o <| plain (f s) 1

/-- Open a branch (R139). -/
def branchOpen (o : Opnd) (b : BranchKind) (_k : CrewSt) (s : CoreSt) : Except Nat Retire :=
  checked [0] 22 o <|
    if 32 ≤ s.branch.length then .error 6 else plain { s with branch := (s.ba, b) :: s.branch } 1

/-- b kind ba (R139). -/
def branchJoin (b : BranchKind) (x y : Bool) : Bool :=
  match b with
  | .and => x && y
  | .or => x || y
  | .xor => x != y

/-- Close a branch (R139). -/
def branchClose (o : Opnd) (_k : CrewSt) (s : CoreSt) : Except Nat Retire :=
  checked [0] 22 o <| match s.branch with
    | [] => .error 7
    | (x, b) :: r => plain { s with ba := branchJoin b x s.ba, branch := r } 1

/-- An edge instruction (R140, R141): `f` of BA and E[n] goes to BA, BA to E[n]. -/
def edge (o : Opnd) (f : Bool → Bool → Bool) (_k : CrewSt) (s : CoreSt) : Except Nat Retire :=
  checked [2] 16 o <|
    let n := o.val.toNat
    .ok ⟨{ s with ba := f s.ba (smGet false s.mem.edges n)
                  mem := { s.mem with edges := smSet false s.mem.edges n s.ba } }, none, some (2, n), 1⟩

/-- BLD: load the operand bit. -/
def execBld (i : Issue) (o : Opnd) : State → Host.Outcome State Fault Refusal :=
  answer fun c => runInstr c i 0x0E o (bitLoad o false fun _ x => x)
/-- BLDN: load the inverted bit. -/
def execBldn (i : Issue) (o : Opnd) : State → Host.Outcome State Fault Refusal :=
  answer fun c => runInstr c i 0x0F o (bitLoad o true fun _ x => x)
/-- BAND: combine with AND. -/
def execBand (i : Issue) (o : Opnd) : State → Host.Outcome State Fault Refusal :=
  answer fun c => runInstr c i 0x10 o (bitLoad o false fun b x => b && x)
/-- BANDN: combine the inverted bit with AND. -/
def execBandn (i : Issue) (o : Opnd) : State → Host.Outcome State Fault Refusal :=
  answer fun c => runInstr c i 0x11 o (bitLoad o true fun b x => b && x)
/-- BOR: combine with OR. -/
def execBor (i : Issue) (o : Opnd) : State → Host.Outcome State Fault Refusal :=
  answer fun c => runInstr c i 0x12 o (bitLoad o false fun b x => b || x)
/-- BORN: combine the inverted bit with OR. -/
def execBorn (i : Issue) (o : Opnd) : State → Host.Outcome State Fault Refusal :=
  answer fun c => runInstr c i 0x13 o (bitLoad o true fun b x => b || x)
/-- BXOR: combine with XOR. -/
def execBxor (i : Issue) (o : Opnd) : State → Host.Outcome State Fault Refusal :=
  answer fun c => runInstr c i 0x14 o (bitLoad o false fun b x => b != x)
/-- BXORN: combine the inverted bit with XOR. -/
def execBxorn (i : Issue) (o : Opnd) : State → Host.Outcome State Fault Refusal :=
  answer fun c => runInstr c i 0x15 o (bitLoad o true fun b x => b != x)
/-- INV: invert BA. -/
def execInv (i : Issue) (o : Opnd) : State → Host.Outcome State Fault Refusal :=
  answer fun c => runInstr c i 0x16 o (bitSet o fun s => { s with ba := !s.ba })
/-- BTRUE: BA = 1. -/
def execBtrue (i : Issue) (o : Opnd) : State → Host.Outcome State Fault Refusal :=
  answer fun c => runInstr c i 0x17 o (bitSet o fun s => { s with ba := true })
/-- BFALSE: BA = 0. -/
def execBfalse (i : Issue) (o : Opnd) : State → Host.Outcome State Fault Refusal :=
  answer fun c => runInstr c i 0x18 o (bitSet o fun s => { s with ba := false })
/-- LDOV: BA = OV; OV = 0 (R151). -/
def execLdov (i : Issue) (o : Opnd) : State → Host.Outcome State Fault Refusal :=
  answer fun c => runInstr c i 0x19 o (bitSet o fun s => { s with ba := s.ov, ov := false })
/-- OPA: open an AND-branch. -/
def execOpa (i : Issue) (o : Opnd) : State → Host.Outcome State Fault Refusal :=
  answer fun c => runInstr c i 0x20 o (branchOpen o .and)
/-- OPO: open an OR-branch. -/
def execOpo (i : Issue) (o : Opnd) : State → Host.Outcome State Fault Refusal :=
  answer fun c => runInstr c i 0x21 o (branchOpen o .or)
/-- OPX: open an XOR-branch. -/
def execOpx (i : Issue) (o : Opnd) : State → Host.Outcome State Fault Refusal :=
  answer fun c => runInstr c i 0x22 o (branchOpen o .xor)
/-- CLB: close a branch. -/
def execClb (i : Issue) (o : Opnd) : State → Host.Outcome State Fault Refusal :=
  answer fun c => runInstr c i 0x23 o (branchClose o)
/-- ST: the bit takes BA. -/
def execSt (i : Issue) (o : Opnd) : State → Host.Outcome State Fault Refusal :=
  answer fun c => runInstr c i 0x28 o (bitStore o (fun _ => true) fun b => b)
/-- STN: the bit takes the inverse of BA. -/
def execStn (i : Issue) (o : Opnd) : State → Host.Outcome State Fault Refusal :=
  answer fun c => runInstr c i 0x29 o (bitStore o (fun _ => true) fun b => !b)
/-- SETB: set the bit when BA is 1. -/
def execSetb (i : Issue) (o : Opnd) : State → Host.Outcome State Fault Refusal :=
  answer fun c => runInstr c i 0x2A o (bitStore o (fun b => b) fun _ => true)
/-- CLRB: clear the bit when BA is 1. -/
def execClrb (i : Issue) (o : Opnd) : State → Host.Outcome State Fault Refusal :=
  answer fun c => runInstr c i 0x2B o (bitStore o (fun b => b) fun _ => false)
/-- EDGR: rising edge. -/
def execEdgr (i : Issue) (o : Opnd) : State → Host.Outcome State Fault Refusal :=
  answer fun c => runInstr c i 0x30 o (edge o fun b e => b && !e)
/-- EDGF: falling edge. -/
def execEdgf (i : Issue) (o : Opnd) : State → Host.Outcome State Fault Refusal :=
  answer fun c => runInstr c i 0x31 o (edge o fun b e => !b && e)

end Sys2Proof.Machine
end

