-- ==== Sys2Proof/Machine/Crypto.lean ====
section
/-!
DEFINITION. The cryptography that the spec names and does not reproduce: SHA-256 and SHA-384, the key store's ECDSA
P-256 with RFC 6979 nonces (R634), ECDSA P-384 verification (R662), and the form of an owner certificate (R638). It is
written from the standards that the spec names (PRESUMED, log entry 107).
-/
namespace Sys2Proof.Machine

/-! ### SHA-2 (FIPS 180-4) -/

/-- The first eight words of SHA-256 (FIPS 180-4). -/
def sha256Init : List Nat :=
  [0x6A09E667, 0xBB67AE85, 0x3C6EF372, 0xA54FF53A, 0x510E527F, 0x9B05688C, 0x1F83D9AB, 0x5BE0CD19]

/-- The first eight words of SHA-384. -/
def sha384Init : List Nat :=
  [0xCBBB9D5DC1059ED8, 0x629A292A367CD507, 0x9159015A3070DD17, 0x152FECD8F70E5939,
   0x67332667FFC00B31, 0x8EB44A8768581511, 0xDB0C2E0D64F98FA7, 0x47B5481DBEFA4FA4]

/-- The 64 round constants of SHA-256. -/
def sha256Ks : List Nat :=
  [0x428A2F98, 0x71374491, 0xB5C0FBCF, 0xE9B5DBA5, 0x3956C25B, 0x59F111F1, 0x923F82A4, 0xAB1C5ED5,
   0xD807AA98, 0x12835B01, 0x243185BE, 0x550C7DC3, 0x72BE5D74, 0x80DEB1FE, 0x9BDC06A7, 0xC19BF174] ++
  [0xE49B69C1, 0xEFBE4786, 0x0FC19DC6, 0x240CA1CC, 0x2DE92C6F, 0x4A7484AA, 0x5CB0A9DC, 0x76F988DA,
   0x983E5152, 0xA831C66D, 0xB00327C8, 0xBF597FC7, 0xC6E00BF3, 0xD5A79147, 0x06CA6351, 0x14292967] ++
  [0x27B70A85, 0x2E1B2138, 0x4D2C6DFC, 0x53380D13, 0x650A7354, 0x766A0ABB, 0x81C2C92E, 0x92722C85,
   0xA2BFE8A1, 0xA81A664B, 0xC24B8B70, 0xC76C51A3, 0xD192E819, 0xD6990624, 0xF40E3585, 0x106AA070] ++
  [0x19A4C116, 0x1E376C08, 0x2748774C, 0x34B0BCB5, 0x391C0CB3, 0x4ED8AA4A, 0x5B9CCA4F, 0x682E6FF3,
   0x748F82EE, 0x78A5636F, 0x84C87814, 0x8CC70208, 0x90BEFFFA, 0xA4506CEB, 0xBEF9A3F7, 0xC67178F2]

/-- The 80 round constants of SHA-384. -/
def sha512Ks : List Nat :=
  [0x428A2F98D728AE22, 0x7137449123EF65CD, 0xB5C0FBCFEC4D3B2F, 0xE9B5DBA58189DBBC,
   0x3956C25BF348B538, 0x59F111F1B605D019, 0x923F82A4AF194F9B, 0xAB1C5ED5DA6D8118,
   0xD807AA98A3030242, 0x12835B0145706FBE, 0x243185BE4EE4B28C, 0x550C7DC3D5FFB4E2,
   0x72BE5D74F27B896F, 0x80DEB1FE3B1696B1, 0x9BDC06A725C71235, 0xC19BF174CF692694,
   0xE49B69C19EF14AD2, 0xEFBE4786384F25E3, 0x0FC19DC68B8CD5B5, 0x240CA1CC77AC9C65] ++
  [0x2DE92C6F592B0275, 0x4A7484AA6EA6E483, 0x5CB0A9DCBD41FBD4, 0x76F988DA831153B5,
   0x983E5152EE66DFAB, 0xA831C66D2DB43210, 0xB00327C898FB213F, 0xBF597FC7BEEF0EE4,
   0xC6E00BF33DA88FC2, 0xD5A79147930AA725, 0x06CA6351E003826F, 0x142929670A0E6E70,
   0x27B70A8546D22FFC, 0x2E1B21385C26C926, 0x4D2C6DFC5AC42AED, 0x53380D139D95B3DF,
   0x650A73548BAF63DE, 0x766A0ABB3C77B2A8, 0x81C2C92E47EDAEE6, 0x92722C851482353B] ++
  [0xA2BFE8A14CF10364, 0xA81A664BBC423001, 0xC24B8B70D0F89791, 0xC76C51A30654BE30,
   0xD192E819D6EF5218, 0xD69906245565A910, 0xF40E35855771202A, 0x106AA07032BBD1B8,
   0x19A4C116B8D2D0C8, 0x1E376C085141AB53, 0x2748774CDF8EEB99, 0x34B0BCB5E19B48A8,
   0x391C0CB3C5C95A63, 0x4ED8AA4AE3418ACB, 0x5B9CCA4F7763E373, 0x682E6FF3D6B2B8A3,
   0x748F82EE5DEFB2FC, 0x78A5636F43172F60, 0x84C87814A1F0AB72, 0x8CC702081A6439EC] ++
  [0x90BEFFFA23631E28, 0xA4506CEBDE82BDE9, 0xBEF9A3F7B2C67915, 0xC67178F2E372532B,
   0xCA273ECEEA26619C, 0xD186B8C721C0C207, 0xEADA7DD6CDE0EB1E, 0xF57D4F7FEE6ED178,
   0x06F067AA72176FBA, 0x0A637DC5A2C898A6, 0x113F9804BEF90DAE, 0x1B710B35131C471B,
   0x28DB77F523047D84, 0x32CAAB7B40C72493, 0x3C9EBE0A15C9BEBC, 0x431D67C49C100D4C,
   0x4CC5D4BECB3E42B6, 0x597F299CFC657E2A, 0x5FCB6FAB3AD6FAEC, 0x6C44198C4A475817]

/-- One member of the SHA-2 family: word width, first words, round constants, and the amounts of its four mixing
functions; the small ones' last amount is a shift. -/
structure Sha2 where
  bits : Nat
  init : List Nat
  ks : List Nat
  big0 : Nat × Nat × Nat
  big1 : Nat × Nat × Nat
  small0 : Nat × Nat × Nat
  small1 : Nat × Nat × Nat

/-- The eight working words. -/
structure ShaRegs where
  a : Nat
  b : Nat
  c : Nat
  d : Nat
  e : Nat
  f : Nat
  g : Nat
  h : Nat

def sha2x256 : Sha2 := ⟨32, sha256Init, sha256Ks, (2, 13, 22), (6, 11, 25), (7, 18, 3), (17, 19, 10)⟩
def sha2x384 : Sha2 := ⟨64, sha384Init, sha512Ks, (28, 34, 39), (14, 18, 41), (1, 8, 7), (19, 61, 6)⟩

/-- Rotation of a word of `w` bits to the right. -/
def rotr (w x n : Nat) : Nat := (x >>> n) ||| ((x <<< (w - n)) % 2 ^ w)

/-- Three rotations mixed; two rotations and a shift mixed. -/
def mixBig (w x : Nat) (r : Nat × Nat × Nat) : Nat := rotr w x r.1 ^^^ rotr w x r.2.1 ^^^ rotr w x r.2.2
def mixSmall (w x : Nat) (r : Nat × Nat × Nat) : Nat := rotr w x r.1 ^^^ rotr w x r.2.1 ^^^ (x >>> r.2.2)

/-- One round, with its constant and its message word. -/
def shaRound (m : Sha2) (r : ShaRegs) (k w : Nat) : ShaRegs :=
  let full := 2 ^ m.bits
  let choice := (r.e &&& r.f) ^^^ ((full - 1 - r.e) &&& r.g)
  let major := (r.a &&& r.b) ^^^ (r.a &&& r.c) ^^^ (r.b &&& r.c)
  let t := (r.h + mixBig m.bits r.e m.big1 + choice + k + w) % full
  ⟨(t + mixBig m.bits r.a m.big0 + major) % full, r.a, r.b, r.c, (r.d + t) % full, r.e, r.f, r.g⟩

/-- The rounds of a block; `win` holds the next sixteen message words. -/
def shaRounds (m : Sha2) : List Nat → List Nat → ShaRegs → ShaRegs
  | [], _, r => r
  | k :: ks, win, r =>
    let w := win.headD 0
    let next := (mixSmall m.bits (win.getD 14 0) m.small1 + win.getD 9 0
      + mixSmall m.bits (win.getD 1 0) m.small0 + w) % 2 ^ m.bits
    shaRounds m ks (win.drop 1 ++ [next]) (shaRound m r k w)

/-- The eight words after a block. -/
def shaBlock (m : Sha2) (hs : List Nat) (bs : List Byte) : List Nat :=
  let w := fun i => hs.getD i 0
  let r := shaRounds m m.ks ((List.range 16).map fun i => beAt bs (m.bits / 8 * i) (m.bits / 8))
    ⟨w 0, w 1, w 2, w 3, w 4, w 5, w 6, w 7⟩
  [(w 0 + r.a), (w 1 + r.b), (w 2 + r.c), (w 3 + r.d), (w 4 + r.e), (w 5 + r.f), (w 6 + r.g), (w 7 + r.h)].map
    (· % 2 ^ m.bits)

/-- The eight words after `n` blocks. -/
def shaBlocks (m : Sha2) : Nat → List Byte → List Nat → List Nat
  | 0, _, hs => hs
  | n + 1, bs, hs => shaBlocks m n (bs.drop (2 * m.bits)) (shaBlock m hs (bs.take (2 * m.bits)))

/-- The message padded to whole blocks of `2 * bits` bytes: a one bit, zeros, and its length in bits. -/
def shaPad (m : Sha2) (bs : List Byte) : List Byte :=
  let block := 2 * m.bits
  let field := m.bits / 4
  bs ++ [0x80] ++ List.replicate ((block - (bs.length + 1 + field) % block) % block) 0
    ++ beBytes field (8 * bs.length)

/-- The digest's `words` first words, big-endian. -/
def sha2 (m : Sha2) (words : Nat) (bs : List Byte) : List Byte :=
  let p := shaPad m bs
  ((List.range words).flatMap fun i =>
    beBytes (m.bits / 8) ((shaBlocks m (p.length / (2 * m.bits)) p m.init).getD i 0))

def sha256 (bs : List Byte) : List Byte := sha2 sha2x256 8 bs
def sha384 (bs : List Byte) : List Byte := sha2 sha2x384 6 bs

/-- HMAC-SHA-256 under a key of at most one block (RFC 2104). -/
def hmac256 (key bs : List Byte) : List Byte :=
  let k := key ++ List.replicate (64 - key.length) 0
  sha256 (k.map (· ^^^ 0x5C) ++ sha256 (k.map (· ^^^ 0x36) ++ bs))

/-! ### Elliptic curves (FIPS 186-5, SEC 1) -/

/-- A curve y² = x³ − 3x + b over the field of `p`, with base point and its order; `bytes` of a coordinate. -/
structure Curve where
  bytes : Nat
  p : Nat
  b : Nat
  n : Nat
  gx : Nat
  gy : Nat

/-- A point, none at infinity. -/
abbrev Point := Option (Nat × Nat)

def p256 : Curve where
  bytes := 32
  p := 2 ^ 256 - 2 ^ 224 + 2 ^ 192 + 2 ^ 96 - 1
  b := 0x5AC635D8AA3A93E7B3EBBD55769886BC651D06B0CC53B0F63BCE3C3E27D2604B
  n := 0xFFFFFFFF00000000FFFFFFFFFFFFFFFFBCE6FAADA7179E84F3B9CAC2FC632551
  gx := 0x6B17D1F2E12C4247F8BCE6E563A440F277037D812DEB33A0F4A13945D898C296
  gy := 0x4FE342E2FE1A7F9B8EE7EB4A7C0F9E162BCE33576B315ECECBB6406837BF51F5

def p384 : Curve where
  bytes := 48
  p := 2 ^ 384 - 2 ^ 128 - 2 ^ 96 + 2 ^ 32 - 1
  b := 0xB3312FA7E23EE7E4988E056BE3F82D19181D9C6EFE8141120314088F5013875AC656398D8A2ED19D2A85C8EDD3EC2AEF
  n := 0xFFFFFFFFFFFFFFFFFFFFFFFFFFFFFFFFFFFFFFFFFFFFFFFFC7634D81F4372DDF581A0DB248B0A77AECEC196ACCC52973
  gx := 0xAA87CA22BE8B05378EB1C71EF320AD746E1D3B628BA79B9859F741E082542A385502F25DBF55296C3A545E3872760AB7
  gy := 0x3617DE4A96262C6F5D9E98BF9292DC29F8F41DBD289A147CE9DA3113B5F0B8C00A60B1CE1D7E819D7A431D7C90EA0E5F

/-- x to the power e modulo m, e of at most `k` bits. -/
def powMod (m : Nat) : Nat → Nat → Nat → Nat
  | 0, _, _ => 1
  | k + 1, x, e =>
    let h := powMod m k (x * x % m) (e / 2)
    if e % 2 = 1 then x * h % m else h

/-- The inverse modulo a prime of at most 384 bits. -/
def invMod (m x : Nat) : Nat := powMod m 384 (x % m) (m - 2)

/-- The point with slope `s` from a point through another's x. -/
def Curve.chord (c : Curve) (s : Nat) (q : Nat × Nat) (x2 : Nat) : Point :=
  let x := (s * s + 2 * c.p - q.1 - x2) % c.p
  some (x, (s * (q.1 + c.p - x) + c.p - q.2) % c.p)

/-- The sum of two points. -/
def Curve.add (c : Curve) : Point → Point → Point
  | none, r => r
  | q, none => q
  | some q, some r =>
    if q.1 ≠ r.1 then c.chord ((r.2 + c.p - q.2) * invMod c.p (r.1 + c.p - q.1) % c.p) q r.1
    else if (q.2 + r.2) % c.p = 0 then none
    else c.chord ((3 * q.1 * q.1 + c.p - 3) * invMod c.p (2 * q.2) % c.p) q r.1

/-- The multiple k·Q, k of at most `bits` bits. -/
def Curve.mul (c : Curve) : Nat → Nat → Point → Point
  | 0, _, _ => none
  | bits + 1, k, q =>
    let r := c.mul bits (k / 2) (c.add q q)
    if k % 2 = 1 then c.add q r else r

/-- k·G. -/
def Curve.base (c : Curve) (k : Nat) : Point := c.mul 384 k (some (c.gx, c.gy))

/-- x³ − 3x + b. -/
def Curve.rhs (c : Curve) (x : Nat) : Nat := (x * x * x + 3 * (c.p - x) + c.b) % c.p

/-- The point that bytes spell (SEC 1): uncompressed, or compressed. -/
def Curve.point (c : Curve) (bs : List Byte) : Point :=
  let x := beAt bs 1 c.bytes
  let y := beAt bs (1 + c.bytes) c.bytes
  let root := powMod c.p 384 (c.rhs x) ((c.p + 1) / 4)
  match bs with
  | 4 :: _ =>
    if bs.length = 1 + 2 * c.bytes && x < c.p && y < c.p && y * y % c.p == c.rhs x then some (x, y) else none
  | k :: _ =>
    if (k == 2 || k == 3) && bs.length = 1 + c.bytes && x < c.p && root * root % c.p == c.rhs x then
      some (x, if root % 2 = k.toNat % 2 then root else c.p - root)
    else none
  | [] => none

/-- ECDSA verification of r and s, each as long as a coordinate, over a digest as long. -/
def Curve.verifies (c : Curve) (q : Point) (digest sig : List Byte) : Bool :=
  let r := beAt sig 0 c.bytes
  let s := beAt sig c.bytes c.bytes
  let w := invMod c.n s
  0 < r && r < c.n && 0 < s && s < c.n && q.isSome
    && (match c.add (c.base (beVal digest * w % c.n)) (c.mul 384 (r * w % c.n) q) with
      | some v => v.1 % c.n == r
      | none => false)

/-- The signature that a nonce gives; none where the nonce cannot serve. -/
def Curve.signWith (c : Curve) (d z k : Nat) : Option (List Byte) :=
  match (if 0 < k && k < c.n then c.base k else none) with
  | none => none
  | some v =>
    let r := v.1 % c.n
    let s := invMod c.n k * (z + r * d) % c.n
    if r = 0 || s = 0 then none else some (beBytes c.bytes r ++ beBytes c.bytes s)

/-- The nonces of RFC 6979 in turn, from its K and V, until one serves. That 64 of them fail is out of reach: each does
with a chance near 2⁻³². -/
def signLoop (d z : Nat) : Nat → List Byte → List Byte → List Byte
  | 0, _, _ => List.replicate 64 0
  | n + 1, k, v =>
    let v := hmac256 k v
    match p256.signWith d z (beVal v) with
    | some sig => sig
    | none =>
      let k := hmac256 k (v ++ [0])
      signLoop d z n k (hmac256 k v)

/-- ECDSA P-256 over a SHA-256 digest, r and then s, with the nonce of RFC 6979. -/
def signP256 (d : Nat) (digest : List Byte) : List Byte :=
  let z := beVal digest
  let seed := beBytes 32 d ++ beBytes 32 (z % p256.n)
  let k := hmac256 (List.replicate 32 0) (List.replicate 32 1 ++ [0] ++ seed)
  let v := hmac256 k (List.replicate 32 1)
  let k := hmac256 k (v ++ [1] ++ seed)
  signLoop d z 64 k (hmac256 k v)

/-! ### The keys (R634, R662) -/

/-- The private key that the key store made at manufacture: from 1 to n − 1. -/
def keySecret : Nat := 1 + Config.keySeed % (p256.n - 1)

/-- The key store's public key, uncompressed. -/
def keyPublic : List Byte :=
  match p256.base keySecret with
  | some q => 4 :: beBytes 32 q.1 ++ beBytes 32 q.2
  | none => []

/-- The key store's signature of a digest, r and then s: 64 bytes. -/
def keySign (digest : List Byte) : List Byte := signP256 keySecret digest

/-- The Dreura image key in the boot ROM verifies a signature. -/
def vendorVerifies (digest sig : List Byte) : Bool := p384.verifies (some Config.imageKey) digest sig

/-! ### Certificates (ITU-T X.690, X.509, RFC 5280) -/

/-- One DER item: tag byte and content. -/
abbrev Der := Nat × List Byte

/-- A definite length of at most two bytes in its shortest form, and what follows it. -/
def derLength : List Byte → Option (Nat × List Byte)
  | [] => none
  | n :: r =>
    if n.toNat < 0x80 then some (n.toNat, r)
    else match n.toNat, r with
      | 0x81, a :: r => if 0x80 ≤ a.toNat then some (a.toNat, r) else none
      | 0x82, a :: b :: r => if a = 0 then none else some (256 * a.toNat + b.toNat, r)
      | _, _ => none

/-- The first item of a byte string and what follows it. -/
def derFirst (bs : List Byte) : Option (Der × List Byte) :=
  match bs with
  | [] => none
  | t :: r =>
    if t.toNat % 32 = 31 then none
    else match derLength r with
      | none => none
      | some (n, r) => if r.length < n then none else some ((t.toNat, r.take n), r.drop n)

/-- The items of a byte string that is nothing but items; `fuel` bounds their number. -/
def derItems : Nat → List Byte → Option (List Der)
  | _, [] => some []
  | 0, _ => none
  | fuel + 1, bs => (derFirst bs).bind fun x => (derItems fuel x.2).map (x.1 :: ·)

/-- The items in a constructed item's content; none where it is something else. -/
def derIn (bs : List Byte) : List Der := (derItems bs.length bs).getD []

/-- A primitive item's content suits its universal tag. -/
def derPrimitive (d : Der) : Bool :=
  match d.1, d.2 with
  | 0x01, b => b == [0] || b == [0xFF]
  | 0x02, [] => false
  | 0x02, a :: b :: _ => !(a == 0 && b.toNat < 0x80) && !(a == 0xFF && 0x80 ≤ b.toNat)
  | 0x03, b => (match b with | [] => false | u :: r => u.toNat < 8 && (u == 0 || !r.isEmpty))
  | 0x05, b => b == []
  | 0x06, b => b != [] && (b.getLastD 0).toNat < 0x80
  | _, _ => true

/-- An item is DER all through, to a depth of `fuel`. -/
def derGood : Nat → Der → Bool
  | 0, _ => false
  | fuel + 1, d =>
    if d.1 / 32 % 2 = 1 then
      match derItems d.2.length d.2 with
      | none => false
      | some items => items.all (derGood fuel)
    else derPrimitive d

/-- The tags of a constructed item's content. -/
def derTags (d : Der) : List Nat := (derIn d.2).map (·.1)

/-- AlgorithmIdentifier, Name, Validity and SubjectPublicKeyInfo. -/
def algOk (d : Der) : Bool := d.1 == 0x30 && (derTags d).head? == some 0x06 && (derTags d).length ≤ 2
def nameOk (d : Der) : Bool :=
  d.1 == 0x30 && (derIn d.2).all fun set => set.1 == 0x31 && !(derIn set.2).isEmpty
    && (derIn set.2).all fun a => a.1 == 0x30 && (derTags a).length == 2 && (derTags a).head? == some 0x06
def validityOk (d : Der) : Bool :=
  d.1 == 0x30 && (derTags d).length == 2 && (derTags d).all fun t => t == 0x17 || t == 0x18
def keyInfoOk (d : Der) : Bool :=
  d.1 == 0x30 && derTags d == [0x30, 0x03] && ((derIn d.2).take 1).all algOk

/-- Extensions: each an identifier, a flag where it is critical, and its octets. -/
def extensionsOk (d : Der) : Bool :=
  match derIn d.2 with
  | [s] => s.1 == 0x30 && !(derIn s.2).isEmpty
      && (derIn s.2).all fun e => e.1 == 0x30 && (derTags e == [0x06, 0x04] || derTags e == [0x06, 0x01, 0x04])
  | _ => false

/-- The three parts of a certificate. -/
def certParts (bs : List Byte) : Option (Der × Der × Der) :=
  match derItems 2 bs with
  | some [c] => match c.1, derIn c.2 with
    | 0x30, [tbs, alg, sig] => if derGood 32 c then some (tbs, alg, sig) else none
    | _, _ => none
  | _ => none

/-- The bytes are one well-formed X.509 v3 certificate and nothing else (R638). -/
def certWellFormed (bs : List Byte) : Bool :=
  match certParts bs with
  | none => false
  | some (tbs, alg, sig) =>
    tbs.1 == 0x30 && algOk alg && sig.1 == 0x03
      && (match derIn tbs.2 with
        | v :: serial :: inner :: issuer :: validity :: subject :: key :: rest =>
          v.1 == 0xA0 && derIn v.2 == [(0x02, [2])] && serial.1 == 0x02 && inner == alg
            && nameOk issuer && validityOk validity && nameOk subject && keyInfoOk key
            && (rest.map (·.1)).isSublist [0x81, 0x82, 0xA3]
            && rest.all fun x => x.1 != 0xA3 || extensionsOk x
        | _ => false)

/-- The P-384 key of a certificate: id-ecPublicKey on secp384r1, and a point of it. -/
def certPoint (bs : List Byte) : Point :=
  match certParts bs with
  | none => none
  | some (tbs, _, _) =>
    match (derIn tbs.2)[6]? with
    | none => none
    | some key =>
      match derIn key.2 with
      | [alg, (_, 0 :: point)] =>
        if derIn alg.2 == [(0x06, [0x2A, 0x86, 0x48, 0xCE, 0x3D, 0x02, 0x01]), (0x06, [0x2B, 0x81, 0x04, 0x00, 0x22])]
        then p384.point point else none
      | _ => none

/-- Its subject public key is an EC P-384 key (R638). -/
def certKeyP384 (bs : List Byte) : Bool := (certPoint bs).isSome

/-- The key of an owner certificate verifies a signature (R662). -/
def ownerVerifies (cert digest sig : List Byte) : Bool := p384.verifies (certPoint cert) digest sig

/-- A number's eight hexadecimal digits. -/
def hexDigits (n : Nat) : List Byte :=
  (List.range 8).map fun i =>
    let d := n / 16 ^ (7 - i) % 16
    BitVec.ofNat 8 (if d < 10 then 0x30 + d else 0x37 + d)

/-- The device certificate: the bytes that the manufacturing CA wrote around the serial number and the key store's
public key, at most 1,024 in all (R635). The case of the digits the spec does not give (DESIGN CHOICE, log entry
107). -/
def deviceCert : List Byte :=
  (Config.certHead ++ hexDigits Config.serial.toNat ++ Config.certMid ++ keyPublic ++ Config.certTail).take 1024

end Sys2Proof.Machine
end

