-- ==== Sys2Proof/Machine/Pair.lean ====
section
/-!
DEFINITION. The pair's events (R386 to R398, R408, R409, R417 to R419, R424): records and beacons received,
lease judgments, handover, lanes and self-tests.
-/
namespace Sys2Proof.Machine

/-! ### Records received (R394, R395) -/

/-- A record that passed its checks. -/
structure ARec where
  epoch : Word
  stroke : Word
  payload : List Byte
  deriving DecidableEq, Repr

/-- LENGTH of each TYPE (R395). -/
def payloadLength : Nat → Option Nat
  | 0x01 => some 32 | 0x02 => some 16 | 0x03 => some 16 | 0x04 => some 16 | 0x10 => some 32
  | 0x11 => some 272 | 0x12 => some 32 | 0x20 => some 16 | 0x21 => some 16 | 0x22 => some 16
  | _ => none

/-- A record of TYPE `type` with its LENGTH and a good CRC. -/
def readRecord (type : Nat) (bs : List Byte) : Option ARec :=
  let p := bs.drop 16
  if beAt bs 0 1 = type && payloadLength type == some p.length && beAt bs 2 2 == p.length
      && beAt bs 12 4 == (crc32c (bs.take 12 ++ p)).toNat then
    some ⟨BitVec.ofNat 32 (beAt bs 4 4), BitVec.ofNat 32 (beAt bs 8 4), p⟩
  else none

/-- A record is discarded and counted (R395, R419, R429). -/
def discardRecord (c : Chip) : Chip :=
  if !pairOn c || c.seat.laneUp = 0 then c
  else modPairCnt c fun p => { p with
    crcErrors := satInc 0xFFFF p.crcErrors, crcStrokes := (c.stroke.count :: p.crcStrokes).take 17 }

/-- The highest epoch received from the partner (R385, R429). -/
def heardEpoch (c : Chip) (e : Word) : Chip :=
  modBackup c fun b => { b with partnerEpoch := if b.partnerEpoch < e then e else b.partnerEpoch }

/-- A record arrives where one of TYPE `type` is due: it is taken, or discarded. -/
def receiveRecord (c : Chip) (type : Nat) (bs : List Byte) (f : Chip → ARec → Chip) : Chip :=
  if !pairOn c || c.seat.laneUp = 0 then c
  else match readRecord type bs with
    | none => discardRecord c
    | some r => f (heardEpoch (modSeat c fun s => { s with silent := 0 }) r.epoch) r

/-! ### A newer epoch (R390) -/

/-- A seat holder sees a higher epoch: 0 on the Aderoth link, 1 in a beacon, 2 in a Zwistra frame, 3 in a
station's reply. The epoch of a TAKE that it has accepted is no news to it (R417). -/
def newerEpoch (c : Chip) (src : Nat) (e : Word) : Chip :=
  let known := match c.seat.takeEpoch with
    | some t => decide (e ≤ t)
    | none => false
  let stays := c.mode.mode == .safeHalt
  if !(paired c && c.seat.holds) || e ≤ c.backup.epoch || known
      || !(c.mode.mode.runs || c.mode.mode == .stop || stays) then c
  else
    let c := raise c 0x28 5
    let c := emit c 0x28 0x72 src c.backup.epoch e 0 c.stroke.count
    if stays then canSyncAll (pairConds (leaveSeat c)) else enterMode c .standby 18

/-! ### Lease, HELLO, ACK, OUTPUT -/

/-- A LEASE record (R391, R394). -/
def leaseReceive (c : Chip) (bs : List Byte) : Chip :=
  receiveRecord c 0x02 bs fun c r =>
    let c := modSeat c fun s => { s with
      leaseHeard := s.leaseHeard || decide (c.backup.epoch ≤ r.epoch) }
    let c := if c.mode.mode = .standby then
        rxDeadline (modMirror c fun m => { m with skew := c.stroke.count - r.stroke }) r.stroke
      else c
    newerEpoch c 0 r.epoch

/-- The HELLO payload (R396). -/
def helloOf (p : List Byte) : Hello :=
  { station := beAt p 0 2, side := beAt p 2 1, fleet := beAt p 3 1, scull := beAt p 4 1
    socRev := beAt p 5 1, format := beAt p 6 2, digest := BitVec.ofNat 32 (beAt p 8 4)
    epoch := BitVec.ofNat 32 (beAt p 12 4), mode := beAt p 16 1, role := beAt p 17 1, build := beAt p 18 2 }

/-- The PARTNER_STATE record (R432): 0 lost, 1 found, 2 mismatched. -/
def partnerState (c : Chip) (src : Nat) (h : Hello) : Chip :=
  emit c 0x28 0x75 src (pack [(h.station, 31, 16), (h.side, 15, 8), (h.fleet, 7, 0)]) h.digest
    c.backup.partnerEpoch c.stroke.count

/-- A HELLO from the partner (R396 to R398, R424). -/
def helloReceive (c : Chip) (bs : List Byte) : Chip :=
  receiveRecord c 0x01 bs fun c r =>
    let h := helloOf r.payload
    let old := c.seat.partner
    let found := c.seat.lost
    let was := compatible c
    let c := modSeat (heardEpoch c h.epoch) fun s => { s with partner := some h, lost := false, partnerRole := h.role }
    let now := compatible c
    let moved := match old with
      | some o => o.mode != h.mode
      | none => false
    let c := if c.mirror.replay.isSome && !now then paddleRestore c else c
    let c := modMirror c fun m => { m with
      streaming := m.streaming && now && (!moved || (c.seat.byHandover && h.mode == Mode.standby.code))
      rx := if now then m.rx else [], done := if now then m.done else [], replay := if now then m.replay else none }
    let c := if moved then modSeat c fun s => { s with byHandover := false } else c
    let c := if found || was != now then partnerState c (if now then 1 else 2) h else c
    newerEpoch (pairConds c) 0 (if r.epoch < h.epoch then h.epoch else r.epoch)

/-- An ACK (R395, R402, R423). A checkpoint stroke of 0 says that none is complete yet. -/
def ackReceive (c : Chip) (bs : List Byte) : Chip :=
  receiveRecord c 0x03 bs fun c r =>
    if !c.seat.holds then c
    else
      let k := BitVec.ofNat 32 (beAt r.payload 0 4)
      let c := if k = 0 || c.pairCnt.acked == some k then c
        else modMirror (modPairCnt c fun p => { p with acked := some k }) fun m =>
          { m with age := 0, lastStroke := k }
      partnerReports c (BitVec.ofNat 32 (beAt r.payload 4 4))

/-- An OUTPUT record (R408); `atStrobe` tells that it is a TF record that came by TF + 25 µs. -/
def outputReceive (c : Chip) (bs : List Byte) (atStrobe : Bool) : Chip :=
  receiveRecord c 0x04 bs fun c r =>
    let floor := if c.backup.epoch < c.backup.partnerEpoch then c.backup.partnerEpoch else c.backup.epoch
    if !(c.mode.mode == .standby || c.mode.mode == .takeover) || r.epoch < floor then c
    else
      let o : OutStates := ⟨BitVec.ofNat 48 (beAt r.payload 0 8), BitVec.ofNat 8 (beAt r.payload 8 1),
        BitVec.ofNat 8 (beAt r.payload 9 1)⟩
      if atStrobe then modSeat c fun s => { s with quiet := 0, outPending := some o, lastStrobe := some r.stroke }
      else applyPaired (modSeat c fun s => { s with
        quiet := 0, outDriven := true, outStates := o, outPending := none })

/-- At the strobe the record waiting for it takes effect (R408). -/
def outputStrobed (c : Chip) : Chip :=
  match c.seat.outPending with
  | none => c
  | some o => modSeat c fun s => { s with outDriven := true, outStates := o, outPending := none }

/-- CKPT_HEAD, CKPT_LINE and CKPT_END records (R404, R405). -/
def ckptHeadReceive (c : Chip) (bs : List Byte) : Chip :=
  receiveRecord c 0x10 bs fun c r => ckptRecord c r.stroke (takeHead r.payload)
def ckptLineReceive (c : Chip) (bs : List Byte) : Chip :=
  receiveRecord c 0x11 bs fun c r => ckptRecord c r.stroke (takeLine r.payload)
def ckptEndReceive (c : Chip) (bs : List Byte) : Chip :=
  receiveRecord c 0x12 bs fun c r => ckptRecord c r.stroke (takeEnd r.payload)

/-- The seat holder starts streaming (R424); the partner stands by, whatever its last HELLO said. -/
def startStreaming (c : Chip) : Chip :=
  let c := modPairCnt c fun p => { p with acked := none, keptBase := none }
  let c := modSeat c fun s => { s with partner := s.partner.map fun h => { h with mode := 7 } }
  modMirror c fun m => { m with streaming := true, streamed := [] }

/-- A SYNC_REQ (R397, R424). One that comes before this module takes the seat counts from then on. -/
def syncReqReceive (c : Chip) (bs : List Byte) : Chip :=
  receiveRecord c 0x22 bs fun c _ => if compatible c then startStreaming c else c

/-- PAIR_CMD RESYNC (R424). -/
def resync (c : Chip) : Chip :=
  if c.mode.mode = .standby then pairConds (sendSyncReq c)
  else if c.seat.holds && compatible c then startStreaming c
  else c

/-! ### Beacons (R388 to R391) -/

/-- The fixed fields of a beacon are right. -/
def beaconOk (c : Chip) (bs : List Byte) : Bool :=
  bs.length == 16 && beAt bs 0 2 == 0x5342 && beAt bs 2 1 == 1 && beAt bs 3 1 ≤ 1
    && beAt bs 4 2 == station c && beAt bs 6 1 ≤ 3

/-- A seat beacon of this station address arrives on a plant network. -/
def beaconReceive (c : Chip) (net : Nat) (bs : List Byte) : Chip :=
  if 2 ≤ net || !pairOn c || !netServes c net || !beaconOk c bs then c
  else
    let e := BitVec.ofNat 32 (beAt bs 8 4)
    let role := beAt bs 6 1
    let c := modSeat c fun s => { s with beaconEpoch := if s.beaconEpoch < e then e else s.beaconEpoch }
    let c := if beAt bs 3 1 = b2n (sideB c) then c
      else
        let c := heardEpoch (modSeat c fun s => { s with
          partnerRole := role
          leaseHeard := s.leaseHeard
            || (role == 1 && decide (c.backup.epoch ≤ e)) }) e
        if role = 2 && c.seat.holds then partnerReports c (BitVec.ofNat 32 (beAt bs 12 4)) else c
    newerEpoch c 1 e

/-! ### Judgments (R391, R392, R409) -/

/-- LEASE_JUDGMENT, at T0 + 15 µs. -/
def leaseJudgment (c : Chip) : Chip :=
  if c.mode.mode ≠ .standby || c.stroke.phase ≠ .catch_ then c
  else modSeat c fun s =>
    if s.leaseHeard then { s with
      leaseHeard := false, leaseSeen := true, leaseMiss := 0, waited := s.waited + 1, quiet := s.quiet + 1 }
    else { s with
      leaseMiss := if s.leaseSeen then satInc 255 s.leaseMiss else 0
      waited := s.waited + 1, quiet := 0 }

/-- LEASE_EXPIRY: LEASE + 1 judgments without a valid lease (R391). -/
def leaseExpiry (c : Chip) : Chip :=
  if c.mode.mode ≠ .standby || c.seat.leaseMiss < leaseStrokes c + 1 then c else enterTakeover c 24

/-- PAIRED_STAGE_RELEASE (R409). -/
def pairedStageRelease (c : Chip) : Chip :=
  if c.mode.mode ≠ .standby || c.seat.quiet < leaseStrokes c + 1 || !c.seat.outDriven then c
  else applyPaired (modSeat c fun s => { s with outDriven := false, outPending := none })

/-- The wait of R392 is over: AUTOSTART is set and no lease has come. -/
def autostartDue (c : Chip) : Bool :=
  c.mode.mode == .standby && c.seat.fromConfig && !c.seat.leaseSeen && bitOf (cfg c 0x79 0x058) 31
    && decide (leaseStrokes c + (if sideB c then 9 else 1) ≤ c.seat.waited)

/-- The module receives a valid lease from its partner (R392): START is refused meanwhile. -/
def leaseNow (c : Chip) : Bool :=
  c.seat.leaseHeard || (c.seat.leaseSeen && (c.mode.mode != .standby || c.seat.leaseMiss == 0))

/-! ### Handing the seat over (R417, R418) -/

/-- A handover is under way: of a module that runs, or that is to halt in STOP (R393, R417). -/
def handsOver (c : Chip) : Bool :=
  c.seat.handover && c.seat.holds && (c.mode.mode.runs || c.mode.mode == .stop)

/-- Stroke of the last checkpoint streamed. -/
def lastStreamed (c : Chip) : Option Word := c.mirror.streamed.head?.map (·.1)

/-- OFFER: once in each recovery, when this stroke's checkpoint has streamed. -/
def offer (c : Chip) : Chip :=
  if !(handsOver c && c.stroke.phase == .recovery)
      || c.stroke.capturing || c.stroke.count = c.seat.handoverAfter
      || lastStreamed c ≠ some c.stroke.count || 16 ≤ c.seat.offers then c
  else
    let c := modSeat c fun s => { s with offers := s.offers + 1, handoverAfter := c.stroke.count }
    sendRecord c 0x20 c.stroke.count (beBytes 4 c.stroke.count.toNat ++ List.replicate 12 0)

/-- An OFFER arrives `left` ns before the next T0. A READY standby applies what it still holds, if the steps
of R415 can end in time, and answers with TAKE. -/
def offerReceive (c : Chip) (bs : List Byte) (left : Nat) : Chip :=
  receiveRecord c 0x20 bs fun c r =>
    let k := BitVec.ofNat 32 (beAt r.payload 0 4)
    let lines := (c.mirror.done.map (·.count)).foldl (· + ·) 0
    if c.mode.mode ≠ .standby || !ready c || exhausted c || c.mirror.replay.isSome || left ≤ 20000
        || left ≤ 50000 + 45 * lines || c.mirror.lastComplete ≠ some k then c
    else
      let c := applyAll c
      if !ready c || c.mirror.lastStroke ≠ k then c
      else
        let c := modSeat (writeEpoch c) fun s => { s with takeSent := true, byHandover := true }
        let c := sendRecord c 0x21 k (beBytes 4 c.backup.epoch.toNat ++ beBytes 4 k.toNat
          ++ List.replicate 8 0)
        enterTakeover c 25

/-- A TAKE arrives: of the checkpoint just offered it ends the handover at the next T0, any other shows a
newer epoch (R390, R417, R418). -/
def takeReceive (c : Chip) (bs : List Byte) : Chip :=
  receiveRecord c 0x21 bs fun c r =>
    let e := BitVec.ofNat 32 (beAt r.payload 0 4)
    let k := BitVec.ofNat 32 (beAt r.payload 4 4)
    if handsOver c && c.stroke.phase == .recovery
        && c.seat.offers != 0 && c.seat.handoverAfter == c.stroke.count && k == c.stroke.count then
      modSeat c fun s => { s with takeEpoch := some e }
    else newerEpoch c 0 e

/-- At T0 the seat passes to the partner that sent TAKE: STANDBY, or the halt that waited for it (R393,
R417). -/
def passSeat (c : Chip) : Chip :=
  match c.seat.takeEpoch with
  | none => c
  | some e =>
    let c := raise c 0x28 4
    let c := emit c 0x28 0x71 0xFFFF c.backup.epoch e c.seat.handoverAfter c.stroke.count
    match c.seat.haltRow with
    | some row => enterMode (leaveSeat c) .safeHalt row
    | none => enterMode c .standby 17

/-- At T0 after the sixteenth OFFER without a TAKE the handover has failed (R418). -/
def offersSpent (c : Chip) : Chip :=
  if !c.seat.handover || c.seat.offers < 16 then c
  else
    let halt := c.seat.haltRow
    let c := raise (modSeat c fun s => { s with handover := false, offers := 0, haltRow := none }) 0x28 9
    match halt with
    | some row => enterMode c .safeHalt row
    | none => c

/-! ### Lanes, partner lost, self-tests -/

/-- The lanes work, whatever page 0x28 says, but in a reset and BOOT (R615). -/
def lanesWork (c : Chip) : Bool := match c.mode.mode with | .reset | .boot => false | _ => true

/-- A lane goes down (R398). -/
def laneDown (c : Chip) (n : Nat) : Chip :=
  if 2 ≤ n || !lanesWork c then c
  else pairConds (modSeat c fun s => { s with laneUp := s.laneUp &&& ~~~(1#2 <<< n) })

/-- A lane comes up, and a HELLO leaves (R395, R398). -/
def laneUpAgain (c : Chip) (n : Nat) : Chip :=
  if 2 ≤ n || !lanesWork c || c.seat.laneUp.getLsbD n then c
  else pairConds (sendHello (modSeat c fun s => { s with laneUp := s.laneUp ||| (1#2 <<< n) }))

/-- No record for LEASE strokes: the partner is lost until a HELLO arrives (R398). -/
def partnerLost (c : Chip) : Chip :=
  match c.seat.partner with
  | none => c
  | some h =>
    if !pairOn c || c.seat.lost || c.seat.silent < leaseStrokes c then c
    else pairConds (partnerState (modSeat c fun s => { s with lost := true }) 0 h)

/-- At most 16 records have been discarded in the last 1,000 strokes (R419). -/
def linkClean (c : Chip) : Bool :=
  match c.pairCnt.crcStrokes[16]? with
  | some k => decide (1000 ≤ (c.stroke.count - k).toNat)
  | none => true

/-- A standby's self-test ends (R419). The link, the backup cell and the sensors are judged by what the module has
counted and sampled. -/
def selftest (c : Chip) (n : Nat) (ok : Bool) : Chip :=
  if 8 ≤ n || c.mode.mode ≠ .standby then c
  else
    let pass := if n = 4 then linkClean c else if n = 5 then !cellLow c else if n = 7 then sensorsOk c else ok
    pairConds (modMirror c fun m => { m with
      selftestFails := if pass then m.selftestFails &&& ~~~(1#8 <<< n) else m.selftestFails ||| (1#8 <<< n) })

/-! ### Each T0 -/

/-- What a T0 brings the pair block: ages, the lease, the ACK and the beacons (R387, R388, R395, R407). -/
def pairTick (c : Chip) : Chip :=
  if !paired c then c
  else
    let c := modSeat c fun s =>
      let s := { s with silent := satInc 255 s.silent }
      if c.mode.mode = .standby then s
      else { s with leaseSeen := s.leaseHeard, leaseHeard := false }
    let c := modMirror c fun m =>
      let age := satInc 256 m.applyAge
      let old := decide (fld (pairCfgW c) 31 24 < age) && c.mode.mode == .standby
      { m with age := satInc 255 m.age, applyAge := age, whole := m.whole && !old, succession := if old then 0 else m.succession }
    pairConds (sendBeacons (sendAck (sendLease c)))

end Sys2Proof.Machine
end

