-- ==== Sys2Proof/Machine/Stroke.lean ====
section
/-!
DEFINITION. The stroke (chapter 3): T0 and the catch, drive start, finish, output strobe, the end of the
capture, and the alignment to plant time.
-/
namespace Sys2Proof.Machine

def modStroke (c : Chip) (f : StrokeSt → StrokeSt) : Chip := { c with stroke := f c.stroke }

/-! ### Registers of page 0x02 -/

def Phase.code : Phase → Nat
  | .catch_ => 0 | .drive => 1 | .finish => 2 | .recovery => 3

def SyncState.code : SyncState → Nat
  | .free => 0 | .acquiring => 1 | .locked => 2 | .holdover => 3

/-- STROKE_STAT (R123). -/
def strokeStat (c : Chip) : Word :=
  let on := c.mode.mode.strokes
  pack [(c.stroke.sync.code, 9, 8), (b2n on, 2, 2), (if on then c.stroke.phase.code else 0, 1, 0)]

/-- LOAD_SAFETY and LOAD_PROCESS (R125). -/
def loadWord (f : LoadFig) : Word := pack [(f.peak, 31, 16), (f.last, 15, 0)]

/-- OVERRUN_STAT (R127). -/
def overrunStat (c : Chip) : Word :=
  pack [(c.stroke.overruns, 31, 16), (c.stroke.skipRun, 9, 8), (c.stroke.crews.toNat, 1, 0)]

/-- LOAD_HIGH: the last use of either crew is more than WARN_PCT percent of B (R120). -/
def loadHigh (c : Chip) : Chip :=
  let warn := fld (cfg c 2 0x060) 7 0
  let high := fun (f : LoadFig) => decide (warn * budgetNs c < f.last * 2000 * 100)
  setCond c 2 2 (high c.stroke.loadSafety || high c.stroke.loadProcess)

/-! ### Alignment to plant time (R107 to R111) -/

/-- STROKE_CFG.SYNC in force: 0 FREE, 1 PTP, 2 PPS. -/
def syncMode (c : Chip) : Nat := fld c.stroke.active 14 13

/-- The reference is present: a PTP port in SLAVE, or PPS edges. A PPS edge keeps it present, also one seen while SYNC
is FREE, until 2 s without an edge have passed under SYNC = PPS (DESIGN CHOICE, log entry 90). -/
def refPresent (c : Chip) : Bool :=
  match syncMode c with
  | 1 => (ptpSelected c).isSome
  | 2 => c.stroke.refPresent
  | _ => false

/-- SYNC_STATE changes; SYNC_LOST holds in HOLDOVER (R128). -/
def syncTo (c : Chip) (s : SyncState) : Chip :=
  if c.stroke.sync = s then c
  else setCond (modStroke c fun k => { k with sync := s, within := 0, beyond := 0 }) 2 3 (s == .holdover)

/-- The rows of R111 that the setting and the reference decide. -/
def syncFollow (c : Chip) : Chip :=
  if syncMode c = 0 then modStroke (syncTo c .free) fun k => { k with offset := 0 }
  else match c.stroke.sync with
    | .free | .holdover => if refPresent c then syncTo c .acquiring else c
    | _ => c

/-- The offset measured at this T0 (R111, R124), in ns, and the runs of strokes it belongs to. -/
def syncMeasure (c : Chip) (offset : Int) : Chip :=
  if !(c.stroke.sync == .acquiring || c.stroke.sync == .locked) then c
  else modStroke c fun k => { k with
    offset := wOfInt offset
    within := if offset.natAbs ≤ 1000 then k.within + 1 else 0
    beyond := if 10000 < offset.natAbs then k.beyond + 1 else 0 }

def syncLock (c : Chip) : Chip :=
  if c.stroke.sync = .acquiring && decide (16 ≤ c.stroke.within) then syncTo c .locked else c

def syncUnlock (c : Chip) : Chip :=
  if c.stroke.sync = .locked && decide (4 ≤ c.stroke.beyond) then syncTo c .acquiring else c

/-- The reference has been absent for 2 s: no port of the module in SLAVE, or no PPS edge. -/
def syncLost (c : Chip) : Chip :=
  let c := if syncMode c = 2 then modStroke c fun k => { k with refPresent := false } else c
  if (c.stroke.sync == .acquiring || c.stroke.sync == .locked) && !refPresent c then syncTo c .holdover else c

/-- A rising edge on the time input (R108). -/
def ppsEdge (c : Chip) : Chip := syncFollow (modStroke c fun k => { k with refPresent := true })

/-! ### T0 -/

/-- What the catch of this T0 brings every image copy: inputs of the digital channels, islands and remote
links, and the engines' words (R93). -/
def caughtAll (c : Chip) (terminals : BitVec 48) : Caught :=
  { bits := digitalBits c ++ remoteBits c
    words := digitalWords c terminals ++ islandWords c ++ remoteWords c ++ c.engOut }

/-- A copy of the image as its holder catches it: outputs of crews from the latch (R19), then `x`. -/
def engineImg (c : Chip) (x : Caught) : Img :=
  let out := fun word a => isOut c.crewS word a || isOut c.crewP word a
  { bits := smWrites false (smOverlay false (out false) c.img.bits c.latch.bits) x.bits
    words := smWrites 0 (smOverlay 0 (out true) c.img.words c.latch.words) x.words }

/-- The image copies that a crew's cores hold after this catch's inputs and forces (R420). -/
def imgsCaught (c : Chip) (cr : Crew) (x : Caught) (takes : Bool) : List Img :=
  let k := crewSt c cr
  (List.range (max 1 k.cores.length)).map fun i =>
    let m := (coreAt k i).mem.img
    if takes then catchImg c cr i x m else m

/-- One crew at T0: its catch (R185, R229, R232), or in a mode where it does not run its pending trim batch
(R190). -/
def crewTick (c : Chip) (cr : Crew) (x : Caught) : Chip :=
  let k := coxSt c cr
  let c := match catchDue c cr with
    | some build =>
      let c := if k.awaiting then restoreCtl c cr else c
      let c := crewCatch c cr x (build && !k.inHold)
      if k.awaiting && k.inHold then modCtl c cr fun t => { t with haltNext := true } else c
    | none => if c.mode.mode.runs then c else applyTrims c cr
  restartCaught c cr

/-- The capture of the stroke before has not completed (R106): that stroke is clean for neither crew (R225, R230).
Its attention check is left to the next capture's (DESIGN CHOICE, log entry 70). -/
def captureLate (c : Chip) : Chip :=
  if !c.stroke.capturing then c
  else
    let c := modStroke c fun k => { k with capturing := false }
    let unclean := fun c cr =>
      let c := if (crewSt c cr).run == .idle && !(ctlSt c cr).committed then c else returnTrims c cr
      modCtl c cr fun t => { t with committed := false }
    let c := unclean (unclean c .safety) .process
    let c := if pairOn c && c.seat.holds then ckptIncomplete c 0 0 else c
    raise c 2 5

/-- The drain limit of every page in DRAINING comes one stroke nearer, and a block enabled since the last catch takes
work from this one on (R71); a CAN controller among them starts (R551). -/
def drainTick (c : Chip) : Chip :=
  let waited := c.pages.any fun e => e.2.waits
  let c := { c with pages := c.pages.map fun e => (e.1, { e.2 with drainLeft := e.2.drainLeft - 1, waits := false }) }
  if waited then canSyncAll c else c

/-- A drive that has ended before this T0 without committing is carried over it (R119). -/
def carryDrives (c : Chip) : Chip :=
  let carry := fun (k : CrewSt) => { k with carried := k.run == .running && k.caught && driveEnded k }
  modCrew (modCrew c .safety carry) .process carry

/-- The latches of T0 (R92, R479, R333, R375). A reset event that no evaluation has taken yet keeps its
place; where the safety crew is faulty and no event can act any more, those that wait are ignored (R356). -/
def latchInputs (c : Chip) (x : TickIn) : Chip :=
  let c := catchSafety (readSwitches (readLinks c x.links) x.hs x.ls)
  if c.coxSafety.faulty then (if resetActs c then c else resetFlush c)
  else if inCrewReset c .safety || c.safety.rstIn.caught.isSome then c else catchReset c

/-- The catch: every image copy is written (R19, R93, R201). -/
def catchAll (c : Chip) (terminals : BitVec 48) : Chip :=
  let hostsDue := (catchDue c .process).isSome
  let x := caughtAll c terminals
  let host : Caught := if hostsDue then ⟨c.hosts.winBits, c.hosts.winWords⟩ else ⟨[], []⟩
  let (cb, cw) := zwCatch c
  let ser := serialWords c
  let (c, canW) := catchCan c
  let xs : Caught := ⟨x.bits ++ safetyImageBits c ++ cb, x.words ++ cw⟩
  let xp : Caught := ⟨x.bits ++ host.bits, x.words ++ canW ++ ser ++ host.words⟩
  let xe : Caught := ⟨x.bits ++ host.bits, x.words ++ host.words⟩
  let c := if paired c && c.seat.holds then modMirror c fun m => { m with
      caughtImgs := (imgsCaught c .safety xs (catchDue c .safety).isSome).take 1
        ++ imgsCaught c .process xp hostsDue } else c
  let img := engineImg c xe
  let c := crewTick (crewTick c .safety xs) .process xp
  let c := catchSerial (catchRemote (catchIslands { c with img := img }))
  if hostsDue then modHosts c fun h => { h with winBits := [], winWords := [] } else c

/-- A step correction takes the whole offset out in one stroke (R110). -/
def stepCorrected (c : Chip) (step : Bool) : Chip :=
  match step, c.mode.mode with
  | true, .config | true, .stop | true, .safeHalt | true, .standby => raise c 2 4
  | _, _ => c

/-- What a T0 at module time `now` does (R87, R92): the seat passes, or is entered upon, before the catch (R415,
R417). -/
def tickAt (now : Nat) (x : TickIn) (c : Chip) : Chip :=
  let c := captureLate (offersSpent (passSeat c))
  let c := seatEntered (modStroke c fun k => { k with
    active := cfg c 2 0x040, count := k.count + 1, t0 := now, timed := true, phase := .catch_ })
  let c := stepCorrected (syncMeasure (syncFollow c) x.offset) x.step
  let c := drainTick (loadHigh (carryDrives c))
  let c := forN 10 (fun e c => applyTune c e) c
  let c := latchInputs c x
  let c := forN 32 tickLink (catchAll c x.terminals)
  pairTick (sessionStroke (tickSerial c))

/-- STROKE_TICK at module time `now` (R87, R92). -/
def strokeTick (c : Chip) (now : Nat) (x : TickIn) : Chip :=
  if !c.mode.mode.strokes || !(c.stroke.phase == .recovery || c.stroke.phase == .catch_) then c
  else atTime now (tickAt now x) c

/-! ### Drive -/

/-- What T0 + 20 µs does (R95, R271). -/
def beginDrive (c : Chip) : Chip :=
  let c := modStroke { c with work := c.img } fun k => { k with phase := .drive }
  let c := driveStart (driveStart c .safety) .process
  let c := forN 3 (fetchFirst .process) (fetchFirst .safety 0 c)
  if c.mode.mode = .run && c.crewP.run == .halted then enterMode c .hold 15 else c

/-- DRIVE_START, T0 + 20 µs (R90, R95, R271). -/
def strokeDrive (c : Chip) : Chip :=
  if !c.mode.mode.strokes || c.stroke.phase ≠ .catch_ then c
  else atTime (c.stroke.t0 + 20000) beginDrive c

/-! ### Finish -/

/-- The crew takes part in this TF: it runs a drive (R97, R184). -/
def inDrive (c : Chip) (cr : Crew) : Bool :=
  let k := crewSt c cr
  c.mode.mode.runs && k.run == .running && k.caught && !(ctlSt c cr).resume

/-- The crew has not ended drive at TF (R112, R162). -/
def overran (c : Chip) (cr : Crew) : Bool := inDrive c cr && !driveEnded (crewSt c cr)

/-- The crew stands at an execution fault (R162). -/
def atFault (c : Chip) (cr : Crew) : Bool := inDrive c cr && (crewSt c cr).cores.any (·.faulted)

/-- The crew commits at this TF unless it trips. -/
def endedDrive (c : Chip) (cr : Crew) : Bool := inDrive c cr && driveEnded (crewSt c cr)

/-- A crew's use of this stroke (R119): none of one whose END retired before this T0. -/
def useOf (c : Chip) (cr : Crew) : Nat :=
  if !inDrive c cr || (crewSt c cr).carried then 0
  else if overran c cr then min 0xFFFF (budgetNs c / 2000)
  else useUnits (crewClocks (crewSt c cr))

def recordUse (f : LoadFig) (n : Nat) : LoadFig := ⟨max f.peak n, n⟩

/-- The use of both crews is recorded (R119, R120). -/
def recordLoads (c : Chip) : Chip :=
  loadHigh (modStroke c fun k => { k with
    loadSafety := recordUse k.loadSafety (useOf c .safety)
    loadProcess := recordUse k.loadProcess (useOf c .process) })

/-- The watchdog trips at this TF (R113, R114, R116, R162). -/
def trips (c : Chip) : Bool :=
  overran c .safety || atFault c .process
    || (overran c .process && (!bitOf c.stroke.active 12 || decide (2 ≤ c.stroke.skipRun)))

/-- OVERRUN_STAT counts one overrun, of one crew or both (R127). -/
def countOverrun (c : Chip) : Chip :=
  if !(overran c .safety || overran c .process) then c
  else modStroke c fun k => { k with
    overruns := satInc 0xFFFF k.overruns
    crews := BitVec.ofNat 2 (b2n (overran c .safety) + 2 * b2n (overran c .process)) }

/-- The watchdog's action at TF (R113). -/
def trip (c : Chip) : Chip :=
  let c := stopCrews c
  raise (modStroke c fun k => { k with safeLatch := true, safeLatchS := true, haltAtStrobe := true }) 2 0

/-- The record of the overrun, at the strobe (R113). -/
def overrunRecord (c : Chip) : Chip :=
  emit c 2 0x01 0xFFFF (overrunStat c) (loadWord c.stroke.loadSafety) (loadWord c.stroke.loadProcess) c.stroke.count

/-- A TF without a trip: crews that ended drive commit, a process crew that has not skips (R102, R104,
R115, R116). -/
def commitOrSkip (c : Chip) : Chip :=
  let s := endedDrive c .safety
  let p := endedDrive c .process
  let skip := overran c .process
  let safe := safeMode c
  let c := if s then crewCommit c .safety else c
  let c := if p then crewCommit c .process else c
  let c := modStroke c fun k => { k with
    safeLatch := safe || (k.safeLatch && !p), safeLatchS := safe || (k.safeLatchS && !s)
    skipRun := if p then 0 else if skip then k.skipRun + 1 else k.skipRun }
  if skip then raise c 2 1 else c

/-- A loop as it stands after its last completed sample (R278). -/
def snapLoop (s : LoopSt) : LoopSnap :=
  ⟨s.secs, s.integ, s.u, s.mode, s.digOn, s.stale, s.measBad, s.held, s.wasSafe⟩

/-- A lane's last arrival with its age at TF, in µs; LANE_C.AGE saturates so too (R327). -/
def snapLane (tf : Nat) (n : LaneSt) : Option LaneSnap :=
  n.newest.map fun a => ⟨a.u, a.c, a.off, a.held, n.timedOut, min 0xFFFF (((tf : Int) - a.at_) / 1000).toNat⟩

/-- A heat after its last decision (R313). -/
def snapHeat (tf : Nat) (s : HeatSt) : HeatSnap :=
  ⟨s.mode, s.warm, s.arrived, s.leader, s.out, s.lanes.map (snapLane tf)⟩

/-- Each engine's and heat's state goes to the snapshot (R278, R313); a standby keeps what checkpoints
brought. -/
def snapshot (c : Chip) : Chip :=
  if c.mode.mode = .standby || c.mode.mode = .takeover then c
  else modMirror c fun m => { m with
    loopSnap := (allLoops c).map fun (e, b) => (e * 64 + b.com.no, snapLoop (loopSt c e b.com.no))
    heatSnap := (allHeats c).map fun b => (b.no, snapHeat (tfTime c) (heat c b.no)) }

/-- Where safe values are committed, loops and heats with IMAGE sinks show their SAFE (R277, R312). -/
def safeImages (c : Chip) : Chip :=
  if c.mode.mode = .standby || c.mode.mode = .takeover then c
  else
    let c := forN 10 (fun e c =>
      if loopsSafe c || !working c (engPage e) then loopSafeImages c e else c) c
    if loopsSafe c || !working c 0x18 then heatSafeImages c else c

/-- What TF does (R102 to R105, R112 to R119). -/
def finishWork (c : Chip) : Chip :=
  let s := endedDrive c .safety
  let p := endedDrive c .process
  let halts := trips c
  let c := countOverrun (recordLoads c)
  let c := if halts then trip c else commitOrSkip c
  let c := evaluateGroups c
  let safe := safeMode c || halts
  let c := if drives c && (safe || s) then zwSend c safe else c
  let c := snapshot (safeImages (heatStatusWords c))
  let c := if safe || s || p then sendOutput c (finishStates c) else c
  let c := finishSerial (finishCan (finishIslands (finishLinks c)) (p && !halts))
  modStroke (latchLines c) fun k => { k with phase := .finish }

/-- FINISH, TF (R102 to R105, R112 to R119). -/
def strokeFinish (c : Chip) : Chip :=
  if !c.mode.mode.strokes || c.stroke.phase ≠ .drive then c else atTime (tfTime c) finishWork c

/-- What TF + 30 µs does (R102, R113); recovery begins with the capture (R105). -/
def strobeWork (c : Chip) : Chip :=
  let c := if c.stroke.haltAtStrobe then overrunRecord (strobeIslands (safeImages c)) else c
  let c := captureBegins (strobeSerial (strobeCan (strobeOutputs (outputStrobed c))))
  let c := if c.stroke.haltAtStrobe && c.mode.mode.runs then enterMode c .safeHalt 20 else c
  modStroke c fun k => { k with phase := .recovery, capturing := true, haltAtStrobe := false }

/-- OUTPUT_STROBE, TF + 30 µs (R102, R113). -/
def outputStrobe (c : Chip) : Chip :=
  if !c.mode.mode.strokes || c.stroke.phase ≠ .finish then c else atTime (tfTime c + 30000) strobeWork c

/-! ### Recovery -/

/-- CAPTURE_END (R105, R192, R225, R239, R402): `hits` are correctable words of the crews' memories, of which the
scrub corrects those that it covers in this recovery. -/
def captureEnd (c : Chip) (hits : List (Crew × EccHit)) : Chip :=
  if !c.stroke.capturing then c
  else
    let c := modStroke c fun k => { k with capturing := false }
    let c := streamCheckpoint (cleanCapture (cleanCapture c .safety) .process)
    let c := journalTunes (captureTrims (captureTrims c .safety) .process)
    scrub (attnCheck c) hits

/-- ATTN_CHECK_IDLE: every 2 ms while no stroke runs (R83, R573, R586). -/
def attnIdle (c : Chip) : Chip :=
  if c.mode.mode.strokes || c.mode.mode == .reset || c.mode.mode == .boot then c
  else sessionStroke (attnCheck c)

end Sys2Proof.Machine
end

