-- ==== Sys2Proof/Machine/ModeCmd.lean ====
section
/-!
DEFINITION. The mode commands (R30, R33 to R35) and the other steps that change the mode: what refuses
each, and what it does.
-/
namespace Sys2Proof.Machine

/-! ### The check of the configuration (R35, R731) -/

/-- CONFIG_BAD as the last check leaves it. -/
def configCond (c : Chip) (bad : Bool) : Chip := setCond c 4 0 bad

/-- The CONFIG rows of R30, of a configuration found consistent. -/
def configRows (c : Chip) : Chip :=
  if paired c then enterMode c .standby 9
  else if bitOf (cfg c 0x79 0x058) 31 then enterMode c .run 7
  else enterMode c .stop 8

/-- The check of R35: CONFIG_BAD, the bounds of R520 with any outcome, and on success the rows. -/
def checkConfig (c : Chip) (commits : Bool) : Chip :=
  let bad := configBad c
  let c := setBounds (configCond c bad)
  if bad then c else configRows (if commits then storeSettings c else c)

/-! ### Conditions -/

/-- Every PLL is in lock (R22). -/
def pllLocked (c : Chip) : Bool := c.boat.locked == 0x1F

/-- The cause of a SAFE_HALT has gone (R22, R30, R235). A cause that is an event, such as an overrun, has gone as soon
as it is over (DESIGN CHOICE, log entry 71). -/
def haltGone (c : Chip) : Bool :=
  !c.coxSafety.faulty && !c.coxProcess.faulty && pllLocked c

/-- The REASON for which ACTIVATE is refused (R672). -/
def activateReason (c : Chip) : Option Nat :=
  let s := cfg c 0x79 0x058
  let uwBit := bitOf s 30 && readBit (coreAt c.crewP 0).mem (fld s 15 0)
  if c.upd.state ≠ 3 then some 1
  else if c.underway then some 2
  else if uwBit then some 3
  else if cellLow c then some 4
  else if c.ident.ownerLock then some 5
  else if seatRole c = 1 && partnerSeen c then some 6
  else none

/-- The modes in which a mode command is legal (R33); none for a code that is no command. -/
def cmdModes : Nat → Option (List Mode)
  | 0x01 => some [.stop]
  | 0x02 => some [.run, .hold, .standby]
  | 0x03 => some [.stop]
  | 0x04 => some [.config]
  | 0x05 => some [.hold]
  | 0x06 => some [.hold]
  | 0x07 => some [.safeHalt]
  | 0x08 => some [.stop]
  | 0x09 => some [.dormant]
  | 0x0A => some [.stop, .standby]
  | 0x0B => some [.run, .hold]
  | _ => none

/-- The condition that a mode command meets in R30 and elsewhere. -/
def cmdCondition (c : Chip) (cmd : Nat) : Bool :=
  match cmd with
  | 0x01 => !(paired c && ((!c.seat.holds && exhausted c) || leaseNow c))
  | 0x02 => !(c.mode.mode.runs && paired c && c.seat.holds && standsBy c)
  | 0x07 => haltGone c
  | 0x08 => !c.underway
  | 0x09 => pllLocked c
  | 0x0A => (activateReason c).isNone
  | 0x0B => paired c && c.seat.holds && partnerReady c
  | _ => true

/-- The refusal code of a MODE_CMD value (R33, R34, R61), its reserved bits apart. -/
def modeCmdRefusal (c : Chip) (cmd : Nat) : Option Nat :=
  match cmdModes cmd with
  | none => some 0x09
  | some ms =>
    if !ms.contains c.mode.mode then some 0x0A
    else if cmdCondition c cmd then none
    else some 0x0B

/-! ### Effects -/

/-- The halted process crew goes on at the next catch (R185); `step` halts it again after the next commit
(R186). RUNSTATE reads running from the command on, though the crew moves only at that catch (DESIGN CHOICE, log
entry 96). -/
def resumeProcess (c : Chip) (step : Bool) : Chip :=
  let c := modCox c .process fun k => { k with inHold := k.inHold && step }
  let halted := c.crewP.run == .halted
  let c := if halted then modCrew c .process fun k => { k with run := .running } else c
  let c := modCtl c .process fun t => { t with
    step := step, haltNext := false, resume := t.resume || halted, resumed := t.resumed || halted }
  haltCond c .process

/-- An ACTIVATE that R672 refuses leaves its reason, the cause and the record (R683, R684). -/
def activateRefused (c : Chip) (reason : Nat) : Chip :=
  raise { c with upd := { c.upd with refusal := reason } } 0x79 3

/-- An accepted mode command (R30, R33). -/
def modeCmdRun (c : Chip) (cmd : Nat) : Chip :=
  let c := { c with mode := { c.mode with cmd := BitVec.ofNat 8 cmd } }
  match cmd with
  | 0x01 => enterMode c .run 11
  | 0x02 => enterMode c .stop (if c.mode.mode = .standby then 26 else 16)
  | 0x03 => enterMode c .config 12
  | 0x04 => checkConfig c true
  | 0x05 => enterMode (resumeProcess c false) .run 22
  | 0x06 => resumeProcess c true
  | 0x07 => enterMode c .stop 30
  | 0x08 => enterMode c .dormant 13
  | 0x09 => enterMode c .stop 33
  | 0x0A => { c with upd := { c.upd with activateDue := true } }
  | 0x0B => beginHandover c none
  | _ => c

/-! ### PLLs (R22) -/

/-- A PLL loses lock: its bit, the cause and its record; SAFE_HALT where R22 says so. In RESET no PLL is in lock yet,
and the Boathouse is held (R613). -/
def pllUnlock (c : Chip) (n : Nat) : Chip :=
  if 5 ≤ n || c.mode.mode == .reset || !c.boat.locked.getLsbD n then c
  else
    let c := modBoat c fun b => { b with locked := b.locked &&& ~~~(1#5 <<< n) }
    let c := emit (raise c 0x7A 0) 0x7A 0xF2 n (readBoat c 0x170) (modeStat c) 0 c.stroke.count
    match c.mode.mode with
    | .config | .stop | .run | .hold | .standby | .takeover => haltOrHandover c 34
    | .activate => enterMode c .safeHalt 35
    | _ => c

/-- A PLL regains lock. -/
def pllLock (c : Chip) (n : Nat) : Chip :=
  if 5 ≤ n || c.mode.mode == .reset then c
  else modBoat c fun b => { b with locked := b.locked ||| (1#5 <<< n) }

/-! ### The underway input (R188) -/

/-- Every enabled breakpoint is disabled. -/
def disarmBps (bps : SMap Word) : SMap Word :=
  bps.filterMap fun e =>
    let w := setBit e.2 31 false
    if w = 0 then none else some (e.1, w)

/-- The filtered underway input changes: setting it disables every breakpoint. -/
def underwayInput (c : Chip) (v : Bool) : Chip :=
  let c := { c with underway := v }
  if v then modCtl c .process fun t => { t with bps := disarmBps t.bps } else c

end Sys2Proof.Machine
end

