-- ==== Sys2Proof/Machine/Identity.lean ====
section
/-!
DEFINITION. Page 0x7C (R634 to R643): the owner certificate, the owner lock and attestation.
-/
namespace Sys2Proof.Machine

def modIdent (c : Chip) (f : IdSt → IdSt) : Chip := { c with ident := f c.ident }

/-- HW_REV (R642). -/
def hwRev : Nat := 0x41

/-- Word `i` of a byte string, zeros beyond its end. -/
def wordAt (bs : List Byte) (i : Nat) : Word := BitVec.ofNat 32 (leAt bs (4 * i) 4)

/-- Word `i` of OWN_WIN: as written, or of the enrolled certificate (R638). -/
def ownWord (c : Chip) (i : Nat) : Word :=
  (smFind c.ident.window i).getD (wordAt (c.ident.ownerCert.getD []) i)

/-- The first `len` bytes of OWN_WIN. -/
def ownBytes (c : Chip) (len : Nat) : List Byte :=
  ((List.range 256).flatMap fun i => leBytes 4 (ownWord c i).toNat).take len

/-- Report bytes 0x68 to 0x77: the owner certificate's digest (R639). -/
def ownerDigest (c : Chip) : List Byte :=
  match c.ident.ownerCert with
  | some cert => (sha256 cert).take 16
  | none => List.replicate 16 0

/-! ### Owner commands (R638) -/

/-- The refusal code of an OWN_CMD value, its reserved bits apart. A command that is still running refuses
another. -/
def ownRefusal (c : Chip) (v : Word) : Option Nat :=
  let cmd := fld v 31 24
  let len := fld v 10 0
  if !(if cmd = 1 then 1 ≤ len && len ≤ 1024 else 2 ≤ cmd && cmd ≤ 4 && len == 0) then some 0x09
  else if !(c.mode.mode == .config || c.mode.mode == .stop) then some 0x0A
  else if c.ident.busy.isSome || (cmd == 1 && c.ident.ownerLock) then some 0x0B
  else none

/-- An accepted owner command runs. -/
def ownStart (c : Chip) (v : Word) : Chip :=
  modIdent c fun i => { i with busy := some (fld v 31 24, fld v 10 0) }

/-- What an owner command does, with its result. -/
def ownResult (c : Chip) (cmd len : Nat) : Nat × Chip :=
  match cmd with
  | 1 =>
    let bs := ownBytes c len
    if !certWellFormed bs then (3, c)
    else if !certKeyP384 bs then (4, c)
    else (1, modIdent c fun i => { i with ownerCert := some bs })
  | 2 => (2, modIdent c fun i => { i with ownerCert := none })
  | 3 => (5, modIdent c fun i => { i with ownerLock := true })
  | _ => (6, modIdent c fun i => { i with ownerLock := false })

/-- OWNER_CHANGE: the command ends (R638, R643). -/
def ownerChange (c : Chip) : Chip :=
  match c.ident.busy with
  | none => c
  | some (cmd, len) =>
    let (r, c) := ownResult c cmd len
    let c := modIdent c fun i => { i with busy := none, result := r, window := [] }
    let c := if r = 3 || r = 4 then c else raise c 0x7C 1
    emit c 0x7C 0xF8 cmd (BitVec.ofNat 32 r) (BitVec.ofNat 32 len) (wordAt (ownerDigest c) 0) c.stroke.count

/-! ### Attestation (R639) -/

/-- PRG_ID of a crew. -/
def prgId (k : CrewSt) : Word :=
  match k.prog with
  | some p => p.id
  | none => 0

/-- The report at module time `t`. -/
def attReport (c : Chip) (t : Nat) : List Byte :=
  let flags := b2n c.ident.ownerLock + 2 * b2n c.ident.ownerCert.isSome + 4 * b2n (c.stroke.sync == .locked)
  leBytes 4 0x54413147 ++ leBytes 2 1 ++ leBytes 2 0 ++ leBytes 4 Config.serial.toNat
    ++ ((List.range 4).flatMap fun n => leBytes 4 (cfg c 0x7C (0x060 + 4 * n)).toNat)
    ++ leBytes 8 t ++ leBytes 4 c.stroke.count.toNat ++ leBytes 4 c.backup.epoch.toNat
    ++ [BitVec.ofNat 8 c.mode.mode.code, BitVec.ofNat 8 (seatRole c), BitVec.ofNat 8 flags, 0]
    ++ leBytes 2 c.upd.running.build ++ [BitVec.ofNat 8 socRev, BitVec.ofNat 8 hwRev]
    ++ leBytes 4 c.rst.plugId.toNat ++ leBytes 4 (currentDigest c).toNat
    ++ leBytes 4 (prgId c.crewS).toNat ++ leBytes 4 (prgId c.crewP).toNat ++ leBytes 4 (shownSig c).toNat
    ++ c.upd.running.digest.take 32 ++ ownerDigest c ++ leBytes 8 0

/-- REQUEST is accepted: the snapshot of this instant, for a writer of class `cls`. -/
def attRequest (c : Chip) (cls : Nat) : Chip :=
  let (t, c) := freshTime c
  modIdent c fun i => { i with attPending := true, attClass := cls, report := attReport c t }

/-- ATTESTED: the attestation ends (R639, R643). -/
def attested (c : Chip) : Chip :=
  if !c.ident.attPending then c
  else
    let bad := c.ident.keyFault
    let c := modIdent c fun i => { i with
      attPending := false, attResult := if bad then 2 else 1
      sig := if bad then i.sig else keySign (sha256 i.report) }
    emit (raise c 0x7C 0) 0x7C 0xF9 0xFFFF (BitVec.ofNat 32 c.ident.attResult) (wordAt c.ident.report 3)
      (BitVec.ofNat 32 c.ident.attClass) c.stroke.count

/-! ### Reads (R642) -/

/-- The read-only registers of page 0x7C, and OWN_WIN. -/
def readIdent (c : Chip) (off : Nat) : Word :=
  let i := c.ident
  if 0x100 ≤ off && off < 0x180 then wordAt i.report ((off - 0x100) / 4)
  else if 0x180 ≤ off && off < 0x1C0 then wordAt i.sig ((off - 0x180) / 4)
  else if 0x400 ≤ off && off < 0x800 then ownWord c ((off - 0x400) / 4)
  else if 0x800 ≤ off && off < 0xC00 then wordAt deviceCert ((off - 0x800) / 4)
  else match off with
    | 0x040 => Config.serial
    | 0x044 => pack [(hwRev, 31, 24), (deviceCert.length, 10, 0)]
    | 0x048 => pack [(b2n i.ownerLock, 31, 31), (b2n i.ownerCert.isSome, 30, 30), (b2n i.busy.isSome, 29, 29),
        (i.result, 18, 11), ((i.ownerCert.getD []).length, 10, 0)]
    | 0x054 => BitVec.ofNat 32 (if i.attPending then 0xFF else i.attResult)
    | _ => 0

end Sys2Proof.Machine
end

