-- ==== Sys2Proof/Machine/Panel.lean ====
section
/-!
DEFINITION. The front panel (chapter 20): the wanted picture, updates and their drive phases, commands, the
crack loop.
-/
namespace Sys2Proof.Machine

def modPanel (c : Chip) (f : PnlSt → PnlSt) : Chip := { c with panel := f c.panel }

/-! ### The wanted picture (R686 to R689) -/

/-- One character, with its decimal point in bit 7 (R686). -/
def cell (ch : Char) (dp : Bool) : BitVec 8 := (Config.glyph ch).setWidth 8 ||| (if dp then 0x80#8 else 0#8)

/-- A line of at most five characters, left-aligned: character j on segment lines 8j to 8j + 7. -/
def lineBits : List (BitVec 8) → BitVec 40
  | [] => 0
  | x :: xs => x.setWidth 40 ||| (lineBits xs <<< 8)

/-- Plain text. -/
def cells (s : String) : List (BitVec 8) := (s.toList.map fun ch => cell ch false).take 5

/-- One hexadecimal digit. -/
def hexChar (n : Nat) : Char := Nat.digitChar (n % 16)

/-- UNADDRESSED or BOOT FAIL. -/
def noAddress (c : Chip) : Bool := c.mode.mode == .unaddressed || c.rst.bootFail

def line0 (c : Chip) : List (BitVec 8) :=
  if noAddress c then cells "----"
  else cells (toString (station c) ++ (if sideB c then "b" else "A"))

def line1 (c : Chip) : List (BitVec 8) :=
  cells (match c.mode.mode with
    | .reset | .boot => "boot" | .unaddressed => "UnAdr" | .config => "ConF" | .stop => "StoP"
    | .run => "run" | .hold => "HoLd" | .standby => "Stby" | .takeover => "tovEr" | .safeHalt => "SAFE"
    | .activate => "Act" | .dormant => "dor")

def line2 (c : Chip) : List (BitVec 8) :=
  cells (if noAddress c then "----"
    else if !paired c then "SoLo"
    else if c.mode.mode = .takeover then "tovEr"
    else if c.seat.holds then "SEAt"
    else if c.mode.mode = .standby then (if ready c then "rdy" else "nrdy")
    else "PAIr")

/-- The last fault's bit is set now (R688). -/
def faultSet (c : Chip) : Bool :=
  match c.backup.lastFault with
  | some (p, b) => bitOf (hdr c p).cause b
  | none => false

def line3 (c : Chip) : List (BitVec 8) :=
  match c.backup.lastFault with
  | none => []
  | some (p, b) =>
    [cell (hexChar (p / 16)) false, cell (hexChar p) true, cell (hexChar (b / 10)) false,
      cell (hexChar (b % 10)) false] ++ (if faultSet c then [cell 'c' false] else [])

/-- A main common: its segments and their level; dark at level 0. -/
def common (xs : List (BitVec 8)) (level : Nat) : BitVec 40 × Nat :=
  let b := lineBits xs
  if b = 0 then (0, 0) else (b, level)

/-- The flags of a common (R689): red, then green. -/
def redFlags (c : Chip) : BitVec 8 :=
  BitVec.ofNat 8 (packBits [c.mode.mode == .safeHalt, c.backup.lockout != 0,
    c.coxSafety.faulty || c.coxProcess.faulty, c.rst.bootFail, !suppliesOk c || condAny c 4, condAny c 2,
    c.backup.buttonStuck, c.panel.crack])

def greenFlags (c : Chip) : BitVec 8 :=
  let links := fun net => (lan c net 0).up && (lan c net 1).up
  let rdy := if c.seat.holds then partnerReady c else c.mode.mode == .standby && ready c
  BitVec.ofNat 8 (packBits [c.mode.mode == .run, seatRole c == 1, rdy, c.stroke.sync == .locked, links 0,
    links 1, c.underway, c.mode.mode == .dormant])

/-- The picture that the panel should show. -/
def wantedPicture (c : Chip) : Picture :=
  { main := smWrites (0, 0) [] [(0, common (line0 c) 3), (1, common (line1 c) 3), (2, common (line2 c) 3),
      (3, common (line3 c) (if faultSet c then 3 else 1))]
    flags := smWrites 0 [] [(0, redFlags c), (1, greenFlags c)] }

/-- Every segment at level 3 (R699). -/
def allLit : Picture :=
  { main := (List.range 4).map fun k => (k, (BitVec.allOnes 40, 3))
    flags := (List.range 2).map fun k => (k, BitVec.allOnes 8) }

/-! ### Commons and phases (R690, R693, R696) -/

/-- Common `k` of a picture equals that of another: 0, 1 flag commons, 2 to 5 main commons. -/
def sameCommon (a b : Picture) (k : Nat) : Bool :=
  if k < 2 then smGet 0 a.flags k == smGet 0 b.flags k
  else smGet (0, 0) a.main (k - 2) == smGet (0, 0) b.main (k - 2)

/-- `a` with common `k` as `b` has it. -/
def copyCommon (a b : Picture) (k : Nat) : Picture :=
  if k < 2 then { a with flags := smSet 0 a.flags k (smGet 0 b.flags k) }
  else { a with main := smSet (0, 0) a.main (k - 2) (smGet (0, 0) b.main (k - 2)) }

/-- D in ms (R694). -/
def phaseTime : Nat → Nat
  | 0 => 200 | 1 => 80 | 2 => 40 | 3 => 25 | 4 => 20 | _ => 15

/-- An update starts: the band is latched and the marker set (R691, R695). -/
def startPhases (c : Chip) (u : PnlUpdate) : Chip :=
  let c := modBackup c fun b => { b with marker := true }
  modPanel c fun p => { p with update := some u, latched := p.band }

/-- An update from the shadow to a picture; nothing where they agree. -/
def startUpdate (c : Chip) (w : Picture) (test : Bool) : Chip :=
  let changed := (List.range 6).filter fun k => !sameCommon c.panel.shadow w k
  if changed = [] then (if test then modPanel c fun p => { p with testing := true } else c)
  else startPhases c ⟨none, changed.map fun k => (k, false), w, test⟩

/-- A clearing sequence starts (R696). -/
def startClearing (c : Chip) (reason : Nat) : Chip :=
  startPhases c ⟨some reason, (List.range 6).map (fun k => (k, true)) ++ (List.range 6).map (fun k => (k, false)),
    wantedPicture c, false⟩

/-- A waiting command starts once no update runs and no test stands, and after a first update that clears (R697). -/
def startWaiting (c : Chip) : Chip :=
  if c.panel.update.isSome || c.panel.testing || c.panel.first.any (·.isSome) then c
  else match c.panel.waiting with
    | some 1 => startClearing (modPanel c fun p => { p with waiting := none }) 3
    | some _ => startUpdate (modPanel c fun p => { p with waiting := none }) allLit true
    | none => c

/-- The panel is served in this mode (R690). -/
def panelServes (c : Chip) : Bool :=
  (c.mode.mode != .reset && c.mode.mode != .boot || c.rst.bootFail)

/-- PANEL_CHECK, every 100 ms (R690, R697). -/
def panelCheck (c : Chip) : Chip :=
  if !panelServes c || c.panel.update.isSome || c.panel.testing || !(enabled c 0x7B || c.rst.bootFail) then c
  else match c.panel.first with
    | some (some reason) => startClearing (modPanel c fun p => { p with first := none }) reason
    | _ => startUpdate (modPanel c fun p => { p with first := none }) (wantedPicture c) false

/-- The glass after a phase of an update. -/
def phaseShown (g : Picture) (u : PnlUpdate) (k : Nat) (clear : Bool) : Picture :=
  copyCommon g (if clear then Picture.dark else u.wanted) k

/-- An update has ended (R691, R696, R700). -/
def updateDone (c : Chip) (u : PnlUpdate) : Chip :=
  let c := modPanel c fun p => { p with
    update := none, shadow := u.wanted, shadowOk := true, updates := p.updates + 1, testing := u.test }
  let c := modBackup c fun b => { b with marker := false }
  let c := match u.clearing with
    | some r => emit (raise c 0x7B 1) 0x7B 0x20 r (BitVec.ofNat 32 c.panel.latched)
        (BitVec.ofNat 32 (phaseTime c.panel.latched)) 0 c.stroke.count
    | none => c
  startWaiting c

/-- PANEL_PHASE_END (R693, R696). -/
def panelPhaseEnd (c : Chip) : Chip :=
  match c.panel.update with
  | none => c
  | some u =>
    match u.phases with
    | [] => updateDone c u
    | (k, clear) :: rest =>
      let c := modPanel c fun p => { p with glass := phaseShown p.glass u k clear }
      match rest with
      | [] => updateDone c u
      | (k', clear') :: _ =>
        let w := if u.clearing.isSome && !clear' then copyCommon u.wanted (wantedPicture c) k' else u.wanted
        modPanel c fun p => { p with update := some { u with phases := rest, wanted := w } }

/-- A reset: the phase in progress still runs to its end (R692). -/
def panelHold (c : Chip) : Picture :=
  match c.panel.update with
  | some u =>
    match u.phases with
    | (k, clear) :: _ => phaseShown c.panel.glass u k clear
    | [] => c.panel.glass
  | none => c.panel.glass

/-! ### Commands (R697, R699) -/

/-- PNL_CMD is accepted: 1 REFRESH, 2 TEST. -/
def panelCommand (c : Chip) (cmd : Nat) : Chip :=
  startWaiting (modPanel c fun p => { p with cmd := BitVec.ofNat 32 cmd, waiting := some cmd })

/-- PNL_TEST_END: the test's 5 s are over. -/
def panelTestEnd (c : Chip) : Chip :=
  if !c.panel.testing || c.panel.update.isSome then c
  else startClearing (modPanel c fun p => { p with testing := false }) 4

/-! ### The crack loop (R698, R700) -/

/-- CRACK: a reading of `ohms`, 0xFFFF when open. -/
def crackMeasure (c : Chip) (ohms : Nat) : Chip :=
  if !panelServes c then c
  else
    let old := c.panel.crack
    let good := if 200 < ohms then 0 else c.panel.crackGood + 1
    let new := decide (200 < ohms) || (old && decide (good < 2))
    let c := modPanel c fun p => { p with ohms := min ohms 0xFFFF, crackGood := good, crack := new }
    let c := setCond c 0x7B 0 new
    if old = new then c
    else emit c 0x7B 0x21 (b2n new) (BitVec.ofNat 32 (min ohms 0xFFFF)) 0 0 c.stroke.count

/-! ### Reads (R699) -/

/-- The read-only registers of page 0x7B. -/
def readPanel (c : Chip) (off : Nat) : Word :=
  let p := c.panel
  let d := c.upd.running.digest
  if 0x100 ≤ off && off < 0x120 then
    let m := smGet (0, 0) p.shadow.main ((off - 0x100) / 8)
    if off % 8 = 0 then m.1.setWidth 32
    else pack [(m.2, 9, 8), (m.1.toNat / 2 ^ 32, 7, 0)]
  else if 0x200 ≤ off && off < 0x380 then
    let i := off - 0x200
    Config.overdrive d (i / 64) (i % 64 / 16) (i % 16 / 4) &&& 0x3FFF#32
  else if 0x380 ≤ off && off < 0x398 then Config.clearRow d ((off - 0x380) / 4) &&& 0x3FFF#32
  else match off with
    | 0x040 => pack [(b2n p.update.isSome, 31, 31),
        (b2n (match p.update with | some u => u.clearing.isSome | none => false), 30, 30),
        (b2n p.crack, 29, 29), (b2n (bitOf (hdr c 0x7B).raw 2), 28, 28), (p.latched, 18, 16),
        (p.updates.toNat, 15, 0)]
    | 0x048 => BitVec.ofNat 32 p.ohms
    | 0x04C => pack [((smGet 0 p.shadow.flags 1).toNat, 15, 8), ((smGet 0 p.shadow.flags 0).toNat, 7, 0)]
    | _ => 0

end Sys2Proof.Machine
end

