-- ==== Sys2Proof/Machine/Update.lean ====
section
/-!
DEFINITION. Firmware update (R661 to R675, R683, R684): staging into the slot that does not run,
verification, activation, and the fall back to the previous image.
-/
namespace Sys2Proof.Machine

def modUpd (c : Chip) (f : UpdSt → UpdSt) : Chip := { c with upd := f c.upd }
/-- The boot record is written over its older copy, which so becomes the newer under the next sequence count (R664). A
write that does not read back good, and so does not count, shows at the next BOOT, which then takes the other copy (log
entry 81). -/
def modBoot (c : Chip) (f : BootRec → BootRec) : Chip :=
  modUpd c fun u => { u with boot := { f u.boot with count := u.boot.count + 1 }, bootOld := u.boot }
def slotOf (c : Chip) (s : Nat) : Slot := smGet Slot.empty c.upd.slots s
def slotValid (c : Chip) (s : Nat) : Bool := c.upd.boot.valid.getLsbD s

/-- The VALID bit of a slot. -/
def setValid (c : Chip) (s : Nat) (v : Bool) : Chip :=
  modBoot c fun b => { b with
    valid := if v then b.valid ||| (1#2 <<< s) else b.valid &&& ~~~(1#2 <<< s) }

/-- The recovery image runs (R667). -/
def recoveryRuns (c : Chip) : Bool := c.upd.running.slot == 2

/-- The target slot: the one that is not ACTIVE; the recovery image stages into slot A (R667, R668). -/
def targetSlot (c : Chip) : Nat := if recoveryRuns c then 0 else 1 - c.upd.boot.active

/-! ### Images (R661, R662) -/

def headCount (h : List Byte) : Nat := leAt h 0x10 2
def headBuild (h : List Byte) : Nat := leAt h 0x08 2
def headFormat (h : List Byte) : Nat := leAt h 0x0A 2
def headCkpt (h : List Byte) : Nat := leAt h 0x0E 2

/-- MAGIC, FORMAT, HEADER_CRC, BLOCK_COUNT and IMAGE_LENGTH of a head (R669). -/
def headFits (h : List Byte) : Bool :=
  h.length == 65536 && leAt h 0 4 == 0x55503147 && leAt h 4 2 == 1
    && leAt h 0xFC 4 == (crc32c (h.take 0xFC)).toNat
    && 1 ≤ headCount h && headCount h ≤ 511 && leAt h 0x14 4 == 65536 * (1 + headCount h)

/-- The reserved bytes and the padding of a head are 0. -/
def headZeros (h : List Byte) : Bool :=
  zerosAt h 0x12 2 && zerosAt h 0x20 220 && zerosAt h 0xFFC0 64
    && zerosAt h (0x100 + 64 * headCount h) (0xFF00 - (0x100 + 64 * headCount h))
    && (List.range (headCount h)).all fun b => zerosAt h (0x100 + 64 * b + 52) 12

/-- A head meets R661. -/
def headOk (h : List Byte) : Bool := headFits h && headZeros h

/-- The bytes that the signatures cover, as their digest. -/
def headDigest (h : List Byte) : List Byte := sha384 (h.take (0x100 + 64 * headCount h))

/-- The block entry of block `b`, from 1: its SHA-384 and its CRC-32C. -/
def entryHash (h : List Byte) (b : Nat) : List Byte := slice h (0x100 + 64 * (b - 1)) 48
def entryCrc (h : List Byte) (b : Nat) : Nat := leAt h (0x100 + 64 * (b - 1) + 48) 4

/-- VENDOR_SIG verifies. -/
def vendorOk (h : List Byte) : Bool := vendorVerifies (headDigest h) (slice h 0xFF00 96)

/-- No owner certificate is enrolled, or OWNER_SIG verifies with it. -/
def ownerOk (c : Chip) (h : List Byte) : Bool :=
  match c.ident.ownerCert with
  | none => true
  | some cert => ownerVerifies cert (headDigest h) (slice h 0xFF60 96)

/-- The first block of a slot whose SHA-384 differs from its entry. -/
def badBlock (s : Slot) : Option Nat :=
  ((List.range (headCount s.head)).map (· + 1)).find? fun b =>
    sha384 (smGet [] s.blocks b) != entryHash s.head b

/-- A slot passes the checks of R665. -/
def slotPasses (c : Chip) (n : Nat) : Bool :=
  let s := slotOf c n
  slotValid c n && headOk s.head && vendorOk s.head && (badBlock s).isNone

/-- The running image of a slot's head. -/
def runningOf (n : Nat) (h : List Byte) : Running :=
  ⟨n, headBuild h, headFormat h, leAt h 0x0C 2, headCkpt h, headDigest h⟩

/-- The recovery image (R663). -/
def recoveryImage : Running :=
  ⟨2, Config.recoveryBuild, Config.recoveryFormat, Config.recoveryMinFormat, Config.recoveryCkpt,
    beBytes 48 Config.recoveryDigest.toNat⟩

/-! ### Staging (R667 to R669) -/

/-- A STAGE_OPEN of an UPDATE is accepted (R668). -/
def updOpen (c : Chip) (length : Nat) : Chip :=
  let t := targetSlot c
  modUpd (setValid c t false) fun u => { u with
    state := 1, result := 0, block := 0, target := t, head := [], queue := [], length := length }

/-- STAGE_CLOSE has accepted the image (R670). -/
def updClosed (c : Chip) : Chip := modUpd c fun u => { u with state := 2 }

/-- STAGE_DONE and its record (R684). -/
def stageDone (c : Chip) : Chip :=
  emit (raise c 0x79 0) 0x79 0x10 c.upd.target (BitVec.ofNat 32 c.upd.result)
    (BitVec.ofNat 32 c.upd.block) (BitVec.ofNat 32 (headBuild c.upd.head)) c.stroke.count

/-- The staging of page 0x79 ends with its session, or with a STAGE_CLOSE that fails. -/
def updAbandon (c : Chip) : Chip :=
  if c.upd.state = 1 && (stagingFor c 0x79).isNone then
    stageDone (modUpd c fun u => { u with state := 0, result := 0, queue := [] })
  else c

/-- Staging or verification fails with a result of R671, at a block. The session's staging ends (R669). -/
def updFail (c : Chip) (result block : Nat) : Chip :=
  let c := match stagingFor c 0x79 with
    | some s => modSession c s fun x => { x with staging := none }
    | none => c
  stageDone (modUpd c fun u => { u with state := 4, result := result, block := block, queue := [] })

/-- One landed block goes to the target slot. -/
def landBlock (c : Chip) (bs : List Byte) : Chip :=
  let s := slotOf c c.upd.target
  let s := if c.upd.block = 0 then { s with head := bs } else { s with blocks := smPut s.blocks c.upd.block bs }
  modUpd c fun u => { u with
    slots := smPut u.slots u.target s
    head := if u.block = 0 then bs else u.head
    block := u.block + 1
    queue := u.queue.drop 65536 }

/-- UPDATE_BLOCK: the Boathouse takes a whole block out of queue 62 and checks it (R669, R671). `readsBack`
tells whether the slot reads back as written. -/
def updateBlock (c : Chip) (readsBack : Bool) : Chip :=
  if !(c.upd.state == 1 || c.upd.state == 2) || c.upd.queue.length < 65536 then c
  else
    let bs := c.upd.queue.take 65536
    let n := c.upd.block
    if n = 0 && !(headFits bs && leAt bs 0x14 4 == c.upd.length) then updFail c 2 0
    else if n ≠ 0 && (crc32c bs).toNat ≠ entryCrc c.upd.head n then updFail c 4 n
    else if !readsBack then updFail c 5 n
    else landBlock c bs

/-! ### Verification (R667, R670, R671) -/

/-- The first check of R671 that a staged slot fails, with the block. -/
def verifyFault (c : Chip) : Option (Nat × Nat) :=
  let s := slotOf c c.upd.target
  let h := c.upd.head
  if !headOk h then some (2, 0)
  else if leAt h 6 1 ≠ hwRev || leAt h 7 1 ≠ socRev then some (3, c.upd.block)
  else match badBlock s with
    | some b => some (6, b)
    | none =>
      if !vendorOk h then some (7, c.upd.block)
      else if !ownerOk c h then some (8, c.upd.block)
      else none

/-- UPDATE_VERIFY: verification ends. The recovery image makes slot A the one to boot (R667). -/
def updateVerify (c : Chip) : Chip :=
  if c.upd.state ≠ 2 || 65536 ≤ c.upd.queue.length then c
  else match verifyFault c with
    | some (r, b) => updFail c r b
    | none =>
      let c := setValid c c.upd.target true
      let c := modUpd c fun u => { u with state := 3, result := 1 }
      stageDone (if recoveryRuns c then modBoot c fun b => { b with active := 0, strikes := 0 } else c)

/-- UPD_CMD DISCARD is refused in STAGING and VERIFYING (R683). -/
def discardRefused (c : Chip) : Bool := c.upd.state == 1 || c.upd.state == 2

/-- UPD_CMD DISCARD: the slot that is not ACTIVE loses its VALID bit (R668, R683). -/
def updDiscard (c : Chip) : Chip :=
  modUpd (setValid c (targetSlot c) false) fun u => { u with state := 0 }

/-! ### Activation (R673 to R675) -/

/-- ACTIVATE_ENTRY: the T0 after an accepted ACTIVATE (R673). An image that has been discarded or replaced
since is not activated. -/
def activateEntry (c : Chip) : Chip :=
  if !c.upd.activateDue then c
  else
    let c := modUpd c fun u => { u with activateDue := false }
    let old := c.mode.mode
    if c.upd.state ≠ 3 || !(old == .stop || old == .standby) then c
    else
      let (t, c) := freshTime { c with mode := { c.mode with activateFrom := old } }
      let c := enterMode c .activate (if old = .stop then 14 else 27)
      let c := modUpd c fun u => { u with oldBuild := u.running.build, entered := t }
      modBoot c fun b => { b with trial := true, previous := b.active, active := c.upd.target }

/-- The module as the activated image runs it. -/
def onNewImage (c : Chip) : Chip :=
  let n := c.upd.boot.active
  modUpd c fun u => { u with running := runningOf n (smGet Slot.empty u.slots n).head }

/-- The activated image takes the settings over. -/
def settingsTaken (c : Chip) : Bool :=
  match c.upd.current with
  | none => true
  | some v => migrates (onNewImage c) v

/-- The current version's registers are placed (R730); the objects stay loaded (R674). -/
def reapply (c : Chip) : Chip :=
  match c.upd.current with
  | none => c
  | some v => restoreRegs (migrate c v) v

/-- SET_SEQ. -/
def setSeq (c : Chip) : Word :=
  match c.upd.current with
  | none => 0
  | some v => v.seq

/-- The pause so far, in µs. -/
def pauseUs (c : Chip) : Nat × Chip :=
  let (t, c) := freshTime c
  ((t - c.upd.entered) / 1000, c)

/-- The mode that ACTIVATE was entered from returns (R673). -/
def activateReturn (c : Chip) (row : Nat) : Chip := enterMode c c.mode.activateFrom row

/-- ACTIVATED: the new image runs with its settings (R673). -/
def activated (c : Chip) : Chip :=
  if c.mode.mode ≠ .activate || !settingsTaken c then c
  else
    let c := reapply (onNewImage c)
    let c := modBoot c fun b => { b with trial := false }
    let c := modUpd c fun u => { u with
      state := 0, result := 0, block := 0, head := [], target := 1 - u.boot.active }
    let (us, c) := pauseUs (raise c 0x79 1)
    let c := emit c 0x79 0x11 c.upd.running.slot (BitVec.ofNat 32 c.upd.oldBuild)
      (BitVec.ofNat 32 c.upd.running.build) (setSeq c) (BitVec.ofNat 32 us)
    activateReturn c 31

/-- FALLBACK: the new image cannot take the settings over; `unreadable` tells that the stored version's CRC
fails (R675, R681). -/
def fallback (c : Chip) (unreadable : Bool) : Chip :=
  if c.mode.mode ≠ .activate || (settingsTaken c && !(unreadable && c.upd.current.isSome)) then c
  else
    let failed := (onNewImage c).upd.running
    let c := modBoot c fun b => { b with active := b.previous, trial := false }
    let c := match c.upd.current with
      | some v => restoreRegs c v
      | none => c
    let (us, c) := pauseUs (raise c 0x79 2)
    let c := emit c 0x79 0x12 c.upd.boot.active (BitVec.ofNat 32 failed.build)
      (BitVec.ofNat 32 failed.format) (setSeq c) (BitVec.ofNat 32 us)
    activateReturn c 32

/-! ### Reads (R683) -/

/-- The read-only registers of page 0x79. -/
def readUpd (c : Chip) (off : Nat) : Word :=
  let u := c.upd
  match off with
  | 0x040 => pack [(u.state, 31, 28), (u.result, 27, 24), (u.target, 16, 16), (u.block, 8, 0)]
  | 0x048 => pack [(headBuild u.head, 31, 16), (u.running.build, 15, 0)]
  | 0x04C => pack [(headFormat u.head, 31, 16),
      (b2n (!u.head.isEmpty && headCkpt u.head == u.running.ckpt), 0, 0)]
  | 0x050 => BitVec.ofNat 32 u.refusal
  | 0x054 => pack [(b2n (recoveryRuns c), 31, 31), (u.boot.active, 30, 30), (u.boot.previous, 29, 29),
      (u.boot.valid.toNat, 28, 27), (u.boot.strikes, 3, 0)]
  | 0x05C => setSeq c
  | 0x060 => currentDigest c
  | 0x064 => pack [(match u.current with | some v => v.format | none => 0, 31, 16), (u.running.format, 15, 0)]
  | _ => 0

end Sys2Proof.Machine
end

