-- ==== Sys2Proof/Machine/Wake.lean ====
section
/-!
DEFINITION. The wake recorder: storage (R647 to R651), readers (R652 to R656), exports (R657, R658) and
page 0x78 (R659, R660).
-/
namespace Sys2Proof.Machine

/-- Change the wake recorder. -/
def modWake (c : Chip) (f : WakeSt → WakeSt) : Chip := { c with wake := f c.wake }

/-- Slots of the wake area and records of the launch area (R649, R651). -/
def wakeSlots : Nat := 262144
def launchSize : Nat := 4096

/-- One record as its 32 bytes (R644). -/
def recordBytes (r : Stored) : List Byte :=
  leBytes 4 r.seq.toNat ++ leBytes 8 r.body.time ++ leBytes 2 r.body.code ++ leBytes 2 r.body.source
    ++ leBytes 4 r.body.p0.toNat ++ leBytes 4 r.body.p1.toNat ++ leBytes 4 r.body.p2.toNat
    ++ leBytes 4 r.body.p3.toNat

/-- One record stored under the next SEQ, in the launch area too while that fills (R647, R649, R651); a
LAUNCH_ARMED record shows its own SEQ (R646) and opens the launch area. -/
def storeRecord (c : Chip) (body : WakeRec) : Chip :=
  let seq := if c.wake.stored = 0 then 1 else c.wake.head + 1
  let opens := body.code == 0x7801
  let r : Stored := ⟨seq, if opens then { body with p1 := seq } else body⟩
  let launches := c.wake.armed && (opens || c.wake.launch != []) && c.wake.launch.length < launchSize
  let c := modWake c fun w => { w with
    head := seq
    stored := satInc wakeSlots w.stored
    area := smPut w.area (seq.toNat % wakeSlots) r
    launch := if launches then w.launch ++ [r] else w.launch }
  if launches && c.wake.launch.length == launchSize then raise c 0x78 1 else c

/-- The wake queue whose head has the lowest TIME; ties go to the lower number (R647). -/
def nextQueue (c : Chip) : Option (Nat × WakeRec) :=
  [56, 57, 58, 59].foldl (fun best q =>
    match (smGet WakeQueue.empty c.wake.queues q).recs with
    | [] => best
    | r :: _ => match best with
      | none => some (q, r)
      | some (q', r') => if r.time < r'.time then some (q, r) else some (q', r')) none

/-- The LOST record of a queue that has refused entries (R648). -/
def storeLost (c : Chip) (q : Nat) : Chip :=
  let wq := smGet WakeQueue.empty c.wake.queues q
  if wq.refused = 0 then c
  else
    let (t, c) := freshTime c
    let c := modWake c fun w => { w with
      queues := smMod WakeQueue.empty w.queues q fun x => { x with refused := 0 } }
    storeRecord c ⟨t, 0x7802, q, BitVec.ofNat 32 wq.refused, BitVec.ofNat 32 wq.firstTime,
      BitVec.ofNat 32 (wq.firstTime / 2 ^ 32), c.stroke.count⟩

/-- The Boathouse stores one queued record; in RESET no queue is drained (R647). -/
def wakeStore (c : Chip) : Chip :=
  if c.mode.mode = .reset then c
  else match nextQueue c with
    | none => c
    | some (q, r) =>
      let c := storeLost c q
      let c := modWake c fun w => { w with
        queues := smMod WakeQueue.empty w.queues q fun x => { x with recs := x.recs.drop 1 } }
      storeRecord c r

/-- ARM is accepted once in the module's life (R651). -/
def armLaunch (c : Chip) : Chip :=
  if c.wake.armed then c
  else
    let c := modWake c fun w => { w with armed := true }
    emit c 0x78 0x01 0 Config.serial 0 0 c.stroke.count

/-! ### Readers -/

/-- The number of a requester's context (R124, R652): sessions 0 to 15, BAR0 16, the Boathouse 17. -/
def reqNo : Requester → Nat
  | .session n => n
  | .bar0 => 16
  | .boathouse => 17

/-- A reader's context. -/
def wakeCtx (c : Chip) (r : Nat) : WakeCtx := smGet WakeCtx.reset c.wake.ctxs r
def modCtx (c : Chip) (r : Nat) (f : WakeCtx → WakeCtx) : Chip :=
  modWake c fun w => { w with ctxs := smMod WakeCtx.reset w.ctxs r f }

/-- SNAP (R653). -/
def snap (c : Chip) (r : Nat) : Chip :=
  modCtx c r fun x => { x with
    head := if c.wake.stored = 0 then 0 else c.wake.head
    tail := if c.wake.stored = 0 then 0
      else if c.wake.stored < wakeSlots then 1 else c.wake.head - BitVec.ofNat 32 (wakeSlots - 1) }

/-- What entry `k` of a reader's window shows (R654). -/
def windowEntry (c : Chip) (r k : Nat) : List Byte :=
  let x := wakeCtx c r
  let seq := x.sel + BitVec.ofNat 32 k
  let shown := match x.area with
    | 0 => if (seq - x.tail).toNat ≤ (x.head - x.tail).toNat && (x.head != 0 || x.tail != 0) then
        smFind c.wake.area (seq.toNat % wakeSlots) else none
    | 1 => c.wake.launch.find? fun s => s.seq == seq
    | _ => if (seq - cfg c 0x78 0x070).toNat < fld (cfg c 0x78 0x074) 16 0 then
        c.wake.expBuf.find? fun s => s.seq == seq else none
  (shown.map recordBytes).getD (List.replicate 32 0)

/-- A read of one word of the window: word 0 latches the whole record for the reader (R655). -/
def readWindow (c : Chip) (r off : Nat) : Word × Chip :=
  let k := (off - 0x800) / 32
  let w := off % 32 / 4
  if w = 0 then
    let bs := windowEntry c r k
    (BitVec.ofNat 32 (leAt bs 0 4), modCtx c r fun x => { x with latches := smPut x.latches k bs })
  else
    (BitVec.ofNat 32 (leAt (smGet (List.replicate 32 0) (wakeCtx c r).latches k) (4 * w) 4), c)

/-- Closing a session discards its context (R652). -/
def dropCtx (c : Chip) (r : Nat) : Chip := modWake c fun w => { w with ctxs := smDel w.ctxs r }

/-! ### Exports (R657, R658) -/

/-- An export is pending: its result reads 0xFF (R659). -/
def exporting (c : Chip) : Bool := c.wake.expResult == 0xFF

/-- EXPORT is accepted: area, first and count stand as the registers hold them. -/
def exportStart (c : Chip) : Chip :=
  modWake c fun w => { w with
    expResult := 0xFF
    expArea := fld (cfg c 0x78 0x074) 31 30
    expFirst := cfg c 0x78 0x070
    expCount := fld (cfg c 0x78 0x074) 16 0 }

/-- The records of the range that are held, in ascending SEQ. -/
def exportRecords (c : Chip) : List Stored :=
  let w := c.wake
  if w.expArea = 0 then
    (List.range w.expCount).filterMap fun i =>
      let seq := w.expFirst + BitVec.ofNat 32 i
      (smFind w.area (seq.toNat % wakeSlots)).filter fun s => s.seq == seq
  else
    (List.range w.expCount).filterMap fun i =>
      w.launch.find? fun s => s.seq == w.expFirst + BitVec.ofNat 32 i

/-- The 96-byte export header (R657). -/
def exportHeader (c : Chip) (time : Nat) (recs : List Stored) : List Byte :=
  leBytes 4 0x58453147 ++ leBytes 2 1 ++ [BitVec.ofNat 8 c.wake.expArea, 0]
    ++ leBytes 4 Config.serial.toNat ++ leBytes 4 c.wake.expFirst.toNat ++ leBytes 4 c.wake.expCount
    ++ leBytes 4 recs.length ++ leBytes 8 time
    ++ (List.range 4).flatMap (fun n => leBytes 4 (cfg c 0x78 (0x080 + 4 * n)).toNat)
    ++ sha256 (recs.flatMap recordBytes) ++ List.replicate 16 0

/-- An export ends (R657, R658). -/
def exportDone (c : Chip) : Chip :=
  if !exporting c then c
  else
    let recs := exportRecords c
    let (t, c) := freshTime c
    let header := exportHeader c t recs
    let result := if recs = [] then 3 else if c.ident.keyFault then 2 else 1
    let c := modWake c fun w => { w with
      expResult := result
      expHeld := recs.length
      expHeader := header
      expSig := if result = 1 then keySign (sha256 header) else []
      expBuf := recs }
    let c := raise c 0x78 2
    emit c 0x78 0x03 c.wake.expArea c.wake.expFirst (BitVec.ofNat 32 c.wake.expCount)
      (BitVec.ofNat 32 recs.length) (BitVec.ofNat 32 result)

/-! ### Page 0x78 (R659) -/

/-- Read-only registers of page 0x78 and the reader's own, but for the window. -/
def readWake (c : Chip) (r off : Nat) : Word :=
  let w := c.wake
  if off = 0x040 then
    pack [(if !w.armed then 0 else if w.launch.length < launchSize then 1 else 2, 31, 30),
      (w.launch.length, 12, 0)]
  else if off = 0x044 then (if w.stored = 0 then 0 else w.head)
  else if off = 0x048 then (match w.launch with | [] => 0 | s :: _ => s.seq)
  else if off = 0x04C then w.cmd
  else if off = 0x050 then (wakeCtx c r).head
  else if off = 0x054 then (wakeCtx c r).tail
  else if off = 0x058 then BitVec.ofNat 32 (wakeCtx c r).area
  else if off = 0x05C then (wakeCtx c r).sel
  else if off = 0x060 then
    pack ((List.range 4).map fun i => ((smGet WakeQueue.empty w.queues (56 + i)).lost, 8 * i + 7, 8 * i))
  else if off = 0x078 then pack [(w.expResult, 31, 24), (w.expHeld, 16, 0)]
  else if 0x100 ≤ off ∧ off < 0x160 then BitVec.ofNat 32 (leAt w.expHeader (off - 0x100) 4)
  else if 0x180 ≤ off ∧ off < 0x1C0 then BitVec.ofNat 32 (leAt w.expSig (off - 0x180) 4)
  else cfg c 0x78 off

end Sys2Proof.Machine
end

