-- ==== Sys2Proof/Machine/Reset.lean ====
section
/-!
DEFINITION. Resets and block states (R53, R71 to R74, R603 to R612): the twelve sources, MODULE and POWER
resets, commanded CREW and BLOCK resets, and the drains.
-/
namespace Sys2Proof.Machine

def modRst (c : Chip) (f : RstSt → RstSt) : Chip := { c with rst := f c.rst }

/-! ### What follows a change of a page -/

/-- The conditions of a page follow its registers and state (R56). -/
def pageConds (c : Chip) (p : Nat) : Chip :=
  if p = 0x08 then haltCond (forceCond c .safety) .safety
  else if p = 0x09 then haltCond (forceCond c .process) .process
  else if 0x10 ≤ p ∧ p ≤ 0x17 then alertCond c (p - 0x10)
  else if p = 0x1A ∨ p = 0x1B then alertCond c (p - 0x1A + 8)
  else if p = 0x18 then laneTimeoutCond c
  else if p = 0x20 then setCond (sigCond (lockoutCond c)) 0x20 5 c.safety.rstIn.stuck
  else if p = 0x21 then sigCond (zwConds c)
  else if p = 0x28 then pairConds c
  else if 0x30 ≤ p ∧ p ≤ 0x33 then groupConds c (p - 0x30)
  else if p = 0x34 then islConds c
  else if 0x40 ≤ p ∧ p ≤ 0x5F then linkConds c (p - 0x40)
  else if 0x60 ≤ p ∧ p ≤ 0x6F then canConds (canSync (p - 0x60) c) (p - 0x60)
  else if p = 0x70 ∨ p = 0x71 then netConds (syncFollow c) (p - 0x70)
  else if p = 0x75 then serConds c
  else c

/-- A page's block starts to take work (R71): loops, with their set reloaded, and heats start afresh (R276, R280,
R312). -/
def pageStart (c : Chip) (p : Nat) : Chip :=
  if 0x10 ≤ p ∧ p ≤ 0x17 then startLoops (reloadSet c (p - 0x10)) (p - 0x10)
  else if p = 0x1A ∨ p = 0x1B then startLoops (reloadSet c (p - 0x1A + 8)) (p - 0x1A + 8)
  else if p = 0x18 then startHeats c
  else c

/-! ### Work items (R48, R73) -/

/-- The engine behind a page. -/
def engineOf (p : Nat) : Option Nat :=
  if 0x10 ≤ p ∧ p ≤ 0x17 then some (p - 0x10)
  else if p = 0x1A ∨ p = 0x1B then some (p - 0x1A + 8) else none

/-- Serial ports with a transaction begun. -/
def serialWork (c : Chip) : Nat :=
  ((List.range 6).filter fun q => (serPort c q).busy.isSome || (serPort c q).starting.isSome).length

/-- Output commits begun at this finish that leave by the strobe (R48, R102): of safety outputs, digital outputs,
islands and links. -/
def commitsOf (c : Chip) (p : Nat) : Nat :=
  if c.stroke.phase ≠ .finish || !c.mode.mode.strokes then 0
  else if p = 0x20 then ((List.range 8).filter fun o => bitOf (outCfg c o) 31).length
  else if 0x30 ≤ p ∧ p ≤ 0x33 then (groupOutputs c (p - 0x30)).length
  else if p = 0x34 then ((List.range 16).filter (islOutput c)).length
  else if 0x40 ≤ p ∧ p ≤ 0x5F then (expected c (p - 0x40)).length
  else 0

/-- Work items that a page's block holds: accepted and not yet completed. -/
def workOf (c : Chip) (p : Nat) : Nat :=
  match engineOf p with
  | some e => ((eng c e).loops.filter fun x => x.2.latch.isSome).length
  | none =>
    if p = 0x18 then (c.sel.heats.filter fun h => h.2.deciding.isSome).length
    else if 0x60 ≤ p ∧ p ≤ 0x6F then canInFlight c (p - 0x60)
    else if p = 0x72 then (c.hosts.sessions.flatMap fun s => s.2.queue).length
    else if p = 0x75 then serialWork c
    else if p = 0x78 then b2n (exporting c)
    else if p = 0x79 then (c.upd.queue.length + 63) / 64
    else if p = 0x7B then b2n c.panel.update.isSome
    else if p = 0x7C then b2n c.ident.busy.isSome + b2n c.ident.attPending
    else if p = 0x08 then b2n c.crewS.caught
    else if p = 0x09 then b2n c.crewP.caught
    else commitsOf c p

/-- A queue that a page's block consumes holds an entry, apart from those that count as work (R24, R48): the Boathouse's
wake queues 56 to 59 behind page 0x78, and a CAN controller's receive FIFO, which sequencer 1 empties, behind the
controller's page (DEDUCED, log entry 88). -/
def queueHolds (c : Chip) (p : Nat) : Bool :=
  (p == 0x78 && c.wake.queues.any fun e => e.2.recs != [])
    || (decide (0x60 ≤ p ∧ p ≤ 0x6F) && (can c (p - 0x60)).fifo != [])

/-- Entries queued for a page's block and not yet begun (R611, step 2). -/
def queuedWork (c : Chip) (p : Nat) : Nat :=
  if 0x60 ≤ p ∧ p ≤ 0x6F then ((can c (p - 0x60)).objs.filter fun o => o.2.pending.isSome).length
  else if p = 0x79 then workOf c p
  else 0

/-- The staging of page 0x79 is given up. -/
def stagingDropped (c : Chip) : Chip :=
  match stagingFor c 0x79 with
  | some s => modSession c s fun x => { x with staging := none }
  | none => c

/-- The work that a drain leaves undone is dropped (R71). -/
def dropWork (c : Chip) (p : Nat) : Chip :=
  match engineOf p with
  | some e => dropLatches c e
  | none =>
    if p = 0x18 then dropDecisions c
    else if 0x60 ≤ p ∧ p ≤ 0x6F then
      let n := p - 0x60
      match txObject c n with
      | some o => canDrain (modObj c n o fun s => { s with pending := s.tx, tx := none }) n
      | none => c
    else if p = 0x75 then
      { c with serial := c.serial.map fun x => (x.1, { x.2 with busy := none, starting := none }) }
    else if p = 0x79 then
      let c := modUpd (stagingDropped c) fun u => { u with queue := [] }
      if c.upd.state = 1 || c.upd.state = 2 then
        stageDone (modUpd c fun u => { u with state := 0, result := 0 })
      else c
    else if p = 0x7B then modPanel c fun q => { q with update := none, glass := panelHold c, first := some (some 0) }
    else if p = 0x7C then modIdent c fun i => { i with busy := none, attPending := false }
    else c

/-! ### Enabling and draining (R71) -/

/-- ENABLE = 1 on a DISABLED block: it takes work from the next catch on, at once in a mode without strokes. -/
def blockEnable (c : Chip) (p : Nat) : Chip :=
  pageConds (pageStart (modHdr c p fun h => { h with st := .enabled, waits := c.mode.mode.strokes }) p) p

/-- ENABLE = 0 on an ENABLED block. -/
def blockDisable (c : Chip) (p : Nat) : Chip :=
  let c := modHdr c p fun h => { h with st := .draining, drainLeft := h.drainTimeout, waits := false }
  if 0x60 ≤ p ∧ p ≤ 0x6F then canDrain c (p - 0x60)
  else if p = 0x18 then drainHeats c
  else match engineOf p with
    | some e => drainLoops c e
    | none => c

/-- A block enters DISABLED. -/
def blockStop (c : Chip) (p : Nat) : Chip :=
  pageConds (modHdr c p fun h => { h with st := .disabled, drainLeft := 0 }) p

/-- IN_FLIGHT or BUSY of a page (R48). -/
def busy (c : Chip) (p : Nat) : Bool := workOf c p != 0 || queueHolds c p

/-- DRAIN_END: no work is left. -/
def drainEnd (c : Chip) (p : Nat) : Chip :=
  if (hdr c p).st = .draining && !busy c p then blockStop c p else c

/-- DRAIN_ABORT: the drain limit runs out with work left; its record has low byte 0xFD (R646). What a receive FIFO holds
stays in it (log entry 88). -/
def drainAbort (c : Chip) (p : Nat) : Chip :=
  let n := workOf c p
  if (hdr c p).st = .draining && (hdr c p).drainLeft = 0 && busy c p then
    let c := raise (blockStop (dropWork c p) p) p 30
    emit c p 0xFD 0xFFFF (BitVec.ofNat 32 n) (BitVec.ofNat 32 (hdr c p).drainTimeout) 0 c.stroke.count
  else c

/-! ### BLOCK resets (R53, R611) -/

/-- BLK_CTRL, BLK_STAT, BLK_CAUSE and BLK_SEQ return to their reset values; BLK_MASK and BLK_OWNER stay
(R53). -/
def resetHeader (c : Chip) (p : Nat) : Chip :=
  modHdr c p fun h => { h with
    st := if fixedPage p then .enabled else .disabled
    drainTimeout := 1, drainLeft := 0, waits := false, cause := 0, seq := 0 }

/-- Working state that a digital group discards: all but its OVERLOAD and OVERTEMP latches (R442, R443) and its
SHORT_TO_SUPPLY and CROSS_WIRED, which R447 alone clears (DEDUCED, log entry 47). -/
def resetGroup (c : Chip) (g : Nat) : Chip :=
  let c := forN 12 (fun k c => modDig c (12 * g + k) fun s =>
    { DigCh.reset with
        overload := s.overload, overtemp := s.overtemp, zeroSeen := s.zeroSeen, flags := s.flags
        short := s.short, cross := s.cross, with_ := s.with_ }) c
  let c := modFs c g fun _ => FsSt.reset
  if g = 0 then { c with dig := { c.dig with freq := [] } } else c

/-- Working state that the safety block discards: faults stay until their gone conditions (R348), and what the group
unit holds is the safety crew's (R333). -/
def resetSafety (s : SafetySt) : SafetySt :=
  { s with
    chans := s.chans.map fun x => (x.1, { SafeCh.reset with stageFault := x.2.stageFault, passes := x.2.passes })
    outs := s.outs.map fun x => (x.1, { SafeOut.reset with
      stuck := x.2.stuck, short := x.2.short, cross := x.2.cross, with_ := x.2.with_, lowOpen := x.2.lowOpen })
    rstIn := ResetIn.reset, pairStat := 0, outStat := 0 }

/-- A block discards its working state (R611, step 4). -/
def discardState (c : Chip) (p : Nat) : Chip :=
  match engineOf p with
  | some e => modEng c e fun g => { g with
      tune := none, tuned := []
      loops := g.loops.map fun x => (x.1, { LoopSt.reset with req := x.2.req, dmax := x.2.dmax, manBit := x.2.manBit }) }
  | none =>
    if p = 0x18 then
      noLeaderChanges c.sel.heats { c with sel := { c.sel with heats := c.sel.heats.map fun x =>
        (x.1, { HeatSt.reset with
          req := x.2.req, lastRecord := x.2.lastRecord, unrecorded := x.2.unrecorded }) } }
    else if p = 0x20 then { c with safety := resetSafety c.safety }
    else if p = 0x21 then
      { c with zw := (c.zw.filter fun x => x.2.fault).map fun x => (x.1, { ZwConn.reset with fault := true }) }
    else if p = 0x28 then
      { c with seat := { SeatSt.reset with holds := c.seat.holds, haltByOverrun := c.seat.haltByOverrun }
               mirror := MirrorSt.reset, pairCnt := PairCnt.reset }
    else if 0x30 ≤ p ∧ p ≤ 0x33 then resetGroup c (p - 0x30)
    else if p = 0x34 then { c with isl := IslSt.reset }
    else if 0x40 ≤ p ∧ p ≤ 0x5F then { c with links := smDel c.links (p - 0x40) }
    else if 0x60 ≤ p ∧ p ≤ 0x6F then
      modCan c (p - 0x60) fun k => { CanSt.reset with fifo := k.fifo, fifoSeq := k.fifoSeq }
    else if p = 0x70 ∨ p = 0x71 then
      { c with lans := smDel (smDel c.lans (2 * (p - 0x70))) (2 * (p - 0x70) + 1)
               badFrames := smDel c.badFrames (p - 0x70) }
    else if p = 0x75 then { c with serial := [] }
    else if p = 0x79 then
      modUpd (stagingDropped c) fun u => { u with
        state := 0, result := 0, block := 0, head := [], queue := [], refusal := 0, length := 0
        activateDue := false }
    else if p = 0x7B then
      { c with panel := { PnlSt.reset with
          shadow := c.panel.shadow, shadowOk := c.panel.shadowOk, glass := panelHold c
          first := if c.backup.marker then some (some 0) else some none } }
    else if p = 0x7C then
      { c with ident := { IdSt.reset with
          ownerLock := c.ident.ownerLock, ownerCert := c.ident.ownerCert, keyFault := c.ident.keyFault } }
    else c

/-- A BLOCK reset asserts on a page whose block it can isolate, by SOFT_RESET (`origin` 0) or RST_CMD (1). -/
def isolate (c : Chip) (p origin : Nat) : Chip :=
  let q := queuedWork c p
  let r : BlkReset := ⟨origin, if p = 0x79 then 0 else workOf c p, q⟩
  let c := modRst (countSource c (blkSource origin)) fun s => { s with
    blockResets := smPut s.blockResets p r }
  let after := modHdr (discardState c p) p fun h => { h with st := .isolated, drainLeft := 0, waits := false }
  pageConds (noteEdges c after) p

/-- A BLOCK reset of any resettable page: on a crew's page it is a CREW reset of that crew, with R53 applied
to the header (R611). `cls` is the writer's class. -/
def blockReset (c : Chip) (p origin cls : Nat) : Chip :=
  if p = 0x08 then resetHeader (crewReset c .safety cls (blkSource origin)) p
  else if p = 0x09 then resetHeader (crewReset c .process cls (blkSource origin)) p
  else isolate c p origin

/-- A digital group's outputs take their configured values at once (R611, step 5). This is neither a
strobe nor a sink change, so the latches of R442 and R443 stay for the next one. -/
def groupSafe (c : Chip) (g : Nat) : Chip :=
  digRefresh ((groupOutputs c g).foldl (fun c ch =>
    match strobeValue c ch with
    | some v => modDig c ch fun s => { s with commit := v }
    | none => c) c) g

/-- BLOCK_RESET: the reset releases (R611, R624, R625). -/
def blockReleased (c : Chip) (p : Nat) : Chip :=
  match smFind c.rst.blockResets p with
  | none => c
  | some r =>
    let c := modRst c fun s => { s with blockResets := smDel s.blockResets p }
    let c := pageConds (resetHeader (releaseCommanded c (blkSource r.origin)) p) p
    let c := if 0x30 ≤ p ∧ p ≤ 0x33 then noteEdges c (groupSafe c (p - 0x30)) else c
    let c := if p = 0x34 then islandsReleased c else c
    emit (raise c 1 5) 1 0x03 p (BitVec.ofNat 32 r.origin) (BitVec.ofNat 32 r.isolated)
      (BitVec.ofNat 32 r.aborted) c.stroke.count

/-! ### MODULE and POWER resets (R603 to R610) -/

/-- The sessions that a reset closes, with the entries it discards (R582). -/
def sessionsCut (c : Chip) : List (Nat × Nat × Nat) :=
  c.hosts.sessions.map fun s => (s.1, occupancy s.2 + respWaiting c s.2, s.2.ip)

/-- What a MODULE (`power` false) or POWER reset leaves: MRAM, the backup domain, the islands, the glass and
the pins keep what they hold, and module time goes on through a MODULE reset (R603). -/
def clearedBy (c : Chip) (power : Bool) : Chip :=
  { Chip.reset with
    fresh := c.fresh
    sent := c.sent
    underway := c.underway
    backup := c.backup
    stroke := { StrokeSt.reset with t0 := if power then 0 else c.stroke.t0 }
    rst := { RstSt.reset with
      asserted := c.rst.asserted, buttonClosed := c.rst.buttonClosed, rstLine := c.rst.rstLine
      railsOff := c.rst.railsOff, stuckNew := c.rst.stuckNew, freedNew := c.rst.freedNew
      closed := c.rst.closed ++ sessionsCut c }
    ident := { IdSt.reset with ownerLock := c.ident.ownerLock, ownerCert := c.ident.ownerCert }
    upd := { UpdSt.reset with
      slots := c.upd.slots, boot := c.upd.boot, bootOld := c.upd.bootOld, current := c.upd.current, previous := c.upd.previous
      highest := c.upd.highest, objects := c.upd.objects }
    panel := { PnlSt.reset with
      shadow := c.panel.shadow, shadowOk := c.panel.shadowOk, glass := panelHold c }
    wake := { WakeSt.reset with
      head := c.wake.head, stored := c.wake.stored, armed := c.wake.armed, area := c.wake.area
      launch := c.wake.launch }
    islands := c.islands.map fun x => (x.1, { x.2 with up := [] }) }

/-- A source of reach MODULE (3) or POWER (4) asserts. CREW and BLOCK resets in progress are absorbed
(R609). -/
def hardSource (c : Chip) (n reach : Nat) : Chip :=
  if c.rst.railsOff && n ≤ 3 then c
  else
    let inReset := c.mode.mode == .reset
    let held := c.rst.asserted
    let c := countSource c n
    let strike := n = 6 && c.mode.mode == .boot
    let c := if strike then modBoot c fun b => { b with strikes := satInc 15 b.strikes } else c
    let c := modBackup c fun b => { b with
      lastReach := if inReset then max b.lastReach reach else reach
      lastSources := if inReset then b.lastSources ||| (1#12 <<< n) else 1#12 <<< n
      savedStroke := if c.stroke.count = 0 then b.savedStroke else c.stroke.count }
    let c := modRst c fun s => { s with asserted := (if inReset then held else 0#12) ||| (1#12 <<< n) }
    clearedBy c (reach == 4)

/-- BUTTON: the front button reads closed for 20 ms (R604, R606). -/
def buttonSource (c : Chip) : Chip :=
  let c := modRst c fun s => { s with buttonClosed := true }
  if c.backup.buttonStuck then c else hardSource c 4 3

/-- BACKPLANE: RST# has been low for 10 µs. -/
def backplaneSource (c : Chip) : Chip := hardSource (modRst c fun s => { s with rstLine := true }) 5 3

/-- WATCHDOG: armed and not kicked for 250 ms (R607). -/
def watchdogSource (c : Chip) : Chip :=
  if c.rst.wdtArmed && c.mode.mode != .reset then hardSource c 6 3 else c

/-- A hard source releases; with the last of them the release sequence runs and the mode becomes BOOT, with
every PLL in lock and the watchdog armed (R607, R609, R614). -/
def hardRelease (c : Chip) (n : Nat) : Chip :=
  if c.mode.mode != .reset || !c.rst.asserted.getLsbD n then c
  else
    let c := releaseSource c n
    let c := if n = 9 then modRst c fun s => { s with railsOff := false } else c
    if c.rst.asserted ≠ 0 then c
    else
      let c := modBoat (modRst c fun s => { s with wdtArmed := true }) fun b => { b with locked := 0x1F }
      changeMode c .boot 2

/-- RESET_SOURCE_RELEASE (R604): the button has opened, or RST# has gone high, where those are the source.
A stuck button that opens releases nothing more (R606); its filtered level follows. -/
def sourceRelease (c : Chip) (n : Nat) : Chip :=
  if n = 4 && c.backup.buttonStuck && !c.rst.asserted.getLsbD 4 then
    modRst c fun s => { s with buttonClosed := false }
  else if c.mode.mode != .reset || !c.rst.asserted.getLsbD n then c
  else
    let c := modRst c fun s => { s with
      buttonClosed := s.buttonClosed && n != 4, rstLine := s.rstLine && n != 5 }
    hardRelease c n

/-- BUTTON_STUCK: an assertion of BUTTON has lasted 10 s (R606). -/
def buttonStuck (c : Chip) : Chip :=
  if c.mode.mode != .reset || !c.rst.asserted.getLsbD 4 then c
  else
    let c := modBackup c fun b => { b with buttonStuck := true }
    hardRelease (modRst c fun s => { s with stuckNew := true }) 4

/-- BUTTON_FREED: a stuck button has read open for 1 s, after `ms` held (R606, R625). In RESET its record waits for
BOOT (log entry 44). -/
def buttonFreed (c : Chip) (ms : Nat) : Chip :=
  if !c.backup.buttonStuck then c
  else
    let c := modRst (modBackup c fun b => { b with buttonStuck := false }) fun s => { s with buttonClosed := false }
    if c.mode.mode = .reset then modRst c fun s => { s with freedNew := some ms }
    else emit (setCond c 1 2 false) 1 0x04 0xFFFF 0 (BitVec.ofNat 32 ms) 0 c.stroke.count

/-! ### RST_CMD (R605, R612, R621) -/

/-- PAIR_STAT.ROLE and the underway input keep class E from a MODULE reset (R621). -/
def engineerHeld (c : Chip) : Bool :=
  seatRole c == 1 || seatRole c == 3 || (!paired c && c.mode.mode.runs && c.underway)

/-- The pages whose reset and disabling R70 ties to a mode. -/
def tiedPage (p : Nat) : Bool := p == 0x08 || p == 0x09 || p == 0x20 || p == 0x21 || p == 0x28
def tiedMode (c : Chip) : Bool :=
  match c.mode.mode with
  | .config | .stop | .safeHalt | .dormant => true
  | _ => false

/-- The crew can take no commanded CREW reset (R612). -/
def crewHeld (c : Chip) (cr : Crew) : Bool := (coxSt c cr).faulty || (coxSt c cr).restoring

/-- The crew behind a page. -/
def pageCrew (p : Nat) : Option Crew := if p = 0x08 then some .safety else if p = 0x09 then some .process else none

/-- A BLOCK reset of this page can assert now. -/
def resettable (c : Chip) (p : Nat) : Bool :=
  populated p && !fixedPage p && (hdr c p).st != .isolated
    && (match pageCrew p with | some cr => !crewHeld c cr | none => true)

/-- The refusal code of a RST_CMD value from a writer of class `cls`, its reserved bits apart (R621). -/
def rstCmdRefusal (c : Chip) (cls : Nat) (v : Word) : Option Nat :=
  let reach := fld v 10 8
  let target := fld v 6 0
  if 5 ≤ reach || (reach = 2 && 1 < target) || ((reach = 3 || reach = 4) && target ≠ 0) then some 0x09
  else if reach = 1 && tiedPage target && !tiedMode c then some 0x0A
  else if cls = 1 && reach ≠ 0 && reach ≠ 3 then some 0x0B
  else if cls = 1 && reach = 3 && engineerHeld c then some 0x0B
  else if reach = 1 && !resettable c target then some 0x0B
  else if reach = 2 && crewHeld c (if target = 0 then .safety else .process) then some 0x0B
  else none

/-- An accepted RST_CMD: the counts clear at once; a reset waits 2 ms (R604, R621, R624). -/
def rstCmdRun (c : Chip) (cls : Nat) (v : Word) : Chip :=
  let reach := fld v 10 8
  let c := if bitOf v 16 then
      let old := c.backup.total
      let c := modBackup c fun b => { b with counts := [], total := 0 }
      emit (raise c 1 6) 1 0x06 0xFFFF (BitVec.ofNat 32 old) 0 0 c.stroke.count
    else c
  modRst c fun s => { s with
    cmd := v &&& (fm 10 8 ||| fm 6 0)
    waiting := if reach = 0 then s.waiting else s.waiting ++ [⟨cls, reach, fld v 6 0⟩] }

/-- The oldest waiting command of a class, and the others. -/
def takeWaiting (cls : Nat) : List RstCmd → Option (RstCmd × List RstCmd)
  | [] => none
  | w :: ws =>
    if w.cls = cls then some (w, ws) else (takeWaiting cls ws).map fun (x, rest) => (x, w :: rest)

/-- CMD_SERVICE asserts, 2 ms after its command (R604, R605). A block or crew that meanwhile cannot be reset
is left alone. -/
def cmdService (c : Chip) : Chip :=
  match takeWaiting 0 c.rst.waiting with
  | none => c
  | some (w, rest) =>
    let c := modRst c fun s => { s with waiting := rest }
    match w.reach with
    | 1 => if resettable c w.target then blockReset c w.target 1 w.cls else c
    | 2 =>
      let cr := if w.target = 0 then Crew.safety else Crew.process
      if crewHeld c cr then c else crewReset c cr w.cls 9
    | 3 => hardSource c 9 3
    | _ => hardSource (modRst c fun s => { s with railsOff := true }) 9 4

/-- CMD_ENGINEERING asserts, 2 ms after its command. -/
def cmdEngineering (c : Chip) : Chip :=
  match takeWaiting 1 c.rst.waiting with
  | none => c
  | some (_, rest) => hardSource (modRst c fun s => { s with waiting := rest }) 10 3

/-! ### Reads (R622, R623) -/

/-- The read-only registers of page 0x01. -/
def readReset (c : Chip) (off : Nat) : Word :=
  let b := c.backup
  if 0x050 ≤ off && off < 0x068 then
    let k := (off - 0x050) / 4
    pack [(smGet 0 b.counts (2 * k + 1), 31, 16), (smGet 0 b.counts (2 * k), 15, 0)]
  else match off with
    | 0x040 => c.rst.cmd
    | 0x044 => pack [(b.lastReach, 31, 29), (b2n c.rst.backupLost, 28, 28), (b.lastSources.toNat, 11, 0)]
    | 0x048 => pack [(b2n b.buttonStuck, 7, 7), (b2n c.rst.buttonClosed, 6, 6), (b2n c.rst.rstLine, 5, 5),
        (b2n c.rst.wdtArmed, 4, 4)]
    | 0x04C => BitVec.ofNat 32 b.total
    | 0x068 => c.rst.plugId
    | 0x06C => c.rst.plugRack
    | _ => 0

end Sys2Proof.Machine
end

