-- ==== Sys2Proof/Machine/Boot.lean ====
section
/-!
DEFINITION. From release to CONFIG (R616 to R619, R665 to R667, R69): the choice of the image, the address
plug, the restore of the settings, and the plug reads that follow.
-/
namespace Sys2Proof.Machine

/-! ### The address plug (R616 to R618) -/

/-- The record that 16 plug bytes spell, where they meet R616. -/
def plugRecord (bs : List Byte) : Option PlugRec :=
  let flags := bs.getD 3 0
  let station := leAt bs 4 2
  if bs.length = 16 && leAt bs 0 2 == 0x5041 && leAt bs 2 1 == 1 && flags.toNat < 16 && station < 1024
      && (flags.getLsbD 1 || station ≤ 63) && zerosAt bs 6 2
      && leAt bs 12 4 == (crc32c (bs.take 12)).toNat then
    some ⟨flags, station, BitVec.ofNat 32 (leAt bs 8 4)⟩
  else none

/-- A read of the plug: valid where the EEPROM answers with a good record. -/
def plugRead1 (r : Option (List Byte)) : Option PlugRec := r.bind plugRecord

/-- PLUG_ID of a record (R623). -/
def plugIdOf (r : PlugRec) : Word :=
  pack [(1, 31, 31), (b2n (r.flags.getLsbD 0), 30, 30), (b2n (r.flags.getLsbD 1), 29, 29),
    (b2n (r.flags.getLsbD 2), 28, 28), (b2n (r.flags.getLsbD 3), 27, 27), (r.station, 9, 0)]

/-- The record behind PLUG_ID and PLUG_RACK. -/
def plugHeld (c : Chip) : PlugRec :=
  ⟨BitVec.ofNat 8 (b2n (sideB c) + 2 * b2n (fleet c) + 4 * b2n (bpClassE c) + 8 * b2n (scullOption c)),
    station c, c.rst.plugRack⟩

/-- The raw FLAGS and STATION, and RACK_ID, of a read: what a plug that does not answer shows is free. -/
def plugRaw (c : Chip) (r : Option (List Byte)) : Word × Word × Chip :=
  match r with
  | some bs => (Config.plugWord (leAt bs 3 1) (leAt bs 4 2), BitVec.ofNat 32 (leAt bs 8 4), c)
  | none =>
    let (a, c) := freshNat c
    let (b, c) := freshNat c
    (BitVec.ofNat 32 a, BitVec.ofNat 32 b, c)

/-- A PLUG record of a read that took no module to CONFIG (R625). -/
def plugReport (c : Chip) (why : Nat) (r : Option (List Byte)) : Chip :=
  let (raw, rack, c) := plugRaw c r
  emit c 1 0x05 0xFFFF (BitVec.ofNat 32 why) raw rack c.stroke.count

/-- The plug's values are taken (R618, R623). -/
def plugTake (c : Chip) (r : PlugRec) : Chip :=
  modRst c fun s => { s with plugId := plugIdOf r, plugRack := r.rack, plugLast := none, plugSeen := none }

/-! ### Choosing the image (R665) -/

/-- The settings set applies on the image of a slot (R681); without a plug none is applied. -/
def slotSettings (c : Chip) (x : BootIn) (plugged : Bool) (n : Nat) : Bool :=
  match c.upd.current with
  | none => true
  | some v =>
    !plugged || (x.settingsOk && migrates (modUpd c fun u => { u with running := runningOf n (slotOf c n).head }) v)

/-- Slots to try, with the reason that BOOT_SELECT gives (R684). -/
def bootOrder (c : Chip) (trial : Bool) : List (Nat × Nat) :=
  let b := c.upd.boot
  (if trial then [(b.active, 1)] else [])
    ++ (if b.strikes < 3 then [(b.active, 0)] else [])
    ++ (if b.strikes < 6 then [(1 - b.active, if b.strikes < 3 then 3 else 2)] else [])

/-- TRIAL found 1: the activation has failed (R665, R675). How long the pause was the spec does not say of
this case: it is free. -/
def trialFailed (c : Chip) : Chip :=
  let failed := runningOf c.upd.boot.active (slotOf c c.upd.boot.active).head
  let c := modBoot c fun b => { b with active := b.previous, trial := false, strikes := 0 }
  let (us, c) := freshNat (raise c 0x79 2)
  emit c 0x79 0x12 c.upd.boot.active (BitVec.ofNat 32 failed.build) (BitVec.ofNat 32 failed.format) (setSeq c)
    (BitVec.ofNat 32 us)

/-- The image that boots, with its reason; none where nothing passes. -/
def chooseImage (c : Chip) (x : BootIn) (trial plugged : Bool) : Option (Running × Nat) :=
  match (bootOrder c trial).find? fun e => slotPasses c e.1 && slotSettings c x plugged e.1 with
  | some (n, why) => some (runningOf n (slotOf c n).head, why)
  | none =>
    if x.recoveryOk then some (recoveryImage, if c.upd.boot.strikes < 6 then 3 else 2) else none

/-- The chosen image runs, and its record is written. -/
def imageRuns (c : Chip) (r : Running) (why : Nat) : Chip :=
  let c := modUpd c fun u => { u with running := r }
  emit c 0x79 0x13 r.slot (BitVec.ofNat 32 why) (BitVec.ofNat 32 c.upd.boot.strikes) (BitVec.ofNat 32 r.build) 0

/-! ### The restore (R69, R351, R619, R730) -/

/-- What a stored lockout cause brings back: it counts as present until its gone condition is met (R351). -/
def storedCause (c : Chip) (cause which : Nat) : Chip :=
  match cause with
  | 1 => modPair c which fun p => { p with present := true, both := false }
  | 2 => modPair c which fun p => { p with stored := true }
  | 3 => modOut c which fun s => { s with stuck := true }
  | 4 => modOut c which fun s => { s with short := true, lowOpen := true }
  | 5 => modOut c which fun s => { s with cross := true }
  | 6 => modZw c which fun z => { z with fault := true, equalRun := 0 }
  | _ => c

/-- Each group of the lockout set starts in LOCKED_OUT with its stored cause; the last CAUSE and WHICH of every group
are back (R351, R376). -/
def restoreLockouts (c : Chip) : Chip :=
  forN 32 (fun g c =>
    let (cause, which) := smGet (0, 0) c.backup.lockCause g
    if !bitOf c.backup.lockout g then modGroup c g fun s => { s with cause := cause, which := which }
    else
      let c := modGroup c g fun s => { s with state := 4, cause := cause, which := which }
      storedCause c cause which) c

/-- The settings set is restored, its objects are loaded and its journal replayed (R730). -/
def applySettings (c : Chip) : Chip :=
  match c.upd.current with
  | none => c
  | some v =>
    let c := restoreRegs (migrate c v) v
    let c := { c with stroke := { c.stroke with active := cfg c 2 0x040 } }
    restoreObjects c v

/-- The entry of a page's BLK_CTRL in the applied set. -/
def recordedOff (c : Chip) (p : Nat) : Bool :=
  match c.upd.current with
  | some v => v.entries.any fun e => e.type == 1 && e.page == p && e.offset == 0x008 && !bitOf e.value 0
  | none => false

/-- The service pages of R69 are enabled; `applied` tells that a settings set was. -/
def enableService (c : Chip) (applied : Bool) : Chip :=
  [0x70, 0x71, 0x79, 0x7B, 0x7C].foldl (fun c p =>
    if applied && recordedOff c p then c else modHdr c p fun h => { h with st := .enabled }) c

/-- Every page's conditions follow what the restore left. -/
def refreshAll (c : Chip) : Chip := pageList.foldl pageConds c

/-- A valid plug takes the module to CONFIG on row `row` of R30, its settings restored unless the recovery image runs
(R619 steps 6 and 7, R667), which configures connections (R382); the check of R35 follows. `settingsOk` tells that the
stored version reads good. -/
def addressed (c : Chip) (r : PlugRec) (settingsOk : Bool) (row : Nat) : Chip :=
  let c := plugTake c r
  let fits := match c.upd.current with
    | some v => settingsOk && migrates c v
    | none => false
  let apply := fits && !recoveryRuns c
  let before := c
  let c := enableService (if apply then applySettings c else c) apply
  let c := forN 256 (fun k c => zwConfigured before c k) c
  checkConfig (refreshAll (enterMode c .config row)) false

/-! ### BOOT (R619) -/

/-- A boot takes the newer copy of the boot record, and of the settings' pointer record, that reads back good: where the
newer does not, the older one stands, which names the version before (R664, R678). -/
def bootCopies (c : Chip) (x : BootIn) : Chip :=
  modUpd c fun u => { u with
    boot := if x.bootNewer then u.boot else u.bootOld
    current := if x.setNewer then u.current else u.previous }

/-- Step 1: the backup domain's signature fits its items, where the domain has kept a supply (R603, R627). -/
def bootBackup (c : Chip) (kept : Bool) : Chip :=
  if kept && c.backup.signature == backupSum c.backup then c
  else
    let c := { c with backup := BackupSt.zero }
    raise (modRst c fun s => { s with backupLost := true }) 1 1

/-- The newest record, from the SEQ values that the slots hold: one in its own slot whose predecessor stands before it,
or which is the first of all, and whose successor does not stand behind it (R649). -/
def newestSeq (area : SMap Stored) : Word :=
  let holds := fun (s : Word) => match smFind area (s.toNat % wakeSlots) with
    | some r => r.seq == s
    | none => false
  match area.find? fun e => e.1 == e.2.seq.toNat % wakeSlots && (e.2.seq == 1 || holds (e.2.seq - 1))
      && !holds (e.2.seq + 1) with
  | some e => e.2.seq
  | none => 0

/-- A record of which nothing is known but its SEQ. -/
def cutRecord (c : Chip) (seq : Word) : Stored × Chip :=
  let f := fun (i : Nat) => Config.freeNat (c.fresh + i)
  let w := fun (i : Nat) => BitVec.ofNat 32 (f i)
  (⟨seq, ⟨f 0, f 1, f 2, w 3, w 4, w 5, w 6⟩⟩, { c with fresh := c.fresh + 7 })

/-- A reset has cut the write of the slot after the newest record, whose SEQ, written last, reads `seq` since (R649).
One that fits the succession is taken as it stands: the old SEQ, over bytes that are no record's whole. One that does
not is a torn slot, treated as empty and recorded (R660). The newest record is then found from the SEQ values (DEDUCED,
log entry 104). -/
def bootTorn (c : Chip) (cut : Option Word) : Chip :=
  let k := (c.wake.head + 1).toNat % wakeSlots
  let old := smFind c.wake.area k
  let c := match cut with
    | none => c
    | some seq =>
      if seq = c.wake.head + 1 || seq = (old.map (·.seq)).getD 0 then
        if seq = c.wake.head + 1 || old.isNone then c
        else
          let (r, c) := cutRecord c seq
          modWake c fun w => { w with area := smPut w.area k r }
      else
        let c := modWake c fun w => { w with area := smDel w.area k }
        emit (raise c 0x78 3) 0x78 0x04 0xFFFF (BitVec.ofNat 32 k) 0 0 0
  modWake c fun w => { w with head := newestSeq w.area }

/-- Step 5: the RESET record, a BUTTON_STUCK record of each kind, and the SESSION_CLOSE records of the sessions that the
reset closed (R582, R619, R625; log entry 44). -/
def bootRecords (c : Chip) : Chip :=
  let c := emit c 1 0x01 0xFFFF (readReset c 0x044) (readReset c 0x04C) c.backup.savedStroke 0
  let c := if c.rst.stuckNew then emit c 1 0x04 0xFFFF 1 10000 0 c.stroke.count else c
  let c := match c.rst.freedNew with
    | some ms => emit c 1 0x04 0xFFFF 0 (BitVec.ofNat 32 ms) 0 c.stroke.count
    | none => c
  let c := c.rst.closed.foldl (fun c x =>
    emit c 0x72 0xC1 x.1 3 (BitVec.ofNat 32 x.2.1) (BitVec.ofNat 32 x.2.2) c.stroke.count) c
  setCond (modRst c fun s => { s with stuckNew := false, freedNew := none, closed := [] }) 1 2 c.backup.buttonStuck

/-- A boot has reached CONFIG or UNADDRESSED (R624, R666): `why` is the reason of the image's choice. -/
def bootReached (c : Chip) (why : Nat) : Chip :=
  let n := c.upd.running.slot
  let other := n ≠ 2 && n ≠ c.upd.boot.active
  let c := modBoot c fun b => { b with
    strikes := 0
    previous := if other then b.active else b.previous
    active := if other then n else b.active }
  let c := if other && 2 ≤ why then raise c 0x79 5 else c
  raise c 1 0

/-- Why the first update after this boot clears the panel, if it does (R697). -/
def firstPicture (c : Chip) : Option (Option Nat) :=
  some (if c.backup.marker then some 0
        else if c.rst.backupLost then some 1
        else if !c.panel.shadowOk then some 2
        else none)

/-- BOOT FAIL: nothing passes (R30, R665). -/
def bootFails (c : Chip) : Chip :=
  modPanel (modRst c fun s => { s with bootFail := true, wdtArmed := false }) fun p =>
    { p with first := firstPicture c }

/-- Steps 4 to 7, on the image that has been chosen. -/
def bootOn (c : Chip) (x : BootIn) (plug : Option PlugRec) (why : Nat) : Chip :=
  let c := restoreLockouts (bootTorn (bootRecords c) x.torn)
  let c := setCond (setCond c 0x79 4 (recoveryRuns c)) 0x7C 2 c.ident.keyFault
  let c := modPanel c fun p => { p with first := firstPicture c }
  match plug with
  | some r =>
    let c := plugTake c r
    let c := emit c 1 0x05 0xFFFF 0 (plugIdOf r) r.rack c.stroke.count
    addressed (bootReached c why) r x.settingsOk 3
  | none =>
    let c := plugReport c 2 x.plug2
    let c := modRst c fun s => { s with plugSeen := plugRead1 x.plug2 }
    bootReached (enterMode (refreshAll (enableService c false)) .unaddressed 4) why

/-- BOOT (R619). -/
def boot (c : Chip) (x : BootIn) : Chip :=
  if c.mode.mode ≠ .boot || c.rst.bootFail then c
  else
    let c := bootBackup (bootCopies c x) x.backupKept
    let c := modPanel (modIdent c fun i => { i with keyFault := !x.keyOk }) fun p =>
      { p with shadowOk := p.shadowOk && x.shadowOk }
    let trial := c.upd.boot.trial
    let c := if trial then trialFailed c else c
    let first := plugRead1 x.plug1
    let plug := if first = plugRead1 x.plug2 then first else none
    match chooseImage c x trial plug.isSome with
    | none => bootFails c
    | some (r, why) => bootOn (readLinks (imageRuns c r why) x.links) x plug why

/-! ### Later plug reads -/

/-- PLUG_POLL: in UNADDRESSED, once a second (R30, R617). -/
def plugPoll (c : Chip) (r : Option (List Byte)) : Chip :=
  if c.mode.mode ≠ .unaddressed then c
  else match plugRead1 r with
    | none => modRst c fun s => { s with plugSeen := none }
    | some p =>
      if c.rst.plugSeen = some p then addressed c p true 6
      else modRst c fun s => { s with plugSeen := some p }

/-- PLUG_CHECK: from CONFIG on, every 10 s; a record is written where the outcome, a read's content or its validity,
differs from that of the read before (R618). -/
def plugCheck (c : Chip) (r : Option (List Byte)) : Chip :=
  if !plugRead c then c
  else
    let now := plugRead1 r
    let same := match c.rst.plugLast with
      | none => now == some (plugHeld c)
      | some last => r == last
    let c := setCond (modRst c fun s => { s with plugLast := some r }) 1 3 (now != some (plugHeld c))
    if same then c else plugReport c (if now.isNone then 2 else 1) r

end Sys2Proof.Machine
end

