-- ==== Sys2Proof/Machine/RegWrite.lean ====
section
/-!
DEFINITION. Register writes (R59 to R67): who writes, the checks of R61 in their order, the accepted
effect of every register, and what a refusal leaves.
-/
namespace Sys2Proof.Machine

/-! ### Writers (R60) -/

/-- The class of a writer: 0 S, 1 E, 2 P. -/
def writerClass (c : Chip) : Requester → Nat
  | .session n => match session c n with
    | some s => s.cls
    | none => 2
  | .bar0 => if bpClassE c then 1 else 2
  | .boathouse => 1

/-- A requester whose accesses reach the pages: an open session; the backplane host from CONFIG on while
its link is up (R615); the Boathouse outside RESET, BOOT and ACTIVATE. -/
def reaches (c : Chip) : Requester → Bool
  | .session n => (session c n).isSome
  | .bar0 => c.hosts.pcieUp && (match c.mode.mode with
    | .reset | .boot | .unaddressed => false
    | _ => true)
  | .boathouse => match c.mode.mode with
    | .reset | .boot | .activate => false
    | _ => true

/-- The first address of the pages (R5). -/
def pageBase : Nat := 0x40000000

/-- Page and offset of an address; page 256, which no page number reaches, for one outside the pages. -/
def pageOf (addr : Nat) : Nat :=
  if pageBase ≤ addr ∧ addr < pageBase + 0x80000 then (addr - pageBase) / 4096 else 256
def offsetOf (addr : Nat) : Nat := addr % 4096

/-! ### Checks 0x04 and 0x05 -/

/-- The access code lets the class write (R59). -/
def Acc.lets (a : Acc) (cls : Nat) : Bool :=
  match a with
  | .ro => false
  | .rw => true
  | .rwe => cls ≤ 1
  | .rws => cls == 0

/-- A field of class S inside a register that others may write: RST_CMD.CLEAR_COUNTS and WR_CMD.ARM. -/
def narrowField (p off cls : Nat) (v : Word) : Bool :=
  cls ≠ 0 && ((p == 0x01 && off == 0x040 && bitOf v 16) || (p == 0x78 && off == 0x04C && bitOf v 8))

/-- The class's bit in BLK_OWNER (R51). -/
def owns (c : Chip) (p cls : Nat) : Bool :=
  match cls with
  | 0 => true
  | 1 => (hdr c p).ownerE
  | _ => (hdr c p).ownerP

/-! ### Trims, forces and breakpoints (R188 to R199) -/

/-- The trims of a batch as the registers hold them. -/
def trimBatch (c : Chip) (p count : Nat) : List Trim :=
  (List.range count).map fun n =>
    let w := cfg c p (0x180 + 8 * n)
    ⟨fld w 13 12, fld w 11 0, cfg c p (0x184 + 8 * n)⟩

/-- One trim breaks R189. -/
def trimBad (k : CrewSt) (t : Trim) : Bool :=
  match (partAt k t.part).trims[t.index]? with
  | none => true
  | some e => t.value.toInt < e.min || e.max < t.value.toInt

/-- Two trims of a batch share an entry. -/
def sharesEntry : List Trim → Bool
  | [] => false
  | t :: ts => ts.any (fun u => u.part == t.part && u.index == t.index) || sharesEntry ts

/-- A batch is refused with CONDITION (R189). -/
def batchBad (c : Chip) (cr : Crew) (ts : List Trim) : Bool :=
  ts.any (trimBad (crewSt c cr)) || sharesEntry ts || (ctlSt c cr).trimPending != []
    || 4095 ≤ (ctlSt c cr).journal.length + (ctlSt c cr).trimApplied.length

/-- A PARTITION field is out of range: 0, or 0 to 2 in scull mode. -/
def partBad (c : Chip) (cr : Crew) (n : Nat) : Bool :=
  if cr == .process && scullOption c then n == 3 else n ≠ 0

/-- The selected force entry (R213), and what a write of FORCE_VALUE or FORCE_ENTRY makes of it. -/
def forceSel (c : Chip) (p : Nat) : Nat := (cfg c p 0x130).toNat
def forceAfter (f : Force) (off : Nat) (v : Word) : Force :=
  if off = 0x138 then { f with entry := v } else { f with value := v }

/-- A force write is refused with CONDITION (R194, R199). -/
def forceBad (c : Chip) (cr : Crew) (off : Nat) (v : Word) : Bool :=
  let sel := forceSel c (crewPage cr)
  let old := force c cr sel
  let new := forceAfter old off v
  new.on
    && ((ctlSt c cr).forces.any (fun e => e.1 ≠ sel && e.2.on && e.2.word == new.word
          && e.2.part == new.part && e.2.addr == new.addr)
      || (!new.word && 1 < new.value.toNat)
      || (cr == .safety && c.underway && (!old.on || new ≠ old)))

/-- A breakpoint write is refused with CONDITION (R188, R214). -/
def bpBad (c : Chip) (v : Word) : Bool :=
  bitOf v 31 && (c.underway || (partAt c.crewP (fld v 21 20)).code.length ≤ fld v 19 0)

/-! ### Loads and tunes -/

/-- The mode lets tunes and table points be applied (R288, R330). -/
def tuneMode (c : Chip) : Bool :=
  match c.mode.mode with
  | .config | .stop | .run | .hold => true
  | _ => false

/-- The loop of an engine is missing from the set, or SAFE lies outside new limits (R288). -/
def tuneBad (c : Chip) (e j : Nat) (limits : Word) : Bool :=
  let hi := signed 16 (fld limits 31 16)
  let lo := signed 16 (fld limits 15 0)
  match loopBlock c e j with
  | none => true
  | some b => hi < lo || b.com.safe < lo || hi < b.com.safe

/-- LOOP_MODEj is refused with CONDITION: no such loop, or MANUAL for one that feeds a lane (R296, R302). -/
def loopModeBad (c : Chip) (e j req : Nat) : Bool :=
  match loopBlock c e j with
  | none => true
  | some b => req == 2 && (laneOf b).isSome

/-- A load command stages TICKS that R99 does not allow at the period in force, or at the one that the next T0 brings
(R122, R285, R325). -/
def ticksBad (c : Chip) (e : Nat) (v : Word) : Bool :=
  let obj := smFind c.upd.staged (engPage e)
  fld v 7 0 == 1 && !(stagedTicksOk (8 ≤ e) (periodNs c) obj && stagedTicksOk (8 ≤ e) (nextPeriodNs c) obj)

/-- CMD of a load register: LOAD or DISCARD. -/
def loadCmdBad (v : Word) : Bool := !(fld v 7 0 == 1 || fld v 7 0 == 2)

/-! ### Check 0x09 OUT_OF_RANGE -/

/-- A value that the register's map does not allow. -/
def outOfRange (c : Chip) (p off : Nat) (v : Word) : Bool :=
  if off = 0x008 then
    fld v 15 8 == 0 || (fixedPage p && (bitOf v 4 || !bitOf v 0))
  else if off < 0x040 then false
  else
    !rangeOk p off (serialNmea c (fld (cfg c 0x75 0x040) 6 4)) v
    || (match pageCrew p with
        | some cr =>
          if off = 0x068 then fld v 2 1 == 3
          else if off = 0x10C then loadCmdBad v
          else if off = 0x138 then partBad c cr (fld v 21 20) || (bitOf v 30 && 0x3FFF < fld v 15 0)
          else if 0x140 ≤ off ∧ off < 0x160 then partBad c cr (fld v 21 20)
          else if 0x180 ≤ off ∧ off % 8 = 0 then partBad c cr (fld v 13 12)
          else false
        | none =>
          if 0x10 ≤ p ∧ p ≤ 0x1B then
            (off == 0x04C && loadCmdBad v) || (0x800 ≤ off && fld v 1 0 == 3)
          else if p = 0x20 then
            0x100 ≤ off && off < 0x300 && off % 16 == 4 && fld v 15 0 != 0 && !bitOf (grpCfg c 0 ((off - 0x100) / 16)) 29
          else if p = 0x28 then off == 0x050 && fld v 7 0 ≠ 1
          else if 0x60 ≤ p ∧ p ≤ 0x6F then
            (off == 0x044 && !(1 ≤ fld v 7 0 && fld v 7 0 ≤ 3))
            || (off == 0x090 && fld v 15 0 == 0
                && (let o := cfgW c p (selected c p) 0x084; bitOf o 30 && bitOf o 20))
          else if p = 0x72 then
            0x100 ≤ off && !(1 ≤ fld v 23 16 && fld v 23 16 ≤ 64)
          else if p = 0x78 then
            off == 0x04C
              && (2 < fld v 7 0
                || (fld v 7 0 == 2 && (let x := cfg c 0x78 0x074
                      2 ≤ fld x 31 30 || fld x 16 0 == 0 || 65536 < fld x 16 0)))
          else if p = 0x79 then off == 0x044 && fld v 7 0 ≠ 1
          else if p = 0x7B then off == 0x044 && !(fld v 7 0 == 1 || fld v 7 0 == 2)
          else false)

/-! ### Check 0x0A ILLEGAL_IN_MODE -/

/-- A write that the current mode does not allow (R61, R70). -/
def wrongMode (c : Chip) (p off : Nat) (v : Word) : Bool :=
  let config := c.mode.mode == .config
  if off = 0x008 then tiedPage p && (bitOf v 4 || !bitOf v 0) && !tiedMode c
  else match regAt c p off with
    | none => false
    | some r =>
      (r.cfg && !config)
      || (match pageCrew p with
          | some cr =>
            (off == 0x10C && !config)
            || (off == 0x124 && bitOf v 8 && !(match c.mode.mode with
                | .stop => true
                | .run | .hold => cr == .process
                | _ => false))
          | none =>
            if 0x10 ≤ p ∧ p ≤ 0x1B then
              (off == 0x04C && !config)
              || (p ≤ 0x17 && off == 0x06C && bitOf v 16 && !tuneMode c)
              || (0x1A ≤ p && off == 0x060 && bitOf v 31 && !tuneMode c)
            else false)

/-! ### Check 0x0B CONDITION -/

/-- A further condition stated for the register does not hold. -/
def conditionFails (c : Chip) (p off : Nat) (v : Word) : Bool :=
  if off = 0x008 then bitOf v 4 && !resettable c p
  else if off < 0x040 then false
  else match pageCrew p with
    | some cr =>
      if off = 0x068 then
        bitOf v 0 && (c.underway || (coxSt c cr).faulty || (cr == .process && scullOption c))
      else if off = 0x10C then (crewSt c cr).loadResult == 0xFF
      else if off = 0x124 then bitOf v 8 && batchBad c cr (trimBatch c p (fld v 4 0))
      else if off = 0x134 ∨ off = 0x138 then forceBad c cr off v
      else if 0x140 ≤ off ∧ off < 0x160 then bpBad c v
      else if 0x180 ≤ off then (ctlSt c cr).trimPending != []
      else false
    | none =>
      match engineOf p with
      | some e =>
        if off = 0x04C then (eng c e).result == 0xFF || ticksBad c e v
        else if 0x800 ≤ off then loopModeBad c e ((off - 0x800) / 4) (fld v 1 0)
        else if e < 8 then
          if off = 0x06C then
            bitOf v 16 && ((eng c e).tune.isSome || tuneBad c e (fld v 5 0) (cfg c p 0x068))
          else (eng c e).tune.isSome
        else (eng c e).tune.isSome || (bitOf v 31 && (loopBlock c e (fld v 27 24)).isNone)
      | none =>
        if p = 0x02 then off == 0x040 && strokeCfgBad c v
        else if p = 0x18 then off == 0x04C && c.sel.result == 0xFF
        else if p = 0x20 then c.backup.lockout ≠ 0
        else if p = 0x21 then off ≠ 0x048 && c.backup.lockout ≠ 0
        else if p = 0x28 then off == 0x050 && (!fleet c || !partnerSeen c)
        else if 0x60 ≤ p ∧ p ≤ 0x6F then
          (match off with
           | 0x044 =>
             (match fld v 7 0 with
              | 1 => sleepRefused c (p - 0x60)
              | 3 => recoverRefused c (p - 0x60)
              | _ => false)
           | 0x04C => nbtBad v
           | 0x050 => dbtBad v
           | _ => false)
        else if p = 0x72 then 0x100 ≤ off && (session c ((off - 0x100) / 16)).isNone
        else if p = 0x78 then
          off == 0x04C && ((bitOf v 8 && c.wake.armed) || (fld v 7 0 == 2 && exporting c))
        else if p = 0x79 then off == 0x044 && discardRefused c
        else if p = 0x7B then off == 0x044 && c.panel.waiting.isSome
        else if p = 0x7C then off == 0x050 && bitOf v 0 && c.ident.attPending
        else false

/-- The code of checks 0x09 to 0x0B, if one fails. -/
def lateRefusal (c : Chip) (cls p off : Nat) (v : Word) : Option Nat :=
  if p = 0x01 ∧ off = 0x040 then rstCmdRefusal c cls v
  else if p = 0x04 ∧ off = 0x044 then modeCmdRefusal c (fld v 7 0)
  else if p = 0x7C ∧ off = 0x04C then ownRefusal c v
  else if outOfRange c p off v then some 0x09
  else if wrongMode c p off v then some 0x0A
  else if conditionFails c p off v then some 0x0B
  else none

/-- Check 0x03: a session that has used up its writes (R586). -/
def allowanceUsed (c : Chip) : Requester → Bool
  | .session n => match session c n with
    | some s => s.writesMax ≤ s.writes
    | none => false
  | _ => false

/-- The first check that fails refuses the write with its code (R61). `full` tells that the write covers
all four bytes. -/
def writeRefusal (c : Chip) (r : Requester) (addr : Nat) (full : Bool) (v : Word) : Option Nat :=
  let p := pageOf addr
  let off := offsetOf addr
  let cls := writerClass c r
  let st := (hdr c p).st
  if !occupied c p (off - off % 4) then some 0x01
  else if off % 4 ≠ 0 || !full then some 0x02
  else if allowanceUsed c r then some 0x03
  else match regAt c p off with
    | none => some 0x04
    | some g =>
      if !g.acc.lets cls || narrowField p off cls v then some 0x04
      else if !owns c p cls then some 0x05
      else if st = .isolated then some 0x06
      else if st = .draining && !(off == 0x008 && bitOf v 4) then some 0x07
      else if v &&& g.resv ≠ 0 then some 0x08
      else lateRefusal c cls p off v

/-! ### Effects -/

/-- The causes that a page defines in [27:0] (R49). R26 gives page 0x74 a cause for each queue. -/
def definedCauses (p : Nat) : Word :=
  if p = 0x01 then 0x7F else if p = 0x02 then 0x3F else if p = 0x04 then 1
  else if p = 0x08 then 0x7001F else if p = 0x09 then 0xF001F
  else if 0x10 ≤ p ∧ p ≤ 0x17 then 0x3F else if p = 0x18 then 0xF else if p = 0x1A ∨ p = 0x1B then 0x3F
  else if p = 0x20 then 0xFF else if p = 0x21 then 0x3F else if p = 0x28 then 0xFFF
  else if p = 0x30 then 0x1FF else if 0x31 ≤ p ∧ p ≤ 0x33 then 0xFF else if p = 0x34 then 0x3FF
  else if 0x40 ≤ p ∧ p ≤ 0x5F then 0x7F else if 0x60 ≤ p ∧ p ≤ 0x6F then 0x1FF
  else if p = 0x70 ∨ p = 0x71 then 0xF else if p = 0x72 then 0x1F
  else if p = 0x74 then
    (List.range 64).foldl (fun w q => w ||| ((1 : Word) <<< (Config.queueCauseBit q % 28))) 0
  else if p = 0x75 then 0xF else if p = 0x78 then 0xF else if p = 0x79 then 0x3F
  else if p = 0x7A then 0x1FF else if p = 0x7B then 7 else if p = 0x7C then 7 else 0

/-- BLK_TEST_SET (R58), with its record. -/
def testSet (c : Chip) (p : Nat) (v : Word) : Chip :=
  let c := modHdr c p fun h => { h with cause := h.cause ||| (v &&& (0xF0000000 ||| definedCauses p)) }
  emit c p 0xFE 0xFFFF v (hdr c p).cause 0 c.stroke.count

/-- BLK_CTRL (R71, R74). -/
def writeCtrl (c : Chip) (p cls : Nat) (v : Word) : Chip :=
  if bitOf v 4 then blockReset c p 0 cls
  else
    let c := modHdr c p fun h => { h with drainTimeout := fld v 15 8 }
    match (hdr c p).st, bitOf v 0 with
    | .disabled, true => blockEnable c p
    | .enabled, false => blockDisable c p
    | _, _ => c

/-- The header registers. -/
def writeHeader (c : Chip) (p off cls : Nat) (v : Word) : Chip :=
  match off with
  | 0x008 => writeCtrl c p cls v
  | 0x010 => modHdr c p fun h => { h with cause := h.cause &&& ~~~v }
  | 0x014 => modHdr c p fun h => { h with mask := v }
  | 0x01C => testSet c p v
  | 0x020 => modHdr c p fun h => { h with ownerE := bitOf v 1, ownerP := bitOf v 2 }
  | _ => c

/-- Drop the object staged for a page. -/
def dropStaged (c : Chip) (p : Nat) : Chip := modUpd c fun u => { u with staged := smDel u.staged p }

/-- A load register of a crew page: LOAD starts the checks, DISCARD drops the object (R174, R210). While RESULT is 0xFF,
SECTION and PRG_LOAD_WHERE keep the values of the load before (DESIGN CHOICE, log entry 86). -/
def writePrgLoad (c : Chip) (cr : Crew) (v : Word) : Chip :=
  let c := modCrew c cr fun k => { k with
    loadCmd := v, loadResult := if fld v 7 0 = 1 then 0xFF else k.loadResult }
  if fld v 7 0 = 2 then dropStaged c (crewPage cr) else c

/-- A load register of an engine page, and of the heat selector (R285, R292, R325). -/
def writeEngLoad (c : Chip) (e : Nat) (v : Word) : Chip :=
  let c := if fld v 7 0 = 1 then modEng c e fun g => { g with cmd := v, result := 0xFF, failNo := 0xFF }
    else modEng c e fun g => { g with cmd := v }
  if fld v 7 0 = 2 then dropStaged c (engPage e) else c
def writeHsLoad (c : Chip) (v : Word) : Chip :=
  let c := if fld v 7 0 = 1 then { c with sel := { c.sel with cmd := v, result := 0xFF, failNo := 0xFF } }
    else { c with sel := { c.sel with cmd := v } }
  if fld v 7 0 = 2 then dropStaged c 0x18 else c

/-- A write that only stores: the bits that the register keeps. -/
def storeReg (c : Chip) (p off : Nat) (v : Word) : Chip :=
  let keep := match regAt c p off with | some g => g.keep | none => 0
  if windowOf p off then setCfgW c p (selected c p) off (v &&& keep) else setCfg c p off (v &&& keep)

/-- FORCE_VALUE or FORCE_ENTRY is written. A change of an entry that is enabled before or after writes
FORCE_CHANGED (R216), which R194 lets class S only bring about. -/
def writeForce (c : Chip) (cr : Crew) (off : Nat) (v : Word) : Chip :=
  let sel := forceSel c (crewPage cr)
  let old := force c cr sel
  let new := forceAfter old off v
  let c := forceCond (modCtl c cr fun t => { t with forces := smSet Force.reset t.forces sel new }) cr
  if (old.on || new.on) && new != old then
    emit c (crewPage cr) 0x32 sel new.entry new.value 0 c.stroke.count
  else c

/-- LOOP_MODEj is written: a change of REQ writes MODE_REQUEST (R296, R298). -/
def writeLoopMode (c : Chip) (e j req : Nat) : Chip :=
  let st := loopSt c e j
  let c := modLoop c e j fun s => { s with req := req }
  if st.req = req then c
  else emit c (engPage e) 0x43 j (BitVec.ofNat 32 st.req) (BitVec.ofNat 32 req) (loopOutWord st) c.stroke.count

/-- The crew pages' registers. -/
def writeCrew (c : Chip) (cr : Crew) (off : Nat) (v : Word) : Chip :=
  let p := crewPage cr
  if off = 0x068 then modCox c cr fun k => { k with testArm := bitOf v 0, testCore := fld v 2 1 }
  else if off = 0x10C then writePrgLoad c cr v
  else if off = 0x124 then
    let c := storeReg c p off v
    if bitOf v 8 then modCtl c cr fun t => { t with trimPending := [trimBatch c p (fld v 4 0)] } else c
  else if off = 0x134 ∨ off = 0x138 then
    writeForce c cr off v
  else if 0x140 ≤ off ∧ off < 0x160 then
    modCtl c cr fun t => { t with bps := smSet 0 t.bps ((off - 0x140) / 4) v }
  else storeReg c p off v

/-- The engine pages' registers. -/
def writeEngine (c : Chip) (e off : Nat) (v : Word) : Chip :=
  let p := engPage e
  if off = 0x04C then writeEngLoad c e v
  else if 0x800 ≤ off then writeLoopMode c e ((off - 0x800) / 4) (fld v 1 0)
  else
    let c := storeReg c p off v
    if e < 8 && off == 0x06C && bitOf v 16 then
      modEng c e fun g => { g with
        tune := some ⟨fld v 5 0, cfg c p 0x060, cfg c p 0x064, cfg c p 0x068⟩ }
    else if 8 ≤ e && bitOf v 31 then
      modEng c e fun g => { g with tune := some ⟨fld v 27 24, v &&& 0x0FFFFFFF, 0, 0⟩ }
    else c

/-- WR_CMD (R651, R653, R657). -/
def writeWrCmd (c : Chip) (r : Requester) (v : Word) : Chip :=
  let c := modWake c fun w => { w with cmd := v &&& 0xFF }
  let c := if bitOf v 8 then armLaunch c else c
  match fld v 7 0 with
  | 1 => snap c (reqNo r)
  | 2 => exportStart c
  | _ => c

/-- CAN_CMD (R549, R550, R555). -/
def writeCanCmd (c : Chip) (n : Nat) (v : Word) : Chip :=
  let c := setCfg c (canPage n) 0x044 v
  match fld v 7 0 with
  | 1 => canSleep c n
  | 2 => canWakeUp c n 0 0
  | _ => canRecover c n

/-- A session is closed by HS_CLOSE or CLOSE, and a staging of page 0x79 ends with it (R582, R669). -/
def endSession (c : Chip) (s why : Nat) : Chip := updAbandon (closeSession c s why)

/-- The block-specific registers of every page. -/
def writeBlock (c : Chip) (r : Requester) (p off cls : Nat) (v : Word) : Chip :=
  match pageCrew p, engineOf p with
  | some cr, _ => writeCrew c cr off v
  | none, some e => writeEngine c e off v
  | none, none =>
    if p = 0x01 then rstCmdRun c cls v
    else if p = 0x02 ∧ off = 0x060 then
      let c := storeReg c p off v
      let c := if bitOf v 8 then modStroke c fun s => { s with
          loadSafety := { s.loadSafety with peak := 0 }, loadProcess := { s.loadProcess with peak := 0 } }
        else c
      loadHigh c
    else if p = 0x04 then modeCmdRun c (fld v 7 0)
    else if p = 0x18 then
      if off = 0x04C then writeHsLoad c v
      else
        let h := (off - 0x800) / 4
        if (heatBlock c h).isSome then modHeat c h fun s => { s with req := fld v 1 0 } else c
    else if p = 0x28 ∧ off = 0x050 then resync (setCfg c p off v)
    else if 0x60 ≤ p ∧ p ≤ 0x6F ∧ off = 0x044 then writeCanCmd c (p - 0x60) v
    else if 0x60 ≤ p ∧ p ≤ 0x6F ∧ off = 0x098 then
      if bitOf v 29 then setClash c (p - 0x60) (selected c p) false else c
    else if p = 0x72 ∧ off = 0x050 then
      let c := storeReg c p off v
      if bitOf v 4 then endSession c (fld v 3 0) 1 else c
    else if p = 0x72 ∧ 0x100 ≤ off then
      modSession c ((off - 0x100) / 16) fun s => { s with
        queueMax := fld v 23 16, writesMax := fld v 15 0 }
    else if p = 0x78 ∧ off = 0x04C then writeWrCmd c r v
    else if p = 0x78 ∧ off = 0x058 then modCtx c (reqNo r) fun x => { x with area := fld v 1 0 }
    else if p = 0x78 ∧ off = 0x05C then modCtx c (reqNo r) fun x => { x with sel := v }
    else if p = 0x79 ∧ off = 0x044 then updDiscard (setCfg c p off v)
    else if p = 0x7A then if bitOf v 0 then sensorClear c else c
    else if p = 0x7B then panelCommand c (fld v 7 0)
    else if p = 0x7C ∧ off = 0x04C then ownStart (setCfg c p off v) v
    else if p = 0x7C ∧ off = 0x050 then if bitOf v 0 then attRequest c cls else c
    else if p = 0x7C ∧ 0x400 ≤ off then
      modIdent c fun i => { i with window := smPut i.window ((off - 0x400) / 4) v }
    else if p = 0x21 ∧ 0x04C ≤ off then pageConds (zwConfigured c (storeReg c p off v) (selected c p)) p
    else pageConds (storeReg c p off v) p

/-- An accepted write: BLK_SEQ counts it, then it takes effect (R52, R66). -/
def writeAccepted (c : Chip) (r : Requester) (addr : Nat) (v : Word) : Chip :=
  let p := pageOf addr
  let off := offsetOf addr
  let cls := writerClass c r
  let c := modHdr c p fun h => { h with seq := h.seq + 1 }
  if off < 0x040 then writeHeader c p off cls v else writeBlock c r p off cls v

/-! ### Refusals (R62 to R64) -/

/-- What a refused write leaves: REFUSED_WRITE or OVER_ALLOWANCE, the refusal register of a memory-mapped
writer, and the reason of a refused ACTIVATE. Of an address outside the register space, PAGE and OFFSET are the low
eight bits of its 4 KiB page number and its low 12 bits (DESIGN CHOICE, log entry 87). -/
def writeRefused (c : Chip) (r : Requester) (addr code : Nat) (v : Word) : Chip :=
  let p := pageOf addr
  let c := match code, r with
    | 3, .session n => overAllowance c n
    | _, _ => raise c (if populated p then p else 0) 31
  let w := pack [(code, 31, 24), (addr / 4096, 23, 16), (addr, 11, 0)]
  let c := match r with
    | .session _ => c
    | .bar0 => { c with attn := { c.attn with refusalHost := w } }
    | .boathouse => { c with attn := { c.attn with refusalBh := w } }
  if p = 0x04 && offsetOf addr = 0x044 && code = 0x0B && v = 0x0A then
    match activateReason c with
    | some n => activateRefused c n
    | none => c
  else c

/-- A write that passes check 3 counts against a session's allowance (R586). -/
def countWrite (c : Chip) (r : Requester) (code : Option Nat) : Chip :=
  match r, code with
  | .session n, some k => if 3 < k then modSession c n fun s => { s with writes := s.writes + 1 } else c
  | .session n, none => modSession c n fun s => { s with writes := s.writes + 1 }
  | _, _ => c

/-- A register write: its code, 0 when accepted (R61). -/
def regWrite (c : Chip) (r : Requester) (addr : Nat) (full : Bool) (v : Word) : Nat × Chip :=
  if !reaches c r then (0, c)
  else
    let code := writeRefusal c r addr full v
    let c := countWrite c r code
    match code with
    | some k => (k, writeRefused c r addr k v)
    | none => (0, writeAccepted c r addr v)

/-- The address of a register. -/
def regAddr (p off : Nat) : Nat := pageBase + p * 4096 + off

/-- A whole write of a page's register. -/
def writeReg (c : Chip) (r : Requester) (p off : Nat) (v : Word) : Chip :=
  (regWrite c r (regAddr p off) true v).2

/-! ### The Boathouse's own writes -/

/-- AUTOSTART_WAIT_EXPIRY: the Boathouse writes STOP and then START (R392). -/
def autostart (c : Chip) : Chip :=
  if autostartDue c then writeReg (writeReg c .boathouse 4 0x044 2) .boathouse 4 0x044 1 else c

end Sys2Proof.Machine
end

