-- ==== Sys2Proof/Machine/RegRead.lean ====
section
/-!
DEFINITION. Register reads: what every register of every page shows (R43 to R52 and the register tables of
the chapters). A reading that no command carries is free.
-/
namespace Sys2Proof.Machine

/-! ### Latched high words (R124, R208) -/

/-- Reading the low word latches the high one for this requester; `k` numbers the register. -/
def latchHigh (c : Chip) (r : Requester) (k : Nat) (hi : Word) : Chip :=
  modStroke c fun s => { s with hiLatch := smPut s.hiLatch (reqNo r + 32 * k) hi }

/-- The high word as a requester reads it: live until its first read of the low word. -/
def highWord (c : Chip) (r : Requester) (k : Nat) (live : Word) : Word :=
  smGet live c.stroke.hiLatch (reqNo r + 32 * k)

/-- The halves of a 64-bit number. -/
def lowHalf (n : Nat) : Word := BitVec.ofNat 32 n
def highHalf (n : Nat) : Word := BitVec.ofNat 32 (n / 2 ^ 32)

/-! ### Pages 0x00, 0x02 and 0x04 -/

/-- Page 0x00 (R75 to R80). -/
def readAttn (c : Chip) (off : Nat) : Word :=
  match off with
  | 0x040 => attnSummary c
  | 0x044 | 0x048 | 0x04C | 0x050 => attnGroup c ((off - 0x044) / 4)
  | 0x054 => cfg c 0 0x054
  | 0x058 => c.attn.seq
  | 0x060 => c.attn.refusalBh
  | 0x064 => c.attn.refusalHost
  | _ => 0

/-- STROKE_TIME: module time at the current T0, 0 before the first after a reset (R124). -/
def strokeTime (c : Chip) : Nat := if c.stroke.timed then c.stroke.t0 else 0

/-- Page 0x02 (R121 to R127). -/
def readStroke (c : Chip) (r : Requester) (off : Nat) : Word × Chip :=
  match off with
  | 0x044 => (strokeStat c, c)
  | 0x048 => (c.stroke.count, c)
  | 0x04C => (lowHalf (strokeTime c), latchHigh c r 0 (highHalf (strokeTime c)))
  | 0x050 => (highWord c r 0 (highHalf (strokeTime c)), c)
  | 0x054 => (c.stroke.offset, c)
  | 0x058 => (loadWord c.stroke.loadSafety, c)
  | 0x05C => (loadWord c.stroke.loadProcess, c)
  | 0x064 => (overrunStat c, c)
  | _ => (cfg c 2 off, c)

/-! ### The crew pages (R207 to R214, R244 to R249) -/

/-- RUNSTATE's code (R209). -/
def RunState.code : RunState → Nat
  | .idle => 0 | .running => 1 | .halted => 2

/-- PRG_STAT (R209). RUNSTATE reads running from an accepted RESUME or STEP on, before the catch at which the crew goes
on (DESIGN CHOICE, log entry 96). JOURNAL saturates: a standby's journal can outgrow its field (DESIGN CHOICE, log
entry 97). -/
def prgStat (c : Chip) (cr : Crew) : Word :=
  let k := crewSt c cr
  pack [(min 4095 (ctlSt c cr).journal.length, 27, 16), (forcesOn c cr, 15, 8), (b2n k.crab, 4, 4), (k.run.code, 3, 2),
    (b2n (sculls k), 1, 1), (b2n k.prog.isSome, 0, 0)]

/-- The number of a crew's DRIVE_NO latch. -/
def driveLatch : Crew → Nat
  | .safety => 1
  | .process => 2

/-- A crew page's registers. -/
def readCrew (c : Chip) (cr : Crew) (r : Requester) (off : Nat) : Word × Chip :=
  let k := crewSt c cr
  let x := coxSt c cr
  let t := ctlSt c cr
  let f := force c cr (forceSel c (crewPage cr))
  let idOf := fun (g : Program → Word) => match k.prog with | some p => g p | none => 0
  match off with
  | 0x040 => (crewStat c cr, c)
  | 0x044 => (x.last, c)
  | 0x048 => (x.lastAddr, c)
  | 0x04C => (x.lastStroke, c)
  | 0x050 => (x.prevStroke, c)
  | 0x054 => (eccStat x, c)
  | 0x058 => (x.eccLast, c)
  | 0x05C => (x.faultStat, c)
  | 0x060 => (x.faultWord, c)
  | 0x064 => (x.faultStroke, c)
  | 0x068 => (coxTestWord x, c)
  | 0x100 => (idOf (·.id), c)
  | 0x104 => (idOf (·.version), c)
  | 0x108 => (prgStat c cr, c)
  | 0x10C => (k.loadCmd, c)
  | 0x110 => (pack [(k.loadResult, 31, 24), (k.loadSection, 23, 16)], c)
  | 0x114 => (k.loadWhere, c)
  | 0x118 => (lowHalf k.driveNo, latchHigh c r (driveLatch cr) (highHalf k.driveNo))
  | 0x11C => (highWord c r (driveLatch cr) (highHalf k.driveNo), c)
  | 0x120 => (k.ran.setWidth 32, c)
  | 0x128 => (pack [(b2n (t.trimPending != []), 16, 16), (t.lastTrimStroke.toNat, 15, 0)], c)
  | 0x134 => (f.value, c)
  | 0x138 => (f.entry, c)
  | 0x160 => (t.haltStat, c)
  | 0x164 | 0x168 | 0x16C => (t.haltPc.getD ((off - 0x164) / 4) 0, c)
  | _ =>
    if 0x140 ≤ off ∧ off < 0x160 then (smGet 0 t.bps ((off - 0x140) / 4), c)
    else (cfg c (crewPage cr) off, c)

/-! ### Engines and the heat selector (R290 to R296, R326 to R330) -/

/-- LOAD_PCT: clocks of the samples of one stroke as a percentage of those in P, rounded up (R292). -/
def loadPct (c : Chip) (g : EngSt) : Nat :=
  let loops := match g.set with | some s => s.loops | none => []
  let busy := loops.foldl (fun n b => n + b.com.ticks * sampleTime b) 0
  let p := 2 * periodNs c
  if p = 0 then 0 else (100 * busy + p - 1) / p

/-- A load status register. -/
def loadStat (result failNo : Nat) : Word := pack [(result, 31, 24), (failNo, 23, 16)]

/-- The status register of an engine (R291, R330). -/
def engStat (c : Chip) (e : Nat) : Word :=
  let g := eng c e
  pack [(if e < 8 then 0 else alertBits g 0, 31, 16),
    (match g.set with | some s => s.loops.length | none => 0, 15, 8),
    (b2n g.tune.isSome, 2, 2), (b2n (sampling c e), 1, 1), (b2n g.set.isSome, 0, 0)]

/-- An engine page's registers. -/
def readEngine (c : Chip) (e off : Nat) : Word :=
  let g := eng c e
  if 0x400 ≤ off ∧ off < 0x800 then
    let j := (off - 0x400) / 16
    let s := loopSt c e j
    if (loopBlock c e j).isNone then 0
    else match off % 16 / 4 with
      | 0 => loopStatWord s
      | 1 => pack [(q16 s.pv, 31, 16), (q16 s.sp, 15, 0)]
      | 2 => loopOutWord s
      | _ => pack [(s.dmax, 15, 0)]
  else if 0x800 ≤ off then
    let j := (off - 0x800) / 4
    if (loopBlock c e j).isNone then 0 else BitVec.ofNat 32 (loopSt c e j).req
  else match off with
    | 0x040 => engStat c e
    | 0x044 => match g.set with | some s => s.id | none => 0
    | 0x048 => match g.set with | some s => s.version | none => 0
    | 0x04C => g.cmd
    | 0x050 => loadStat g.result g.failNo
    | 0x054 => pack [(g.loops.foldl (fun n x => max n x.2.dmax) 0, 31, 16), (loadPct c g, 7, 0)]
    | 0x058 => g.samples
    | 0x070 => BitVec.ofNat 32 (alertBits g 0)
    | 0x074 => BitVec.ofNat 32 (alertBits g 32)
    | _ => cfg c (engPage e) off

/-- HEAT_STATh (R327). -/
def heatStat (c : Chip) (h : Nat) : Word :=
  let s := heat c h
  pack [(s.mode, 31, 30), (b2n s.noLeader, 29, 29), (s.leader.getD 0, 26, 24), (liveMask c h, 23, 16),
    (packBits (s.lanes.map (·.tracked)), 15, 8), (packBits (s.lanes.map (·.timedOut)), 7, 0)]

/-- Page 0x18's registers; LANE_C.AGE runs with time and is free. -/
def readHeats (c : Chip) (off : Nat) : Word × Chip :=
  let g := c.sel
  if 0x400 ≤ off ∧ off < 0x500 then
    let h := (off - 0x400) / 16
    if (heatBlock c h).isNone then (0, c)
    else match off % 16 / 4 with
      | 0 => (heatStat c h, c)
      | 1 => (pack [(q16 (heat c h).out, 31, 16), (q16 (heat c h).minC, 15, 0)], c)
      | _ => ((heat c h).leads, c)
  else if 0x600 ≤ off ∧ off < 0x800 then
    let h := (off - 0x600) / 32
    match heatBlock c h, (heat c h).lanes[(off - 0x600) % 32 / 4]? with
    | some _, some l =>
      match l.newest with
      | some a =>
        let (n, c) := freshNat c
        (pack [(q16 a.c, 31, 16), (n, 15, 0)], c)
      | none => (0, c)
    | _, _ => (0, c)
  else if 0x800 ≤ off then
    let h := (off - 0x800) / 4
    (if (heatBlock c h).isNone then 0 else BitVec.ofNat 32 (heat c h).req, c)
  else match off with
    | 0x040 => (pack [(match g.set with | some (_, _, hs) => hs.length | none => 0, 15, 8),
        (b2n (deciding c), 1, 1), (b2n g.set.isSome, 0, 0)], c)
    | 0x044 => (match g.set with | some (id, _, _) => id | none => 0, c)
    | 0x048 => (match g.set with | some (_, v, _) => v | none => 0, c)
    | 0x04C => (g.cmd, c)
    | 0x050 => (loadStat g.result g.failNo, c)
    | 0x054 => (g.decisions, c)
    | _ => (0, c)

/-! ### Safety and the pair (R373 to R380, R428 to R430) -/

/-- Page 0x20's read-only registers. -/
def readSafety (c : Chip) (off : Nat) : Word :=
  if 0x400 ≤ off ∧ off < 0x480 then groupStat (group c ((off - 0x400) / 4))
  else match off with
    | 0x040 => pack [(b2n (sigMatch c), 1, 1), (b2n (evaluates c), 0, 0)]
    | 0x044 => shownSig c
    | 0x050 => c.backup.lockout
    | 0x054 => groupMask fun g => (group c g).state == 2
    | 0x058 =>
      let s := c.safety.rstIn
      pack [(s.valid, 31, 24), (s.short, 23, 16), (s.stucks, 15, 8), (b2n s.stuck, 1, 1),
        (b2n s.closed, 0, 0)]
    | 0x05C => c.safety.pairStat
    | 0x060 => c.safety.outStat
    | _ => cfg c 0x20 off

/-- Page 0x21's read-only registers. -/
def readZw (c : Chip) (off : Nat) : Word :=
  let k := selected c 0x21
  if 0x080 ≤ off then
    BitVec.ofNat 32 (packBits ((List.range 32).map fun b => zwNotRunning c ((off - 0x080) / 4 * 32 + b)))
  else match off with
    | 0x044 =>
      let ks := List.range 256
      pack [((ks.filter (zwUsed c)).length, 24, 16), ((ks.filter (zwNotRunning c)).length, 8, 0)]
    | 0x05C => zwStat c k
    | 0x060 => (zwConn c k).seq
    | 0x064 => (zwConn c k).epoch
    | 0x068 => zwCount (zwConn c k)
    | _ => cfg c 0x21 off

/-- PAIR_STAT (R428). -/
def pairStatWord (c : Chip) : Word :=
  pack [(seatRole c, 31, 30), (b2n (fleet c), 29, 29), (b2n (sideB c), 28, 28), (c.seat.laneUp.toNat, 27, 26),
    (b2n (partnerSeen c), 25, 25), (b2n (compatible c), 24, 24), (c.seat.leaseMiss, 15, 8),
    (min 0xFF c.mirror.age, 7, 0)]

/-- Page 0x28's registers. -/
def readPair (c : Chip) (off : Nat) : Word :=
  let m := c.mirror
  let k := c.pairCnt
  match off with
  | 0x044 => pairStatWord c
  | 0x048 => c.backup.epoch
  | 0x04C => c.backup.partnerEpoch
  | 0x054 => pack [(m.lines, 31, 16), (m.slice, 15, 8), (m.incompleteRun, 7, 0)]
  | 0x058 => if c.seat.holds then m.lastStroke else m.lastComplete.getD m.lastStroke
  | 0x05C => pack [(m.incomplete, 31, 16), (m.oversize, 15, 0)]
  | 0x060 => paddleStat c
  | 0x064 => health c
  | 0x068 => c.seat.partnerHealth
  | 0x06C => pack [(k.takeCount, 31, 16), (k.takeCause, 15, 12), (k.gap, 7, 0)]
  | 0x070 => pack [(k.crcErrors, 31, 16), (c.seat.laneUp.toNat, 1, 0)]
  | _ => cfg c 0x28 off

/-! ### One read -/

/-- A page's block-specific register at an occupied offset. -/
def readBlock (c : Chip) (r : Requester) (p off : Nat) : Word × Chip :=
  let stored := (blockReg c p off).isSome
  match pageCrew p, engineOf p with
  | some cr, _ => readCrew c cr r off
  | none, some e => (readEngine c e off, c)
  | none, none =>
    if windowOf p off then (cfgW c p (selected c p) off, c)
    else if p = 0x00 then (readAttn c off, c)
    else if p = 0x01 then (readReset c off, c)
    else if p = 0x02 then readStroke c r off
    else if p = 0x04 then (if off = 0x040 then modeStat c else c.mode.cmd.setWidth 32, c)
    else if p = 0x18 then readHeats c off
    else if p = 0x20 then (readSafety c off, c)
    else if p = 0x21 then (readZw c off, c)
    else if p = 0x28 then (readPair c off, c)
    else if 0x60 ≤ p ∧ p ≤ 0x6F then
      let n := p - 0x60
      if off = 0x054 then (cfg c p off ||| BitVec.ofNat 32 (min 127 (can c n).tdcv), c)
      else if off = 0x098 then (readCan c n off (selected c p), c)
      else if stored then (cfg c p off, c)
      else (readCan c n off (selected c p), c)
    else if p = 0x72 then (if stored && off < 0x100 then cfg c p off else readHosts c off, c)
    else if p = 0x78 then
      if 0x800 ≤ off then readWindow c (reqNo r) off else (readWake c (reqNo r) off, c)
    else if p = 0x7A then (readBoat c off, c)
    else if p = 0x7B then (if off = 0x044 then c.panel.cmd else readPanel c off, c)
    else if p = 0x7C then (if stored && off < 0x400 then cfg c p off else readIdent c off, c)
    else if stored then (cfg c p off, c)
    else if 0x30 ≤ p ∧ p ≤ 0x33 then readDigital c (p - 0x30) off
    else if p = 0x34 then (readIslands c off, c)
    else if 0x40 ≤ p ∧ p ≤ 0x5F then (readLink c (p - 0x40) off, c)
    else if p = 0x70 ∨ p = 0x71 then readNet c (p - 0x70) off
    else if p = 0x75 then (readSerial c off, c)
    else if p = 0x79 then (readUpd c off, c)
    else (0, c)

/-- A register read (R43, R575): the word, and the latches that the read leaves. -/
def regRead (c : Chip) (r : Requester) (addr : Nat) : Word × Chip :=
  let p := pageOf addr
  let off := offsetOf addr
  if !reaches c r || !occupied c p off then (0, c)
  else if off < 0x040 then (readHeader c p off (workOf c p) (queueHolds c p), c)
  else readBlock c r p off

/-- A read whose latches matter. -/
def readReg (c : Chip) (r : Requester) (p off : Nat) : Chip := (regRead c r (regAddr p off)).2

end Sys2Proof.Machine
end

