-- ==== Sys2Proof/Machine/Rap.lean ====
section
/-!
DEFINITION. The Register Access Protocol (R569 to R589): a message arrives, is checked, admitted, served and
answered; BAR1; and the loads of staged objects.
-/
namespace Sys2Proof.Machine

/-! ### Messages (R569, R570) -/

def rapOp (bs : List Byte) : Nat := beAt bs 3 1
def rapSession (bs : List Byte) : Nat := beAt bs 4 1
def rapSeq (bs : List Byte) : Nat := beAt bs 12 4
def rapBody (bs : List Byte) : List Byte := bs.drop 20

/-- The operations that a host may send (R570). -/
def knownOp (op : Nat) : Bool :=
  [0x01, 0x02, 0x03, 0x10, 0x11, 0x20, 0x21, 0x30, 0x31, 0x32, 0x41].contains op

/-- The header of a command is right (R569). -/
def rapHeaderOk (bs : List Byte) : Bool :=
  20 ≤ bs.length && bs.length ≤ 1472 && beAt bs 0 2 == 0x5241 && beAt bs 2 1 == 1 && knownOp (rapOp bs)
    && beAt bs 5 1 == 0 && beAt bs 6 1 == 0 && beAt bs 7 1 == 0
    && beAt bs 8 2 == bs.length - 20 && beAt bs 10 2 == 0 && beAt bs 16 4 == 0
    && (rapOp bs ≠ 0x01 || rapSession bs == 0xFF)

/-- Items of an IMAGE_READ's KIND in its image. -/
def imageSize (kind : Nat) : Nat := if kind = 0 then 0x10000 else 0x4000

/-- A body suits its operation: length, counts and values, and a read's space (R570, R571). -/
def rapBodyOk (op : Nat) (b : List Byte) : Bool :=
  let count := fun (o : Nat) (m : Nat) => 1 ≤ beAt b o 2 && beAt b o 2 ≤ m
  match op with
  | 0x01 | 0x41 => b.length == 4 && beAt b 0 1 ≤ 15
  | 0x10 => b.length == 8 && count 4 256 && pageBase ≤ beAt b 0 4
      && beAt b 0 4 + 4 * beAt b 4 2 ≤ pageBase + 0x80000
  | 0x11 | 0x21 => count 0 32 && b.length == 4 + 8 * beAt b 0 2
  | 0x20 => b.length == 8 && beAt b 0 1 ≤ 1 && beAt b 1 1 ≤ 1 && count 2 256
      && beAt b 4 4 + beAt b 2 2 ≤ imageSize (beAt b 1 1)
  | 0x30 => b.length == 12 && (match stageLimit (beAt b 0 1) (beAt b 1 1) with
      | none => false
      | some m => beAt b 4 4 ≠ 0 && beAt b 4 4 ≤ m)
  | 0x31 => 5 ≤ b.length && b.length ≤ 1028
  | _ => b.length == 0

/-! ### Serving (R574 to R578, R588, R589) -/

/-- READ: `n` words from `addr` upward (R575). -/
def rapRead (c : Chip) (s : Nat) : Nat → Nat → List Byte × Chip
  | _, 0 => ([], c)
  | addr, n + 1 =>
    let (w, c) := regRead c (.session s) addr
    let (bs, c) := rapRead c s (addr + 4) n
    (beBytes 4 w.toNat ++ bs, c)

/-- WRITE: `n` items in order, with a code each (R575). -/
def rapWrite (c : Chip) (s : Nat) : List Byte → Nat → List Byte × Chip
  | _, 0 => ([], c)
  | b, n + 1 =>
    let (code, c) := regWrite c (.session s) (beAt b 0 4) true (BitVec.ofNat 32 (beAt b 4 4))
    let (codes, c) := rapWrite c s (b.drop 8) n
    (BitVec.ofNat 8 code :: codes, c)

/-- Codes padded with 0 to a multiple of 4 (R570). -/
def padCodes (bs : List Byte) : List Byte := bs ++ List.replicate ((4 - bs.length % 4) % 4) 0

/-- IMAGE_READ: a crew's values at its last committing TF (R570, R576). -/
def rapImageRead (c : Chip) (b : List Byte) : List Byte :=
  let img := if beAt b 0 1 = 0 then c.committedS else c.committedP
  let n := beAt b 2 2
  let a := beAt b 4 4
  if beAt b 1 1 = 1 then (List.range n).flatMap fun i => beBytes 4 (smGet 0 img.words (a + i)).toNat
  else (List.range ((n + 31) / 32)).flatMap fun w =>
    beBytes 4 (packBits ((List.range (min 32 (n - 32 * w))).map fun i => smGet false img.bits (a + 32 * w + i)))

/-- One IMAGE_WRITE item (R577, R586): its code and effect. -/
def rapImageItem (c : Chip) (s : Nat) (b : List Byte) : Nat × Chip :=
  if allowanceUsed c (.session s) then (0x03, overAllowance c s)
  else
    let c := modSession c s fun x => { x with writes := x.writes + 1 }
    let kind := beAt b 0 1
    let addr := beAt b 2 2
    let v := BitVec.ofNat 32 (beAt b 4 4)
    let code := imageWriteCode c kind addr v
    (code, if code = 0 then imageWriteItem c kind addr v else c)

def rapImageWrite (c : Chip) (s : Nat) : List Byte → Nat → List Byte × Chip
  | _, 0 => ([], c)
  | b, n + 1 =>
    let (code, c) := rapImageItem c s b
    let (codes, c) := rapImageWrite c s (b.drop 8) n
    (BitVec.ofNat 8 code :: codes, c)

/-- A page's load result reads 0xFF. -/
def loadRunning (c : Chip) (page : Nat) : Bool :=
  match pageCrew page, engineOf page with
  | some cr, _ => (crewSt c cr).loadResult == 0xFF
  | none, some e => (eng c e).result == 0xFF
  | none, none => page == 0x18 && c.sel.result == 0xFF

/-- The session's class may stage (R588); on the recovery image an UPDATE needs class S (R667). -/
def mayStage (c : Chip) (s kind : Nat) : Bool :=
  match session c s with
  | some x => x.cls == 0 || (x.cls == 1 && !(recoveryRuns c && kind == 5))
  | none => false

/-- BAD_MESSAGE is counted and raised (R599, R600). -/
def badMessage (c : Chip) : Chip := raise (modHosts c fun h => { h with bad := satInc 255 h.bad }) 0x72 4

/-- STAGE_OPEN. -/
def rapStageOpen (c : Chip) (s : Nat) (b : List Byte) : Nat × Chip :=
  let kind := beAt b 0 1
  let page := beAt b 1 1
  let length := beAt b 4 4
  if !mayStage c s kind then (0x14, c)
  else
    let (code, c) := stageOpen c s kind page length (BitVec.ofNat 32 (beAt b 8 4)) (loadRunning c page)
    if code = 0 then (0, if kind = 5 then updOpen c length else updAbandon c)
    else (code, if code = 0x10 then badMessage c else c)

/-- STAGE_CLOSE: an object is staged for its page, an image goes on to verification. -/
def rapStageClose (c : Chip) (s : Nat) : Nat × Chip :=
  match stageClose c s with
  | (0, some (5, _, _), c) => (0, updClosed c)
  | (0, some (_, page, bs), c) => (0, modUpd c fun u => { u with staged := smPut u.staged page bs })
  | (code, _, c) => (code, updAbandon c)

/-- What a message does: STATUS, response body and effect. -/
def rapExecute (c : Chip) (s op : Nat) (b : List Byte) : Nat × List Byte × Chip :=
  match op with
  | 0x02 => (0, [], endSession c s 0)
  | 0x10 =>
    let (bs, c) := rapRead c s (beAt b 0 4) (beAt b 4 2)
    (0, bs, c)
  | 0x11 =>
    let (bs, c) := rapWrite c s (b.drop 4) (beAt b 0 2)
    (0, padCodes bs, c)
  | 0x20 => (0, rapImageRead c b, c)
  | 0x21 =>
    let (bs, c) := rapImageWrite c s (b.drop 4) (beAt b 0 2)
    (0, padCodes bs, c)
  | 0x30 =>
    let (code, c) := rapStageOpen c s b
    (code, [], c)
  | 0x31 =>
    if !mayStage c s 0 then (0x14, [], c)
    else
      let (code, c) := stageData c s (beAt b 0 4) (b.drop 4)
      (code, [], c)
  | 0x32 =>
    if !mayStage c s 0 then (0x14, [], c)
    else
      let (code, c) := rapStageClose c s
      (code, [], c)
  | 0x41 => (0, [], modSession c s fun x => { x with filter := beAt b 0 1 })
  | _ => (0, [], c)

/-- The oldest waiting message of a session is served, if its response has room (R572); the command of the
last SEQ is answered again, not executed (R574). -/
def rapServe (c : Chip) (s : Nat) : Chip :=
  match session c s with
  | none => c
  | some x =>
    match x.queue with
    | [] => c
    | w :: ws =>
      let taken := modSession c s fun x => { x with queue := ws }
      let seq := rapSeq w.bytes
      let (resp, after) := match x.last with
        | some (n, old) =>
          if n = seq then (old, taken)
          else
            let (code, body, c) := rapExecute taken s (rapOp w.bytes) (rapBody w.bytes)
            (rapMessage c (rapOp w.bytes) s code seq body, c)
        | none =>
          let (code, body, c) := rapExecute taken s (rapOp w.bytes) (rapBody w.bytes)
          (rapMessage c (rapOp w.bytes) s code seq body, c)
      if !hasRoom c x resp then c
      else
        let after := modSession after s fun x => { x with last := some (seq, resp) }
        deliverTo after (portOf x.port) x.ip x.udp resp

/-- The Boathouse's turn goes round the open sessions in ascending number, one message each, up to session `s` (R572).
-/
def rapTurn (c : Chip) (s : Nat) : Chip :=
  let t := c.hosts.turn
  let c := forN ((s + 16 - t) % 16 + 1) (fun i c => rapServe c ((t + i) % 16)) c
  modHosts c fun h => { h with turn := (s + 1) % 16 }

/-! ### Arrival (R563, R571, R572, R581, R585) -/

/-- The port takes messages now: BAR1 only from CONFIG on and while its link is up (R615). -/
def takesMessages (c : Chip) (p : Port) : Bool :=
  portAnswers c p && (p != .backplane || (c.hosts.pcieUp && c.mode.mode != .unaddressed))

/-- The session that a message names is open for its peer and port (R581). -/
def forPeer (c : Chip) (x : RapIn) : Bool :=
  match session c (rapSession x.bytes) with
  | some s => s.port == x.port.code && (x.port == .backplane || (s.ip == x.ip && s.udp == x.udp))
  | none => false

/-- An answer straight from the network engine: no body. -/
def rapRefuse (c : Chip) (x : RapIn) (code : Nat) : Chip :=
  deliverTo c x.port x.ip x.udp (rapMessage c (rapOp x.bytes) (rapSession x.bytes) code (rapSeq x.bytes) [])

/-- BAR1 holds one session (R583). -/
def barSession (c : Chip) : Bool := c.hosts.sessions.any fun s => s.2.port == 4

/-- OPEN (R570, R581). -/
def rapOpen (c : Chip) (x : RapIn) : Chip :=
  let (got, c') := openSession c x.port x.ip x.udp (beAt (rapBody x.bytes) 0 1)
  match got with
  | some s =>
    if x.port == .backplane && barSession c then
      rapRefuse (raise (modHosts c fun h => { h with noFree := satInc 255 h.noFree }) 0x72 2) x 0x12
    else
      let cls := portClass c x.port
      let (q, w) := defaultAllow cls
      let body := beBytes 2 (station c) ++ beBytes 1 (b2n (sideB c)) ++ beBytes 1 cls ++ beBytes 1 q ++ [0]
        ++ beBytes 2 w
      deliverTo c' x.port x.ip x.udp (rapMessage c' 0x01 s 0 (rapSeq x.bytes) body)
  | none => rapRefuse (raise (modHosts c fun h => { h with noFree := satInc 255 h.noFree }) 0x72 2) x 0x12

/-- A message arrives: answered at once, or admitted to its session's queue (R585), whose 64 entries may be full (R24,
R26). -/
def rapArrive (c : Chip) (x : RapIn) : Chip :=
  let s := rapSession x.bytes
  if !rapHeaderOk x.bytes || !rapBodyOk (rapOp x.bytes) (rapBody x.bytes) then rapRefuse (badMessage c) x 0x10
  else if rapOp x.bytes = 0x01 then rapOpen c x
  else if !forPeer c x then rapRefuse c x 0x11
  else match session c s with
    | none => c
    | some t =>
      let now := occupancy t + entriesOf x.bytes
      if t.queueMax < now then rapRefuse (overAllowance (if 64 < now then queueRefused c s else c) s) x 0x03
      else modSession c s fun t => { t with queue := t.queue ++ [⟨x.bytes, 0⟩] }

/-- A RAP message, as far as its phase takes it: it arrives and the Boathouse's turn comes to its session, it only
arrives, or the turn comes to the session that it names (R572). -/
def rapReceive (c : Chip) (x : RapIn) : Chip :=
  let serve := fun (c : Chip) =>
    if rapOp x.bytes ≠ 0x01 && forPeer c x then rapTurn c (rapSession x.bytes) else c
  match x.phase with
  | .serve => serve c
  | .enqueue => if takesMessages c x.port then rapArrive c x else c
  | .whole => if takesMessages c x.port then serve (rapArrive c x) else c

/-- The row of an operation carries its messages, and any whose OP names no operation. -/
def rapCommand (c : Chip) (op : Nat) (x : RapIn) : Chip :=
  if rapOp x.bytes = op || !knownOp (rapOp x.bytes) then rapReceive c x else c

/-- CMD_LEN: BAR1's command buffer is submitted (R583). -/
def cmdLen (c : Chip) (bytes : List Byte) (phase : RapPhase) : Chip :=
  rapReceive c { port := .backplane, ip := 0, udp := 0, bytes := bytes, phase := phase }

/-- RSP_LEN written: 0 releases the response buffer (R583). -/
def rspLen (c : Chip) (v : Word) : Chip := if v = 0 && c.hosts.pcieUp then releaseBar1 c else c

/-! ### Loads end (R174, R175, R286, R325)

Programs and sets are loaded in CONFIG only (R165, R285): a load under way when the module leaves CONFIG ends after its
return (DESIGN CHOICE, log entry 22). -/

/-- The object staged for a page. -/
def stagedFor (c : Chip) (p : Nat) : Option (List Byte) := smFind c.upd.staged p

/-- A successful load stores its object and consumes the staging; a failed one leaves it. -/
def loadEnds (p kind : Nat) (obj : Option (List Byte)) (r : Chip × Bool) : Chip :=
  if r.2 then storeObject (dropStaged r.1 p) kind p (obj.getD []) else r.1

/-- PROGRAM_LOAD: the checks of a program end. -/
def programLoadEnd (c : Chip) (cr : Crew) : Chip :=
  let obj := stagedFor c (crewPage cr)
  if (crewSt c cr).loadResult ≠ 0xFF || c.mode.mode != .config then c
  else loadEnds (crewPage cr) 1 obj (programLoad c cr obj)

/-- LOOP_SET_LOAD and TABLE_SET_LOAD: the checks of a loop set of engine `e` end. -/
def setLoadEnd (c : Chip) (e : Nat) : Chip :=
  let obj := stagedFor c (engPage e)
  if (eng c e).result ≠ 0xFF || c.mode.mode != .config then c
  else loadEnds (engPage e) (if e < 8 then 2 else 4) obj (loopSetLoad c e obj)

/-- HEAT_SET_LOAD: the checks of a heat set end. -/
def heatLoadEnd (c : Chip) : Chip :=
  let obj := stagedFor c 0x18
  if c.sel.result ≠ 0xFF || c.mode.mode != .config then c else loadEnds 0x18 3 obj (heatSetLoad c obj)

end Sys2Proof.Machine
end

