-- ==== Sys2Proof/Machine/DoField.lean ====
section
/-!
DEFINITION. The digital field channels and the analogue islands (R425 to R491).
-/
namespace Sys2Proof.Machine

/-- DEBOUNCE_PASS (R436). -/
def execDebouncePass (ch : Fin 48) (level : Bool) : State → Host.Outcome State Fault Refusal :=
  answer (ungated fun c => Sys2Proof.Machine.debouncePass c ch level)

/-- INPUT_OPEN_WIRE (R438). -/
def execInputOpenWire (ch : Fin 48) : State → Host.Outcome State Fault Refusal :=
  answer (ungated fun c => Sys2Proof.Machine.inputOpenWire c ch)

/-- OUTPUT_OPEN_WIRE (R444). -/
def execOutputOpenWire (ch : Fin 48) : State → Host.Outcome State Fault Refusal :=
  answer (ungated fun c => Sys2Proof.Machine.outputOpenWire c ch)

/-- OVERLOAD (R442). -/
def execOverload (ch : Fin 48) : State → Host.Outcome State Fault Refusal :=
  answer (ungated fun c => Sys2Proof.Machine.overload c ch)

/-- OVERTEMP (R443). -/
def execOvertemp (ch : Fin 48) : State → Host.Outcome State Fault Refusal :=
  answer (ungated fun c => Sys2Proof.Machine.overtemp c ch)

/-- SHORT_TO_SUPPLY (R445). -/
def execShortToSupply (n : Fin 56) (near : Bool) : State → Host.Outcome State Fault Refusal :=
  answer (ungated fun c => Sys2Proof.Machine.shortToSupply c n near)

/-- CROSS_WIRED (R446). -/
def execCrossWired (n : Fin 56) (other : Fin 56) : State → Host.Outcome State Fault Refusal :=
  answer (ungated fun c => Sys2Proof.Machine.crossWired c n other)

/-- CHANNEL_CLEAR (R447). -/
def execChannelClear (n : Fin 56) : State → Host.Outcome State Fault Refusal :=
  answer (ungated fun c => Sys2Proof.Machine.channelClear c n)

/-- FS_SAMPLE (R450). -/
def execFsSample (g : Fin 4) (volts : Nat) : State → Host.Outcome State Fault Refusal :=
  answer (ungated fun c => Sys2Proof.Machine.fsSample c g volts)

/-- FS_RESUME (R450). -/
def execFsResume (g : Fin 4) : State → Host.Outcome State Fault Refusal :=
  answer (ungated fun c => Sys2Proof.Machine.fsResume c g)

/-- FREQ_PERIOD (R455). -/
def execFreqPeriod (f : Fin 8) (t : Nat) : State → Host.Outcome State Fault Refusal :=
  answer (ungated fun c => Sys2Proof.Machine.freqPeriod c f t)

/-- FREQ_TIMEOUT (R456). -/
def execFreqTimeout (f : Fin 8) : State → Host.Outcome State Fault Refusal :=
  answer (ungated fun c => Sys2Proof.Machine.freqTimeout c f)

/-- TIER_DECISION (R471). -/
def execTierDecision (i : Fin 16) (nA : Int) : State → Host.Outcome State Fault Refusal :=
  answer fun c => Sys2Proof.Machine.tierDecision c i nA

/-- TIER_UP (R471). -/
def execTierUp (i : Fin 16) : State → Host.Outcome State Fault Refusal :=
  answer fun c => Sys2Proof.Machine.tierUp c i

/-- ISLAND_START (R471). -/
def execIslandStart (i : Fin 16) : State → Host.Outcome State Fault Refusal :=
  answer fun c => Sys2Proof.Machine.islandStart c i

/-- BROWNOUT (R471). -/
def execBrownout (i : Fin 16) : State → Host.Outcome State Fault Refusal :=
  answer fun c => islandBrownout c i

/-- ISLAND_SAMPLE (R473). -/
def execIslandSample (i : Fin 16) (nA : Int) (headroom : Nat) : State → Host.Outcome State Fault Refusal :=
  answer fun c => Sys2Proof.Machine.islandSample c i nA headroom

/-- ISLAND_COMMAND (R475). -/
def execIslandCommand (i : Fin 16) : State → Host.Outcome State Fault Refusal :=
  answer fun c => Sys2Proof.Machine.islandCommand c i

/-- ISLAND_FRAME_RECEIVE (R485). -/
def execIslandFrameReceive (i : Fin 16) : State → Host.Outcome State Fault Refusal :=
  answer fun c => if fieldRests c.mode.mode then islandFrameLost c i else Sys2Proof.Machine.islandFrameReceive c i

/-- ISLAND_LOST (R485). -/
def execIslandLost (i : Fin 16) : State → Host.Outcome State Fault Refusal :=
  answer (ungated fun c => Sys2Proof.Machine.islandLost c i)

/-- FAIL_DRIVEN (R482). -/
def execFailDriven (i : Fin 16) : State → Host.Outcome State Fault Refusal :=
  answer fun c => Sys2Proof.Machine.failDriven c i

/-- NE43_FAIL (R476). -/
def execNe43Fail (i : Fin 16) : State → Host.Outcome State Fault Refusal :=
  answer fun c => Sys2Proof.Machine.ne43Fail c i

/-- COMPLIANCE (R484). -/
def execCompliance (i : Fin 16) (v : Bool) : State → Host.Outcome State Fault Refusal :=
  answer fun c => Sys2Proof.Machine.compliance c i v

/-- READBACK (R484). -/
def execReadback (i : Fin 16) : State → Host.Outcome State Fault Refusal :=
  answer fun c => Sys2Proof.Machine.readback c i true

/-- CAL_CHECK (R487). -/
def execCalCheck (i : Fin 16) (ok : Bool) : State → Host.Outcome State Fault Refusal :=
  answer fun c => Sys2Proof.Machine.calCheck c i ok

/-- LS_SAMPLE (R472). -/
def execLsSample (volts : Nat) : State → Host.Outcome State Fault Refusal :=
  answer (ungated fun c => Sys2Proof.Machine.lsSample c volts)

/-- LS_STOP (R472). -/
def execLsStop : State → Host.Outcome State Fault Refusal :=
  answer fun c => Sys2Proof.Machine.lsStop c

/-- LS_START (R472). -/
def execLsStart : State → Host.Outcome State Fault Refusal :=
  answer fun c => Sys2Proof.Machine.lsStart c

/-- ACTIVATE_REFRESH (R478). -/
def execActivateRefresh : State → Host.Outcome State Fault Refusal :=
  answer fun c => Sys2Proof.Machine.activateRefresh c

/-- OPEN_WIRE_CLEAR (R444). -/
def execOpenWireClear (ch : Fin 48) : State → Host.Outcome State Fault Refusal :=
  answer (ungated fun c => Sys2Proof.Machine.openWireClear c ch)

/-- READBACK_CLEAR (R484). -/
def execReadbackClear (i : Fin 16) : State → Host.Outcome State Fault Refusal :=
  answer fun c => Sys2Proof.Machine.readback c i false

end Sys2Proof.Machine
end

