-- ==== Sys2Proof/Machine/DoHosts.lean ====
section
/-!
DEFINITION. The plant networks, the hosts and their sessions (R562 to R603).
-/
namespace Sys2Proof.Machine

/-- The PCI Express link trains, which BOATHOUSE's release must come before, or goes down (R615). -/
def pcieLink (c : Chip) (up : Bool) : Chip :=
  if up && c.mode.mode == .reset then c else modHosts c fun h => { h with pcieUp := up }

/-- LAN_STATE (R598). -/
def execLanState (net : Fin 2) (q : Fin 2) (up : Bool) : State → Host.Outcome State Fault Refusal :=
  answer fun c => syncFollow (Sys2Proof.Machine.lanState c net q up)

/-- PRP_SUPERVISION (R565). -/
def execPrpSupervision : State → Host.Outcome State Fault Refusal :=
  answer fun c => sendSupervision c

/-- PRP_SUPERVISION_RECEIVE (R597). -/
def execPrpSupervisionReceive (net : Fin 2) (q : Fin 2) (own : Bool) :
    State → Host.Outcome State Fault Refusal :=
  answer fun c => supervisionReceive c net q own

/-- OPEN (R581). -/
def execRapOpen (x : RapIn) : State → Host.Outcome State Fault Refusal :=
  answer fun c => rapCommand c 0x01 x

/-- CLOSE (R582). -/
def execRapClose (x : RapIn) : State → Host.Outcome State Fault Refusal :=
  answer fun c => rapCommand c 0x02 x

/-- RAP_NOP (R570). -/
def execRapNop (x : RapIn) : State → Host.Outcome State Fault Refusal :=
  answer fun c => rapCommand c 0x03 x

/-- READ (R575). -/
def execRapRead (x : RapIn) : State → Host.Outcome State Fault Refusal :=
  answer fun c => rapCommand c 0x10 x

/-- WRITE (R575). -/
def execRapWrite (x : RapIn) : State → Host.Outcome State Fault Refusal :=
  answer fun c => rapCommand c 0x11 x

/-- IMAGE_READ (R576). -/
def execImageRead (x : RapIn) : State → Host.Outcome State Fault Refusal :=
  answer fun c => rapCommand c 0x20 x

/-- IMAGE_WRITE (R577). -/
def execImageWrite (x : RapIn) : State → Host.Outcome State Fault Refusal :=
  answer fun c => rapCommand c 0x21 x

/-- STAGE_OPEN (R588). -/
def execStageOpen (x : RapIn) : State → Host.Outcome State Fault Refusal :=
  answer fun c => rapCommand c 0x30 x

/-- STAGE_DATA (R588). -/
def execStageData (x : RapIn) : State → Host.Outcome State Fault Refusal :=
  answer fun c => rapCommand c 0x31 x

/-- STAGE_CLOSE (R588). -/
def execStageClose (x : RapIn) : State → Host.Outcome State Fault Refusal :=
  answer fun c => rapCommand c 0x32 x

/-- ATTN_FILTER (R589). -/
def execAttnFilter (x : RapIn) : State → Host.Outcome State Fault Refusal :=
  answer fun c => rapCommand c 0x41 x

/-- CMD_TIMEOUT (R573). -/
def execCmdTimeout (s : Fin 16) : State → Host.Outcome State Fault Refusal :=
  answer fun c => Sys2Proof.Machine.cmdTimeout c s

/-- SESSION_TIMEOUT (R582). -/
def execSessionTimeout (s : Fin 16) : State → Host.Outcome State Fault Refusal :=
  answer fun c => updAbandon (Sys2Proof.Machine.sessionTimeout c s)

/-- CMD_LEN (R583). -/
def execCmdLen (bytes : List Byte) (phase : RapPhase) : State → Host.Outcome State Fault Refusal :=
  answer fun c => Sys2Proof.Machine.cmdLen c bytes phase

/-- RSP_LEN (R583). -/
def execRspLen (v : Word) : State → Host.Outcome State Fault Refusal :=
  answer fun c => Sys2Proof.Machine.rspLen c v

/-- SUPERVISION_MISSING (R597). -/
def execSupervisionMissing (net : Fin 2) (q : Fin 2) : State → Host.Outcome State Fault Refusal :=
  answer fun c => Sys2Proof.Machine.supervisionMissing c net q

/-- DISCARDED_DATAGRAM (R564). -/
def execDiscardedDatagram (net : Fin 2) : State → Host.Outcome State Fault Refusal :=
  answer fun c => discardDatagram c net

/-- ARP_REQUEST (R564). -/
def execArpRequest (p : Port) (mac : BitVec 48) (ip : Word) (target : Word) :
    State → Host.Outcome State Fault Refusal :=
  answer fun c => Sys2Proof.Machine.arpRequest c p mac.toNat ip.toNat target.toNat

/-- ICMP_ECHO (R564). -/
def execIcmpEcho (p : Port) (target : Word) (rest : List Byte) : State → Host.Outcome State Fault Refusal :=
  answer fun c => Sys2Proof.Machine.icmpEcho c p target.toNat rest

/-- PTP_ANNOUNCE_TIMEOUT (R567). -/
def execPtpAnnounceTimeout (net : Fin 2) (q : Fin 2) : State → Host.Outcome State Fault Refusal :=
  answer fun c => syncFollow (ptpTimeout c net q)

/-- PCIE_LINK_CHANGE (R615). -/
def execPcieLinkChange (up : Bool) : State → Host.Outcome State Fault Refusal :=
  answer fun c => pcieLink c up

end Sys2Proof.Machine
end

