-- ==== Sys2Proof/Machine/DoHouse.lean ====
section
/-!
DEFINITION. The Boathouse: sensors, identity, the wake recorder, firmware update and the panel.
-/
namespace Sys2Proof.Machine

/-- UNDERWAY_INPUT (R188). -/
def execUnderwayInput (v : Bool) : State → Host.Outcome State Fault Refusal :=
  answer fun c => Sys2Proof.Machine.underwayInput c v

/-- SENSOR_SAMPLE (R629). -/
def execSensorSample (x : SensorIn) : State → Host.Outcome State Fault Refusal :=
  answer fun c => Sys2Proof.Machine.sensorSample c x

/-- SENSOR_STATE (R629). -/
def execSensorState (bit : Fin 9) (k : Fin 64) (set : Bool) : State → Host.Outcome State Fault Refusal :=
  answer fun c => Sys2Proof.Machine.sensorState c bit k set

/-- CELL_MEASURE (R628). -/
def execCellMeasure (mv : Option Nat) (secs : Nat) : State → Host.Outcome State Fault Refusal :=
  answer fun c => Sys2Proof.Machine.cellMeasure c mv secs

/-- ENROLL (R638). -/
def execEnroll (r : Requester) (len : BitVec 11) : State → Host.Outcome State Fault Refusal :=
  answer fun c => writeReg c r 0x7C 0x04C (pack [(1, 31, 24), (len.toNat, 10, 0)])

/-- OWNER_CLEAR (R638). -/
def execOwnerClear (r : Requester) : State → Host.Outcome State Fault Refusal :=
  answer fun c => writeReg c r 0x7C 0x04C (pack [(2, 31, 24)])

/-- LOCK (R638). -/
def execLock (r : Requester) : State → Host.Outcome State Fault Refusal :=
  answer fun c => writeReg c r 0x7C 0x04C (pack [(3, 31, 24)])

/-- UNLOCK (R638). -/
def execUnlock (r : Requester) : State → Host.Outcome State Fault Refusal :=
  answer fun c => writeReg c r 0x7C 0x04C (pack [(4, 31, 24)])

/-- OWNER_CHANGE (R638). -/
def execOwnerChange : State → Host.Outcome State Fault Refusal :=
  answer fun c => Sys2Proof.Machine.ownerChange c

/-- REQUEST (R639). -/
def execRequest (r : Requester) : State → Host.Outcome State Fault Refusal :=
  answer fun c => writeReg c r 0x7C 0x050 1

/-- ATTESTED (R639). -/
def execAttested : State → Host.Outcome State Fault Refusal :=
  answer fun c => Sys2Proof.Machine.attested c

/-- WAKE_RECORD_STORE (R647). -/
def execWakeRecordStore : State → Host.Outcome State Fault Refusal :=
  answer fun c => wakeStore c

/-- ARM (R651). -/
def execArm (r : Requester) : State → Host.Outcome State Fault Refusal :=
  answer fun c => writeReg c r 0x78 0x04C 0x100

/-- SNAP (R653). -/
def execSnap (r : Requester) : State → Host.Outcome State Fault Refusal :=
  answer fun c => writeReg c r 0x78 0x04C 1

/-- EXPORT (R657). -/
def execExportStart (r : Requester) : State → Host.Outcome State Fault Refusal :=
  answer fun c => writeReg c r 0x78 0x04C 2

/-- EXPORT_DONE (R658). -/
def execExportDone : State → Host.Outcome State Fault Refusal :=
  answer fun c => Sys2Proof.Machine.exportDone c

/-- UPDATE_BLOCK (R669). -/
def execUpdateBlock (readsBack : Bool) : State → Host.Outcome State Fault Refusal :=
  answer fun c => Sys2Proof.Machine.updateBlock c readsBack

/-- UPDATE_VERIFY (R670). -/
def execUpdateVerify : State → Host.Outcome State Fault Refusal :=
  answer fun c => Sys2Proof.Machine.updateVerify c

/-- UPD_DISCARD (R683). -/
def execUpdDiscard (r : Requester) : State → Host.Outcome State Fault Refusal :=
  answer fun c => writeReg c r 0x79 0x044 1

/-- ACTIVATE_ENTRY (R673). -/
def execActivateEntry : State → Host.Outcome State Fault Refusal :=
  answer fun c => Sys2Proof.Machine.activateEntry c

/-- ACTIVATED (R673). -/
def execActivated : State → Host.Outcome State Fault Refusal :=
  answer fun c => Sys2Proof.Machine.activated c

/-- FALLBACK (R675). -/
def execFallback (unreadable : Bool) : State → Host.Outcome State Fault Refusal :=
  answer fun c => Sys2Proof.Machine.fallback c unreadable

/-- PANEL_CHECK (R690). -/
def execPanelCheck : State → Host.Outcome State Fault Refusal :=
  answer fun c => Sys2Proof.Machine.panelCheck c

/-- PANEL_PHASE_END (R693). -/
def execPanelPhaseEnd : State → Host.Outcome State Fault Refusal :=
  answer fun c => Sys2Proof.Machine.panelPhaseEnd c

/-- REFRESH (R697). -/
def execRefresh (r : Requester) : State → Host.Outcome State Fault Refusal :=
  answer fun c => writeReg c r 0x7B 0x044 1

/-- PNL_TEST (R699). -/
def execPnlTest (r : Requester) : State → Host.Outcome State Fault Refusal :=
  answer fun c => writeReg c r 0x7B 0x044 2

/-- PNL_TEST_END (R699). -/
def execPnlTestEnd : State → Host.Outcome State Fault Refusal :=
  answer fun c => panelTestEnd c

/-- CRACK (R698). -/
def execCrack (ohms : Nat) : State → Host.Outcome State Fault Refusal :=
  answer fun c => crackMeasure c ohms

end Sys2Proof.Machine
end

