-- ==== Sys2Proof/Machine/DoLinks.lean ====
section
/-!
DEFINITION. The remote I/O links (R492 to R523), the CAN FD controllers and the serial ports (R524 to R561).
-/
namespace Sys2Proof.Machine

/-- An IN frame of a station; an epoch in it above the own one is news to a seat holder (R390, R517). -/
def remoteReceive (c : Chip) (l : Nat) (fcsOk : Bool) (cycle : Nat) (bs : List Byte) : Chip :=
  match remoteIn c l fcsOk cycle bs with
  | (c, none) => c
  | (c, some e) => newerEpoch c 3 (BitVec.ofNat 32 e)

/-- Another reply of a station: its accepted epoch, too, is news to a seat holder where it is above the own one (R390,
R499, R515). -/
def stationReply (f : Chip → Nat → List Byte → Chip) (type : Nat) (c : Chip) (l : Nat) (bs : List Byte) : Chip :=
  match stnFrame c l type bs with
  | none => c
  | some _ => newerEpoch (f c l bs) 3 (BitVec.ofNat 32 (beAt bs 8 4))

/-- IN (R504). -/
def execStationIn (l : Fin 32) (fcsOk : Bool) (cycle : Nat) (bytes : List Byte) :
    State → Host.Outcome State Fault Refusal :=
  answer (ungated fun c => remoteReceive c l fcsOk cycle bytes)

/-- MANAGEMENT_REQUEST (R508). -/
def execManagementRequest (l : Fin 32) : State → Host.Outcome State Fault Refusal :=
  answer (ungated fun c => Sys2Proof.Machine.managementRequest c l)

/-- IDENT (R509). -/
def execIdent (l : Fin 32) (bytes : List Byte) : State → Host.Outcome State Fault Refusal :=
  answer (ungated fun c => stationReply Sys2Proof.Machine.ident 0x02 c l bytes)

/-- CONF_ACK (R509). -/
def execConfAck (l : Fin 32) (bytes : List Byte) : State → Host.Outcome State Fault Refusal :=
  answer (ungated fun c => stationReply Sys2Proof.Machine.confAck 0x04 c l bytes)

/-- CONF_ACK_TIMEOUT (R509). -/
def execConfAckTimeout (l : Fin 32) (s : Fin 8) : State → Host.Outcome State Fault Refusal :=
  answer (ungated fun c => Sys2Proof.Machine.confAckTimeout c l s)

/-- STATION_LOST (R509). -/
def execStationLost (l : Fin 32) (s : Fin 8) : State → Host.Outcome State Fault Refusal :=
  answer (ungated fun c => Sys2Proof.Machine.stationLost c l s)

/-- REMOTE_LINK_CHANGE (R509). -/
def execRemoteLinkChange (l : Fin 32) (up : Bool) : State → Host.Outcome State Fault Refusal :=
  answer (ungated fun c => linkChange c l up)

/-- CAN_FRAME_ACCEPTED (R532). -/
def execCanFrameAccepted (n : Fin 16) (f : CanFrame) (remote : Bool) :
    State → Host.Outcome State Fault Refusal :=
  answer fun c => canAccept c n f remote

/-- CAN_TX_END (R546). -/
def execCanTxEnd (n : Fin 16) (res : CanTxResult) (extra : Nat) (tdcv : Nat) :
    State → Host.Outcome State Fault Refusal :=
  answer fun c => Sys2Proof.Machine.canTxEnd c n res extra tdcv

/-- ALONE (R547). -/
def execAlone (n : Fin 16) : State → Host.Outcome State Fault Refusal :=
  answer fun c => aloneSet c n

/-- ID_CLASH (R548). -/
def execIdClash (n : Fin 16) (o : Fin 128) : State → Host.Outcome State Fault Refusal :=
  answer fun c => Sys2Proof.Machine.idClash c n o

/-- BUS_OFF_RECOVERY (R546). -/
def execBusOffRecovery (n : Fin 16) : State → Host.Outcome State Fault Refusal :=
  answer fun c => Sys2Proof.Machine.busOffRecovery c n

/-- CAN_SLEEP_ENTER (R549). -/
def execCanSleepEnter (n : Fin 16) : State → Host.Outcome State Fault Refusal :=
  answer fun c => Sys2Proof.Machine.canSleepEnter c n

/-- CAN_WAKE_EVENT (R550). -/
def execCanWakeEvent (n : Fin 16) (w : CanWakeSource) : State → Host.Outcome State Fault Refusal :=
  answer fun c => Sys2Proof.Machine.canWakeEvent c n w

/-- MODBUS_REPLY (R591). -/
def execModbusReply (q : Fin 6) (bytes : List Byte) : State → Host.Outcome State Fault Refusal :=
  answer (ungated fun c => Sys2Proof.Machine.modbusReply c q bytes)

/-- MODBUS_TIMEOUT (R591). -/
def execModbusTimeout (q : Fin 6) : State → Host.Outcome State Fault Refusal :=
  answer (ungated fun c => Sys2Proof.Machine.modbusTimeout c q)

/-- NMEA_SENTENCE (R593). -/
def execNmeaSentence (q : Fin 6) (bytes : List Byte) : State → Host.Outcome State Fault Refusal :=
  answer (ungated fun c => Sys2Proof.Machine.nmeaSentence c q bytes)

/-- LINE_OUT_RECEIVE (R517). -/
def execLineOutReceive (l : Fin 32) : State → Host.Outcome State Fault Refusal :=
  answer (ungated fun c => Sys2Proof.Machine.lineOutReceive c l)

/-- ARBITRATION_LOSS (R541). -/
def execArbitrationLoss (n : Fin 16) : State → Host.Outcome State Fault Refusal :=
  answer fun c => Sys2Proof.Machine.arbitrationLoss c n

/-- CAN_RX_ERROR (R546). -/
def execCanRxError (n : Fin 16) (one : Bool) (eights : Nat) : State → Host.Outcome State Fault Refusal :=
  answer fun c => Sys2Proof.Machine.canRxError c n one eights

/-- CAN_TX_START (R539). -/
def execCanTxStart (n : Fin 16) : State → Host.Outcome State Fault Refusal :=
  answer fun c => Sys2Proof.Machine.canTxStart c n

/-- CAN_INTEGRATED (R550). -/
def execCanIntegrated (n : Fin 16) : State → Host.Outcome State Fault Refusal :=
  answer fun c => Sys2Proof.Machine.canIntegrated c n

end Sys2Proof.Machine
end

