-- ==== Sys2Proof/Machine/DoMode.lean ====
section
/-!
DEFINITION. The mode commands (R30, R36 to R44): each a write to MODE_CMD by a writer.
-/
namespace Sys2Proof.Machine

/-- START (R30). -/
def execStart (r : Requester) : State → Host.Outcome State Fault Refusal :=
  answer fun c => writeReg c r 4 0x044 1

/-- STOP (R30). -/
def execStop (r : Requester) : State → Host.Outcome State Fault Refusal :=
  answer fun c => writeReg c r 4 0x044 2

/-- CONFIGURE (R35). -/
def execConfigure (r : Requester) : State → Host.Outcome State Fault Refusal :=
  answer fun c => writeReg c r 4 0x044 3

/-- COMMIT_CONFIG (R35). -/
def execCommitConfig (r : Requester) : State → Host.Outcome State Fault Refusal :=
  answer fun c => writeReg c r 4 0x044 4

/-- RESUME (R185). -/
def execResume (r : Requester) : State → Host.Outcome State Fault Refusal :=
  answer fun c => writeReg c r 4 0x044 5

/-- STEP (R186). -/
def execStep (r : Requester) : State → Host.Outcome State Fault Refusal :=
  answer fun c => writeReg c r 4 0x044 6

/-- CLEAR_HALT (R30). -/
def execClearHalt (r : Requester) : State → Host.Outcome State Fault Refusal :=
  answer fun c => writeReg c r 4 0x044 7

/-- LAY_UP (R30). -/
def execLayUp (r : Requester) : State → Host.Outcome State Fault Refusal :=
  answer fun c => writeReg c r 4 0x044 8

/-- WAKE (R30). -/
def execWake (r : Requester) : State → Host.Outcome State Fault Refusal :=
  answer fun c => writeReg c r 4 0x044 9

/-- ACTIVATE (R672). -/
def execActivate (r : Requester) : State → Host.Outcome State Fault Refusal :=
  answer fun c => writeReg c r 4 0x044 10

/-- HANDOVER (R417). -/
def execHandover (r : Requester) : State → Host.Outcome State Fault Refusal :=
  answer fun c => writeReg c r 4 0x044 11

end Sys2Proof.Machine
end

