-- ==== Sys2Proof/Machine/DoPair.lean ====
section
/-!
DEFINITION. The redundant pair (R383 to R424).
-/
namespace Sys2Proof.Machine

/-- LEASE_RECEIVE (R391). -/
def execLeaseReceive (bytes : List Byte) : State → Host.Outcome State Fault Refusal :=
  answer fun c => Sys2Proof.Machine.leaseReceive c bytes

/-- SEAT_BEACON_RECEIVE (R390). -/
def execSeatBeaconReceive (net : Fin 2) (bytes : List Byte) : State → Host.Outcome State Fault Refusal :=
  answer fun c => beaconReceive c net bytes

/-- LEASE_JUDGMENT (R391). -/
def execLeaseJudgment : State → Host.Outcome State Fault Refusal :=
  answer fun c => Sys2Proof.Machine.leaseJudgment c

/-- LEASE_EXPIRY (R391). -/
def execLeaseExpiry : State → Host.Outcome State Fault Refusal :=
  answer fun c => Sys2Proof.Machine.leaseExpiry c

/-- PAIRED_STAGE_RELEASE (R409). -/
def execPairedStageRelease : State → Host.Outcome State Fault Refusal :=
  answer fun c => Sys2Proof.Machine.pairedStageRelease c

/-- AUTOSTART_WAIT_EXPIRY (R392). -/
def execAutostartWaitExpiry : State → Host.Outcome State Fault Refusal :=
  answer fun c => autostart c

/-- HELLO (R395). -/
def execHello : State → Host.Outcome State Fault Refusal :=
  answer fun c => sendHello c

/-- HELLO_RECEIVE (R396). -/
def execHelloReceive (bytes : List Byte) : State → Host.Outcome State Fault Refusal :=
  answer fun c => Sys2Proof.Machine.helloReceive c bytes

/-- ACK_RECEIVE (R395). -/
def execAckReceive (bytes : List Byte) : State → Host.Outcome State Fault Refusal :=
  answer fun c => Sys2Proof.Machine.ackReceive c bytes

/-- OUTPUT_RECEIVE (R408). -/
def execOutputReceive (bytes : List Byte) (atStrobe : Bool) : State → Host.Outcome State Fault Refusal :=
  answer fun c => Sys2Proof.Machine.outputReceive c bytes atStrobe

/-- CKPT_HEAD (R404). -/
def execCkptHead (bytes : List Byte) : State → Host.Outcome State Fault Refusal :=
  answer fun c => ckptHeadReceive c bytes

/-- CKPT_LINE (R404). -/
def execCkptLine (bytes : List Byte) : State → Host.Outcome State Fault Refusal :=
  answer fun c => ckptLineReceive c bytes

/-- CKPT_END (R405). -/
def execCkptEnd (bytes : List Byte) : State → Host.Outcome State Fault Refusal :=
  answer fun c => ckptEndReceive c bytes

/-- CHECKPOINT_APPLY (R406). -/
def execCheckpointApply : State → Host.Outcome State Fault Refusal :=
  answer fun c => Sys2Proof.Machine.checkpointApply c

/-- OFFER (R417). -/
def execOffer : State → Host.Outcome State Fault Refusal :=
  answer fun c => Sys2Proof.Machine.offer c

/-- OFFER_RECEIVE (R417). -/
def execOfferReceive (bytes : List Byte) (left : Nat) : State → Host.Outcome State Fault Refusal :=
  answer fun c => Sys2Proof.Machine.offerReceive c bytes left

/-- TAKE (R417). -/
def execTake (bytes : List Byte) : State → Host.Outcome State Fault Refusal :=
  answer fun c => takeReceive c bytes

/-- SYNC_REQ_RECEIVE (R424). -/
def execSyncReqReceive (bytes : List Byte) : State → Host.Outcome State Fault Refusal :=
  answer fun c => Sys2Proof.Machine.syncReqReceive c bytes

/-- TAKEOVER (R415). -/
def execTakeover : State → Host.Outcome State Fault Refusal :=
  answer fun c => Sys2Proof.Machine.takeover c

/-- PADDLE_REPLAY (R421). -/
def execPaddleReplay : State → Host.Outcome State Fault Refusal :=
  answer fun c => Sys2Proof.Machine.paddleReplay c

/-- PADDLE_REPLAY_END (R422). -/
def execPaddleReplayEnd : State → Host.Outcome State Fault Refusal :=
  answer fun c => Sys2Proof.Machine.paddleReplayEnd c

/-- SELFTEST (R419). -/
def execSelftest (n : Fin 8) (ok : Bool) : State → Host.Outcome State Fault Refusal :=
  answer fun c => Sys2Proof.Machine.selftest c n ok

/-- LANE_DOWN (R398). -/
def execLaneDown (n : Fin 2) : State → Host.Outcome State Fault Refusal :=
  answer fun c => Sys2Proof.Machine.laneDown c n

/-- LANE_UP (R398). -/
def execLaneUp (n : Fin 2) : State → Host.Outcome State Fault Refusal :=
  answer fun c => laneUpAgain c n

/-- PARTNER_LOST (R398). -/
def execPartnerLost : State → Host.Outcome State Fault Refusal :=
  answer fun c => Sys2Proof.Machine.partnerLost c

/-- DISCARDED_RECORD (R395). -/
def execDiscardedRecord : State → Host.Outcome State Fault Refusal :=
  answer fun c => discardRecord c

end Sys2Proof.Machine
end

