-- ==== Sys2Proof/Machine/DoRegs.lean ====
section
/-!
DEFINITION. The commands that are register writes and reads, and the ends of the loads they start.
-/
namespace Sys2Proof.Machine

/-- LOAD (R174). -/
def execLoad (r : Requester) (cr : Crew) : State → Host.Outcome State Fault Refusal :=
  answer fun c => writeReg c r (crewPage cr) 0x10C 1

/-- PROGRAM_LOAD (R175). -/
def execProgramLoad (cr : Crew) : State → Host.Outcome State Fault Refusal :=
  answer fun c => programLoadEnd c cr

/-- DISCARD (R210). -/
def execDiscard (r : Requester) (cr : Crew) : State → Host.Outcome State Fault Refusal :=
  answer fun c => writeReg c r (crewPage cr) 0x10C 2

/-- ENG_LOAD (R285). -/
def execEngLoad (r : Requester) (e : Fin 8) : State → Host.Outcome State Fault Refusal :=
  answer fun c => writeReg c r (engPage e) 0x04C 1

/-- LOOP_SET_LOAD (R286). -/
def execLoopSetLoad (e : Fin 8) : State → Host.Outcome State Fault Refusal :=
  answer fun c => setLoadEnd c e

/-- ENG_DISCARD (R292). -/
def execEngDiscard (r : Requester) (e : Fin 8) : State → Host.Outcome State Fault Refusal :=
  answer fun c => writeReg c r (engPage e) 0x04C 2

/-- HS_LOAD (R325). -/
def execHsLoad (r : Requester) : State → Host.Outcome State Fault Refusal :=
  answer fun c => writeReg c r 0x18 0x04C 1

/-- HEAT_SET_LOAD (R325). -/
def execHeatSetLoad : State → Host.Outcome State Fault Refusal :=
  answer fun c => heatLoadEnd c

/-- HS_DISCARD (R326). -/
def execHsDiscard (r : Requester) : State → Host.Outcome State Fault Refusal :=
  answer fun c => writeReg c r 0x18 0x04C 2

/-- TE_LOAD (R325). -/
def execTeLoad (r : Requester) (t : Fin 2) : State → Host.Outcome State Fault Refusal :=
  answer fun c => writeReg c r (engPage (t + 8)) 0x04C 1

/-- TABLE_SET_LOAD (R325). -/
def execTableSetLoad (t : Fin 2) : State → Host.Outcome State Fault Refusal :=
  answer fun c => setLoadEnd c (t + 8)

/-- TE_DISCARD (R329). -/
def execTeDiscard (r : Requester) (t : Fin 2) : State → Host.Outcome State Fault Refusal :=
  answer fun c => writeReg c r (engPage (t + 8)) 0x04C 2

/-- TRIM_APPLY (R189). -/
def execTrimApply (r : Requester) (cr : Crew) (count : Fin 32) : State → Host.Outcome State Fault Refusal :=
  answer fun c => writeReg c r (crewPage cr) 0x124 (pack [(1, 8, 8), (count, 4, 0)])

/-- TUNE_APPLY (R288). -/
def execTuneApply (r : Requester) (e : Fin 8) (j : Fin 64) : State → Host.Outcome State Fault Refusal :=
  answer fun c => writeReg c r (engPage e) 0x06C (pack [(1, 16, 16), (j, 5, 0)])

/-- TPOINT_APPLY (R330). -/
def execTpointApply (r : Requester) (t : Fin 2) (j : Fin 16) (index : BitVec 8) (value : BitVec 16) :
    State → Host.Outcome State Fault Refusal :=
  answer fun c =>
    writeReg c r (engPage (t + 8)) 0x060
    (pack [(1, 31, 31), (j, 27, 24), (index.toNat, 23, 16), (value.toNat, 15, 0)])

/-- FORCE_ENTRY (R194). -/
def execForceEntry (r : Requester) (cr : Crew) (v : Word) : State → Host.Outcome State Fault Refusal :=
  answer fun c => writeReg c r (crewPage cr) 0x138 v

/-- FORCE_VALUE (R194). -/
def execForceValue (r : Requester) (cr : Crew) (v : Word) : State → Host.Outcome State Fault Refusal :=
  answer fun c => writeReg c r (crewPage cr) 0x134 v

/-- BP_WRITE (R214). -/
def execBpWrite (r : Requester) (n : Fin 8) (v : Word) : State → Host.Outcome State Fault Refusal :=
  answer fun c => writeReg c r 9 (0x140 + 4 * n) v

/-- COX_TEST_ARM (R249). -/
def execCoxTestArm (r : Requester) (cr : Crew) (core : Fin 4) : State → Host.Outcome State Fault Refusal :=
  answer fun c => writeReg c r (crewPage cr) 0x068 (pack [(core, 2, 1), (1, 0, 0)])

/-- COX_TEST_DISARM (R249). -/
def execCoxTestDisarm (r : Requester) (cr : Crew) (core : Fin 4) :
    State → Host.Outcome State Fault Refusal :=
  answer fun c => writeReg c r (crewPage cr) 0x068 (pack [(core, 2, 1)])

/-- LOOP_MODE_WRITE (R267). -/
def execLoopModeWrite (r : Requester) (e : Fin 8) (j : Fin 64) (v : Word) :
    State → Host.Outcome State Fault Refusal :=
  answer fun c => writeReg c r (engPage e) (0x800 + 4 * j) v

/-- TLOOP_MODE_WRITE (R302). -/
def execTloopModeWrite (r : Requester) (t : Fin 2) (j : Fin 16) (v : Word) :
    State → Host.Outcome State Fault Refusal :=
  answer fun c => writeReg c r (engPage (t + 8)) (0x800 + 4 * j) v

/-- HEAT_MODE_WRITE (R327). -/
def execHeatModeWrite (r : Requester) (h : Fin 16) (v : Word) : State → Host.Outcome State Fault Refusal :=
  answer fun c => writeReg c r 0x18 (0x800 + 4 * h) v

/-- STROKE_CFG_WRITE (R122). -/
def execStrokeCfgWrite (r : Requester) (v : Word) : State → Host.Outcome State Fault Refusal :=
  answer fun c => writeReg c r 2 0x040 v

/-- PEAK_CLEAR (R126). -/
def execPeakClear (r : Requester) (pct : BitVec 8) : State → Host.Outcome State Fault Refusal :=
  answer fun c => writeReg c r 2 0x060 (pack [(1, 8, 8), (pct.toNat, 7, 0)])

/-- SENSOR_CLEAR (R640). -/
def execSensorClear (r : Requester) : State → Host.Outcome State Fault Refusal :=
  answer fun c => writeReg c r 0x7A 0x174 1

/-- HS_ALLOW_WRITE (R587). -/
def execHsAllowWrite (r : Requester) (s : Fin 16) (v : Word) : State → Host.Outcome State Fault Refusal :=
  answer fun c => writeReg c r 0x72 (0x108 + 16 * s) v

/-- HS_CLOSE (R582). -/
def execHsClose (r : Requester) (s : Fin 16) : State → Host.Outcome State Fault Refusal :=
  answer fun c => writeReg c r 0x72 0x050 (pack [(1, 4, 4), (s, 3, 0)])

/-- RESYNC (R424). -/
def execResync (r : Requester) : State → Host.Outcome State Fault Refusal :=
  answer fun c => writeReg c r 0x28 0x050 1

/-- SLEEP (R549). -/
def execSleep (r : Requester) (n : Fin 16) : State → Host.Outcome State Fault Refusal :=
  answer fun c => writeReg c r (canPage n) 0x044 1

/-- CAN_WAKE (R550). -/
def execCanWake (r : Requester) (n : Fin 16) : State → Host.Outcome State Fault Refusal :=
  answer fun c => writeReg c r (canPage n) 0x044 2

/-- RECOVER (R555). -/
def execRecover (r : Requester) (n : Fin 16) : State → Host.Outcome State Fault Refusal :=
  answer fun c => writeReg c r (canPage n) 0x044 3

/-- ID_CLASH_CLEAR (R548). -/
def execIdClashClear (r : Requester) (n : Fin 16) : State → Host.Outcome State Fault Refusal :=
  answer fun c => writeReg c r (canPage n) 0x098 0x20000000

/-- BLOCK_ENABLE (R71). -/
def execBlockEnable (r : Requester) (p : Fin 128) (drain : BitVec 8) :
    State → Host.Outcome State Fault Refusal :=
  answer fun c => writeReg c r p 0x008 (pack [(drain.toNat, 15, 8), (1, 0, 0)])

/-- BLOCK_DISABLE (R71). -/
def execBlockDisable (r : Requester) (p : Fin 128) (drain : BitVec 8) :
    State → Host.Outcome State Fault Refusal :=
  answer fun c => writeReg c r p 0x008 (pack [(drain.toNat, 15, 8)])

/-- SOFT_RESET (R611). -/
def execSoftReset (r : Requester) (p : Fin 128) (drain : BitVec 8) :
    State → Host.Outcome State Fault Refusal :=
  answer fun c => writeReg c r p 0x008 (pack [(drain.toNat, 15, 8), (1, 4, 4)])

/-- BLOCK_RESET (R611). -/
def execBlockReset (p : Fin 128) : State → Host.Outcome State Fault Refusal :=
  answer fun c => blockReleased c p

/-- DRAIN_END (R71). -/
def execDrainEnd (p : Fin 128) : State → Host.Outcome State Fault Refusal :=
  answer fun c => Sys2Proof.Machine.drainEnd c p

/-- DRAIN_ABORT (R71). -/
def execDrainAbort (p : Fin 128) : State → Host.Outcome State Fault Refusal :=
  answer fun c => Sys2Proof.Machine.drainAbort c p

/-- BLK_CAUSE_CLEAR (R57). -/
def execBlkCauseClear (r : Requester) (p : Fin 128) (v : Word) : State → Host.Outcome State Fault Refusal :=
  answer fun c => writeReg c r p 0x010 v

/-- TEST_CAUSE (R58). -/
def execTestCause (r : Requester) (p : Fin 128) (v : Word) : State → Host.Outcome State Fault Refusal :=
  answer fun c => writeReg c r p 0x01C v

/-- REGISTER_WRITE (R61). -/
def execRegisterWrite (r : Requester) (addr : Word) (full : Bool) (v : Word) :
    State → Host.Outcome State Fault Refusal :=
  answer fun c => (regWrite c r addr.toNat full v).2

/-- STROKE_TIME_LO_READ (R124). -/
def execStrokeTimeLoRead (r : Requester) : State → Host.Outcome State Fault Refusal :=
  answer fun c => readReg c r 2 0x04C

/-- DRIVE_NO_LO_READ (R208). -/
def execDriveNoLoRead (r : Requester) (cr : Crew) : State → Host.Outcome State Fault Refusal :=
  answer fun c => readReg c r (crewPage cr) 0x118

/-- WINDOW_READ (R655). -/
def execWindowRead (r : Requester) (k : Fin 64) : State → Host.Outcome State Fault Refusal :=
  answer fun c => readReg c r 0x78 (0x800 + 32 * k)

end Sys2Proof.Machine
end

