-- ==== Sys2Proof/Machine/DoReset.lean ====
section
/-!
DEFINITION. Resets of every reach, BOOT and the address plug (R604 to R622).
-/
namespace Sys2Proof.Machine

/-- CLEAR_COUNTS (R621). -/
def execClearCounts (r : Requester) : State → Host.Outcome State Fault Refusal :=
  answer fun c => writeReg c r 1 0x040 0x00010000

/-- RST_CMD_BLOCK (R621). -/
def execRstCmdBlock (r : Requester) (p : Fin 128) : State → Host.Outcome State Fault Refusal :=
  answer fun c => writeReg c r 1 0x040 (pack [(1, 10, 8), (p, 6, 0)])

/-- RST_CMD_CREW (R612). -/
def execRstCmdCrew (r : Requester) (cr : Crew) : State → Host.Outcome State Fault Refusal :=
  answer fun c => writeReg c r 1 0x040 (pack [(2, 10, 8), (crewPage cr - 8, 6, 0)])

/-- RST_CMD_MODULE (R621). -/
def execRstCmdModule (r : Requester) : State → Host.Outcome State Fault Refusal :=
  answer fun c => writeReg c r 1 0x040 0x300

/-- RST_CMD_POWER (R605). -/
def execRstCmdPower (r : Requester) : State → Host.Outcome State Fault Refusal :=
  answer fun c => writeReg c r 1 0x040 0x400

/-- CMD_SERVICE (R605). -/
def execCmdService : State → Host.Outcome State Fault Refusal :=
  answer fun c => Sys2Proof.Machine.cmdService c

/-- CMD_ENGINEERING (R604). -/
def execCmdEngineering : State → Host.Outcome State Fault Refusal :=
  answer fun c => Sys2Proof.Machine.cmdEngineering c

/-- POWER_ON (R604). -/
def execPowerOn : State → Host.Outcome State Fault Refusal :=
  answer fun c => hardSource c 0 4

/-- BROWNOUT_VCORE (R604). -/
def execBrownoutVcore : State → Host.Outcome State Fault Refusal :=
  answer fun c => hardSource c 1 4

/-- BROWNOUT_VDDR (R604). -/
def execBrownoutVddr : State → Host.Outcome State Fault Refusal :=
  answer fun c => hardSource c 2 4

/-- BROWNOUT_VIO (R604). -/
def execBrownoutVio : State → Host.Outcome State Fault Refusal :=
  answer fun c => hardSource c 3 4

/-- BUTTON (R604). -/
def execButton : State → Host.Outcome State Fault Refusal :=
  answer fun c => buttonSource c

/-- BACKPLANE (R604). -/
def execBackplane : State → Host.Outcome State Fault Refusal :=
  answer fun c => backplaneSource c

/-- WATCHDOG (R607). -/
def execWatchdog : State → Host.Outcome State Fault Refusal :=
  answer fun c => watchdogSource c

/-- BUTTON_STUCK (R606). -/
def execButtonStuck : State → Host.Outcome State Fault Refusal :=
  answer fun c => Sys2Proof.Machine.buttonStuck c

/-- BUTTON_FREED (R606). -/
def execButtonFreed (ms : Nat) : State → Host.Outcome State Fault Refusal :=
  answer fun c => Sys2Proof.Machine.buttonFreed c ms

/-- RESET_SOURCE_RELEASE (R609). -/
def execResetSourceRelease (n : Fin 12) : State → Host.Outcome State Fault Refusal :=
  answer fun c => sourceRelease c n

/-- BOOT (R619). -/
def execBoot (x : BootIn) : State → Host.Outcome State Fault Refusal :=
  answer fun c => Sys2Proof.Machine.boot c x

/-- PLUG_POLL (R617). -/
def execPlugPoll (x : Option (List Byte)) : State → Host.Outcome State Fault Refusal :=
  answer fun c => Sys2Proof.Machine.plugPoll c x

/-- PLUG_CHECK (R618). -/
def execPlugCheck (x : Option (List Byte)) : State → Host.Outcome State Fault Refusal :=
  answer fun c => Sys2Proof.Machine.plugCheck c x

/-- PLL_UNLOCK (R22). -/
def execPllUnlock (n : Fin 5) : State → Host.Outcome State Fault Refusal :=
  answer fun c => Sys2Proof.Machine.pllUnlock c n

/-- PLL_LOCK (R22). -/
def execPllLock (n : Fin 5) : State → Host.Outcome State Fault Refusal :=
  answer fun c => Sys2Proof.Machine.pllLock c n

end Sys2Proof.Machine
end

