-- ==== Sys2Proof/Machine/DoSafety.lean ====
section
/-!
DEFINITION. The safety channels, switches and reset input (R338 to R356) and the Zwistra connections (R357 to R367).
-/
namespace Sys2Proof.Machine

/-- A copy of a Zwistra frame, with the module time at which it arrives (R361). A seat holder looks at the epoch of one
that a connection of its own sent (R390). -/
def zwReceive (c : Chip) (netA : Bool) (bs : List Byte) : Chip :=
  let own := enabled c 0x21 && zwShapeOk netA bs && (zwOwn c bs).isSome
  let (t, c) := freshTime c
  let c := zwCopy c netA bs t
  if own then newerEpoch c 2 (BitVec.ofNat 32 (beAt bs 8 4)) else c

/-- SAFETY_FILTER_PASS (R338). -/
def execSafetyFilterPass (k : Fin 16) (level : Bool) : State → Host.Outcome State Fault Refusal :=
  answer fun c => Sys2Proof.Machine.safetyFilterPass c k level

/-- DISCREPANCY (R340). -/
def execDiscrepancy (n : Fin 8) : State → Host.Outcome State Fault Refusal :=
  answer fun c => Sys2Proof.Machine.discrepancy c n

/-- STAGE_TEST (R341). -/
def execStageTest (k : Fin 16) (follows : Bool) : State → Host.Outcome State Fault Refusal :=
  answer fun c => Sys2Proof.Machine.stageTest c k follows

/-- STAGE_FAULT (R341). -/
def execStageFault (k : Fin 16) : State → Host.Outcome State Fault Refusal :=
  answer fun c => Sys2Proof.Machine.stageTest c k false

/-- SWITCH_TEST (R344). -/
def execSwitchTest (o : Fin 8) (opened : Bool) : State → Host.Outcome State Fault Refusal :=
  answer fun c => Sys2Proof.Machine.switchTest c o opened

/-- SWITCH_STUCK (R344). -/
def execSwitchStuck (o : Fin 8) : State → Host.Outcome State Fault Refusal :=
  answer fun c => Sys2Proof.Machine.switchStuck c o

/-- RESET_INPUT_CLOSE (R353). -/
def execResetInputClose : State → Host.Outcome State Fault Refusal :=
  answer fun c => resetClose c

/-- RESET_VALID (R354). -/
def execResetValid (ms : Nat) : State → Host.Outcome State Fault Refusal :=
  answer fun c => resetRelease c ms

/-- RESET_STUCK (R355). -/
def execResetStuck : State → Host.Outcome State Fault Refusal :=
  answer fun c => Sys2Proof.Machine.resetStuck c

/-- RESET_INPUT_FREED (R355). -/
def execResetInputFreed : State → Host.Outcome State Fault Refusal :=
  answer fun c => resetFreed c

/-- ZWISTRA_COPY (R361). -/
def execZwistraCopy (netA : Bool) (bytes : List Byte) : State → Host.Outcome State Fault Refusal :=
  answer fun c => zwReceive c netA bytes

/-- SKEW_WINDOW_CLOSE (R364). -/
def execSkewWindowClose (k : Fin 256) : State → Host.Outcome State Fault Refusal :=
  answer fun c => zwWindowClose c k

/-- ZWISTRA_WATCHDOG (R367). -/
def execZwistraWatchdog (k : Fin 256) : State → Host.Outcome State Fault Refusal :=
  answer fun c => zwWatchdog c k

end Sys2Proof.Machine
end

