-- ==== Sys2Proof/Machine/DoStroke.lean ====
section
/-!
DEFINITION. The phases of the stroke, the module's time, and what the cox and the loop engines do on their own.
-/
namespace Sys2Proof.Machine

/-- STROKE_TICK (R92). -/
def execStrokeTick (now : Nat) (x : TickIn) : State → Host.Outcome State Fault Refusal :=
  answer fun c => Sys2Proof.Machine.strokeTick c now x

/-- DRIVE_START (R95). -/
def execDriveStart : State → Host.Outcome State Fault Refusal :=
  answer fun c => strokeDrive c

/-- FINISH (R102). -/
def execFinish : State → Host.Outcome State Fault Refusal :=
  answer fun c => strokeFinish c

/-- OUTPUT_STROBE (R102). -/
def execOutputStrobe : State → Host.Outcome State Fault Refusal :=
  answer fun c => Sys2Proof.Machine.outputStrobe c

/-- CAPTURE_END (R400). -/
def execCaptureEnd (hits : List (Crew × EccHit)) : State → Host.Outcome State Fault Refusal :=
  answer fun c => Sys2Proof.Machine.captureEnd c hits

/-- ATTN_CHECK_IDLE (R83). -/
def execAttnCheckIdle : State → Host.Outcome State Fault Refusal :=
  answer fun c => attnIdle c

/-- CKPT_RECORDS_DROPPED (R405). -/
def execCkptRecordsDropped (n : Nat) : State → Host.Outcome State Fault Refusal :=
  answer fun c => recordsDropped c n

/-- PPS_EDGE (R108). -/
def execPpsEdge : State → Host.Outcome State Fault Refusal :=
  answer fun c => syncFollow (Sys2Proof.Machine.ppsEdge c)

/-- PTP_MESSAGE (R567). -/
def execPtpMessage (net : Fin 2) (q : Fin 2) (msg : PtpIn) (offset : Int) (gm : Word) (rank : Nat) :
    State → Host.Outcome State Fault Refusal :=
  answer fun c => syncFollow (Sys2Proof.Machine.ptpMessage c net q msg.domain.toNat msg.state offset gm rank)

/-- SYNC_LOCK (R111). -/
def execSyncLock : State → Host.Outcome State Fault Refusal :=
  answer fun c => Sys2Proof.Machine.syncLock c

/-- SYNC_UNLOCK (R111). -/
def execSyncUnlock : State → Host.Outcome State Fault Refusal :=
  answer fun c => Sys2Proof.Machine.syncUnlock c

/-- SYNC_LOST (R111). -/
def execSyncLost : State → Host.Outcome State Fault Refusal :=
  answer fun c => Sys2Proof.Machine.syncLost c

/-- COX_MISMATCH (R226). -/
def execCoxMismatch (cr : Crew) (kind : MismatchKind) (cores : BitVec 3) (addr : Word) (ecc : Option EccHit) (double : Bool) :
    State → Host.Outcome State Fault Refusal :=
  answer fun c => Sys2Proof.Machine.coxMismatch c cr kind cores addr ecc double

/-- COMPARATOR_DISAGREE (R221). -/
def execComparatorDisagree (cr : Crew) : State → Host.Outcome State Fault Refusal :=
  answer fun c => Sys2Proof.Machine.comparatorDisagree c cr

/-- RESTART_DONE (R226). -/
def execRestartDone (cr : Crew) (lines : Nat) (ns : Nat) : State → Host.Outcome State Fault Refusal :=
  answer fun c => Sys2Proof.Machine.restartDone c cr lines ns

/-- LOOP_TICK (R271). -/
def execLoopTick (e : Fin 10) (instant : Nat) : State → Host.Outcome State Fault Refusal :=
  answer fun c => Sys2Proof.Machine.loopTick c e instant

/-- LOOP_SAMPLE (R272). -/
def execLoopSample (e : Fin 8) (j : Fin 64) (delay : Nat) (ecc : Option LoopEcc) :
    State → Host.Outcome State Fault Refusal :=
  answer fun c => loopOutput c (Sys2Proof.Machine.loopSample c e j delay ecc)

/-- TABLE_SAMPLE (R316). -/
def execTableSample (t : Fin 2) (j : Fin 16) (delay : Nat) (ecc : Option LoopEcc) :
    State → Host.Outcome State Fault Refusal :=
  answer fun c => loopOutput c (Sys2Proof.Machine.loopSample c (t + 8) j delay ecc)

/-- HEAT_DECISION (R304). -/
def execHeatDecision (h : Fin 16) (warmOver : Bool) : State → Host.Outcome State Fault Refusal :=
  answer fun c => loopOutput c (Sys2Proof.Machine.heatDecision c h warmOver)

/-- LANE_TIMEOUT (R301). -/
def execLaneTimeout (h : Fin 16) (k : Fin 8) : State → Host.Outcome State Fault Refusal :=
  answer fun c => Sys2Proof.Machine.laneTimeout c h k

end Sys2Proof.Machine
end

