-- ==== Sys2Proof/Machine/Flow.lean ====
section
/-!
DEFINITION. The flow instructions (R153 to R156) and what ends a task (R177, R182, R211).
-/
namespace Sys2Proof.Machine

/-- A jump or call target lies in the program (R161). -/
def targetOk (k : CrewSt) (core target : Nat) : Bool := decide (target < (partAt k core).code.length)

/-- A jump, taken where `p` of BA. -/
def jump (core : Nat) (o : Opnd) (p : Bool → Bool) (k : CrewSt) (s : CoreSt) : Except Nat Retire :=
  checked [2] 20 o <|
    if !targetOk k core o.val.toNat then .error faultTarget
    else if p s.ba then .ok ⟨s, some o.val.toNat, none, 2⟩
    else plain s 1

/-- A call, taken where `p` of BA (R153, R154). -/
def call (core : Nat) (o : Opnd) (p : Bool → Bool) (k : CrewSt) (s : CoreSt) : Except Nat Retire :=
  checked [2] 20 o <|
    if !targetOk k core o.val.toNat then .error faultTarget
    else if !p s.ba then plain s 1
    else if 16 ≤ s.calls.length then .error 9
    else .ok ⟨{ s with calls := (s.pc + 1) :: s.calls }, some o.val.toNat, none, 3⟩

/-- RET (R153, R154). -/
def ret (o : Opnd) (_k : CrewSt) (s : CoreSt) : Except Nat Retire :=
  checked [0] 22 o <| match s.calls with
    | [] => .error 10
    | a :: r => .ok ⟨{ s with calls := r }, some a, none, 3⟩

/-- END's faults: BRANCH_OPEN before END_IN_CALL (R156). -/
def endFault (o : Opnd) (s : CoreSt) : Except Nat Unit :=
  match checkForm [0] 22 o with
  | .error e => .error e
  | .ok _ => if s.branch ≠ [] then .error 8 else if s.calls ≠ [] then .error 11 else .ok ()

/-- END retires: the task has run, CRAB's clears CRAB pending, and the next due task is entered (R156, R177,
R178, R182, R211, R216). In scull mode any partition's END counts: the first END of CRAB clears CRAB pending, every one
writes a CRAB_RUN record, and TASK_STAT shows the drive under way (DESIGN CHOICE, log entry 68). A replay is no drive of
the crew's that TASK_STAT shows (R211, R421). -/
def endTask (c : Chip) (i : Issue) : Chip :=
  let k := crewSt c i.crew
  let t := (coreAt k i.core).task.getD 0
  let c := modCrew c i.crew fun k => { k with
    ran := if replaying c then k.ran else k.ran ||| (1#11 <<< t)
    crab := k.crab && t != 1
    cores := listMod k.cores i.core fun s =>
      enterTask (partAt k i.core) { s with clocks := s.clocks + 1, passBp := false } }
  if t = 1 && !replaying c then
    emit c (crewPage i.crew) 0x34 1 (BitVec.ofNat 32 k.driveNo) (BitVec.ofNat 32 k.crabStations)
      (BitVec.ofNat 32 k.crabIslands) c.stroke.count
  else c

/-- END retires, and the core fetches the first instruction of the task that it enters (R161). -/
def endRetires (c : Chip) (i : Issue) : Chip := fetchFirst i.crew i.core (endTask c i)

/-- END: one clock; a task it enters costs 8 more before its first instruction. -/
def endInstr (c : Chip) (i : Issue) (o : Opnd) : Chip :=
  if !instrDue c i (instrWord 0x01 o) then c
  else match breakpointAt c i with
    | some n => haltAt c i n
    | none =>
      let k := crewSt c i.crew
      let s := coreAt k i.core
      match endFault o s with
      | .error f => faultAt (eccStall c i) i f (instrWord 0x01 o)
      | .ok _ =>
        if inTime c k (s.clocks + 1 + b2n i.ecc.isSome) then endRetires (eccStall c i) i else c

/-- NOP. -/
def execNop (i : Issue) (o : Opnd) : State → Host.Outcome State Fault Refusal :=
  answer fun c => runInstr c i 0x00 o (fun _ s => checked [0] 22 o (plain s 1))
/-- END: the task ends. -/
def execEnd (i : Issue) (o : Opnd) : State → Host.Outcome State Fault Refusal :=
  answer fun c => endInstr c i o
/-- JMP. -/
def execJmp (i : Issue) (o : Opnd) : State → Host.Outcome State Fault Refusal :=
  answer fun c => runInstr c i 0x70 o (jump i.core o fun _ => true)
/-- JBT: jump when BA is 1. -/
def execJbt (i : Issue) (o : Opnd) : State → Host.Outcome State Fault Refusal :=
  answer fun c => runInstr c i 0x71 o (jump i.core o fun b => b)
/-- JBF: jump when BA is 0. -/
def execJbf (i : Issue) (o : Opnd) : State → Host.Outcome State Fault Refusal :=
  answer fun c => runInstr c i 0x72 o (jump i.core o fun b => !b)
/-- CALL. -/
def execCall (i : Issue) (o : Opnd) : State → Host.Outcome State Fault Refusal :=
  answer fun c => runInstr c i 0x74 o (call i.core o fun _ => true)
/-- CALLT: call when BA is 1. -/
def execCallt (i : Issue) (o : Opnd) : State → Host.Outcome State Fault Refusal :=
  answer fun c => runInstr c i 0x75 o (call i.core o fun b => b)
/-- RET. -/
def execRet (i : Issue) (o : Opnd) : State → Host.Outcome State Fault Refusal :=
  answer fun c => runInstr c i 0x76 o (ret o)

end Sys2Proof.Machine
end

