-- ==== Sys2Proof/Machine/Timers.lean ====
section
/-!
DEFINITION. The timer and counter instructions (R142 to R147).
-/
namespace Sys2Proof.Machine

/-- Time now of a timer, fixed at the crew's catch (R142, R143). -/
def timeNow (k : CrewSt) (n : Nat) : Word :=
  if n < 2048 then k.catchCount else BitVec.ofNat 32 (k.catchTime / 1000)

/-- Elapsed time of a running timer (R144). -/
def elapsed (now : Word) (t : Timer) : Word := now - t.start

/-- ET as it reads (R144): PT once DONE, 0 while idle. -/
def timerEt (now : Word) (t : Timer) : Word :=
  if t.done then t.pt else if t.running then elapsed now t else 0

/-- PT is WA[30:0] (R145). -/
def preset (wa : Word) : Word := wa &&& 0x7FFFFFFF

/-- TON (R145), clause by clause. -/
def tonStep (now : Word) (inp : Bool) (pt : Word) (t : Timer) : Timer :=
  let t := { t with pt := pt }
  let t := if inp && !t.inp then { t with start := now, done := false } else t
  let t :=
    if inp && !t.done then
      let t := { t with running := true }
      if pt ≤ elapsed now t then { t with done := true, running := false } else t
    else t
  let t := if inp then t else { t with done := false, running := false }
  { t with q := inp && t.done, inp := inp }

/-- TOF (R145). -/
def tofStep (now : Word) (inp : Bool) (pt : Word) (t : Timer) : Timer :=
  let t := { t with pt := pt }
  let t := if inp then { t with q := true, done := false, running := false } else t
  let t := if !inp && t.inp then { t with start := now } else t
  let t :=
    if !inp && t.q then
      let t := { t with running := true }
      if pt ≤ elapsed now t then { t with done := true, q := false, running := false } else t
    else t
  { t with inp := inp }

/-- TP (R145). -/
def tpStep (now : Word) (inp : Bool) (pt : Word) (t : Timer) : Timer :=
  let t := { t with pt := pt }
  let t := if inp && !t.inp && !t.q && !t.done then { t with start := now, q := true } else t
  let t :=
    if t.q then
      let t := { t with running := true }
      if pt ≤ elapsed now t then { t with done := true, q := false, running := false } else t
    else t
  let t := if t.done && !inp then { t with done := false, running := false } else t
  { t with inp := inp }

def setTimer (m : CrewMem) (n : Nat) (t : Timer) : CrewMem :=
  { m with timers := smSet Timer.reset m.timers n t }
def setCounter (m : CrewMem) (n : Nat) (t : Counter) : CrewMem :=
  { m with counters := smSet Counter.reset m.counters n t }

/-- TON, TOF or TP on timer n; BA = Q (R145). -/
def timerRun (o : Opnd) (f : Word → Bool → Word → Timer → Timer) (k : CrewSt) (s : CoreSt) :
    Except Nat Retire :=
  checked [2] 12 o <|
    let n := o.val.toNat
    let t := f (timeNow k n) s.ba (preset s.wa) (smGet Timer.reset s.mem.timers n)
    .ok ⟨{ s with ba := t.q, mem := setTimer s.mem n t }, none, some (3, n), 4⟩

/-- TRST (R145): IN, start, Q and DONE go to 0; PT is kept. -/
def timerReset (o : Opnd) (_k : CrewSt) (s : CoreSt) : Except Nat Retire :=
  checked [2] 12 o <|
    let n := o.val.toNat
    if s.ba then
      let t := smGet Timer.reset s.mem.timers n
      .ok ⟨{ s with mem := setTimer s.mem n { Timer.reset with pt := t.pt } }, none, some (3, n), 2⟩
    else plain s 2

/-- TET (R144, R145). -/
def timerRead (o : Opnd) (k : CrewSt) (s : CoreSt) : Except Nat Retire :=
  checked [2] 12 o <|
    let n := o.val.toNat
    plain { s with wa := timerEt (timeNow k n) (smGet Timer.reset s.mem.timers n) } 2

/-- A counter instruction that may change its record, and BA (R147). -/
def counterRun (o : Opnd) (clocks : Nat) (f : CoreSt → Counter → Counter × Bool) (_k : CrewSt)
    (s : CoreSt) : Except Nat Retire :=
  checked [2] 12 o <|
    let n := o.val.toNat
    let old := smGet Counter.reset s.mem.counters n
    let (t, ba) := f s old
    .ok ⟨{ s with ba := ba, mem := setCounter s.mem n t }, none, some (4, n), clocks⟩

/-- CRST and CLD: CV changes where BA is 1 (R147). -/
def counterSet (o : Opnd) (v : CoreSt → Word) (_k : CrewSt) (s : CoreSt) : Except Nat Retire :=
  checked [2] 12 o <|
    let n := o.val.toNat
    if s.ba then
      .ok ⟨{ s with mem := setCounter s.mem n { smGet Counter.reset s.mem.counters n with cv := v s } },
        none, some (4, n), 2⟩
    else plain s 2

/-- LCV (R147). -/
def counterRead (o : Opnd) (_k : CrewSt) (s : CoreSt) : Except Nat Retire :=
  checked [2] 12 o <| plain { s with wa := (smGet Counter.reset s.mem.counters o.val.toNat).cv } 2

/-- CTU (R147). -/
def ctuStep (s : CoreSt) (t : Counter) : Counter × Bool :=
  let cv := if s.ba && !t.up then (if t.cv = wMax then wMax else t.cv + 1) else t.cv
  ({ t with cv := cv, up := s.ba }, decide (s.wa.toInt ≤ cv.toInt))

/-- CTD (R147). -/
def ctdStep (s : CoreSt) (t : Counter) : Counter × Bool :=
  let cv := if s.ba && !t.dn then (if t.cv = wMin then wMin else t.cv - 1) else t.cv
  ({ t with cv := cv, dn := s.ba }, decide (cv.toInt ≤ 0))

/-- TON: on-delay. -/
def execTon (i : Issue) (o : Opnd) : State → Host.Outcome State Fault Refusal :=
  answer fun c => runInstr c i 0x38 o (timerRun o tonStep)
/-- TOF: off-delay. -/
def execTof (i : Issue) (o : Opnd) : State → Host.Outcome State Fault Refusal :=
  answer fun c => runInstr c i 0x39 o (timerRun o tofStep)
/-- TP: pulse. -/
def execTp (i : Issue) (o : Opnd) : State → Host.Outcome State Fault Refusal :=
  answer fun c => runInstr c i 0x3A o (timerRun o tpStep)
/-- TRST: clear a timer when BA is 1. -/
def execTrst (i : Issue) (o : Opnd) : State → Host.Outcome State Fault Refusal :=
  answer fun c => runInstr c i 0x3B o (timerReset o)
/-- TET: elapsed time into WA. -/
def execTet (i : Issue) (o : Opnd) : State → Host.Outcome State Fault Refusal :=
  answer fun c => runInstr c i 0x3C o (timerRead o)
/-- CTU: count up. -/
def execCtu (i : Issue) (o : Opnd) : State → Host.Outcome State Fault Refusal :=
  answer fun c => runInstr c i 0x40 o (counterRun o 3 ctuStep)
/-- CTD: count down. -/
def execCtd (i : Issue) (o : Opnd) : State → Host.Outcome State Fault Refusal :=
  answer fun c => runInstr c i 0x41 o (counterRun o 3 ctdStep)
/-- CRST: clear CV when BA is 1. -/
def execCrst (i : Issue) (o : Opnd) : State → Host.Outcome State Fault Refusal :=
  answer fun c => runInstr c i 0x42 o (counterSet o fun _ => 0)
/-- CLD: load CV from WA when BA is 1. -/
def execCld (i : Issue) (o : Opnd) : State → Host.Outcome State Fault Refusal :=
  answer fun c => runInstr c i 0x43 o (counterSet o fun s => s.wa)
/-- LCV: CV into WA. -/
def execLcv (i : Issue) (o : Opnd) : State → Host.Outcome State Fault Refusal :=
  answer fun c => runInstr c i 0x44 o (counterRead o)

end Sys2Proof.Machine
end

