-- ==== Sys2Proof/Machine/Dispatch.lean ====
section
/-!
DEFINITION. One arm per command, each a direct call of its meaning.
-/
namespace Sys2Proof.Machine

def exec (i : Instr) (s : State) : Host.Outcome State Fault Refusal :=
  match i with
  | .start r => Sys2Proof.Machine.execStart r s
  | .stop r => Sys2Proof.Machine.execStop r s
  | .configure r => Sys2Proof.Machine.execConfigure r s
  | .commitConfig r => Sys2Proof.Machine.execCommitConfig r s
  | .resume r => Sys2Proof.Machine.execResume r s
  | .step r => Sys2Proof.Machine.execStep r s
  | .clearHalt r => Sys2Proof.Machine.execClearHalt r s
  | .layUp r => Sys2Proof.Machine.execLayUp r s
  | .wake r => Sys2Proof.Machine.execWake r s
  | .activate r => Sys2Proof.Machine.execActivate r s
  | .handover r => Sys2Proof.Machine.execHandover r s
  | .bld k w => Sys2Proof.Machine.execBld k w s
  | .bldn k w => Sys2Proof.Machine.execBldn k w s
  | .band k w => Sys2Proof.Machine.execBand k w s
  | .bandn k w => Sys2Proof.Machine.execBandn k w s
  | .bor k w => Sys2Proof.Machine.execBor k w s
  | .born k w => Sys2Proof.Machine.execBorn k w s
  | .bxor k w => Sys2Proof.Machine.execBxor k w s
  | .bxorn k w => Sys2Proof.Machine.execBxorn k w s
  | .inv k w => Sys2Proof.Machine.execInv k w s
  | .btrue k w => Sys2Proof.Machine.execBtrue k w s
  | .bfalse k w => Sys2Proof.Machine.execBfalse k w s
  | .ldov k w => Sys2Proof.Machine.execLdov k w s
  | .opa k w => Sys2Proof.Machine.execOpa k w s
  | .opo k w => Sys2Proof.Machine.execOpo k w s
  | .opx k w => Sys2Proof.Machine.execOpx k w s
  | .clb k w => Sys2Proof.Machine.execClb k w s
  | .st k w => Sys2Proof.Machine.execSt k w s
  | .stn k w => Sys2Proof.Machine.execStn k w s
  | .setb k w => Sys2Proof.Machine.execSetb k w s
  | .clrb k w => Sys2Proof.Machine.execClrb k w s
  | .edgr k w => Sys2Proof.Machine.execEdgr k w s
  | .edgf k w => Sys2Proof.Machine.execEdgf k w s
  | .ton k w => Sys2Proof.Machine.execTon k w s
  | .tof k w => Sys2Proof.Machine.execTof k w s
  | .tp k w => Sys2Proof.Machine.execTp k w s
  | .trst k w => Sys2Proof.Machine.execTrst k w s
  | .tet k w => Sys2Proof.Machine.execTet k w s
  | .ctu k w => Sys2Proof.Machine.execCtu k w s
  | .ctd k w => Sys2Proof.Machine.execCtd k w s
  | .crst k w => Sys2Proof.Machine.execCrst k w s
  | .cld k w => Sys2Proof.Machine.execCld k w s
  | .lcv k w => Sys2Proof.Machine.execLcv k w s
  | .ldw k w => Sys2Proof.Machine.execLdw k w s
  | .ldhi k w => Sys2Proof.Machine.execLdhi k w s
  | .tw k w => Sys2Proof.Machine.execTw k w s
  | .swap k w => Sys2Proof.Machine.execSwap k w s
  | .ldwb k w => Sys2Proof.Machine.execLdwb k w s
  | .add k w => Sys2Proof.Machine.execAdd k w s
  | .sub k w => Sys2Proof.Machine.execSub k w s
  | .mul k w => Sys2Proof.Machine.execMul k w s
  | .div k w => Sys2Proof.Machine.execDiv k w s
  | .mod k w => Sys2Proof.Machine.execMod k w s
  | .neg k w => Sys2Proof.Machine.execNeg k w s
  | .abs k w => Sys2Proof.Machine.execAbs k w s
  | .aw k w => Sys2Proof.Machine.execAw k w s
  | .ow k w => Sys2Proof.Machine.execOw k w s
  | .xw k w => Sys2Proof.Machine.execXw k w s
  | .shl k w => Sys2Proof.Machine.execShl k w s
  | .shr k w => Sys2Proof.Machine.execShr k w s
  | .sar k w => Sys2Proof.Machine.execSar k w s
  | .eq k w => Sys2Proof.Machine.execEq k w s
  | .ne k w => Sys2Proof.Machine.execNe k w s
  | .gt k w => Sys2Proof.Machine.execGt k w s
  | .ge k w => Sys2Proof.Machine.execGe k w s
  | .lt k w => Sys2Proof.Machine.execLt k w s
  | .le k w => Sys2Proof.Machine.execLe k w s
  | .nop k w => Sys2Proof.Machine.execNop k w s
  | .endTask k w => Sys2Proof.Machine.execEnd k w s
  | .jmp k w => Sys2Proof.Machine.execJmp k w s
  | .jbt k w => Sys2Proof.Machine.execJbt k w s
  | .jbf k w => Sys2Proof.Machine.execJbf k w s
  | .call k w => Sys2Proof.Machine.execCall k w s
  | .callt k w => Sys2Proof.Machine.execCallt k w s
  | .ret k w => Sys2Proof.Machine.execRet k w s
  | .strokeTick now x => Sys2Proof.Machine.execStrokeTick now x s
  | .driveStart => Sys2Proof.Machine.execDriveStart s
  | .finish => Sys2Proof.Machine.execFinish s
  | .outputStrobe => Sys2Proof.Machine.execOutputStrobe s
  | .captureEnd hits => Sys2Proof.Machine.execCaptureEnd hits s
  | .attnCheckIdle => Sys2Proof.Machine.execAttnCheckIdle s
  | .ckptRecordsDropped n => Sys2Proof.Machine.execCkptRecordsDropped n s
  | .ppsEdge => Sys2Proof.Machine.execPpsEdge s
  | .ptpMessage net q msg offset gm rank => Sys2Proof.Machine.execPtpMessage net q msg offset gm rank s
  | .syncLock => Sys2Proof.Machine.execSyncLock s
  | .syncUnlock => Sys2Proof.Machine.execSyncUnlock s
  | .syncLost => Sys2Proof.Machine.execSyncLost s
  | .coxMismatch cr kind cores addr ecc double => Sys2Proof.Machine.execCoxMismatch cr kind cores addr ecc double s
  | .comparatorDisagree cr => Sys2Proof.Machine.execComparatorDisagree cr s
  | .restartDone cr lines ns => Sys2Proof.Machine.execRestartDone cr lines ns s
  | .loopTick e instant => Sys2Proof.Machine.execLoopTick e instant s
  | .loopSample e j delay ecc => Sys2Proof.Machine.execLoopSample e j delay ecc s
  | .tableSample t j delay ecc => Sys2Proof.Machine.execTableSample t j delay ecc s
  | .heatDecision h warmOver => Sys2Proof.Machine.execHeatDecision h warmOver s
  | .safetyFilterPass k level => Sys2Proof.Machine.execSafetyFilterPass k level s
  | .discrepancy n => Sys2Proof.Machine.execDiscrepancy n s
  | .stageTest k follows => Sys2Proof.Machine.execStageTest k follows s
  | .stageFault k => Sys2Proof.Machine.execStageFault k s
  | .switchTest w opened => Sys2Proof.Machine.execSwitchTest w opened s
  | .switchStuck w => Sys2Proof.Machine.execSwitchStuck w s
  | .resetInputClose => Sys2Proof.Machine.execResetInputClose s
  | .resetValid ms => Sys2Proof.Machine.execResetValid ms s
  | .resetStuck => Sys2Proof.Machine.execResetStuck s
  | .resetInputFreed => Sys2Proof.Machine.execResetInputFreed s
  | .zwistraCopy netA bytes => Sys2Proof.Machine.execZwistraCopy netA bytes s
  | .skewWindowClose k => Sys2Proof.Machine.execSkewWindowClose k s
  | .zwistraWatchdog k => Sys2Proof.Machine.execZwistraWatchdog k s
  | .leaseReceive bytes => Sys2Proof.Machine.execLeaseReceive bytes s
  | .seatBeaconReceive net bytes => Sys2Proof.Machine.execSeatBeaconReceive net bytes s
  | .leaseJudgment => Sys2Proof.Machine.execLeaseJudgment s
  | .leaseExpiry => Sys2Proof.Machine.execLeaseExpiry s
  | .pairedStageRelease => Sys2Proof.Machine.execPairedStageRelease s
  | .autostartWaitExpiry => Sys2Proof.Machine.execAutostartWaitExpiry s
  | .hello => Sys2Proof.Machine.execHello s
  | .helloReceive bytes => Sys2Proof.Machine.execHelloReceive bytes s
  | .ackReceive bytes => Sys2Proof.Machine.execAckReceive bytes s
  | .outputReceive bytes atStrobe => Sys2Proof.Machine.execOutputReceive bytes atStrobe s
  | .ckptHead bytes => Sys2Proof.Machine.execCkptHead bytes s
  | .ckptLine bytes => Sys2Proof.Machine.execCkptLine bytes s
  | .ckptEnd bytes => Sys2Proof.Machine.execCkptEnd bytes s
  | .checkpointApply => Sys2Proof.Machine.execCheckpointApply s
  | .offer => Sys2Proof.Machine.execOffer s
  | .offerReceive bytes left => Sys2Proof.Machine.execOfferReceive bytes left s
  | .take bytes => Sys2Proof.Machine.execTake bytes s
  | .syncReqReceive bytes => Sys2Proof.Machine.execSyncReqReceive bytes s
  | .takeover => Sys2Proof.Machine.execTakeover s
  | .paddleReplay => Sys2Proof.Machine.execPaddleReplay s
  | .paddleReplayEnd => Sys2Proof.Machine.execPaddleReplayEnd s
  | .selftest n ok => Sys2Proof.Machine.execSelftest n ok s
  | .laneDown n => Sys2Proof.Machine.execLaneDown n s
  | .laneUp n => Sys2Proof.Machine.execLaneUp n s
  | .partnerLost => Sys2Proof.Machine.execPartnerLost s
  | .debouncePass ch level => Sys2Proof.Machine.execDebouncePass ch level s
  | .inputOpenWire ch => Sys2Proof.Machine.execInputOpenWire ch s
  | .outputOpenWire ch => Sys2Proof.Machine.execOutputOpenWire ch s
  | .overload ch => Sys2Proof.Machine.execOverload ch s
  | .overtemp ch => Sys2Proof.Machine.execOvertemp ch s
  | .shortToSupply n near => Sys2Proof.Machine.execShortToSupply n near s
  | .crossWired n other => Sys2Proof.Machine.execCrossWired n other s
  | .channelClear n => Sys2Proof.Machine.execChannelClear n s
  | .fsSample g volts => Sys2Proof.Machine.execFsSample g volts s
  | .fsResume g => Sys2Proof.Machine.execFsResume g s
  | .freqPeriod f t => Sys2Proof.Machine.execFreqPeriod f t s
  | .freqTimeout f => Sys2Proof.Machine.execFreqTimeout f s
  | .tierDecision k nA => Sys2Proof.Machine.execTierDecision k nA s
  | .tierUp k => Sys2Proof.Machine.execTierUp k s
  | .islandStart k => Sys2Proof.Machine.execIslandStart k s
  | .brownout k => Sys2Proof.Machine.execBrownout k s
  | .islandSample k nA headroom => Sys2Proof.Machine.execIslandSample k nA headroom s
  | .islandCommand k => Sys2Proof.Machine.execIslandCommand k s
  | .islandFrameReceive k => Sys2Proof.Machine.execIslandFrameReceive k s
  | .islandLost k => Sys2Proof.Machine.execIslandLost k s
  | .failDriven k => Sys2Proof.Machine.execFailDriven k s
  | .ne43Fail k => Sys2Proof.Machine.execNe43Fail k s
  | .compliance k v => Sys2Proof.Machine.execCompliance k v s
  | .readback k => Sys2Proof.Machine.execReadback k s
  | .calCheck k ok => Sys2Proof.Machine.execCalCheck k ok s
  | .lsSample volts => Sys2Proof.Machine.execLsSample volts s
  | .lsStop => Sys2Proof.Machine.execLsStop s
  | .lsStart => Sys2Proof.Machine.execLsStart s
  | .activateRefresh => Sys2Proof.Machine.execActivateRefresh s
  | .stationIn l fcsOk cycle bytes => Sys2Proof.Machine.execStationIn l fcsOk cycle bytes s
  | .managementRequest l => Sys2Proof.Machine.execManagementRequest l s
  | .ident l bytes => Sys2Proof.Machine.execIdent l bytes s
  | .confAck l bytes => Sys2Proof.Machine.execConfAck l bytes s
  | .confAckTimeout l u => Sys2Proof.Machine.execConfAckTimeout l u s
  | .stationLost l u => Sys2Proof.Machine.execStationLost l u s
  | .remoteLinkChange l up => Sys2Proof.Machine.execRemoteLinkChange l up s
  | .canFrameAccepted n f remote => Sys2Proof.Machine.execCanFrameAccepted n f remote s
  | .canTxEnd n res extra tdcv => Sys2Proof.Machine.execCanTxEnd n res extra tdcv s
  | .alone n => Sys2Proof.Machine.execAlone n s
  | .idClash n w => Sys2Proof.Machine.execIdClash n w s
  | .busOffRecovery n => Sys2Proof.Machine.execBusOffRecovery n s
  | .canSleepEnter n => Sys2Proof.Machine.execCanSleepEnter n s
  | .canWakeEvent n w => Sys2Proof.Machine.execCanWakeEvent n w s
  | .modbusReply q bytes => Sys2Proof.Machine.execModbusReply q bytes s
  | .modbusTimeout q => Sys2Proof.Machine.execModbusTimeout q s
  | .nmeaSentence q bytes => Sys2Proof.Machine.execNmeaSentence q bytes s
  | .lanState net q up => Sys2Proof.Machine.execLanState net q up s
  | .prpSupervision => Sys2Proof.Machine.execPrpSupervision s
  | .prpSupervisionReceive net q own => Sys2Proof.Machine.execPrpSupervisionReceive net q own s
  | .rapOpen x => Sys2Proof.Machine.execRapOpen x s
  | .rapClose x => Sys2Proof.Machine.execRapClose x s
  | .rapNop x => Sys2Proof.Machine.execRapNop x s
  | .rapRead x => Sys2Proof.Machine.execRapRead x s
  | .rapWrite x => Sys2Proof.Machine.execRapWrite x s
  | .imageRead x => Sys2Proof.Machine.execImageRead x s
  | .imageWrite x => Sys2Proof.Machine.execImageWrite x s
  | .stageOpen x => Sys2Proof.Machine.execStageOpen x s
  | .stageData x => Sys2Proof.Machine.execStageData x s
  | .stageClose x => Sys2Proof.Machine.execStageClose x s
  | .attnFilter x => Sys2Proof.Machine.execAttnFilter x s
  | .cmdTimeout u => Sys2Proof.Machine.execCmdTimeout u s
  | .sessionTimeout u => Sys2Proof.Machine.execSessionTimeout u s
  | .cmdLen bytes phase => Sys2Proof.Machine.execCmdLen bytes phase s
  | .rspLen v => Sys2Proof.Machine.execRspLen v s
  | .load r cr => Sys2Proof.Machine.execLoad r cr s
  | .programLoad cr => Sys2Proof.Machine.execProgramLoad cr s
  | .discard r cr => Sys2Proof.Machine.execDiscard r cr s
  | .engLoad r e => Sys2Proof.Machine.execEngLoad r e s
  | .loopSetLoad e => Sys2Proof.Machine.execLoopSetLoad e s
  | .engDiscard r e => Sys2Proof.Machine.execEngDiscard r e s
  | .hsLoad r => Sys2Proof.Machine.execHsLoad r s
  | .heatSetLoad => Sys2Proof.Machine.execHeatSetLoad s
  | .hsDiscard r => Sys2Proof.Machine.execHsDiscard r s
  | .teLoad r t => Sys2Proof.Machine.execTeLoad r t s
  | .tableSetLoad t => Sys2Proof.Machine.execTableSetLoad t s
  | .teDiscard r t => Sys2Proof.Machine.execTeDiscard r t s
  | .trimApply r cr count => Sys2Proof.Machine.execTrimApply r cr count s
  | .tuneApply r e j => Sys2Proof.Machine.execTuneApply r e j s
  | .tpointApply r t j index value => Sys2Proof.Machine.execTpointApply r t j index value s
  | .forceEntry r cr v => Sys2Proof.Machine.execForceEntry r cr v s
  | .forceValue r cr v => Sys2Proof.Machine.execForceValue r cr v s
  | .bpWrite r n v => Sys2Proof.Machine.execBpWrite r n v s
  | .coxTestArm r cr core => Sys2Proof.Machine.execCoxTestArm r cr core s
  | .coxTestDisarm r cr core => Sys2Proof.Machine.execCoxTestDisarm r cr core s
  | .loopModeWrite r e j v => Sys2Proof.Machine.execLoopModeWrite r e j v s
  | .tloopModeWrite r t j v => Sys2Proof.Machine.execTloopModeWrite r t j v s
  | .heatModeWrite r h v => Sys2Proof.Machine.execHeatModeWrite r h v s
  | .strokeCfgWrite r v => Sys2Proof.Machine.execStrokeCfgWrite r v s
  | .peakClear r pct => Sys2Proof.Machine.execPeakClear r pct s
  | .sensorClear r => Sys2Proof.Machine.execSensorClear r s
  | .hsAllowWrite r u v => Sys2Proof.Machine.execHsAllowWrite r u v s
  | .hsClose r u => Sys2Proof.Machine.execHsClose r u s
  | .resync r => Sys2Proof.Machine.execResync r s
  | .sleep r n => Sys2Proof.Machine.execSleep r n s
  | .canWake r n => Sys2Proof.Machine.execCanWake r n s
  | .recover r n => Sys2Proof.Machine.execRecover r n s
  | .idClashClear r n => Sys2Proof.Machine.execIdClashClear r n s
  | .blockEnable r p drain => Sys2Proof.Machine.execBlockEnable r p drain s
  | .blockDisable r p drain => Sys2Proof.Machine.execBlockDisable r p drain s
  | .softReset r p drain => Sys2Proof.Machine.execSoftReset r p drain s
  | .blockReset p => Sys2Proof.Machine.execBlockReset p s
  | .drainEnd p => Sys2Proof.Machine.execDrainEnd p s
  | .drainAbort p => Sys2Proof.Machine.execDrainAbort p s
  | .blkCauseClear r p v => Sys2Proof.Machine.execBlkCauseClear r p v s
  | .testCause r p v => Sys2Proof.Machine.execTestCause r p v s
  | .registerWrite r addr full v => Sys2Proof.Machine.execRegisterWrite r addr full v s
  | .strokeTimeLoRead r => Sys2Proof.Machine.execStrokeTimeLoRead r s
  | .driveNoLoRead r cr => Sys2Proof.Machine.execDriveNoLoRead r cr s
  | .windowRead r k => Sys2Proof.Machine.execWindowRead r k s
  | .clearCounts r => Sys2Proof.Machine.execClearCounts r s
  | .rstCmdBlock r p => Sys2Proof.Machine.execRstCmdBlock r p s
  | .rstCmdCrew r cr => Sys2Proof.Machine.execRstCmdCrew r cr s
  | .rstCmdModule r => Sys2Proof.Machine.execRstCmdModule r s
  | .rstCmdPower r => Sys2Proof.Machine.execRstCmdPower r s
  | .cmdService => Sys2Proof.Machine.execCmdService s
  | .cmdEngineering => Sys2Proof.Machine.execCmdEngineering s
  | .powerOn => Sys2Proof.Machine.execPowerOn s
  | .brownoutVcore => Sys2Proof.Machine.execBrownoutVcore s
  | .brownoutVddr => Sys2Proof.Machine.execBrownoutVddr s
  | .brownoutVio => Sys2Proof.Machine.execBrownoutVio s
  | .button => Sys2Proof.Machine.execButton s
  | .backplane => Sys2Proof.Machine.execBackplane s
  | .watchdog => Sys2Proof.Machine.execWatchdog s
  | .buttonStuck => Sys2Proof.Machine.execButtonStuck s
  | .buttonFreed ms => Sys2Proof.Machine.execButtonFreed ms s
  | .resetSourceRelease n => Sys2Proof.Machine.execResetSourceRelease n s
  | .boot x => Sys2Proof.Machine.execBoot x s
  | .plugPoll x => Sys2Proof.Machine.execPlugPoll x s
  | .plugCheck x => Sys2Proof.Machine.execPlugCheck x s
  | .pllUnlock n => Sys2Proof.Machine.execPllUnlock n s
  | .underwayInput v => Sys2Proof.Machine.execUnderwayInput v s
  | .sensorSample x => Sys2Proof.Machine.execSensorSample x s
  | .sensorState bit k set => Sys2Proof.Machine.execSensorState bit k set s
  | .cellMeasure mv secs => Sys2Proof.Machine.execCellMeasure mv secs s
  | .enroll r len => Sys2Proof.Machine.execEnroll r len s
  | .ownerClear r => Sys2Proof.Machine.execOwnerClear r s
  | .lock r => Sys2Proof.Machine.execLock r s
  | .unlock r => Sys2Proof.Machine.execUnlock r s
  | .ownerChange => Sys2Proof.Machine.execOwnerChange s
  | .request r => Sys2Proof.Machine.execRequest r s
  | .attested => Sys2Proof.Machine.execAttested s
  | .wakeRecordStore => Sys2Proof.Machine.execWakeRecordStore s
  | .arm r => Sys2Proof.Machine.execArm r s
  | .snap r => Sys2Proof.Machine.execSnap r s
  | .exportStart r => Sys2Proof.Machine.execExportStart r s
  | .exportDone => Sys2Proof.Machine.execExportDone s
  | .updateBlock readsBack => Sys2Proof.Machine.execUpdateBlock readsBack s
  | .updateVerify => Sys2Proof.Machine.execUpdateVerify s
  | .updDiscard r => Sys2Proof.Machine.execUpdDiscard r s
  | .activateEntry => Sys2Proof.Machine.execActivateEntry s
  | .activated => Sys2Proof.Machine.execActivated s
  | .fallback unreadable => Sys2Proof.Machine.execFallback unreadable s
  | .panelCheck => Sys2Proof.Machine.execPanelCheck s
  | .panelPhaseEnd => Sys2Proof.Machine.execPanelPhaseEnd s
  | .refresh r => Sys2Proof.Machine.execRefresh r s
  | .pnlTest r => Sys2Proof.Machine.execPnlTest r s
  | .pnlTestEnd => Sys2Proof.Machine.execPnlTestEnd s
  | .crack ohms => Sys2Proof.Machine.execCrack ohms s
  | .laneTimeout h k => Sys2Proof.Machine.execLaneTimeout h k s
  | .lineOutReceive l => Sys2Proof.Machine.execLineOutReceive l s
  | .supervisionMissing net q => Sys2Proof.Machine.execSupervisionMissing net q s
  | .pllLock n => Sys2Proof.Machine.execPllLock n s
  | .arbitrationLoss n => Sys2Proof.Machine.execArbitrationLoss n s
  | .canRxError n one eights => Sys2Proof.Machine.execCanRxError n one eights s
  | .canTxStart n => Sys2Proof.Machine.execCanTxStart n s
  | .canIntegrated n => Sys2Proof.Machine.execCanIntegrated n s
  | .discardedRecord => Sys2Proof.Machine.execDiscardedRecord s
  | .discardedDatagram net => Sys2Proof.Machine.execDiscardedDatagram net s
  | .arpRequest p mac ip target => Sys2Proof.Machine.execArpRequest p mac ip target s
  | .icmpEcho p target rest => Sys2Proof.Machine.execIcmpEcho p target rest s
  | .ptpAnnounceTimeout net q => Sys2Proof.Machine.execPtpAnnounceTimeout net q s
  | .pcieLinkChange up => Sys2Proof.Machine.execPcieLinkChange up s
  | .openWireClear ch => Sys2Proof.Machine.execOpenWireClear ch s
  | .readbackClear k => Sys2Proof.Machine.execReadbackClear k s

end Sys2Proof.Machine
end

