-- ==== Sys2Proof/WellFormed.lean ====
section
/-!
DEFINITION. Which commands are well formed: the operand ranges that the types of Syntax.lean leave open. The
machine gives an ill-formed command a meaning all the same; the checks say what can come from outside.
-/
namespace Sys2Proof

/-- Sixteen sessions (R569). -/
def Requester.wf : Requester → Bool
  | .session n => decide (n < 16)
  | .bar0 => true
  | .boathouse => true

/-- A word of one of a crew's three cores: 2 MiB of program SRAM or 1 MiB of data SRAM (R239, R247). -/
def EccHit.wf (e : EccHit) : Bool :=
  decide (e.core < 3) && e.offset % 4 == 0 && decide (e.offset < if e.dataMem then 0x100000 else 0x200000)

def optWf {α : Type} (f : α → Bool) : Option α → Bool
  | none => true
  | some x => f x

/-- The safety crew executes as one core (R13); a process core is 0 to 2 (R203). -/
def Issue.wf (k : Issue) : Bool :=
  (match k.crew with
  | .safety => k.core == 0
  | .process => decide (k.core < 3)) && optWf EccHit.wf k.ecc

/-- A frame, record or datagram fits an Ethernet payload (R6). -/
def frameWf (bs : List Byte) : Bool := decide (bs.length ≤ 1500)

/-- What lies in BAR1 before CMD_LEN (R583). -/
def bufferWf (bs : List Byte) : Bool := decide (bs.length ≤ 2048)

/-- The plug's record (R616). -/
def plugWf (bs : List Byte) : Bool := bs.length == 16

/-- The data lengths of a classic and of an FD frame (R524). -/
def canLenWf (fd : Bool) (n : Nat) : Bool :=
  decide (n ≤ 8) || (fd && [12, 16, 20, 24, 32, 48, 64].contains n)

/-- A frame that a CAN bus can carry (R524). -/
def CanFrame.wf (f : CanFrame) : Bool :=
  decide (f.id < if f.ide then 0x20000000 else 0x800) && canLenWf f.fd f.len && f.data.length == f.len
    && (f.fd || (!f.brs && !f.esi))

/-- A remote frame is classic and carries no data. -/
def CanFrame.remoteWf (f : CanFrame) : Bool := !f.fd && f.len == 0

def CanWakeSource.wf : CanWakeSource → Bool
  | .dominant => true
  | .frame f => f.wf
  | .erroneous => true

/-- Twelve temperature points, five rails, three axes (R629, R631). -/
def SensorIn.wf (x : SensorIn) : Bool :=
  x.temps.length == 12 && x.rails.length == 5 && optWf (fun m => m.1.length == 3) x.motion

/-- Plug reads of 16 bytes (R616). -/
def BootIn.wf (x : BootIn) : Bool :=
  optWf plugWf x.plug1 && optWf plugWf x.plug2

/-- A RAP datagram from an IPv4 address and a UDP port (R569). -/
def RapIn.wf (x : RapIn) : Bool :=
  decide (x.ip < 0x100000000) && decide (x.udp < 0x10000) && decide (x.bytes.length ≤ 1472)

/-- Every operand lies in the range that the rule of its row gives it. -/
def Instr.wf : Instr → Bool
  | .start r => r.wf
  | .stop r => r.wf
  | .configure r => r.wf
  | .commitConfig r => r.wf
  | .resume r => r.wf
  | .step r => r.wf
  | .clearHalt r => r.wf
  | .layUp r => r.wf
  | .wake r => r.wf
  | .activate r => r.wf
  | .handover r => r.wf
  | .bld i _ => i.wf
  | .bldn i _ => i.wf
  | .band i _ => i.wf
  | .bandn i _ => i.wf
  | .bor i _ => i.wf
  | .born i _ => i.wf
  | .bxor i _ => i.wf
  | .bxorn i _ => i.wf
  | .inv i _ => i.wf
  | .btrue i _ => i.wf
  | .bfalse i _ => i.wf
  | .ldov i _ => i.wf
  | .opa i _ => i.wf
  | .opo i _ => i.wf
  | .opx i _ => i.wf
  | .clb i _ => i.wf
  | .st i _ => i.wf
  | .stn i _ => i.wf
  | .setb i _ => i.wf
  | .clrb i _ => i.wf
  | .edgr i _ => i.wf
  | .edgf i _ => i.wf
  | .ton i _ => i.wf
  | .tof i _ => i.wf
  | .tp i _ => i.wf
  | .trst i _ => i.wf
  | .tet i _ => i.wf
  | .ctu i _ => i.wf
  | .ctd i _ => i.wf
  | .crst i _ => i.wf
  | .cld i _ => i.wf
  | .lcv i _ => i.wf
  | .ldw i _ => i.wf
  | .ldhi i _ => i.wf
  | .tw i _ => i.wf
  | .swap i _ => i.wf
  | .ldwb i _ => i.wf
  | .add i _ => i.wf
  | .sub i _ => i.wf
  | .mul i _ => i.wf
  | .div i _ => i.wf
  | .mod i _ => i.wf
  | .neg i _ => i.wf
  | .abs i _ => i.wf
  | .aw i _ => i.wf
  | .ow i _ => i.wf
  | .xw i _ => i.wf
  | .shl i _ => i.wf
  | .shr i _ => i.wf
  | .sar i _ => i.wf
  | .eq i _ => i.wf
  | .ne i _ => i.wf
  | .gt i _ => i.wf
  | .ge i _ => i.wf
  | .lt i _ => i.wf
  | .le i _ => i.wf
  | .nop i _ => i.wf
  | .endTask i _ => i.wf
  | .jmp i _ => i.wf
  | .jbt i _ => i.wf
  | .jbf i _ => i.wf
  | .call i _ => i.wf
  | .callt i _ => i.wf
  | .ret i _ => i.wf
  | .strokeTick _ _ => true
  | .driveStart => true
  | .finish => true
  | .outputStrobe => true
  | .captureEnd hits => hits.all fun h => h.2.wf
  | .attnCheckIdle => true
  | .ckptRecordsDropped _ => true
  | .ppsEdge => true
  | .ptpMessage _ _ _ _ _ _ => true
  | .syncLock => true
  | .syncUnlock => true
  | .syncLost => true
  | .coxMismatch _ kind _ _ ecc _ => (optWf EccHit.wf ecc) && ((kind == .ecc) == ecc.isSome)
  | .comparatorDisagree _ => true
  | .restartDone _ _ _ => true
  | .loopTick _ _ => true
  | .loopSample _ _ _ _ => true
  | .tableSample _ _ _ _ => true
  | .heatDecision _ _ => true
  | .safetyFilterPass _ _ => true
  | .discrepancy _ => true
  | .stageTest _ _ => true
  | .stageFault _ => true
  | .switchTest _ _ => true
  | .switchStuck _ => true
  | .resetInputClose => true
  | .resetValid _ => true
  | .resetStuck => true
  | .resetInputFreed => true
  | .zwistraCopy _ bytes => frameWf bytes
  | .skewWindowClose _ => true
  | .zwistraWatchdog _ => true
  | .leaseReceive bytes => frameWf bytes
  | .seatBeaconReceive _ bytes => frameWf bytes
  | .leaseJudgment => true
  | .leaseExpiry => true
  | .pairedStageRelease => true
  | .autostartWaitExpiry => true
  | .hello => true
  | .helloReceive bytes => frameWf bytes
  | .ackReceive bytes => frameWf bytes
  | .outputReceive bytes _ => frameWf bytes
  | .ckptHead bytes => frameWf bytes
  | .ckptLine bytes => frameWf bytes
  | .ckptEnd bytes => frameWf bytes
  | .checkpointApply => true
  | .offer => true
  | .offerReceive bytes _ => frameWf bytes
  | .take bytes => frameWf bytes
  | .syncReqReceive bytes => frameWf bytes
  | .takeover => true
  | .paddleReplay => true
  | .paddleReplayEnd => true
  | .selftest _ _ => true
  | .laneDown _ => true
  | .laneUp _ => true
  | .partnerLost => true
  | .debouncePass _ _ => true
  | .inputOpenWire _ => true
  | .outputOpenWire _ => true
  | .overload _ => true
  | .overtemp _ => true
  | .shortToSupply _ _ => true
  | .crossWired n other => n != other
  | .channelClear _ => true
  | .fsSample _ _ => true
  | .fsResume _ => true
  | .freqPeriod _ _ => true
  | .freqTimeout _ => true
  | .tierDecision _ _ => true
  | .tierUp _ => true
  | .islandStart _ => true
  | .brownout _ => true
  | .islandSample _ _ _ => true
  | .islandCommand _ => true
  | .islandFrameReceive _ => true
  | .islandLost _ => true
  | .failDriven _ => true
  | .ne43Fail _ => true
  | .compliance _ _ => true
  | .readback _ => true
  | .calCheck _ _ => true
  | .lsSample _ => true
  | .lsStop => true
  | .lsStart => true
  | .activateRefresh => true
  | .stationIn _ _ _ bytes => frameWf bytes
  | .managementRequest _ => true
  | .ident _ bytes => frameWf bytes
  | .confAck _ bytes => frameWf bytes
  | .confAckTimeout _ _ => true
  | .stationLost _ _ => true
  | .remoteLinkChange _ _ => true
  | .canFrameAccepted _ f remote => f.wf && (!remote || f.remoteWf)
  | .canTxEnd _ _ _ _ => true
  | .alone _ => true
  | .idClash _ _ => true
  | .busOffRecovery _ => true
  | .canSleepEnter _ => true
  | .canWakeEvent _ w => w.wf
  | .modbusReply _ bytes => frameWf bytes
  | .modbusTimeout _ => true
  | .nmeaSentence _ bytes => frameWf bytes
  | .lanState _ _ _ => true
  | .prpSupervision => true
  | .prpSupervisionReceive _ _ _ => true
  | .rapOpen x => x.wf
  | .rapClose x => x.wf
  | .rapNop x => x.wf
  | .rapRead x => x.wf
  | .rapWrite x => x.wf
  | .imageRead x => x.wf
  | .imageWrite x => x.wf
  | .stageOpen x => x.wf
  | .stageData x => x.wf
  | .stageClose x => x.wf
  | .attnFilter x => x.wf
  | .cmdTimeout _ => true
  | .sessionTimeout _ => true
  | .cmdLen bytes _ => bufferWf bytes
  | .rspLen _ => true
  | .load r _ => r.wf
  | .programLoad _ => true
  | .discard r _ => r.wf
  | .engLoad r _ => r.wf
  | .loopSetLoad _ => true
  | .engDiscard r _ => r.wf
  | .hsLoad r => r.wf
  | .heatSetLoad => true
  | .hsDiscard r => r.wf
  | .teLoad r _ => r.wf
  | .tableSetLoad _ => true
  | .teDiscard r _ => r.wf
  | .trimApply r _ _ => r.wf
  | .tuneApply r _ _ => r.wf
  | .tpointApply r _ _ _ _ => r.wf
  | .forceEntry r _ _ => r.wf
  | .forceValue r _ _ => r.wf
  | .bpWrite r _ _ => r.wf
  | .coxTestArm r _ _ => r.wf
  | .coxTestDisarm r _ _ => r.wf
  | .loopModeWrite r _ _ _ => r.wf
  | .tloopModeWrite r _ _ _ => r.wf
  | .heatModeWrite r _ _ => r.wf
  | .strokeCfgWrite r _ => r.wf
  | .peakClear r _ => r.wf
  | .sensorClear r => r.wf
  | .hsAllowWrite r _ _ => r.wf
  | .hsClose r _ => r.wf
  | .resync r => r.wf
  | .sleep r _ => r.wf
  | .canWake r _ => r.wf
  | .recover r _ => r.wf
  | .idClashClear r _ => r.wf
  | .blockEnable r _ _ => r.wf
  | .blockDisable r _ _ => r.wf
  | .softReset r _ _ => r.wf
  | .blockReset _ => true
  | .drainEnd _ => true
  | .drainAbort _ => true
  | .blkCauseClear r _ _ => r.wf
  | .testCause r _ _ => r.wf
  | .registerWrite r _ _ _ => r.wf
  | .strokeTimeLoRead r => r.wf
  | .driveNoLoRead r _ => r.wf
  | .windowRead r _ => r.wf
  | .clearCounts r => r.wf
  | .rstCmdBlock r _ => r.wf
  | .rstCmdCrew r _ => r.wf
  | .rstCmdModule r => r.wf
  | .rstCmdPower r => r.wf
  | .cmdService => true
  | .cmdEngineering => true
  | .powerOn => true
  | .brownoutVcore => true
  | .brownoutVddr => true
  | .brownoutVio => true
  | .button => true
  | .backplane => true
  | .watchdog => true
  | .buttonStuck => true
  | .buttonFreed _ => true
  | .resetSourceRelease _ => true
  | .boot x => x.wf
  | .plugPoll x => optWf plugWf x
  | .plugCheck x => optWf plugWf x
  | .pllUnlock _ => true
  | .underwayInput _ => true
  | .sensorSample x => x.wf
  | .sensorState _ _ _ => true
  | .cellMeasure _ _ => true
  | .enroll r _ => r.wf
  | .ownerClear r => r.wf
  | .lock r => r.wf
  | .unlock r => r.wf
  | .ownerChange => true
  | .request r => r.wf
  | .attested => true
  | .wakeRecordStore => true
  | .arm r => r.wf
  | .snap r => r.wf
  | .exportStart r => r.wf
  | .exportDone => true
  | .updateBlock _ => true
  | .updateVerify => true
  | .updDiscard r => r.wf
  | .activateEntry => true
  | .activated => true
  | .fallback _ => true
  | .panelCheck => true
  | .panelPhaseEnd => true
  | .refresh r => r.wf
  | .pnlTest r => r.wf
  | .pnlTestEnd => true
  | .crack _ => true
  | .laneTimeout _ _ => true
  | .lineOutReceive _ => true
  | .supervisionMissing _ _ => true
  | .pllLock _ => true
  | .arbitrationLoss _ => true
  | .canRxError _ _ _ => true
  | .canTxStart _ => true
  | .canIntegrated _ => true
  | .discardedRecord => true
  | .discardedDatagram _ => true
  | .arpRequest _ _ _ _ => true
  | .icmpEcho _ _ rest => frameWf rest
  | .ptpAnnounceTimeout _ _ => true
  | .pcieLinkChange _ => true
  | .openWireClear _ => true
  | .readbackClear _ => true

end Sys2Proof
end

