-- ==== Sys2Proof/Safety.lean ====
section
/-!
DEFINITION. What counts as a sound state, and the terms in which the claims say what a command leaves.
-/
namespace Sys2Proof.Safety
open Sys2Proof.Machine

/-! ### The invariant -/

/-- ATTN_SUMMARY shows the pages as they are (R76, R77). -/
def attnOk (c : Chip) : Prop := c.attn.summary = attnSummary c

/-- The attention tree shows the pages, and every command that waits is well formed. -/
def Inv (s : State) : Prop := attnOk s.chip ∧ ∀ i ∈ s.pending, i.wf = true

/-! ### What a command leaves -/

/-- The state that a command leaves whose effect on the module is `c`: the queue is as it was, and the attention
tree shows the pages (R76, R77, R79). -/
def after (s : State) (c : Chip) : State := { s with chip := attnUpdate c }

/-! ### Register writes -/

/-- A whole write of `v` to a page's register passes every check of R61. -/
def Accepts (c : Chip) (r : Requester) (p off : Nat) (v : Word) : Prop :=
  reaches c r = true ∧ writeRefusal c r (regAddr p off) true v = none

/-- What every accepted write does first: it counts against a session's allowance (R586), and BLK_SEQ goes up by
1 (R52). -/
def granted (c : Chip) (r : Requester) (p : Nat) : Chip :=
  modHdr (countWrite c r none) p fun h => { h with seq := h.seq + 1 }

/-! ### Logic instructions -/

/-- The core that an instruction runs on. -/
def coreOf (c : Chip) (k : Issue) : CoreSt := coreAt (crewSt c k.crew) k.core

/-- The core stands at an instruction with this opcode and operand (R95, R133, R155), no enabled breakpoint is at
it (R183), no ECC error is met (R237), and `clocks` more fit into the drive (R112). -/
def Ready (c : Chip) (k : Issue) (op : Nat) (o : Opnd) (clocks : Nat) : Prop :=
  instrDue c k (instrWord op o) = true ∧ breakpointAt c k = none ∧ k.ecc = none
    ∧ inTime c (crewSt c k.crew) ((coreOf c k).clocks + clocks) = true

/-- At `pc` of the core's program stands a word whose opcode the tables list: fetching it faults nothing (R161). -/
def Fetches (c : Chip) (k : Issue) (pc : Nat) : Prop :=
  ∃ w : Word, (partAt (crewSt c k.crew) k.core).code[pc]? = some w ∧ (opForm (opcodeOf w)).isSome = true

/-- The core after an instruction: PC, clocks, and whatever `f` makes of the rest. -/
def stepCore (c : Chip) (k : Issue) (next clocks : Nat) (f : CoreSt → CoreSt) : Chip :=
  modCore c k.crew k.core fun s => { f s with pc := next, clocks := s.clocks + clocks, passBp := false }

/-- The effective address of a class 1 or class 3 operand (R136); 0 where it lies outside the space. -/
def ea (limit : Nat) (index : Word) (o : Opnd) : Nat :=
  match effAddr limit index o with
  | .ok a => a
  | .error _ => 0

/-- The operand names an address of the space: class 1 or 3, inside the limit (R134, R137). -/
def Names (limit : Nat) (index : Word) (o : Opnd) : Prop :=
  (o.cls = 1 ∨ o.cls = 3) ∧ effAddr limit index o = .ok (ea limit index o)

/-- The word that a class 1, 2 or 3 operand of LDW and LDWB supplies (R135, R148). -/
def wordOf (s : CoreSt) (o : Opnd) : Word :=
  if o.cls = 2 then o.val.signExtend 32 else readWord s.mem (ea wordLimit s.wa o)

/-- An instruction that asks nothing more of the core. -/
def anyCore (_ : CrewSt) (_ : CoreSt) : Prop := True

/-- The instruction at the core's PC completes: it changes what `f` changes, PC goes to the next instruction, and
nothing else of the module changes; that next instruction can be fetched (R161). `pre` is what the instruction asks of
the crew and the core. `writes` tells that it may write data memory: then COX_TEST is not armed (R249). -/
def Completes (i : Issue → Opnd → Instr) (k : Issue) (o : Opnd) (op clocks : Nat) (writes : Bool)
    (pre : CrewSt → CoreSt → Prop) (f : CoreSt → CoreSt) : Prop :=
  ∀ s : State, Ready s.chip k op o clocks → pre (crewSt s.chip k.crew) (coreOf s.chip k) →
    Fetches s.chip k ((coreOf s.chip k).pc + 1) →
    (writes = true → (coxSt s.chip k.crew).testArm = false) →
    exec (i k o) s = .next (after s (stepCore s.chip k ((coreOf s.chip k).pc + 1) clocks f))

/-- The instruction at the core's PC, taken, goes on at `target` of the core, where an instruction can be
fetched (R153, R161). -/
def JumpsTo (i : Issue → Opnd → Instr) (k : Issue) (o : Opnd) (op clocks : Nat) (pre : CrewSt → CoreSt → Prop)
    (target : CoreSt → Nat) (f : CoreSt → CoreSt) : Prop :=
  ∀ s : State, Ready s.chip k op o clocks → pre (crewSt s.chip k.crew) (coreOf s.chip k) →
    Fetches s.chip k (target (coreOf s.chip k)) →
    exec (i k o) s = .next (after s (stepCore s.chip k (target (coreOf s.chip k)) clocks f))

/-- The instruction at the core's PC stops its crew with an execution fault of this code (R161, R163). -/
def Faults (i : Issue → Opnd → Instr) (k : Issue) (o : Opnd) (op : Nat) (pre : CrewSt → CoreSt → Prop)
    (code : Nat) : Prop :=
  ∀ s : State, instrDue s.chip k (instrWord op o) = true → breakpointAt s.chip k = none → k.ecc = none →
    pre (crewSt s.chip k.crew) (coreOf s.chip k) →
    exec (i k o) s = .next (after s (faultAt s.chip k code (instrWord op o)))

end Sys2Proof.Safety
end

