-- ==== Sys2Proof/Certificates/Slice0/Obligations.lean ====
section
/-!
DEFINITION. The statements about the model, for the provers. A statement that has several parts is the conjunction of
the claims before it.
-/
open Sys2Proof Sys2Proof.Machine Sys2Proof.Safety

/-! ### The machine -/

/-- A step takes the command at the front of the queue and runs it on the module with the queue's rest. -/
def Obligations.StepRunsFrontCommand : Prop :=
  ∀ (c : Chip) (i : Instr) (rest : List Instr), step ⟨c, i :: rest⟩ = exec i ⟨c, rest⟩

/-- On an empty queue the module idles (the model's choice, log entry 2). -/
def Obligations.EmptyQueueIdles : Prop := ∀ c : Chip, step ⟨c, []⟩ = .next ⟨c, []⟩

/-- Every command answers a next state, whatever the module; the queue is no part of what it reads or changes. -/
def Obligations.EveryCommandAnswers : Prop :=
  ∀ i : Instr, ∃ f : Chip → Chip, ∀ s : State, exec i s = .next (after s (f s.chip))

/-- A queue is served in order, front first, and what stands behind it does not matter: as many steps as it has
commands leave the same module whether or not more commands wait, and those still wait. -/
def Obligations.QueueServedInOrder : Prop :=
  ∀ (xs ys : List Instr) (c : Chip), ∃ d : Chip,
    core.run xs.length (⟨c, xs⟩ : State) = .next (⟨d, []⟩ : State)
      ∧ core.run xs.length (⟨c, xs ++ ys⟩ : State) = .next (⟨d, ys⟩ : State)

/-- Every step keeps the invariant: the attention tree shows the pages (R76, R77), and the commands that wait are
well formed. -/
def Obligations.StepKeepsInv : Prop :=
  ∀ s t : State, Inv s → step s = .next t → Inv t

/-- The invariant holds after reset. -/
def Obligations.ResetHasInv : Prop := Inv State.reset

/-- What the module holds at its first power-up (R29, R47 to R53, R69, R122, R284, R428, R599, R623, R729): mode RESET,
the page headers' reset values, the reset values of registers of several pages, no session, no loaded object, no
settings set, no owner certificate, the launch area unarmed, no record. The first power-up's POWER_ON, its count and
the asserted bit are the model's choice (log entry 6). -/
def Obligations.ResetValues : Prop :=
  let c := State.reset.chip
  State.reset.pending = [] ∧ c.mode.mode = .reset ∧ c.mode.seq = 0
    ∧ (∀ p : Nat, (hdr c p).st = (if fixedPage p then .enabled else .disabled) ∧ (hdr c p).drainTimeout = 1
      ∧ (hdr c p).cause = 0 ∧ (hdr c p).mask = 0xDFFFFFFF ∧ (hdr c p).seq = 0 ∧ (hdr c p).ownerE = true
      ∧ ((hdr c p).ownerP = true ↔ p = 0x72 ∨ p = 0x78))
    ∧ c.attn.summary = 0 ∧ c.attn.seq = 0 ∧ c.stroke.active = 0x008C0008 ∧ cfg c 2 0x040 = 0x008C0008
    ∧ cfg c 0x28 0x040 = 0x40100004 ∧ cfg c 0x72 0x040 = 0x000A0019 ∧ cfg c 0x70 0x040 = 0xAC140001
    ∧ cfg c 0x71 0x040 = 0xAC150001 ∧ c.rst.plugId = 0 ∧ c.backup.lockout = 0
    ∧ (∀ cr : Crew, (crewSt c cr).prog = none ∧ (crewSt c cr).run = .idle)
    ∧ (∀ e : Nat, (eng c e).set = none) ∧ c.sel.set = none ∧ (∀ n : Nat, session c n = none)
    ∧ c.upd.current = none ∧ c.ident.ownerCert = none ∧ c.wake.armed = false
    ∧ c.wake.stored = 0 ∧ c.rst.asserted = 1

/-- Data memory (R131, R132): a bit or a word reads back as it was last written, and a write changes nothing else; bits
and words are apart. -/
def Claims.MemoryReadsBack : Prop :=
  ∀ (m : CrewMem) (a b : Nat) (v : Bool) (w : Word),
    readBit (writeBit m a v) b = (if b = a then v else readBit m b)
      ∧ readWord (writeWord m a w) b = (if b = a then w else readWord m b)
      ∧ readWord (writeBit m a v) b = readWord m b ∧ readBit (writeWord m a w) b = readBit m b
      ∧ (writeBit m a v).timers = m.timers ∧ (writeBit m a v).counters = m.counters
      ∧ (writeBit m a v).edges = m.edges ∧ (writeWord m a w).timers = m.timers
      ∧ (writeWord m a w).counters = m.counters ∧ (writeWord m a w).edges = m.edges

/-- Every space of a data memory is in its one canonical form: indexes rising, and none at what an unlisted one
reads as. -/
def Claims.memForm (m : CrewMem) : Prop :=
  smWf false m.img.bits = true ∧ smWf 0 m.img.words = true ∧ smWf false m.markers = true ∧ smWf 0 m.priv = true
    ∧ smWf false m.edges = true

/-- Writes keep the canonical form, and two Boolean images in that form that read alike are the same data. -/
def Claims.MemoryKeepsForm : Prop :=
  ∀ (m k : CrewMem) (a : Nat) (v : Bool) (w : Word),
    (Claims.memForm m → Claims.memForm (writeBit m a v) ∧ Claims.memForm (writeWord m a w))
      ∧ Claims.memForm CrewMem.reset
      ∧ (Claims.memForm m → Claims.memForm k → (∀ i : Nat, i < 0x20000 → readBit m i = readBit k i) →
        (∀ e ∈ m.img.bits, e.1 < 0x10000) → (∀ e ∈ k.img.bits, e.1 < 0x10000) → m.img.bits = k.img.bits)

/-- Data memory reads back what was written and keeps its one canonical form. -/
def Obligations.DataMemoryHolds : Prop :=
  Claims.MemoryReadsBack ∧ Claims.MemoryKeepsForm

/-! ### Logic instructions -/

/-- The loads and combining instructions (R138, R140): BA takes the operand bit, or its inverse, by itself or
combined with BA; class 3 costs one clock more. -/
def Claims.BitLoadsComplete : Prop :=
  ∀ (k : Issue) (o : Opnd),
    let pre := fun (_ : CrewSt) (s : CoreSt) => Names bitLimit s.wa o
    let bit := fun s : CoreSt => readBit s.mem (ea bitLimit s.wa o)
    let n := 1 + indexClock o
    Completes .bld k o 0x0E n false pre (fun s => { s with ba := bit s })
      ∧ Completes .bldn k o 0x0F n false pre (fun s => { s with ba := !bit s })
      ∧ Completes .band k o 0x10 n false pre (fun s => { s with ba := s.ba && bit s })
      ∧ Completes .bandn k o 0x11 n false pre (fun s => { s with ba := s.ba && !bit s })
      ∧ Completes .bor k o 0x12 n false pre (fun s => { s with ba := s.ba || bit s })
      ∧ Completes .born k o 0x13 n false pre (fun s => { s with ba := s.ba || !bit s })
      ∧ Completes .bxor k o 0x14 n false pre (fun s => { s with ba := s.ba ^^ bit s })
      ∧ Completes .bxorn k o 0x15 n false pre (fun s => { s with ba := s.ba ^^ !bit s })

/-- The instructions on BA and OV without an operand (R140, R151). -/
def Claims.BitSetsComplete : Prop :=
  ∀ k : Issue,
    let o : Opnd := ⟨0, 0⟩
    Completes .inv k o 0x16 1 false anyCore (fun s => { s with ba := !s.ba })
      ∧ Completes .btrue k o 0x17 1 false anyCore (fun s => { s with ba := true })
      ∧ Completes .bfalse k o 0x18 1 false anyCore (fun s => { s with ba := false })
      ∧ Completes .ldov k o 0x19 1 false anyCore (fun s => { s with ba := s.ov, ov := false })
      ∧ Completes .nop k o 0x00 1 false anyCore (fun s => s)

/-- The branch instructions (R139): an opening pushes BA with its kind, up to 32 deep; CLB combines the popped
value with BA. -/
def Claims.BranchesComplete : Prop :=
  ∀ k : Issue,
    let o : Opnd := ⟨0, 0⟩
    let room := fun (_ : CrewSt) (s : CoreSt) => s.branch.length < 32
    Completes .opa k o 0x20 1 false room (fun s => { s with branch := (s.ba, .and) :: s.branch })
      ∧ Completes .opo k o 0x21 1 false room (fun s => { s with branch := (s.ba, .or) :: s.branch })
      ∧ Completes .opx k o 0x22 1 false room (fun s => { s with branch := (s.ba, .xor) :: s.branch })
      ∧ (∀ (b : Bool) (r : List (Bool × BranchKind)),
          Completes .clb k o 0x23 1 false (fun _ s => s.branch = (b, .and) :: r)
              (fun s => { s with ba := b && s.ba, branch := r })
            ∧ Completes .clb k o 0x23 1 false (fun _ s => s.branch = (b, .or) :: r)
              (fun s => { s with ba := b || s.ba, branch := r })
            ∧ Completes .clb k o 0x23 1 false (fun _ s => s.branch = (b, .xor) :: r)
              (fun s => { s with ba := b ^^ s.ba, branch := r }))

/-- The assignments of bits and the edges (R140, R141): ST, STN, SETB and CLRB write the operand bit; EDGR and
EDGF compare BA with E[n] and then store BA there. -/
def Claims.BitStoresComplete : Prop :=
  ∀ (k : Issue) (o : Opnd),
    let pre := fun (_ : CrewSt) (s : CoreSt) => Names bitLimit s.wa o
    let a := fun s : CoreSt => ea bitLimit s.wa o
    let n := 1 + indexClock o
    let e := fun s : CoreSt => smGet false s.mem.edges o.val.toNat
    let edge := fun s : CoreSt => { s.mem with edges := smSet false s.mem.edges o.val.toNat s.ba }
    Completes .st k o 0x28 n true pre (fun s => { s with mem := writeBit s.mem (a s) s.ba })
      ∧ Completes .stn k o 0x29 n true pre (fun s => { s with mem := writeBit s.mem (a s) (!s.ba) })
      ∧ Completes .setb k o 0x2A n true pre
          (fun s => if s.ba then { s with mem := writeBit s.mem (a s) true } else s)
      ∧ Completes .clrb k o 0x2B n true pre
          (fun s => if s.ba then { s with mem := writeBit s.mem (a s) false } else s)
      ∧ (o.cls = 2 → o.val.toNat < 65536 →
          Completes .edgr k o 0x30 1 true anyCore (fun s => { s with ba := s.ba && !e s, mem := edge s })
            ∧ Completes .edgf k o 0x31 1 true anyCore
              (fun s => { s with ba := !s.ba && e s, mem := edge s }))

/-- The bit-logic instructions complete with their effect and clocks and change nothing else. -/
def Obligations.BitInstructionsComplete : Prop :=
  Claims.BitLoadsComplete ∧ Claims.BitSetsComplete ∧ Claims.BranchesComplete ∧ Claims.BitStoresComplete

/-- The timer instructions (R143 to R145). `now` is the timer's time at the crew's catch: a stroke count for timers 0
to 2,047, microseconds for the others. -/
def Claims.TimersComplete : Prop :=
  ∀ (k : Issue) (o : Opnd) (now : Word), o.cls = 2 → o.val.toNat < 4096 →
    let n := o.val.toNat
    let due := fun (cs : CrewSt) (_ : CoreSt) =>
      now = if n < 2048 then cs.catchCount else BitVec.ofNat 32 (cs.catchTime / 1000)
    let rec_ := fun s : CoreSt => smGet Timer.reset s.mem.timers n
    let run := fun (f : Word → Bool → Word → Timer → Timer) (s : CoreSt) =>
      let t := f now s.ba (s.wa &&& 0x7FFFFFFF) (rec_ s)
      { s with ba := t.q, mem := { s.mem with timers := smSet Timer.reset s.mem.timers n t } }
    Completes .ton k o 0x38 4 true due (run tonStep)
      ∧ Completes .tof k o 0x39 4 true due (run tofStep)
      ∧ Completes .tp k o 0x3A 4 true due (run tpStep)
      ∧ Completes .trst k o 0x3B 2 true anyCore (fun s =>
          if s.ba then { s with mem := { s.mem with
            timers := smSet Timer.reset s.mem.timers n ⟨false, 0, false, false, (rec_ s).pt, false⟩ } } else s)
      ∧ Completes .tet k o 0x3C 2 false due (fun s => { s with wa := timerEt now (rec_ s) })

/-- What TON, TOF and TP leave in the record and in Q, row by row of R145. `et` is time now minus start. -/
def Claims.TimerRowsHold : Prop :=
  ∀ (now pt : Word) (t : Timer),
    let et := fun start : Word => now - start
    -- TON: IN = 0 is idle with Q = 0; a rising IN starts; while IN stays 1, Q follows DONE, which ET ≥ PT sets.
    ((tonStep now false pt t).q = false ∧ timerEt now (tonStep now false pt t) = 0)
      ∧ (t.inp = false → (tonStep now true pt t).start = now ∧ ((tonStep now true pt t).q = true ↔ pt = 0))
      ∧ (t.inp = true → t.done = false →
          (tonStep now true pt t).start = t.start ∧ ((tonStep now true pt t).q = true ↔ pt ≤ et t.start))
      ∧ (t.inp = true → t.done = true → (tonStep now true pt t).q = true)
    -- TOF: IN = 1 sets Q; after IN falls Q stays until ET ≥ PT.
      ∧ ((tofStep now true pt t).q = true ∧ timerEt now (tofStep now true pt t) = 0)
      ∧ (t.inp = true → t.q = true →
          (tofStep now false pt t).start = now ∧ ((tofStep now false pt t).q = true ↔ ¬ pt ≤ 0))
      ∧ (t.inp = false → t.q = true → ((tofStep now false pt t).q = true ↔ ¬ pt ≤ et t.start))
      ∧ (t.inp = false → t.q = false → (tofStep now false pt t).q = false)
    -- TP: a rising IN while Q and DONE are 0 starts a pulse; it lasts until ET ≥ PT, whatever IN does.
      ∧ (t.inp = false → t.q = false → t.done = false →
          (tpStep now true pt t).start = now ∧ ((tpStep now true pt t).q = true ↔ ¬ pt ≤ 0))
      ∧ (∀ i : Bool, t.q = true → ((tpStep now i pt t).q = true ↔ ¬ pt ≤ et t.start))
      ∧ (t.q = false → (tpStep now false pt t).done = false ∧ (tpStep now false pt t).q = false)
    -- Each stores PT and IN.
      ∧ (∀ i : Bool, (tonStep now i pt t).inp = i ∧ (tofStep now i pt t).inp = i ∧ (tpStep now i pt t).inp = i
          ∧ (tonStep now i pt t).pt = pt ∧ (tofStep now i pt t).pt = pt ∧ (tpStep now i pt t).pt = pt)

/-- The timer instructions complete, and TON, TOF and TP hold their rows. -/
def Obligations.TimerInstructionsComplete : Prop :=
  Claims.TimersComplete ∧ Claims.TimerRowsHold

/-- The counter instructions (R147): CTU and CTD count on a rising BA, held at the ends of the signed range. -/
def Obligations.CountersComplete : Prop :=
  ∀ (k : Issue) (o : Opnd), o.cls = 2 → o.val.toNat < 4096 →
    let n := o.val.toNat
    let r := fun s : CoreSt => smGet Counter.reset s.mem.counters n
    let put := fun (s : CoreSt) (ba : Bool) (t : Counter) =>
      { s with ba := ba, mem := { s.mem with counters := smSet Counter.reset s.mem.counters n t } }
    let up := fun s : CoreSt =>
      if s.ba && !(r s).up then (if (r s).cv = 0x7FFFFFFF then 0x7FFFFFFF else (r s).cv + 1) else (r s).cv
    let dn := fun s : CoreSt =>
      if s.ba && !(r s).dn then (if (r s).cv = 0x80000000 then 0x80000000 else (r s).cv - 1) else (r s).cv
    Completes .ctu k o 0x40 3 true anyCore (fun s =>
        put s (decide (s.wa.toInt ≤ (up s).toInt)) { r s with cv := up s, up := s.ba })
      ∧ Completes .ctd k o 0x41 3 true anyCore (fun s =>
        put s (decide ((dn s).toInt ≤ 0)) { r s with cv := dn s, dn := s.ba })
      ∧ Completes .crst k o 0x42 2 true anyCore (fun s => if s.ba then put s true { r s with cv := 0 } else s)
      ∧ Completes .cld k o 0x43 2 true anyCore (fun s => if s.ba then put s true { r s with cv := s.wa } else s)
      ∧ Completes .lcv k o 0x44 2 false anyCore (fun s => { s with wa := (r s).cv })

/-- The word loads and the store (R135, R136, R148). -/
def Claims.WordMovesComplete : Prop :=
  ∀ (k : Issue) (o : Opnd),
    let n := 1 + indexClock o
    let pre := fun (_ : CrewSt) (s : CoreSt) => o.cls = 2 ∨ Names wordLimit s.wa o
    Completes .ldw k o 0x50 n false pre (fun s => { s with wa := wordOf s o })
      ∧ Completes .ldwb k o 0x54 n false pre (fun s => { s with wb := wordOf s o })
      ∧ Completes .tw k o 0x52 n true (fun _ s => Names wordLimit s.wb o)
          (fun s => { s with mem := writeWord s.mem (ea wordLimit s.wb o) s.wa })
      ∧ (o.cls = 2 → o.val.toNat < 65536 →
          Completes .ldhi k o 0x51 1 false anyCore
            (fun s => { s with wa := BitVec.ofNat 32 (o.val.toNat * 65536 + s.wa.toNat % 65536) }))
      ∧ (o = ⟨0, 0⟩ → Completes .swap k o 0x53 1 false anyCore (fun s => { s with wa := s.wb, wb := s.wa }))

/-- Arithmetic (R148 to R151): ADD, SUB, MUL and NEG keep the low 32 bits of the true result and set OV where it does
not fit; ABS, DIV and MOD have the corners of R149 and R150. OV is set and never cleared here. -/
def Claims.ArithmeticCompletes : Prop :=
  ∀ k : Issue,
    let o : Opnd := ⟨0, 0⟩
    let sum := fun (x : CoreSt → Int) (s : CoreSt) =>
      { s with wa := BitVec.ofInt 32 (x s), ov := s.ov || decide (x s < -2147483648 ∨ 2147483647 < x s) }
    let set := fun (w : Word) (ov : Bool) (s : CoreSt) => { s with wa := w, ov := s.ov || ov }
    Completes .add k o 0x58 1 false anyCore (sum fun s => s.wb.toInt + s.wa.toInt)
      ∧ Completes .sub k o 0x59 1 false anyCore (sum fun s => s.wb.toInt - s.wa.toInt)
      ∧ Completes .mul k o 0x5A 2 false anyCore (sum fun s => s.wb.toInt * s.wa.toInt)
      ∧ Completes .neg k o 0x5D 1 false anyCore (sum fun s => -s.wa.toInt)
      ∧ Completes .abs k o 0x5E 1 false (fun _ s => s.wa ≠ 0x80000000)
          (fun s => set (BitVec.ofNat 32 s.wa.toInt.natAbs) false s)
      ∧ Completes .abs k o 0x5E 1 false (fun _ s => s.wa = 0x80000000) (set 0x7FFFFFFF true)
      ∧ Completes .div k o 0x5B 34 false (fun _ s => s.wa ≠ 0 ∧ ¬(s.wb = 0x80000000 ∧ s.wa = -1))
          (fun s => set (BitVec.ofInt 32 (s.wb.toInt.tdiv s.wa.toInt)) false s)
      ∧ Completes .div k o 0x5B 34 false (fun _ s => s.wb = 0x80000000 ∧ s.wa = -1) (set 0x7FFFFFFF true)
      ∧ Completes .div k o 0x5B 34 false (fun _ s => s.wa = 0)
          (fun s => set (if 0 ≤ s.wb.toInt then 0x7FFFFFFF else 0x80000000) true s)
      ∧ Completes .mod k o 0x5C 34 false (fun _ s => s.wa ≠ 0)
          (fun s => set (BitVec.ofInt 32 (s.wb.toInt.tmod s.wa.toInt)) false s)
      ∧ Completes .mod k o 0x5C 34 false (fun _ s => s.wa = 0) (set 0 true)

/-- The bitwise instructions, the shifts by OPERAND[4:0] and the comparisons (R148, R152). -/
def Claims.WordLogicCompletes : Prop :=
  ∀ (k : Issue) (n : Fin 32),
    let o : Opnd := ⟨0, 0⟩
    let c : Opnd := ⟨2, BitVec.ofNat 22 n⟩
    let wa := fun (f : CoreSt → Word) (s : CoreSt) => { s with wa := f s }
    let ba := fun (f : CoreSt → Bool) (s : CoreSt) => { s with ba := f s }
    Completes .aw k o 0x60 1 false anyCore (wa fun s => s.wb &&& s.wa)
      ∧ Completes .ow k o 0x61 1 false anyCore (wa fun s => s.wb ||| s.wa)
      ∧ Completes .xw k o 0x62 1 false anyCore (wa fun s => s.wb ^^^ s.wa)
      ∧ Completes .shl k c 0x63 1 false anyCore (wa fun s => s.wa <<< n.val)
      ∧ Completes .shr k c 0x64 1 false anyCore (wa fun s => s.wa >>> n.val)
      ∧ Completes .sar k c 0x65 1 false anyCore (wa fun s => s.wa.sshiftRight n.val)
      ∧ Completes .eq k o 0x68 1 false anyCore (ba fun s => s.wb == s.wa)
      ∧ Completes .ne k o 0x69 1 false anyCore (ba fun s => s.wb != s.wa)
      ∧ Completes .gt k o 0x6A 1 false anyCore (ba fun s => decide (s.wb.toInt > s.wa.toInt))
      ∧ Completes .ge k o 0x6B 1 false anyCore (ba fun s => decide (s.wb.toInt ≥ s.wa.toInt))
      ∧ Completes .lt k o 0x6C 1 false anyCore (ba fun s => decide (s.wb.toInt < s.wa.toInt))
      ∧ Completes .le k o 0x6D 1 false anyCore (ba fun s => decide (s.wb.toInt ≤ s.wa.toInt))

/-- Loads, stores, arithmetic, logic and comparisons complete with their effect. -/
def Obligations.WordInstructionsComplete : Prop :=
  Claims.WordMovesComplete ∧ Claims.ArithmeticCompletes ∧ Claims.WordLogicCompletes

/-- Jumps, calls and returns, taken and not taken (R153, R155). -/
def Claims.FlowCompletes : Prop :=
  ∀ (k : Issue) (o : Opnd), o.cls = 2 → o.val.toNat < 1048576 →
    let t := o.val.toNat
    let dest := fun _ : CoreSt => t
    let on := fun (b : Bool) (cs : CrewSt) (s : CoreSt) => s.ba = b ∧ t < (partAt cs k.core).code.length
    let push := fun s : CoreSt => { s with calls := (s.pc + 1) :: s.calls }
    JumpsTo .jmp k o 0x70 2 anyCore dest id
      ∧ JumpsTo .jbt k o 0x71 2 (on true) dest id ∧ Completes .jbt k o 0x71 1 false (on false) id
      ∧ JumpsTo .jbf k o 0x72 2 (on false) dest id ∧ Completes .jbf k o 0x72 1 false (on true) id
      ∧ JumpsTo .call k o 0x74 3 (fun _ s => s.calls.length < 16) dest push
      ∧ JumpsTo .callt k o 0x75 3 (fun cs s => on true cs s ∧ s.calls.length < 16) dest push
      ∧ Completes .callt k o 0x75 1 false (on false) id
      ∧ JumpsTo .ret k ⟨0, 0⟩ 0x76 3 (fun _ s => s.calls ≠ []) (fun s => s.calls.headD 0)
          (fun s => { s with calls := s.calls.tail })

/-- END (R153, R156, R177, R178, R182): with both stacks empty the task has run; CRAB's clears CRAB pending and
writes its record, and the next due task, if there is one, is entered and its first instruction fetched. -/
def Claims.EndCompletes : Prop :=
  ∀ (k : Issue) (s : State), Ready s.chip k 0x01 ⟨0, 0⟩ 1 →
    (coreOf s.chip k).branch = [] → (coreOf s.chip k).calls = [] →
    let t := (coreOf s.chip k).task.getD 0
    let part := partAt (crewSt s.chip k.crew) k.core
    let c := modCrew s.chip k.crew fun cs => { cs with
      ran := if replaying s.chip then cs.ran else cs.ran ||| (1#11 <<< t)
      crab := cs.crab && t != 1
      cores := listMod cs.cores k.core fun x => enterTask part { x with clocks := x.clocks + 1, passBp := false } }
    let d := if t = 1 ∧ replaying s.chip = false then
        let cs := crewSt s.chip k.crew
        emit c (crewPage k.crew) 0x34 1 (BitVec.ofNat 32 cs.driveNo) (BitVec.ofNat 32 cs.crabStations)
          (BitVec.ofNat 32 cs.crabIslands) s.chip.stroke.count
      else c
    ((coreOf d k).task = none ∨ Fetches d k (coreOf d k).pc) → exec (.endTask k ⟨0, 0⟩) s = .next (after s d)

/-- Jumps, calls, returns, NOP and END complete with their effect. -/
def Obligations.FlowInstructionsComplete : Prop :=
  Claims.FlowCompletes ∧ Claims.EndCompletes
    ∧ ∀ k : Issue, Completes .nop k ⟨0, 0⟩ 0x00 1 false anyCore (fun s => s)

/-- The execution faults that an instruction's operand or a stack brings (R139, R154, R156, R160, R161): an unlisted
class, a bit that must be zero, an address outside its space, a target beyond the program, a branch or call stack
that is full, empty or open at END. -/
def Obligations.InstructionsFault : Prop :=
  ∀ (k : Issue) (o : Opnd),
    let none_ : Opnd := ⟨0, 0⟩
    let far := fun (limit : Nat) (_ : CrewSt) (s : CoreSt) =>
      effAddr limit s.wa o = .error 4 ∧ (o.cls = 1 ∨ o.cls = 3)
    let beyond := fun (cs : CrewSt) (_ : CoreSt) => (partAt cs k.core).code.length ≤ o.val.toNat
    (o.cls ≠ 0 → Faults .add k o 0x58 anyCore 2 ∧ Faults .opa k o 0x20 anyCore 2 ∧ Faults .ret k o 0x76 anyCore 2)
      ∧ (o.cls = 0 → o.val ≠ 0 → Faults .add k o 0x58 anyCore 3)
      ∧ (o.cls = 2 → 4096 ≤ o.val.toNat → Faults .ton k o 0x38 anyCore 3 ∧ Faults .ctu k o 0x40 anyCore 3)
      ∧ (Faults .bld k o 0x0E (far bitLimit) 4 ∧ Faults .st k o 0x28 (far bitLimit) 4
          ∧ Faults .ldw k o 0x50 (far wordLimit) 4)
      ∧ (o.cls = 2 → o.val.toNat < 1048576 → Faults .jmp k o 0x70 beyond 5 ∧ Faults .call k o 0x74 beyond 5)
      ∧ Faults .opo k none_ 0x21 (fun _ s => 32 ≤ s.branch.length) 6
      ∧ Faults .clb k none_ 0x23 (fun _ s => s.branch = []) 7
      ∧ Faults .endTask k none_ 0x01 (fun _ s => s.branch ≠ []) 8
      ∧ (o.cls = 2 → o.val.toNat < 1048576 → Faults .call k o 0x74
          (fun cs s => o.val.toNat < (partAt cs k.core).code.length ∧ 16 ≤ s.calls.length) 9)
      ∧ Faults .ret k none_ 0x76 (fun _ s => s.calls = []) 10
      ∧ Faults .endTask k none_ 0x01 (fun _ s => s.branch = [] ∧ s.calls ≠ []) 11

/-- An execution fault changes nothing in memory or in the core's registers; the crew stops at it, and its page
reports the code, the core, the task, the PC and the word (R161, R163, R248). -/
def Obligations.FaultLeavesCore : Prop :=
  ∀ (c : Chip) (k : Issue) (code : Nat) (w : Word), k.core < (crewSt c k.crew).cores.length →
    let d := faultAt c k code w
    coreOf d k = { coreOf c k with faulted := true }
      ∧ executing d k.crew = false
      ∧ (coxSt d k.crew).faultStat = pack [(code, 31, 28), (k.core, 27, 26), ((coreOf c k).task.getD 0xF, 23, 20),
          ((coreOf c k).pc, 19, 0)]
      ∧ (coxSt d k.crew).faultWord = w ∧ (coxSt d k.crew).faultStroke = c.stroke.count
      ∧ bitOf (hdr d (crewPage k.crew)).cause 3 = true
      ∧ d.mode = c.mode ∧ d.stroke = c.stroke ∧ d.latch = c.latch ∧ d.cfg = c.cfg

/-! ### Register pages -/

/-- ATTN_GROUPn and ATTN_SUMMARY (R76, R77): bit b of group n shows page 32n + b, bit n of the summary shows group n,
and no other bit of the summary is set. -/
def Obligations.AttentionTreeBits : Prop :=
  ∀ c : Chip,
    (∀ n b : Nat, n < 4 → b < 32 →
        ((attnGroup c n).getLsbD b = true ↔
          ∃ e ∈ c.pages, e.1 = 32 * n + b ∧ e.2.cause &&& e.2.mask ≠ 0))
      ∧ (∀ n : Nat, n < 4 → ((attnSummary c).getLsbD n = true ↔ attnGroup c n ≠ 0))
      ∧ (∀ n : Nat, 4 ≤ n → (attnSummary c).getLsbD n = false)
      ∧ attnSummary Chip.reset = 0

/-- A cause bit of a page and the page's condition (R55, R56): an event sets its bit and leaves BLK_CAUSE_RAW as it
is; a condition shows in BLK_CAUSE_RAW and sets its BLK_CAUSE bit on its edge from 0 to 1 and at no other time. Bits
and headers other than the one named stay as they are. -/
def Obligations.CausesLatchOnTheEdge : Prop :=
  ∀ (c : Chip) (p b : Nat) (v : Bool), b < 32 →
    (hdr (raise c p b) p = { hdr c p with cause := setBit (hdr c p).cause b true })
      ∧ (hdr (setCond c p b v) p = { hdr c p with
          raw := if bitOf (hdr c p).raw b = v then (hdr c p).raw else setBit (hdr c p).raw b v
          cause := if v = true ∧ bitOf (hdr c p).raw b = false then setBit (hdr c p).cause b true
            else (hdr c p).cause })
      ∧ (∀ q : Nat, q ≠ p → hdr (raise c p b) q = hdr c q ∧ hdr (setCond c p b v) q = hdr c q)
      ∧ (∀ j : Nat, j < 32 → bitOf (setBit (hdr c p).cause b true) j = (bitOf (hdr c p).cause j || j == b))

/-- The checks of a write in their order (R61): the first that fails gives the code, and a write that passes every
check is accepted. -/
def Claims.WriteChecksInOrder : Prop :=
  ∀ (c : Chip) (r : Requester) (addr : Nat) (full : Bool) (v : Word),
    let p := pageOf addr
    let off := offsetOf addr
    let cls := writerClass c r
    let st := (hdr c p).st
    let c1 := occupied c p (off - off % 4) = true
    let c2 := off % 4 = 0 ∧ full = true
    let c3 := allowanceUsed c r = false
    let answer_ := writeRefusal c r addr full v
    (¬c1 → answer_ = some 0x01) ∧ (c1 → ¬c2 → answer_ = some 0x02) ∧ (c1 → c2 → ¬c3 → answer_ = some 0x03)
      ∧ (c1 → c2 → c3 → regAt c p off = none → answer_ = some 0x04)
      ∧ (c1 → c2 → c3 → ∀ g : Reg, regAt c p off = some g →
          let c4 := g.acc.lets cls = true ∧ narrowField p off cls v = false
          let c5 := owns c p cls = true
          let c6 := st ≠ .isolated
          let c7 := st ≠ .draining ∨ (off = 0x008 ∧ bitOf v 4 = true)
          let c8 := v &&& g.resv = 0
          (¬c4 → answer_ = some 0x04) ∧ (c4 → ¬c5 → answer_ = some 0x05) ∧ (c4 → c5 → ¬c6 → answer_ = some 0x06)
            ∧ (c4 → c5 → c6 → ¬c7 → answer_ = some 0x07) ∧ (c4 → c5 → c6 → c7 → ¬c8 → answer_ = some 0x08)
            ∧ (c4 → c5 → c6 → c7 → c8 → answer_ = lateRefusal c cls p off v))

/-- Who may write (R51, R59): RO registers take no write, RW ones any class, RWE ones class E and S, RWS ones class S
only; class S always owns a page, the others where their bit of BLK_OWNER is set. -/
def Claims.ClassesMayWrite : Prop :=
  (∀ cls : Nat, Acc.ro.lets cls = false ∧ Acc.rw.lets cls = true)
    ∧ (Acc.rwe.lets 0 = true ∧ Acc.rwe.lets 1 = true ∧ Acc.rwe.lets 2 = false)
    ∧ (Acc.rws.lets 0 = true ∧ Acc.rws.lets 1 = false ∧ Acc.rws.lets 2 = false)
    ∧ (∀ (c : Chip) (p : Nat), owns c p 0 = true ∧ owns c p 1 = (hdr c p).ownerE ∧ owns c p 2 = (hdr c p).ownerP)

/-- The checks of a write come in their order, and who may write follows the access codes and BLK_OWNER. -/
def Obligations.WriteChecksInOrder : Prop :=
  Claims.WriteChecksInOrder ∧ Claims.ClassesMayWrite

/-- An accepted write counts in BLK_SEQ and against a session's writes and then takes effect at once (R52, R66,
R586); its effect is that of the header register or of the block's register at the offset. -/
def Obligations.AcceptedWriteTakesEffect : Prop :=
  ∀ (c : Chip) (r : Requester) (p off : Nat) (v : Word), p < 128 → off < 4096 → Accepts c r p off v →
    (hdr (granted c r p) p).seq = (hdr c p).seq + 1
      ∧ writeReg c r p off v =
          (if off < 0x040 then writeHeader (granted c r p) p off (writerClass c r) v
            else writeBlock (granted c r p) r p off (writerClass c r) v)

/-- A refused write changes no register (R62): it sets REFUSED_WRITE on the page it addressed, on page 0x00 where that
page is not populated (R63), and keeps its code, page and offset in REFUSAL_BH or REFUSAL_HOST for a memory-mapped
writer (R64, R80). -/
def Obligations.RefusedWriteLeavesRegisters : Prop :=
  ∀ (c : Chip) (r : Requester) (p off code : Nat) (v : Word), p < 128 → off < 4096 → reaches c r = true →
    writeRefusal c r (regAddr p off) true v = some code → code ≠ 3 → ¬(p = 4 ∧ off = 0x044) →
    let d := writeReg c r p off v
    let q := if populated p then p else 0
    hdr d q = { hdr c q with cause := setBit (hdr c q).cause 31 true }
      ∧ (∀ n : Nat, n ≠ q → hdr d n = hdr c n)
      ∧ (r = .boathouse → d.attn.refusalBh = pack [(code, 31, 24), (p, 23, 16), (off, 11, 0)])
      ∧ (r = .bar0 → d.attn.refusalHost = pack [(code, 31, 24), (p, 23, 16), (off, 11, 0)])
      ∧ d.cfg = c.cfg ∧ d.mode = c.mode ∧ d.stroke = c.stroke ∧ d.wake = c.wake ∧ d.crewS = c.crewS
      ∧ d.crewP = c.crewP ∧ d.engines = c.engines ∧ d.sent = c.sent ∧ d.upd = c.upd ∧ d.ident = c.ident

/-- The writes of the common header (R47, R51, R57, R58, R71, R73): ENABLE, from whose next catch on the block takes
work, the drain that ENABLE = 0 starts, the clearing and the testing of causes. -/
def Claims.HeaderWritesTakeEffect : Prop :=
  ∀ (s : State) (r : Requester) (p : Fin 128) (drain : BitVec 8) (v : Word),
    let g := granted s.chip r p
    let st := (hdr s.chip p).st
    let ctl := modHdr g p fun h => { h with drainTimeout := drain.toNat }
    (Accepts s.chip r p 0x008 (pack [(drain.toNat, 15, 8), (1, 0, 0)]) → st = .disabled →
        exec (.blockEnable r p drain) s = .next (after s
          (pageConds (pageStart (modHdr ctl p fun h => { h with
            st := .enabled, waits := s.chip.mode.mode.strokes }) p) p)))
      ∧ (Accepts s.chip r p 0x008 (pack [(drain.toNat, 15, 8)]) → st = .enabled →
        exec (.blockDisable r p drain) s = .next (after s
          (let d := modHdr ctl p fun h => { h with st := .draining, drainLeft := h.drainTimeout, waits := false }
          if 0x60 ≤ p.val ∧ p.val ≤ 0x6F then canDrain d (p - 0x60)
          else if p.val = 0x18 then drainHeats d
          else match engineOf p with
            | some e => drainLoops d e
            | none => d)))
      ∧ (Accepts s.chip r p 0x008 (pack [(drain.toNat, 15, 8), (1, 0, 0)]) → st = .enabled →
        exec (.blockEnable r p drain) s = .next (after s ctl))
      ∧ (Accepts s.chip r p 0x008 (pack [(drain.toNat, 15, 8)]) → st = .disabled →
        exec (.blockDisable r p drain) s = .next (after s ctl))
      ∧ (Accepts s.chip r p 0x008 (pack [(drain.toNat, 15, 8), (1, 4, 4)]) →
        exec (.softReset r p drain) s = .next (after s (blockReset g p 0 (writerClass s.chip r))))
      ∧ (Accepts s.chip r p 0x010 v →
        exec (.blkCauseClear r p v) s = .next (after s (modHdr g p fun h => { h with cause := h.cause &&& ~~~v })))
      ∧ (Accepts s.chip r p 0x01C v →
        let d := modHdr g p fun h => { h with cause := h.cause ||| (v &&& (0xF0000000 ||| definedCauses p)) }
        exec (.testCause r p v) s = .next (after s
          (emit d p 0xFE 0xFFFF v (hdr d p).cause 0 s.chip.stroke.count)))

/-- A drain ends with no work and no queued entry left, or at its limit with the work that is left aborted, DRAIN_ABORT
set and its record written (R48, R71). A write to any address is `regWrite`. -/
def Claims.DrainsComplete : Prop :=
  ∀ (s : State) (p : Fin 128),
    let c := s.chip
    ((hdr c p).st = .draining → workOf c p = 0 → queueHolds c p = false →
        exec (.drainEnd p) s = .next (after s
          (pageConds (modHdr c p fun h => { h with st := .disabled, drainLeft := 0 }) p)))
      ∧ ((hdr c p).st = .draining → (hdr c p).drainLeft = 0 → workOf c p ≠ 0 ∨ queueHolds c p = true →
        let d := raise (pageConds (modHdr (dropWork c p) p fun h => { h with st := .disabled, drainLeft := 0 }) p) p 30
        exec (.drainAbort p) s = .next (after s
          (emit d p 0xFD 0xFFFF (BitVec.ofNat 32 (workOf c p)) (BitVec.ofNat 32 (hdr d p).drainTimeout) 0
            d.stroke.count)))
      ∧ ((hdr c p).st ≠ .draining → exec (.drainEnd p) s = .next (after s c) ∧ exec (.drainAbort p) s = .next (after s c))
      ∧ (∀ (r : Requester) (addr : Word) (full : Bool) (v : Word),
          exec (.registerWrite r addr full v) s = .next (after s (regWrite c r addr.toNat full v).2))

/-- Enabling, disabling, draining, clearing and testing of a page complete. -/
def Obligations.HeaderCommandsComplete : Prop :=
  Claims.HeaderWritesTakeEffect ∧ Claims.DrainsComplete

/-! ### Modes and commissioning -/

/-- The mode commands (R30, R33, R35, R185, R186, R417): each, once accepted, shows in MODE_CMD and takes the row of
R30 that is its own. -/
def Claims.ModeCommandsTakeEffect : Prop :=
  ∀ (s : State) (r : Requester),
    let cmd := fun n : Nat =>
      let g := granted s.chip r 4
      { g with mode := { g.mode with cmd := BitVec.ofNat 8 n } }
    let ok := fun n : Nat => Accepts s.chip r 4 0x044 (BitVec.ofNat 32 n)
    (ok 1 → exec (.start r) s = .next (after s (enterMode (cmd 1) .run 11)))
      ∧ (ok 2 → exec (.stop r) s = .next (after s
          (enterMode (cmd 2) .stop (if s.chip.mode.mode = .standby then 26 else 16))))
      ∧ (ok 3 → exec (.configure r) s = .next (after s (enterMode (cmd 3) .config 12)))
      ∧ (ok 4 → exec (.commitConfig r) s = .next (after s
          (if configBad (cmd 4) then setBounds (setCond (cmd 4) 4 0 true)
            else configRows (storeSettings (setBounds (setCond (cmd 4) 4 0 false))))))
      ∧ (ok 5 → exec (.resume r) s = .next (after s (enterMode (resumeProcess (cmd 5) false) .run 22)))
      ∧ (ok 6 → exec (.step r) s = .next (after s (resumeProcess (cmd 6) true)))
      ∧ (ok 7 → exec (.clearHalt r) s = .next (after s (enterMode (cmd 7) .stop 30)))
      ∧ (ok 8 → exec (.layUp r) s = .next (after s (enterMode (cmd 8) .dormant 13)))
      ∧ (ok 9 → exec (.wake r) s = .next (after s (enterMode (cmd 9) .stop 33)))
      ∧ (ok 10 → exec (.activate r) s = .next (after s
          { cmd 10 with upd := { (cmd 10).upd with activateDue := true } }))
      ∧ (ok 11 → exec (.handover r) s = .next (after s (beginHandover (cmd 11) none)))

/-- The mode commands, accepted, take their row of the mode table. -/
def Obligations.ModeCommandsComplete : Prop :=
  Claims.ModeCommandsTakeEffect

/-- MODE_CMD.CMD (R33, R34): a value that is no command is out of range; a command outside the modes where it is
legal is illegal in the mode; where it is legal, only its condition can refuse it. -/
def Claims.ModeCommandCodes : Prop :=
  ∀ (c : Chip) (cmd : Nat),
    let legal : List Mode := match cmd with
      | 1 => [.stop] | 2 => [.run, .hold, .standby] | 3 => [.stop] | 4 => [.config] | 5 => [.hold] | 6 => [.hold]
      | 7 => [.safeHalt] | 8 => [.stop] | 9 => [.dormant] | 10 => [.stop, .standby] | 11 => [.run, .hold] | _ => []
    ((cmd = 0 ∨ 11 < cmd) → modeCmdRefusal c cmd = some 0x09)
      ∧ (1 ≤ cmd → cmd ≤ 11 → ¬ c.mode.mode ∈ legal → modeCmdRefusal c cmd = some 0x0A)
      ∧ (1 ≤ cmd → cmd ≤ 11 → c.mode.mode ∈ legal →
          modeCmdRefusal c cmd = if cmdCondition c cmd then none else some 0x0B)

/-- The conditions of the mode commands in R30, R34 and R672: LAY_UP wants the underway input clear, CLEAR_HALT the
cause of the halt gone, HANDOVER a seat holder whose partner is ready, and STOP in RUN or HOLD a module that is no
seat holder or whose partner does not stand by. -/
def Claims.ModeCommandConditions : Prop :=
  ∀ c : Chip,
    (cmdCondition c 8 = true ↔ c.underway = false)
      ∧ (cmdCondition c 7 = true ↔ c.coxSafety.faulty = false ∧ c.coxProcess.faulty = false ∧ c.boat.locked = 0x1F)
      ∧ (cmdCondition c 11 = true ↔ paired c = true ∧ c.seat.holds = true ∧ partnerReady c = true)
      ∧ (c.mode.mode = .run ∨ c.mode.mode = .hold →
          (cmdCondition c 2 = true ↔ ¬(paired c = true ∧ c.seat.holds = true ∧ standsBy c = true)))
      ∧ (cmdCondition c 3 = true ∧ cmdCondition c 4 = true ∧ cmdCondition c 5 = true ∧ cmdCondition c 6 = true)
      ∧ (cmdCondition c 10 = true ↔ activateReason c = none)

/-- MODE_CMD takes eleven codes, each in its modes and under its condition. -/
def Obligations.ModeCommandCodes : Prop :=
  Claims.ModeCommandCodes ∧ Claims.ModeCommandConditions

/-- A mode change (R31, R36, R82): MODE and PREV, one more in SEQ, a record with the two modes and the row, and the
attention pin live from CONFIG or UNADDRESSED on. -/
def Obligations.ModeChangesAreRecorded : Prop :=
  ∀ (c : Chip) (m : Mode) (row : Nat), c.mode.mode ≠ m → (smGet WakeQueue.empty c.wake.queues 59).recs.length < 1024 →
    let d := changeMode c m row
    d.mode = { c.mode with mode := m, prev := c.mode.mode, seq := c.mode.seq + 1 }
      ∧ d.attn.pinLive = (c.attn.pinLive || m == .config || m == .unaddressed)
      ∧ (∃ t : Nat, (smGet WakeQueue.empty d.wake.queues 59).recs =
          (smGet WakeQueue.empty c.wake.queues 59).recs
            ++ [⟨t, 0x401, 0xFFFF, BitVec.ofNat 32 c.mode.mode.code, BitVec.ofNat 32 m.code, BitVec.ofNat 32 row,
              c.stroke.count⟩])
      ∧ d.crewS = c.crewS ∧ d.crewP = c.crewP ∧ d.cfg = c.cfg ∧ d.seat = c.seat ∧ d.upd = c.upd ∧ d.latch = c.latch

/-- Loads, discards, trims, forces, breakpoints and the cox test on a crew's page (R174, R189, R194, R210, R212 to
R214, R249). LOAD shows 0xFF until the load ends; FORCE_CHANGED is written for a change of an entry that is enabled
before or after. -/
def Claims.CrewWritesTakeEffect : Prop :=
  ∀ (s : State) (r : Requester) (cr : Crew) (v : Word),
    let p := crewPage cr
    let g := granted s.chip r p
    let sel := forceSel g p
    let old := force g cr sel
    let forced := fun (new : Force) =>
      let d := forceCond (modCtl g cr fun t => { t with forces := smSet Force.reset t.forces sel new }) cr
      if (old.on = true ∨ new.on = true) ∧ new ≠ old then
        emit d p 0x32 sel new.entry new.value 0 s.chip.stroke.count
      else d
    (Accepts s.chip r p 0x10C 1 →
        exec (.load r cr) s = .next (after s (modCrew g cr fun k => { k with loadCmd := 1, loadResult := 0xFF })))
      ∧ (Accepts s.chip r p 0x10C 2 →
        exec (.discard r cr) s = .next (after s
          (modUpd (modCrew g cr fun k => { k with loadCmd := 2 }) fun u => { u with staged := smDel u.staged p })))
      ∧ (∀ n : Fin 32, Accepts s.chip r p 0x124 (pack [(1, 8, 8), (n, 4, 0)]) →
        exec (.trimApply r cr n) s = .next (after s
          (let d := storeReg g p 0x124 (pack [(1, 8, 8), (n, 4, 0)])
          modCtl d cr fun t => { t with trimPending := [trimBatch d p n] })))
      ∧ (Accepts s.chip r p 0x138 v →
        exec (.forceEntry r cr v) s = .next (after s (forced { old with entry := v })))
      ∧ (Accepts s.chip r p 0x134 v →
        exec (.forceValue r cr v) s = .next (after s (forced { old with value := v })))
      ∧ (∀ n : Fin 8, cr = .process → Accepts s.chip r p (0x140 + 4 * n) v →
        exec (.bpWrite r n v) s = .next (after s (modCtl g .process fun t => { t with bps := smSet 0 t.bps n v })))
      ∧ (∀ n : Fin 4, Accepts s.chip r p 0x068 (pack [(n, 2, 1), (1, 0, 0)]) →
        exec (.coxTestArm r cr n) s = .next (after s
          (modCox g cr fun k => { k with testArm := true, testCore := n })))
      ∧ (∀ n : Fin 4, Accepts s.chip r p 0x068 (pack [(n, 2, 1)]) →
        exec (.coxTestDisarm r cr n) s = .next (after s
          (modCox g cr fun k => { k with testArm := false, testCore := n })))

/-- Loads, discards, tunes, table points and mode requests on the pages of the engines and the heat selector (R285,
R288, R292, R296, R298, R302, R325 to R330). A changed request writes MODE_REQUEST. -/
def Claims.EngineWritesTakeEffect : Prop :=
  ∀ (s : State) (r : Requester) (e : Fin 8) (t : Fin 2) (h j : Fin 16) (i : Fin 64) (v : Word),
    let p := engPage e
    let q := engPage (t + 8)
    let g := granted s.chip r
    let load := fun n : Nat => modEng (g (engPage n)) n fun x => { x with cmd := 1, result := 0xFF, failNo := 0xFF }
    let drop := fun n : Nat =>
      modUpd (modEng (g (engPage n)) n fun x => { x with cmd := 2 }) fun u => { u with
        staged := smDel u.staged (engPage n) }
    let mode := fun (n k : Nat) =>
      let d := g (engPage n)
      let st := loopSt d n k
      let d' := modLoop d n k fun x => { x with req := fld v 1 0 }
      if st.req = fld v 1 0 then d'
      else emit d' (engPage n) 0x43 k (BitVec.ofNat 32 st.req) (BitVec.ofNat 32 (fld v 1 0)) (loopOutWord st)
        s.chip.stroke.count
    (Accepts s.chip r p 0x04C 1 → exec (.engLoad r e) s = .next (after s (load e)))
      ∧ (Accepts s.chip r q 0x04C 1 → exec (.teLoad r t) s = .next (after s (load (t + 8))))
      ∧ (Accepts s.chip r p 0x04C 2 → exec (.engDiscard r e) s = .next (after s (drop e)))
      ∧ (Accepts s.chip r q 0x04C 2 → exec (.teDiscard r t) s = .next (after s (drop (t + 8))))
      ∧ (Accepts s.chip r 0x18 0x04C 1 →
        exec (.hsLoad r) s = .next (after s
          (let d := g 0x18
          { d with sel := { d.sel with cmd := 1, result := 0xFF, failNo := 0xFF } })))
      ∧ (Accepts s.chip r 0x18 0x04C 2 →
        exec (.hsDiscard r) s = .next (after s
          (let d := g 0x18
          modUpd { d with sel := { d.sel with cmd := 2 } } fun u => { u with staged := smDel u.staged 0x18 })))
      ∧ (Accepts s.chip r p 0x06C (pack [(1, 16, 16), (i, 5, 0)]) →
        exec (.tuneApply r e i) s = .next (after s
          (let d := storeReg (g p) p 0x06C (pack [(1, 16, 16), (i, 5, 0)])
          modEng d e fun x => { x with tune := some ⟨i, cfg d p 0x060, cfg d p 0x064, cfg d p 0x068⟩ })))
      ∧ (∀ (ix : BitVec 8) (val : BitVec 16),
          let w := pack [(1, 31, 31), (j, 27, 24), (ix.toNat, 23, 16), (val.toNat, 15, 0)]
          Accepts s.chip r q 0x060 w →
        exec (.tpointApply r t j ix val) s = .next (after s
          (modEng (storeReg (g q) q 0x060 w) (t + 8) fun x => { x with tune := some ⟨j, w &&& 0x0FFFFFFF, 0, 0⟩ })))
      ∧ (Accepts s.chip r p (0x800 + 4 * i) v → exec (.loopModeWrite r e i v) s = .next (after s (mode e i)))
      ∧ (Accepts s.chip r q (0x800 + 4 * j) v → exec (.tloopModeWrite r t j v) s = .next (after s (mode (t + 8) j)))
      ∧ (Accepts s.chip r 0x18 (0x800 + 4 * h) v →
        exec (.heatModeWrite r h v) s = .next (after s
          (if (heatBlock (g 0x18) h).isSome then modHeat (g 0x18) h fun x => { x with req := fld v 1 0 } else g 0x18)))

/-- Loads, trims, forces, breakpoints, tunes and requests complete. -/
def Obligations.CommissioningWritesComplete : Prop :=
  Claims.CrewWritesTakeEffect ∧ Claims.EngineWritesTakeEffect

/-- Writes and commands on the pages of the stroke, the sessions, the sensors, the pair and the CAN controllers (R122,
R126, R424, R548 to R550, R555, R582, R587, R640). -/
def Claims.BlockCommandsTakeEffect : Prop :=
  ∀ (s : State) (r : Requester) (n : Fin 16) (v : Word) (pct : BitVec 8),
    let g := granted s.chip r
    let can := fun k : Word => setCfg (g (canPage n)) (canPage n) 0x044 k
    (Accepts s.chip r 2 0x040 v →
        exec (.strokeCfgWrite r v) s = .next (after s (storeReg (g 2) 2 0x040 v)))
      ∧ (Accepts s.chip r 2 0x060 (pack [(1, 8, 8), (pct.toNat, 7, 0)]) →
        exec (.peakClear r pct) s = .next (after s
          (loadHigh (modStroke (storeReg (g 2) 2 0x060 (pack [(1, 8, 8), (pct.toNat, 7, 0)])) fun k => { k with
            loadSafety := { k.loadSafety with peak := 0 }, loadProcess := { k.loadProcess with peak := 0 } }))))
      ∧ (Accepts s.chip r 0x7A 0x174 1 →
        exec (.sensorClear r) s = .next (after s (modBoat (g 0x7A) fun b => { b with peaks := b.temps, shockPeak := 0 })))
      ∧ (Accepts s.chip r 0x72 (0x108 + 16 * n) v →
        exec (.hsAllowWrite r n v) s = .next (after s
          (modSession (g 0x72) n fun x => { x with queueMax := fld v 23 16, writesMax := fld v 15 0 })))
      ∧ (Accepts s.chip r 0x72 0x050 (pack [(1, 4, 4), (n, 3, 0)]) →
        exec (.hsClose r n) s = .next (after s
          (updAbandon (closeSession (storeReg (g 0x72) 0x72 0x050 (pack [(1, 4, 4), (n, 3, 0)])) n 1))))
      ∧ (Accepts s.chip r 0x28 0x050 1 →
        exec (.resync r) s = .next (after s (resync (setCfg (g 0x28) 0x28 0x050 1))))
      ∧ (Accepts s.chip r (canPage n) 0x044 1 →
        exec (.sleep r n) s = .next (after s (modCan (can 1) n fun k => { k with sleepReq := true })))
      ∧ (Accepts s.chip r (canPage n) 0x044 2 →
        exec (.canWake r n) s = .next (after s (canWakeUp (can 2) n 0 0)))
      ∧ (Accepts s.chip r (canPage n) 0x044 3 →
        exec (.recover r n) s = .next (after s (canTo (can 3) n 5)))
      ∧ (Accepts s.chip r (canPage n) 0x098 0x20000000 →
        exec (.idClashClear r n) s = .next (after s
          (setClash (g (canPage n)) n (selected (g (canPage n)) (canPage n)) false)))

/-- Commands on the pages of the Boathouse's services (R638, R639, R651, R653, R657, R683, R697, R699): owner
commands, attestation, the wake recorder, the update path and the panel. -/
def Claims.ServiceCommandsTakeEffect : Prop :=
  ∀ (s : State) (r : Requester) (len : BitVec 11),
    let g := granted s.chip r
    let own := fun (n : Nat) (w : Word) =>
      modIdent (setCfg (g 0x7C) 0x7C 0x04C w) fun i => { i with busy := some (n, fld w 10 0) }
    let wr := modWake (g 0x78)
    let pnl := fun n : Nat => startWaiting (modPanel (g 0x7B) fun p => { p with
      cmd := BitVec.ofNat 32 n, waiting := some n })
    (Accepts s.chip r 0x7C 0x04C (pack [(1, 31, 24), (len.toNat, 10, 0)]) →
        exec (.enroll r len) s = .next (after s (own 1 (pack [(1, 31, 24), (len.toNat, 10, 0)]))))
      ∧ (Accepts s.chip r 0x7C 0x04C (pack [(2, 31, 24)]) →
        exec (.ownerClear r) s = .next (after s (own 2 (pack [(2, 31, 24)]))))
      ∧ (Accepts s.chip r 0x7C 0x04C (pack [(3, 31, 24)]) →
        exec (.lock r) s = .next (after s (own 3 (pack [(3, 31, 24)]))))
      ∧ (Accepts s.chip r 0x7C 0x04C (pack [(4, 31, 24)]) →
        exec (.unlock r) s = .next (after s (own 4 (pack [(4, 31, 24)]))))
      ∧ (Accepts s.chip r 0x7C 0x050 1 →
        exec (.request r) s = .next (after s
          (let t := freshTime (g 0x7C)
          modIdent t.2 fun i => { i with
            attPending := true, attClass := writerClass s.chip r, report := attReport t.2 t.1 })))
      ∧ (Accepts s.chip r 0x78 0x04C 0x100 →
        exec (.arm r) s = .next (after s (armLaunch (wr fun w => { w with cmd := 0 }))))
      ∧ (Accepts s.chip r 0x78 0x04C 1 →
        exec (.snap r) s = .next (after s
          (modCtx (wr fun w => { w with cmd := 1 }) (reqNo r) fun x => { x with
            head := if s.chip.wake.stored = 0 then 0 else s.chip.wake.head
            tail := if s.chip.wake.stored = 0 then 0
              else if s.chip.wake.stored < wakeSlots then 1
              else s.chip.wake.head - BitVec.ofNat 32 (wakeSlots - 1) })))
      ∧ (Accepts s.chip r 0x78 0x04C 2 →
        exec (.exportStart r) s = .next (after s (wr fun w => { w with
          cmd := 2, expResult := 0xFF, expArea := fld (cfg s.chip 0x78 0x074) 31 30
          expFirst := cfg s.chip 0x78 0x070, expCount := fld (cfg s.chip 0x78 0x074) 16 0 })))
      ∧ (Accepts s.chip r 0x79 0x044 1 →
        exec (.updDiscard r) s = .next (after s (updDiscard (setCfg (g 0x79) 0x79 0x044 1))))
      ∧ (Accepts s.chip r 0x7B 0x044 1 → exec (.refresh r) s = .next (after s (pnl 1)))
      ∧ (Accepts s.chip r 0x7B 0x044 2 → exec (.pnlTest r) s = .next (after s (pnl 2)))

/-- RST_CMD (R604, R605, R612, R621, R624): the counts clear at once, with the cause and the record; a reset waits
for its source to assert. -/
def Claims.ResetCommandsTakeEffect : Prop :=
  ∀ (s : State) (r : Requester) (p : Fin 128) (cr : Crew),
    let g := granted s.chip r 1
    let cls := writerClass s.chip r
    let wait := fun (w : Word) (reach target : Nat) => modRst g fun x => { x with
      cmd := w, waiting := x.waiting ++ [⟨cls, reach, target⟩] }
    let total := BitVec.ofNat 32 s.chip.backup.total
    let cleared := raise (modBackup g fun b => { b with counts := [], total := 0 }) 1 6
    (Accepts s.chip r 1 0x040 0x00010000 →
        exec (.clearCounts r) s = .next (after s
          (modRst (emit cleared 1 0x06 0xFFFF total 0 0 s.chip.stroke.count) fun x => { x with cmd := 0 })))
      ∧ (Accepts s.chip r 1 0x040 (pack [(1, 10, 8), (p, 6, 0)]) →
        exec (.rstCmdBlock r p) s = .next (after s (wait (pack [(1, 10, 8), (p, 6, 0)]) 1 p)))
      ∧ (Accepts s.chip r 1 0x040 (pack [(2, 10, 8), (crewPage cr - 8, 6, 0)]) →
        exec (.rstCmdCrew r cr) s = .next (after s (wait (pack [(2, 10, 8), (crewPage cr - 8, 6, 0)]) 2 (crewPage cr - 8))))
      ∧ (Accepts s.chip r 1 0x040 0x300 → exec (.rstCmdModule r) s = .next (after s (wait 0x300 3 0)))
      ∧ (Accepts s.chip r 1 0x040 0x400 → exec (.rstCmdPower r) s = .next (after s (wait 0x400 4 0)))

/-- The command registers of the other pages complete. -/
def Obligations.BlockCommandsComplete : Prop :=
  Claims.BlockCommandsTakeEffect ∧ Claims.ServiceCommandsTakeEffect ∧ Claims.ResetCommandsTakeEffect

/-! ### The stroke -/

/-- T0 (R87, R92): in a mode with strokes, from recovery or a catch, STROKE_TICK starts the next stroke: the count
goes up by 1, T0 is the tick's time, STROKE_CFG as it stands is in force from now on, and the phase is catch.
Elsewhere it changes nothing. -/
def Claims.TickStartsAStroke : Prop :=
  ∀ (s : State) (now : Nat) (x : TickIn),
    let c := s.chip
    let due := c.mode.mode.strokes = true ∧ (c.stroke.phase = .recovery ∨ c.stroke.phase = .catch_)
    (due → ∃ t : State, exec (.strokeTick now x) s = .next t ∧ t.pending = s.pending
        ∧ t.chip.stroke.count = c.stroke.count + 1 ∧ t.chip.stroke.t0 = now
        ∧ t.chip.stroke.phase = .catch_ ∧ t.chip.stroke.active = cfg c 2 0x040
        ∧ t.chip.stroke.capturing = false)
      ∧ (¬due → exec (.strokeTick now x) s = .next (after s c))

/-- The other phases (R90, R95, R102, R105, R113, R186, R232): each comes only after the one before it. DRIVE_START
changes the mode only where the process crew stands halted in RUN: that puts the module in HOLD. At the output strobe
after a trip the module halts. -/
def Claims.PhasesFollow : Prop :=
  ∀ s : State,
    let c := s.chip
    let on := c.mode.mode.strokes = true
    (on → c.stroke.phase = .catch_ → ∃ t : State, exec .driveStart s = .next t
        ∧ t.chip.stroke = { c.stroke with phase := .drive } ∧ t.chip.work = c.img
        ∧ (c.mode.mode ≠ .run ∨ (c.ctlP.haltNext = false ∧ c.crewP.run ≠ .halted) → t.chip.mode = c.mode)
        ∧ (c.mode.mode = .run → c.ctlP.haltNext = true →
            t.chip.crewP.run = .halted ∧ t.chip.mode.mode = .hold ∧ t.chip.mode.prev = .run))
      ∧ (¬(on ∧ c.stroke.phase = .catch_) → exec .driveStart s = .next (after s c))
      ∧ (on → c.stroke.phase = .drive → ∃ t : State, exec .finish s = .next t ∧ t.chip.stroke.phase = .finish
        ∧ t.chip.stroke.count = c.stroke.count ∧ t.chip.stroke.t0 = c.stroke.t0
        ∧ t.chip.stroke.haltAtStrobe = (c.stroke.haltAtStrobe || trips c))
      ∧ (¬(on ∧ c.stroke.phase = .drive) → exec .finish s = .next (after s c))
      ∧ (on → c.stroke.phase = .finish → ∃ t : State, exec .outputStrobe s = .next t
        ∧ t.chip.stroke.phase = .recovery ∧ t.chip.stroke.capturing = true ∧ t.chip.stroke.haltAtStrobe = false
        ∧ (c.mode.mode.runs = true → c.stroke.haltAtStrobe = true →
            t.chip.mode.mode = .safeHalt ∧ t.chip.mode.prev = c.mode.mode)
        ∧ (c.mode.mode.runs = false ∨ c.stroke.haltAtStrobe = false → t.chip.mode = c.mode))
      ∧ (¬(on ∧ c.stroke.phase = .finish) → exec .outputStrobe s = .next (after s c))

/-- The end of the capture, the check of the attention line between strokes and the drop of checkpoint records
(R83, R105, R402, R405): the capture ends once, and records are dropped only two strokes after they were streamed. -/
def Claims.RecoveryCommandsComplete : Prop :=
  ∀ (s : State) (hits : List (Crew × EccHit)) (n : Nat),
    let c := s.chip
    (c.stroke.capturing = true → ∃ t : State, exec (.captureEnd hits) s = .next t
        ∧ t.chip.stroke = { c.stroke with capturing := false } ∧ t.chip.mode = c.mode)
      ∧ (c.stroke.capturing = false → exec (.captureEnd hits) s = .next (after s c))
      ∧ (c.mode.mode.strokes = false → c.mode.mode ≠ .reset → c.mode.mode ≠ .boot →
        exec .attnCheckIdle s = .next (after s (sessionStroke (attnCheck c))))
      ∧ (c.mode.mode.strokes = true ∨ c.mode.mode = .reset ∨ c.mode.mode = .boot →
        exec .attnCheckIdle s = .next (after s c))
      ∧ (∀ (k : Word) (lines : Nat),
        (c.mirror.streamed.find? fun e => decide (2 ≤ (c.stroke.count - e.1).toNat)) = some (k, lines) → 0 < n →
        ∃ sent : List Frame, exec (.ckptRecordsDropped n) s = .next (after s
          (ckptIncomplete (modMirror { c with sent := sent } fun m => { m with
            streamed := m.streamed.filter fun e => e.1 != k }) 2 lines)) ∧ sent.Sublist c.sent
          ∧ sent.filter (fun f => !isCkptFrame k f) = c.sent.filter (fun f => !isCkptFrame k f)
          ∧ (n ≤ (c.sent.filter (isCkptFrame k)).length → (sent.filter (isCkptFrame k)).length + n
              = (c.sent.filter (isCkptFrame k)).length))
      ∧ ((∀ e ∈ c.mirror.streamed, (c.stroke.count - e.1).toNat < 2) ∨ n = 0 →
        exec (.ckptRecordsDropped n) s = .next (after s c))

/-- T0, the phases of a stroke and the commands of recovery complete. -/
def Obligations.StrokePhasesComplete : Prop :=
  Claims.TickStartsAStroke ∧ Claims.PhasesFollow ∧ Claims.RecoveryCommandsComplete

/-- The watchdog at TF (R113, R116, R162): it trips when the safety crew has not ended drive, when the process crew
stands at an execution fault, or when the process crew has not ended drive and may not skip: skips are off, or two
strokes in a row were skipped already. Otherwise a process crew that has not ended drive skips. -/
def Obligations.WatchdogTripsOrSkips : Prop :=
  ∀ c : Chip,
    (trips c = true ↔ overran c .safety = true ∨ atFault c .process = true
        ∨ (overran c .process = true ∧ (bitOf c.stroke.active 12 = false ∨ 2 ≤ c.stroke.skipRun)))
      ∧ (let d := trip c
        d.stroke.safeLatch = true ∧ d.stroke.safeLatchS = true ∧ d.stroke.haltAtStrobe = true
          ∧ bitOf (hdr d 2).cause 0 = true ∧ d.crewS.run ≠ .running ∧ d.crewP.run ≠ .running)
      ∧ (let d := commitOrSkip c
        d.stroke.skipRun = (if endedDrive c .process then 0 else if overran c .process then c.stroke.skipRun + 1
            else c.stroke.skipRun)
          ∧ (overran c .process = true → bitOf (hdr d 2).cause 1 = true))

/-- SYNC_STATE (R111): FREE and HOLDOVER become ACQUIRING when a reference is present, ACQUIRING becomes LOCKED
after 16 strokes within 1 µs, LOCKED becomes ACQUIRING after 4 strokes beyond 10 µs, and either becomes HOLDOVER
when the reference is lost; with SYNC FREE there is no alignment. -/
def Claims.SyncCommandsComplete : Prop :=
  ∀ s : State,
    let c := s.chip
    let pps := modStroke c fun k => { k with refPresent := true }
    let gone := if syncMode c = 2 then modStroke c fun k => { k with refPresent := false } else c
    let following := c.stroke.sync = .acquiring ∨ c.stroke.sync = .locked
    (syncMode c = 2 → ¬following → exec .ppsEdge s = .next (after s (syncTo pps .acquiring)))
      ∧ (syncMode c = 2 → following → exec .ppsEdge s = .next (after s pps))
      ∧ (syncMode c = 0 → exec .ppsEdge s = .next (after s
          (modStroke (syncTo pps .free) fun k => { k with offset := 0 })))
      ∧ (c.stroke.sync = .acquiring → 16 ≤ c.stroke.within → exec .syncLock s = .next (after s (syncTo c .locked)))
      ∧ (c.stroke.sync ≠ .acquiring ∨ c.stroke.within < 16 → exec .syncLock s = .next (after s c))
      ∧ (c.stroke.sync = .locked → 4 ≤ c.stroke.beyond → exec .syncUnlock s = .next (after s (syncTo c .acquiring)))
      ∧ (c.stroke.sync ≠ .locked ∨ c.stroke.beyond < 4 → exec .syncUnlock s = .next (after s c))
      ∧ (following → (syncMode c = 1 → ptpSelected c = none) →
          exec .syncLost s = .next (after s (syncTo gone .holdover)))
      ∧ (¬following → exec .syncLost s = .next (after s gone))
      ∧ (∀ x : SyncState, x ≠ c.stroke.sync →
          let d := syncTo c x
          d.stroke = { c.stroke with sync := x, within := 0, beyond := 0 }
            ∧ bitOf (hdr d 2).raw 3 = (x == .holdover))

/-- The offset that a stroke measures (R111, R124): STROKE_OFFSET in ns, and how long the run of strokes within 1 µs
and beyond 10 µs is. -/
def Claims.OffsetsAreMeasured : Prop :=
  ∀ (c : Chip) (x : Int), c.stroke.sync = .acquiring ∨ c.stroke.sync = .locked →
    let k := (syncMeasure c x).stroke
    k.offset = wOfInt x
      ∧ (-1000 ≤ x ∧ x ≤ 1000 → k.within = c.stroke.within + 1 ∧ k.beyond = 0)
      ∧ (x < -1000 ∨ 1000 < x → k.within = 0)
      ∧ (x < -10000 ∨ 10000 < x → k.beyond = c.stroke.beyond + 1)
      ∧ (-10000 ≤ x ∧ x ≤ 10000 → k.beyond = 0)

/-- Synchronisation states and offsets. -/
def Obligations.SyncCommandsComplete : Prop :=
  Claims.SyncCommandsComplete ∧ Claims.OffsetsAreMeasured

/-- Reading the low word of a 64-bit register latches the high one for the reader (R124, R208, R655). Until the first T0
after a reset STROKE_TIME reads 0. -/
def Obligations.LowWordReadsLatch : Prop :=
  ∀ (s : State) (r : Requester) (cr : Crew) (k : Fin 64), reaches s.chip r = true →
    let c := s.chip
    let time := if c.stroke.timed then c.stroke.t0 else 0
    exec (.strokeTimeLoRead r) s = .next (after s
        (modStroke c fun x => { x with hiLatch := smPut x.hiLatch (reqNo r) (highHalf time) }))
      ∧ exec (.driveNoLoRead r cr) s = .next (after s (modStroke c fun x => { x with
          hiLatch := smPut x.hiLatch (reqNo r + 32 * driveLatch cr) (highHalf (crewSt c cr).driveNo) }))
      ∧ exec (.windowRead r k) s = .next (after s (modCtx c (reqNo r) fun x => { x with
          latches := smPut x.latches k (windowEntry c (reqNo r) k) }))
      ∧ (∀ d : Chip, d.stroke.hiLatch = smPut c.stroke.hiLatch (reqNo r) (highHalf time) →
          highWord d r 0 (highHalf d.stroke.t0) = highHalf time)

/-! ### The cox -/

/-- A mismatch (R226, R234, R246): the crew leaves drive and its reset asserts, the mismatch registers and the
MISMATCH cause are written, and RESTORING is set; at the third mismatch fewer than 1,000 strokes after the first, and
where two uncorrectable errors leave nothing to restore from (R238), the crew is declared faulty instead. Where no
mismatch of the kind can arise, nothing changes; an uncorrectable error of a crew that is faulty already is counted and
the crew stays so. -/
def Claims.MismatchesComplete : Prop :=
  ∀ (s : State) (cr : Crew) (kind : MismatchKind) (cores : BitVec 3) (addr : Word) (e : EccHit) (double : Bool),
    let c := s.chip
    let old := coxSt c cr
    let third := match old.history with
      | _ :: first :: _ => decide ((c.stroke.count - first).toNat < 1000)
      | _ => false
    let lasts := fun (ended : Bool) (where_ : Word) (t : State) =>
      let k := coxSt t.chip cr
      k.mismatches = satInc 0xFFFF old.mismatches ∧ k.history = (c.stroke.count :: old.history).take 3
        ∧ k.lastAddr = where_ ∧ k.lastStroke = c.stroke.count ∧ k.prevStroke = old.lastStroke
        ∧ fld k.last 26 24 = cores.toNat
        ∧ k.faulty = ended ∧ k.restoring = !ended ∧ (crewSt t.chip cr).run = .idle
        ∧ (crewSt t.chip cr).caught = false ∧ bitOf (hdr t.chip (crewPage cr)).cause 0 = true
        ∧ (ended = true → bitOf (hdr t.chip (crewPage cr)).raw 2 = true)
    (canMismatch c cr kind = true → kind ≠ .ecc →
        ∃ t : State, exec (.coxMismatch cr kind cores addr (some e) double) s = .next t
          ∧ lasts third addr t ∧ fld (coxSt t.chip cr).last 31 28 = kindCode kind)
      ∧ (canMismatch c cr .ecc = true → e.dataMem = true → ∃ t : State,
          exec (.coxMismatch cr .ecc cores addr (some e) double) s = .next t
            ∧ (old.faulty = false → lasts (third || double) (BitVec.ofNat 32 e.offset) t)
            ∧ (old.faulty = true → (coxSt t.chip cr).faulty = true
              ∧ (coxSt t.chip cr).mismatches = satInc 0xFFFF old.mismatches)
            ∧ fld (coxSt t.chip cr).last 31 28 = 5
            ∧ (coxSt t.chip cr).uncorrectable =
              (if double then satInc 0xFFFF (satInc 0xFFFF old.uncorrectable) else satInc 0xFFFF old.uncorrectable)
            ∧ (coxSt t.chip cr).eccLast = eccWord e true
            ∧ bitOf (hdr t.chip (crewPage cr)).cause 28 = true)
      ∧ (canMismatch c cr kind = false →
        exec (.coxMismatch cr kind cores addr (some e) double) s = .next (after s c))

/-- A disagreement of the comparators declares the crew faulty at once (R221, R235), and so does every declaration:
the crew stops, FAULTY reads 1, and in RUN and HOLD the module halts or first hands the seat over (R30, R393). -/
def Claims.FaultyCrewsStop : Prop :=
  ∀ (s : State) (cr : Crew),
    let c := s.chip
    let scull := cr = .process ∧ scullOption c = true
    ((coxSt c cr).faulty = false → c.mode.mode.strokes = true → ¬scull →
        exec (.comparatorDisagree cr) s = .next (after s (declareFaulty c cr 1)))
      ∧ ((coxSt c cr).faulty = true ∨ c.mode.mode.strokes = false ∨ scull →
        exec (.comparatorDisagree cr) s = .next (after s c))
      ∧ ∀ reason : Nat,
        let d := declareFaulty c cr reason
        (coxSt d cr).faulty = true ∧ (coxSt d cr).restoring = false ∧ (crewSt d cr).run = .idle
          ∧ bitOf (hdr d (crewPage cr)).raw 2 = true
          ∧ (c.mode.mode.runs = true → paired c = false → d.mode.mode = .safeHalt ∧ d.mode.prev = c.mode.mode)
          ∧ (c.mode.mode.runs = true → d.mode.mode = .safeHalt ∨ d.seat.handover = true)
          ∧ (c.mode.mode.runs = false → d.mode = c.mode)

/-- The end of a CREW reset, the cox's or a commanded one (R226, R227, R251, R612): RESTORING clears with its cause, the
lines and the time stand for the record of the restart catch, the crew is ready to run where the mode runs it, and its
reset source releases. -/
def Claims.RestoresComplete : Prop :=
  ∀ (s : State) (cr : Crew) (lines ns : Nat),
    let c := s.chip
    let resets := inCrewReset c cr = true ∧ (coxSt c cr).faulty = false
    (resets → ∃ t : State, exec (.restartDone cr lines ns) s = .next t
        ∧ inCrewReset t.chip cr = false ∧ (coxSt t.chip cr).awaiting = true
        ∧ (coxSt t.chip cr).lines = lines ∧ (coxSt t.chip cr).restoreNs = ns
        ∧ (crewSt t.chip cr).run =
            (if c.mode.mode.runs && (crewSt t.chip cr).prog.isSome then .running else .idle)
        ∧ bitOf (hdr t.chip (crewPage cr)).cause 1 = true
        ∧ t.chip.rst.asserted.getLsbD (coxSource cr) = false)
      ∧ (¬resets → exec (.restartDone cr lines ns) s = .next (after s c))

/-- Mismatches, faulty crews and restores. -/
def Obligations.CoxCommandsComplete : Prop :=
  Claims.MismatchesComplete ∧ Claims.FaultyCrewsStop ∧ Claims.RestoresComplete

/-! ### Loops and heats -/

/-- What a due loop latches at its tick (R98, R267, R268, R271, R308): its PV source, the loops and image words that its
bindings name, the two bits, its request and what its lane tracks, and STALE counts. `old` is the loop before, `new`
after. -/
def Claims.Latched (c : Chip) (e instant : Nat) (b : LoopBlock) (old new : LoopSt) (t : TickLatch) : Prop :=
  new.latch = some t ∧ t.instant = instant * 40
    ∧ (t.raw, t.invalid, t.count) = pvSource c b.com.pv
    ∧ (∀ y ∈ [b.com.pv, b.com.sp, b.com.ff, b.com.hi, b.com.lo, b.com.man, b.com.trk],
      (y.kind = 5 → smGet 0 t.sources y.index = (loopSt c e y.index).u)
        ∧ (y.kind = 1 → smGet 0 t.words y.index = smGet 0 c.work.words y.index))
    ∧ t.trkBit = (b.com.trkUsed && workBit c b.com.trkBit)
    ∧ t.manBit = (b.com.manUsed && workBit c b.com.manBit) ∧ t.req = old.req
    ∧ t.stale = (if b.com.pv.kind = 1 ∨ b.com.pv.kind = 5 ∨ t.count ≠ old.count then 0
      else satInc 0xFFFF old.tickStale)
    ∧ t.track = (laneOf b).bind (fun k => laneTrack c k.1 k.2)
    ∧ new.started = true ∧ new.req = old.req ∧ new.count = t.count ∧ new.tickStale = t.stale
    ∧ new.manBit = some t.manBit

/-- LOOP_TICK completes on an engine that samples (R98, R267, R268, R271, R276, R280): each loop due at the instant and
not stopped latches, a stopped one takes only its MAN_BIT, and no other loop changes; beside the engine only records of
MAN_BIT appear. Where loops do not sample, nothing changes. -/
def Claims.LoopTickCompletes : Prop :=
  ∀ (s : State) (e : Fin 10) (instant : Nat) (x : LoopSet),
    let c := s.chip
    (sampling c e = true → (eng c e).set = some x → (x.loops.map (·.com.no)).Nodup →
        ∃ t : State, exec (.loopTick e instant) s = .next t ∧ t.pending = s.pending
          ∧ (∀ b ∈ x.loops,
            let due := instant ∈ tickInstants (periodNs c) b.com.ticks
            let old := loopSt c e b.com.no
            let new := loopSt t.chip e b.com.no
            (¬due → new = old)
              ∧ (due → old.stopped = false → ∃ k : TickLatch, Claims.Latched c e instant b old new k)
              ∧ (due → old.stopped = true →
                new = { old with manBit := some (b.com.manUsed && workBit c b.com.manBit) }))
          ∧ (∀ k : Nat, k ≠ e.val → eng t.chip k = eng c k) ∧ (eng t.chip e).set = (eng c e).set
          ∧ t.chip.mode = c.mode ∧ t.chip.stroke = c.stroke ∧ t.chip.img = c.img ∧ t.chip.work = c.work
          ∧ t.chip.sel = c.sel ∧ t.chip.crewS = c.crewS ∧ t.chip.crewP = c.crewP ∧ t.chip.sent = c.sent)
      ∧ (sampling c e = false → exec (.loopTick e instant) s = .next (after s c))

/-- What a completed sample leaves (R256 to R270, R274, R297): the loop takes what the computation gives, the sample is
counted, and the causes of a saturation and of a late sample are set. -/
def Claims.Sampled (c : Chip) (e j delay : Nat) (b : LoopBlock) (tl : TickLatch) (d : Chip) : Prop :=
  let st := loopSt c e j
  let n := loopSt d e j
  let r := (computeSample b (if st.offDone then freshLoop b st else st) tl).1
  n = { r with digOn := n.digOn, offDone := false, latch := none }
    ∧ (eng d e).samples = (eng c e).samples + 1
    ∧ (r.sat = true → bitOf (hdr d (engPage e)).cause 2 = true)
    ∧ (st.dmax * 10 < delay → bitOf (hdr d (engPage e)).cause 4 = true)

/-- What the first tick in OFF leaves (R266). -/
def Claims.SampledOff (c : Chip) (e j : Nat) (b : LoopBlock) (d : Chip) : Prop :=
  let n := loopSt d e j
  n.mode = 0 ∧ n.u = b.com.safe ∧ n.offDone = true ∧ n.latch = none ∧ n.secs = (loopSt c e j).secs

/-- What an uncorrectable error leaves (R280): a stopped loop, its cause and ECC_UNCORR. -/
def Claims.SampleStopped (c : Chip) (e j : Nat) (d : Chip) : Prop :=
  let n := loopSt d e j
  n.stopped = true ∧ n.mode = 0 ∧ n.latch = none ∧ n.u = (loopSt c e j).u
    ∧ bitOf (hdr d (engPage e)).cause 5 = true ∧ bitOf (hdr d (engPage e)).cause 28 = true

/-- A sample of loop `j` can run: a loop of the set, latched and not stopped, on an engine whose samples complete (R272,
R279). -/
def Claims.Ready (c : Chip) (e j : Nat) (b : LoopBlock) (tl : TickLatch) : Prop :=
  loopBlock c e j = some b ∧ (loopSt c e j).latch = some tl ∧ completing c e = true ∧ (loopSt c e j).stopped = false

/-- LOOP_SAMPLE completes on a loop that is ready (R256 to R270, R272, R274, R279, R280): with a request other than OFF
at its tick the sample's own effect; in OFF SAFE at the first tick and nothing later; with a corrected error the same
effect and ECC_CORRECTED (R49); with an uncorrectable error the stop. Without a latched tick, or stopped, a loop samples nothing. -/
def Claims.LoopSampleCompletes : Prop :=
  ∀ (s : State) (e : Fin 8) (j : Fin 64) (delay : Nat) (b : LoopBlock) (tl : TickLatch),
    let c := s.chip
    (Claims.Ready c e j b tl → tl.req ≠ 0 →
        ∃ t : State, exec (.loopSample e j delay none) s = .next t ∧ Claims.Sampled c e j delay b tl t.chip)
      ∧ (Claims.Ready c e j b tl → tl.req ≠ 0 →
        ∃ t : State, exec (.loopSample e j delay (some .corrected)) s = .next t ∧ Claims.Sampled c e j delay b tl t.chip
          ∧ bitOf (hdr t.chip (engPage e)).cause 29 = true)
      ∧ (Claims.Ready c e j b tl → tl.req = 0 → (loopSt c e j).offDone = false →
        ∃ t : State, exec (.loopSample e j delay none) s = .next t ∧ Claims.SampledOff c e j b t.chip)
      ∧ (Claims.Ready c e j b tl → tl.req = 0 → (loopSt c e j).offDone = true →
        exec (.loopSample e j delay none) s = .next (after s
          (modLoop { c with now := none } e j fun n => { n with latch := none })))
      ∧ (∀ off : Nat, Claims.Ready c e j b tl →
        ∃ t : State, exec (.loopSample e j delay (some (.uncorrectable off))) s = .next t ∧ Claims.SampleStopped c e j t.chip)
      ∧ (loopBlock c e j = none ∨ (loopSt c e j).latch = none ∨ completing c e = false ∨ (loopSt c e j).stopped = true →
        ∀ ecc : Option LoopEcc, exec (.loopSample e j delay ecc) s = .next (after s c))

/-- TABLE_SAMPLE completes on a loop of a table engine that is ready, as LOOP_SAMPLE does (R316 to R318, R320). -/
def Claims.TableSampleCompletes : Prop :=
  ∀ (s : State) (t : Fin 2) (j : Fin 16) (delay : Nat) (b : LoopBlock) (tl : TickLatch),
    let c := s.chip
    let e := t.val + 8
    (Claims.Ready c e j b tl → tl.req ≠ 0 →
        ∃ u : State, exec (.tableSample t j delay none) s = .next u ∧ Claims.Sampled c e j delay b tl u.chip)
      ∧ (Claims.Ready c e j b tl → tl.req ≠ 0 →
        ∃ u : State, exec (.tableSample t j delay (some .corrected)) s = .next u
          ∧ Claims.Sampled c e j delay b tl u.chip ∧ bitOf (hdr u.chip (engPage e)).cause 29 = true)
      ∧ (Claims.Ready c e j b tl → tl.req = 0 → (loopSt c e j).offDone = false →
        ∃ u : State, exec (.tableSample t j delay none) s = .next u ∧ Claims.SampledOff c e j b u.chip)
      ∧ (Claims.Ready c e j b tl → tl.req = 0 → (loopSt c e j).offDone = true →
        exec (.tableSample t j delay none) s = .next (after s
          (modLoop { c with now := none } e j fun n => { n with latch := none })))
      ∧ (∀ off : Nat, Claims.Ready c e j b tl →
        ∃ u : State, exec (.tableSample t j delay (some (.uncorrectable off))) s = .next u ∧ Claims.SampleStopped c e j u.chip)
      ∧ (loopBlock c e j = none ∨ (loopSt c e j).latch = none ∨ completing c e = false ∨ (loopSt c e j).stopped = true →
        ∀ ecc : Option LoopEcc, exec (.tableSample t j delay ecc) s = .next (after s c))

/-- LOOP_TICK, LOOP_SAMPLE and TABLE_SAMPLE complete. -/
def Obligations.LoopCommandsComplete : Prop :=
  Claims.LoopTickCompletes ∧ Claims.LoopSampleCompletes ∧ Claims.TableSampleCompletes

/-- The output of a loop stays within its limits (R261): where lo does not exceed hi it is the value clamped between
them, and a limit is reported when it took effect; where lo exceeds hi the output is hi and both are reported. -/
def Obligations.OutputsStayInLimits : Prop :=
  ∀ lo hi x : Int,
    let r := limitOut lo hi x
    (lo ≤ hi → lo ≤ r.u ∧ r.u ≤ hi ∧ (lo ≤ x → x ≤ hi → r.u = x)
        ∧ (r.clampLo = true ↔ x < lo) ∧ (r.clampHi = true ↔ hi < x)
        ∧ (r.clampLo = true → r.u = lo) ∧ (r.clampHi = true → r.u = hi))
      ∧ (hi < lo → r.u = hi ∧ r.clampLo = true ∧ r.clampHi = true)

/-- Rounding and error feedback (R254, R255, R259): the rounded value is the nearest Q15 step, a tie going up; the
output of a section lies in the Q15 range; with EF the residue is what the rounding dropped, at most half a step, and
0 when the output saturated; without EF there is none. -/
def Obligations.ResiduesStaySmall : Prop :=
  ∀ (k : Nat) (sec : Section) (m : SecSt) (x : Int),
    (∀ acc : Int, -16384 ≤ acc - roundQ15 acc * 32768 ∧ acc - roundQ15 acc * 32768 < 16384)
      ∧ (let r := sectionStep k sec m x
        let acc : Int := (sec.b0 * x + sec.b1 * m.x1 + sec.b2 * m.x2 - sec.a1 * m.y1 - sec.a2 * m.y2) * 2 ^ sec.shift
          + (if sec.ef then m.r else (0 : Int))
        (-32768 : Int) ≤ r.2.val ∧ r.2.val ≤ 32767
          ∧ r.1.x1 = x ∧ r.1.x2 = m.x1 ∧ r.1.y1 = r.2.val ∧ r.1.y2 = m.y1
          ∧ (r.2.hit = none → r.2.val = (acc + 16384) / 32768)
          ∧ (r.2.hit ≠ none → r.2.hit = some k ∧ r.1.r = 0 ∧ (r.2.val = -32768 ∨ r.2.val = 32767))
          ∧ (sec.ef = true → r.2.hit = none → r.1.r = acc - r.2.val * 32768)
          ∧ (sec.ef = false → r.1.r = 0)
          ∧ (-16384 : Int) ≤ r.1.r ∧ r.1.r < 16384)

/-- The gain of a table lies between the two points next to the error (R316, R317), which are G[i] and G[i + 1] for
errors 256 apart, and the last point alone from 32,512 on. -/
def Obligations.GainsLieBetweenPoints : Prop :=
  ∀ (g : List Int) (e : Int), -32768 ≤ e → e ≤ 32767 →
    let i := ((e + 32768) / 256).toNat
    let a := g.getD i 0
    let b := g.getD (min (i + 1) 255) 0
    (a ≤ b → a ≤ tableGain g e ∧ tableGain g e ≤ b) ∧ (b ≤ a → b ≤ tableGain g e ∧ tableGain g e ≤ a)
      ∧ ((e + 32768) % 256 = 0 → tableGain g e = a) ∧ (32512 ≤ e → tableGain g e = g.getD 255 0)

/-- A decision of a heat (R303, R304, R306, R307, R312, R314): the arrivals that it has taken in become their lanes'
last, those that wait go into the next, and the heat takes its effective mode, its leader and its output. Where heats
do not decide, the heat is in no set, or no decision is in progress, nothing changes. -/
def Claims.DecisionsComplete : Prop :=
  ∀ (s : State) (h : Fin 16) (late : Bool) (b : HeatBlock),
    let c := s.chip
    let old := heat c h
    let manual := old.req = 2 ∨ (b.manUsed = true ∧ workBit c b.manBit = true)
    let again := enabled c 0x18 && old.lanes.any fun l => l.waiting.isSome
    (heatBlock c h = some b → c.mode.mode.runs = true → working c 0x18 = true → old.deciding ≠ none →
        ∃ t : State, exec (.heatDecision h late) s = .next t
        ∧ (let n := heat t.chip h
          n.req = old.req ∧ n.started = true
            ∧ n.lanes = old.lanes.map (fun l => { l with
                last := l.taken.orElse fun _ => l.last, taken := if again then l.waiting else none, waiting := none })
            ∧ n.deciding = (if again then old.deciding.map (· + 100) else none)
            ∧ (old.req = 0 → n.mode = 0) ∧ (old.req ≠ 0 → manual → n.mode = 2)
            ∧ (old.req ≠ 0 → ¬manual → (n.mode = 1 ∨ n.mode = 3) ∧ (n.mode = 3 ↔ n.warm = true))
            ∧ (n.mode ≠ 1 → n.leader = none ∧ n.noLeader = false)
            ∧ (n.mode = 0 ∨ n.mode = 3 → n.out = b.safe)
            ∧ (n.mode = 2 → n.out =
              if b.man.kind = 0 then old.out else (scaleIn b.man (workWord c b.man.index)).val)
            ∧ (old.req ≠ 0 → ¬manual → old.mode ≠ 0 → old.warm = false → n.mode = 1)
            ∧ (n.mode = 1 →
              let live := liveLanes c b n (·.last)
              let pick := chooseLeader live (if old.mode = 1 then old.leader else none) b.hyst
              n.leader = pick.map (·.1) ∧ n.out = ((pick.map (·.2)).getD b.safe)
                ∧ (n.noLeader = true ↔ live = []))
            ∧ t.chip.sel.decisions = c.sel.decisions + 1))
      ∧ (heatBlock c h = none ∨ c.mode.mode.runs = false ∨ working c 0x18 = false ∨ old.deciding = none →
        exec (.heatDecision h late) s = .next (after s c))

/-- A lane that has delivered but not within LANE_TIMEOUT is timed out (R301, R327, R328), whether or not heats decide,
until it delivers again; a lane that is timed out is not live. -/
def Claims.LaneTimeoutsComplete : Prop :=
  ∀ (s : State) (h : Fin 16) (k : Fin 8) (b : HeatBlock),
    let c := s.chip
    (heatBlock c h = some b → exec (.laneTimeout h k) s = .next (after s
        (laneTimeoutCond (modHeat c h fun x => { x with lanes := listMod x.lanes k fun n =>
          if n.last.isSome ∨ n.taken.isSome ∨ n.waiting.isSome then { n with timedOut := true } else n }))))
      ∧ (heatBlock c h = none → exec (.laneTimeout h k) s = .next (after s c))
      ∧ ∀ (n : LaneSt) (a : Option Arrival), n.timedOut = true → laneLive c b n a k = false

/-- Heat decisions and lane time-outs complete. -/
def Obligations.HeatCommandsComplete : Prop :=
  Claims.DecisionsComplete ∧ Claims.LaneTimeoutsComplete

/-- The leader (R304, R305): it is a live lane; it stays unless another is lower by more than HYST; without an old
leader it is the lowest, the lowest lane number at a tie; and its candidate is never more than HYST above the lowest
one. -/
def Obligations.LeaderStaysNearTheLowest : Prop :=
  ∀ (live : List (Nat × Int)) (old : Option Nat) (hyst : Int), 0 ≤ hyst → (live.map (·.1)).Pairwise (· < ·) →
    (chooseLeader live old hyst = none ↔ live = [])
      ∧ ∀ x : Nat × Int, chooseLeader live old hyst = some x →
        x ∈ live ∧ (∀ y ∈ live, x.2 ≤ y.2 + hyst)
          ∧ ((∀ y ∈ live, old ≠ some y.1) → ∀ y ∈ live, x.2 < y.2 ∨ (x.2 = y.2 ∧ x.1 ≤ y.1))
          ∧ (∀ k ∈ live, old = some k.1 → (∀ y ∈ live, k.2 - hyst ≤ y.2) → x = k)
          ∧ (∀ k ∈ live, old = some k.1 → ∀ y ∈ live, y.2 < k.2 - hyst → x ≠ k)

/-! ### Safety functions -/

/-- The safety channels and switches (R338, R340, R341, R344, R348): a filtered level, a discrepancy that lasts, the
end of a stage test and of a switch test. -/
def Claims.SafetyInputsComplete : Prop :=
  ∀ (s : State) (k : Fin 16) (n o : Fin 8) (level : Bool),
    let c := s.chip
    let failed := modChan c k fun x => { x with stageFault := true, passes := 0 }
    let staged := if (safeCh c k).stageFault then failed else detect failed 2 (k / 2)
    let stuck := if (safeOut c o).stuck then c else detect (modOut c o fun x => { x with stuck := true }) 3 o
    exec (.safetyFilterPass k level) s = .next (after s
        (pairRecheck (modChan c k fun x => { x with level := level }) (k / 2)))
      ∧ (pairAgrees c n = false → exec (.discrepancy n) s = .next (after s
          (detect (modPair c n fun p => { p with present := true, both := false }) 1 n)))
      ∧ (pairAgrees c n = true → exec (.discrepancy n) s = .next (after s c))
      ∧ exec (.stageTest k false) s = .next (after s staged) ∧ exec (.stageFault k) s = .next (after s staged)
      ∧ (∃ t : State, exec (.stageTest k true) s = .next t
        ∧ (safeCh t.chip k).passes = satInc 10 (safeCh c k).passes
        ∧ (safeCh t.chip k).stageFault = ((safeCh c k).stageFault && decide ((safeCh c k).passes + 1 < 10)))
      ∧ ((safeOut c o).high = true → (safeOut c o).low = true →
        exec (.switchTest o false) s = .next (after s stuck))
      ∧ (level = true ∨ (safeOut c o).high = false ∨ (safeOut c o).low = false →
        exec (.switchTest o level) s = .next (after s c))
      ∧ ((safeOut c o).high = false → (safeOut c o).low = false →
        exec (.switchStuck o) s = .next (after s stuck))
      ∧ ((safeOut c o).high = true ∨ (safeOut c o).low = true → exec (.switchStuck o) s = .next (after s c))

/-- The DISCREPANCY fault of a pair goes when both channels have been in demand together since and now agree (R348);
no other pair changes. -/
def Claims.DiscrepancyGoesOnAgreement : Prop :=
  ∀ (c : Chip) (n m : Nat),
    let both := chanDemand c (2 * n) = true ∧ chanDemand c (2 * n + 1) = true
    let d := pairRecheck c n
    ((pairFault d n).present = true ↔ (pairFault c n).present = true
        ∧ ¬((both ∨ (pairFault c n).both = true) ∧ pairAgrees c n = true))
      ∧ (m ≠ n → pairFault d m = pairFault c m)

/-- The reset input (R353 to R356): held 0.5 s to 5 s it gives a valid event that waits for a catch, or is ignored with
a record in a mode without strokes; shorter it is counted and recorded; longer the input is stuck and heeded again only
after it has been freed. -/
def Claims.ResetInputCommandsComplete : Prop :=
  ∀ (s : State) (ms : Nat),
    let c := s.chip
    let r := c.safety.rstIn
    let opened := modReset c fun x => { x with closed := false }
    exec .resetInputClose s = .next (after s (modReset c fun x => { x with closed := true }))
      ∧ (r.closed = true → r.stuck = false → 500 ≤ ms → ms ≤ 5000 →
        let counted := modReset opened fun x => { x with valid := satInc 255 x.valid }
        exec (.resetValid ms) s = .next (after s
          (if c.mode.mode.strokes then modReset counted fun x => { x with waiting := x.waiting ++ [ms] }
            else emit counted 0x20 0x61 0xFFFF 3 (BitVec.ofNat 32 ms) 0 0)))
      ∧ (r.closed = true → r.stuck = false → ms < 500 →
        exec (.resetValid ms) s = .next (after s (emit (raise (modReset opened fun x => { x with
          short := satInc 255 x.short }) 0x20 6) 0x20 0x61 0xFFFF 1 (BitVec.ofNat 32 ms) 0 0)))
      ∧ (r.closed = true → r.stuck = true ∨ 5000 < ms → exec (.resetValid ms) s = .next (after s opened))
      ∧ (r.closed = false → exec (.resetValid ms) s = .next (after s c))
      ∧ (r.closed = true → r.stuck = false → exec .resetStuck s = .next (after s
          (emit (setCond (modReset c fun x => { x with stuck := true, stucks := satInc 255 x.stucks }) 0x20 5 true)
            0x20 0x61 0xFFFF 2 5001 0 0)))
      ∧ (r.closed = false ∨ r.stuck = true → exec .resetStuck s = .next (after s c))
      ∧ (r.stuck = true → exec .resetInputFreed s = .next (after s
          (setCond (modReset c fun x => { x with stuck := false, closed := false }) 0x20 5 false)))
      ∧ (r.stuck = false → exec .resetInputFreed s = .next (after s c))

/-- Safety inputs, discrepancies and the reset input complete. -/
def Obligations.SafetyCommandsComplete : Prop :=
  Claims.SafetyInputsComplete ∧ Claims.DiscrepancyGoesOnAgreement ∧ Claims.ResetInputCommandsComplete

/-- The changes of a safety group at one TF (R349, R350), in the order faults, demand, reset, proof: 0 INHIBITED,
1 AWAIT_PROOF, 2 ARMED, 3 TRIPPED, 4 LOCKED_OUT. No other group changes. -/
def Obligations.GroupsChangeByTheTable : Prop :=
  ∀ (c : Chip) (faults : List (Nat × Nat)) (rst : Bool) (g : Fin 32),
    let d := evalGroup faults rst g c
    let st := (group c g).state
    let next := (group d g).state
    let faulted := ∃ f ∈ faults, groupUses c g f.1 f.2 = true
    let on := groupEnabled c g = true ∧ ¬faulted
    let demand := groupDemand c g ≠ 0
    (∀ h : Nat, h ≠ g → group d h = group c h)
      ∧ (group d g).demand = groupDemand c g
      ∧ (groupEnabled c g = false → st ≠ 4 → next = 0)
      ∧ (faulted → groupEnabled c g = true → next = 4)
      ∧ (faulted → groupEnabled c g = true → st ≠ 4 → bitOf d.backup.lockout g = true)
      ∧ (on → st = 0 → next = if c.safety.firstTf then 1 else 0)
      ∧ (on → st = 1 → demand → next = 1)
      ∧ (on → st = 1 → ¬demand → next = if (proofPairs c g).all fun n =>
          (group c g).proofSeen.getLsbD n || c.safety.caughtDemand.getLsbD n then 2 else 1)
      ∧ (on → st = 2 → next = if groupDemand c g = 0 then 2 else 3)
      ∧ (on → st = 3 → demand → next = 3)
      ∧ (on → st = 3 → ¬demand → bitOf (grpCfg c 0 g) 30 = true → next = if rst then 2 else 3)
      ∧ (on → st = 3 → ¬demand → bitOf (grpCfg c 0 g) 30 = false → next = 2 ∨ next = 3)
      ∧ (¬faulted → st = 4 → next =
          if rst && groupClean c g then (if c.mode.mode.runs then 1 else 0) else 4)

/-- A safety output is energised only where it is used, the safety block works, its bit in the latch is 1, an enabled
group that has it is ARMED, and the mode runs without safe values and without an overrun (R113, R336, R342, R347,
R349); a shorted one never closes its low-side switch (R345). -/
def Obligations.OutputsNeedAnArmedGroup : Prop :=
  ∀ (c : Chip) (o : Nat),
    let n := safeOut (outCommand c o) o
    (n.nextHigh = true → bitOf (outCfg c o) 31 = true
        ∧ smGet false c.latch.bits (fld (outCfg c o) 15 0) = true
        ∧ working c 0x20 = true
        ∧ c.mode.mode.runs = true ∧ c.stroke.safeLatchS = false ∧ c.stroke.haltAtStrobe = false
        ∧ ∃ g < 32, groupEnabled c g = true ∧ o ∈ groupOuts c g ∧ (group c g).state = 2)
      ∧ (n.nextLow = true → n.nextHigh = true ∧ (safeOut c o).lowOpen = false)

/-- The checks on a copy of a Zwistra frame (R361), in their order. A copy that a check discards is counted and does
nothing else; one that passes meets the skew window. A copy that a connection of the module's own sent shows its epoch
besides (R390). Its time of arrival is free (log entry 1). -/
def Claims.ZwistraChecksInOrder : Prop :=
  ∀ (s : State) (netA : Bool) (bs : List Byte) (k : Nat),
    let c := s.chip
    let now := c.stroke.t0 + Config.freeNat c.fresh
    let d : Chip := { c with fresh := c.fresh + 1 }
    let z := zwConn c k
    let seq := BitVec.ofNat 32 (beAt bs 0xC 4)
    let epoch := beAt bs 8 4
    let here := enabled c 0x21 = true ∧ zwShapeOk netA bs = true ∧ zwMatch c bs = some k
    let crcOk := (zwCrc (zwCfg c k 1) (zwPdu bs)).toNat = beAt bs 0x38 4
    let old := (epoch = z.epoch.toNat ∧ z.seen = true ∧ newerSeq seq z.seq = false)
      ∨ (epoch, seq.toNat) ∈ z.dropped
    let aged := fld (zwCfg c k 2) 15 0 ≠ 0 ∧ (beAt bs 7 1).testBit 1 = true ∧ c.stroke.sync = .locked
      ∧ beAt bs 0x10 8 + fld (zwCfg c k 2) 15 0 * 1000000 < now
    let i := Instr.zwistraCopy netA bs
    let leaves := fun x : Chip =>
      after s (if (zwOwn c bs).isSome then newerEpoch x 2 (BitVec.ofNat 32 epoch) else x)
    (enabled c 0x21 = false → exec i s = .next (after s d))
      ∧ (enabled c 0x21 = true → zwShapeOk netA bs = false → exec i s = .next (after s (zwDiscard d none 1)))
      ∧ (enabled c 0x21 = true → zwShapeOk netA bs = true → zwMatch c bs = none →
        exec i s = .next (leaves (zwDiscard d none 1)))
      ∧ (here → ¬crcOk → exec i s = .next (leaves (zwDiscard d (some k) 1)))
      ∧ (here → crcOk → epoch < z.epoch.toNat → exec i s = .next (leaves (zwDiscard d (some k) 2)))
      ∧ (here → crcOk → z.epoch.toNat ≤ epoch → old → exec i s = .next (leaves d))
      ∧ (here → crcOk → z.epoch.toNat ≤ epoch → ¬old → aged → exec i s = .next (leaves (zwDiscard d (some k) 4)))
      ∧ (here → crcOk → z.epoch.toNat ≤ epoch → ¬old → ¬aged →
        exec i s = .next (leaves (zwWindow d k netA bs now)))

/-- The skew window, its close, and the watchdog of a connection (R363, R364, R367). -/
def Claims.ZwistraWindowsComplete : Prop :=
  ∀ (s : State) (k : Fin 256) (net netA : Bool) (p bs : List Byte) (t now : Nat),
    let c := s.chip
    let pdu := zwPdu bs
    let same := beAt p 4 4 = beAt pdu 4 4 ∧ beAt p 8 4 = beAt pdu 8 4
    let newer := beAt p 4 4 < beAt pdu 4 4 ∨ (beAt p 4 4 = beAt pdu 4 4
      ∧ newerSeq (BitVec.ofNat 32 (beAt pdu 8 4)) (BitVec.ofNat 32 (beAt p 8 4)) = true)
    let isOpen := (zwConn c k).window = some (net, p, t)
    (isOpen → bitOf (zwCfg c k 0) 29 = true →
        exec (.skewWindowClose k) s = .next (after s (modZw c k fun z => { z with
          window := none, dropped := (beAt p 4 4, beAt p 8 4) :: z.dropped, singles := satInc 255 z.singles })))
      ∧ (isOpen → bitOf (zwCfg c k 0) 29 = false →
        exec (.skewWindowClose k) s = .next (after s (zwAccept c k p true 0)))
      ∧ ((zwConn c k).window = none → exec (.skewWindowClose k) s = .next (after s c))
      ∧ (zwState c k = 2 → zwSends c k = false →
        exec (.zwistraWatchdog k) s = .next (after s (zwConds (zwTo c k 3))))
      ∧ (zwState c k ≠ 2 ∨ zwSends c k = true → exec (.zwistraWatchdog k) s = .next (after s c))
      ∧ ((zwConn c k).window = none → zwWindow c k netA bs now
          = modZw c k fun z => { z with window := some (netA, pdu, now) })
      ∧ (isOpen → same → net ≠ netA → p = pdu → zwWindow c k netA bs now = zwAccept c k pdu false (now - t))
      ∧ (isOpen → same → net ≠ netA → p ≠ pdu → zwWindow c k netA bs now = zwMismatch c k p pdu (now - t))
      ∧ (isOpen → same → net = netA → zwWindow c k netA bs now = c)
      ∧ (isOpen → ¬same → newer → zwWindow c k netA bs now
          = modZw (zwWindowClose c k) k fun z => { z with window := some (netA, pdu, now) })
      ∧ (isOpen → ¬same → ¬newer → zwWindow c k netA bs now = c)

/-- Zwistra copies are checked in order, and windows and watchdogs complete. -/
def Obligations.ZwistraCommandsComplete : Prop :=
  Claims.ZwistraChecksInOrder ∧ Claims.ZwistraWindowsComplete

/-- What an acceptance and a mismatch leave of a connection (R363 to R365): an acceptance of both copies lengthens the
run and one alone breaks it, sixteen in a row clear the fault, and a connection in FAULT delivers no data. -/
def Obligations.ZwistraAcceptances : Prop :=
  ∀ (c : Chip) (k : Nat) (a b : List Byte) (single : Bool) (skew : Nat),
    let z := zwConn c k
    let n := zwConn (zwAccept c k a single skew) k
    let bad := zwMismatch c k a b skew
    let m := zwConn bad k
    n.state = 2 ∧ n.seen = true ∧ n.window = none ∧ n.single = single
      ∧ n.seq = BitVec.ofNat 32 (beAt a 8 4) ∧ n.epoch = BitVec.ofNat 32 (beAt a 4 4)
      ∧ n.equalRun = (if single then 0 else min 16 (z.equalRun + 1))
      ∧ (n.fault = true ↔ z.fault = true ∧ (single = true ∨ z.equalRun + 1 < 16))
      ∧ (z.fault = true → n.data = none) ∧ (z.fault = false → n.data = some (zwDataOf a))
      ∧ m.fault = true ∧ m.equalRun = 0 ∧ m.data = none ∧ m.window = none
      ∧ m.mismatches = satInc 255 z.mismatches
      ∧ n.lastSkew = (if single then z.lastSkew else min 0xFFFF (skew / 1000)) ∧ m.lastSkew = min 0xFFFF (skew / 1000)
      ∧ (6, k) ∈ bad.safety.detected ∧ bitOf (hdr bad 0x21).cause 1 = true

/-! ### The pair -/

/-- Records of the Aderoth link (R394, R395): while the pair works and a lane is up, a record of the right TYPE, LENGTH
and CRC is taken, which shows its epoch and ends the silence; any other is discarded and counted. Without a link
nothing arrives. -/
def Claims.RecordsAreTakenOrCounted : Prop :=
  ∀ (s : State) (bs : List Byte) (n : Nat) (b : Bool),
    let c := s.chip
    let link := pairOn c = true ∧ c.seat.laneUp ≠ 0
    let lost := modPairCnt c fun p => { p with
      crcErrors := satInc 0xFFFF p.crcErrors, crcStrokes := (c.stroke.count :: p.crcStrokes).take 17 }
    let claim := fun (i : Instr) (type : Nat) =>
      (¬link → exec i s = .next (after s c)) ∧ (link → readRecord type bs = none → exec i s = .next (after s lost))
    claim (.helloReceive bs) 0x01 ∧ claim (.leaseReceive bs) 0x02 ∧ claim (.ackReceive bs) 0x03
      ∧ claim (.outputReceive bs b) 0x04 ∧ claim (.ckptHead bs) 0x10 ∧ claim (.ckptLine bs) 0x11
      ∧ claim (.ckptEnd bs) 0x12 ∧ claim (.offerReceive bs n) 0x20 ∧ claim (.take bs) 0x21
      ∧ claim (.syncReqReceive bs) 0x22
      ∧ (link → exec .discardedRecord s = .next (after s lost)) ∧ (¬link → exec .discardedRecord s = .next (after s c))

/-- What the lease, HELLO, ACK, OUTPUT, TAKE and SYNC_REQ records do once taken (R385, R390, R391, R394 to R396, R402,
R408, R417, R424). -/
def Claims.RecordsComplete : Prop :=
  ∀ (s : State) (bs : List Byte) (r : ARec), pairOn s.chip = true → s.chip.seat.laneUp ≠ 0 →
    let c := s.chip
    let d := heardEpoch (modSeat c fun x => { x with silent := 0 }) r.epoch
    let word := fun at_ : Nat => BitVec.ofNat 32 (beAt r.payload at_ 4)
    let skewed := fun x : Chip => if c.mode.mode = .standby then
      rxDeadline (modMirror x fun m => { m with skew := c.stroke.count - r.stroke }) r.stroke else x
    let out : OutStates := ⟨BitVec.ofNat 48 (beAt r.payload 0 8), BitVec.ofNat 8 (beAt r.payload 8 1),
      BitVec.ofNat 8 (beAt r.payload 9 1)⟩
    let follows := c.mode.mode = .standby ∨ c.mode.mode = .takeover
    let floor := if c.backup.epoch < d.backup.partnerEpoch then d.backup.partnerEpoch else c.backup.epoch
    let offered := c.seat.handover = true ∧ c.seat.holds = true ∧ (c.mode.mode.runs = true ∨ c.mode.mode = .stop)
      ∧ c.stroke.phase = .recovery ∧ c.seat.offers ≠ 0 ∧ c.seat.handoverAfter = c.stroke.count
      ∧ word 4 = c.stroke.count
    (readRecord 0x02 bs = some r → exec (.leaseReceive bs) s = .next (after s (newerEpoch (skewed
        (modSeat d fun x => { x with leaseHeard := x.leaseHeard || decide (c.backup.epoch ≤ r.epoch) })) 0 r.epoch)))
      ∧ (readRecord 0x01 bs = some r → ∃ t : State, exec (.helloReceive bs) s = .next t
        ∧ (c.seat.holds = false → t.chip.seat.partner = some (helloOf r.payload) ∧ t.chip.seat.lost = false
          ∧ t.chip.seat.partnerRole = (helloOf r.payload).role ∧ t.chip.mode = c.mode
          ∧ c.backup.partnerEpoch ≤ t.chip.backup.partnerEpoch ∧ r.epoch ≤ t.chip.backup.partnerEpoch
          ∧ (helloOf r.payload).epoch ≤ t.chip.backup.partnerEpoch))
      ∧ (readRecord 0x03 bs = some r → c.seat.holds = false → exec (.ackReceive bs) s = .next (after s d))
      ∧ (readRecord 0x03 bs = some r → c.seat.holds = true → word 0 ≠ 0 → c.pairCnt.acked ≠ some (word 0) →
        exec (.ackReceive bs) s = .next (after s (partnerReports (modMirror
          (modPairCnt d fun p => { p with acked := some (word 0) }) fun m => { m with
            age := 0, lastStroke := word 0 }) (word 4))))
      ∧ (readRecord 0x03 bs = some r → c.seat.holds = true → word 0 = 0 ∨ c.pairCnt.acked = some (word 0) →
        exec (.ackReceive bs) s = .next (after s (partnerReports d (word 4))))
      ∧ (readRecord 0x04 bs = some r → follows → floor ≤ r.epoch →
        exec (.outputReceive bs true) s = .next (after s (modSeat d fun x => { x with
            quiet := 0, outPending := some out, lastStrobe := some r.stroke }))
          ∧ exec (.outputReceive bs false) s = .next (after s (applyPaired (modSeat d fun x => { x with
            quiet := 0, outDriven := true, outStates := out, outPending := none }))))
      ∧ (readRecord 0x04 bs = some r → ¬follows ∨ r.epoch < floor → ∀ b : Bool,
        exec (.outputReceive bs b) s = .next (after s d))
      ∧ (readRecord 0x21 bs = some r → offered →
        exec (.take bs) s = .next (after s (modSeat d fun x => { x with takeEpoch := some (word 0) })))
      ∧ (readRecord 0x21 bs = some r → ¬offered →
        exec (.take bs) s = .next (after s (newerEpoch d 0 (word 0))))
      ∧ (readRecord 0x22 bs = some r → compatible c = true →
        exec (.syncReqReceive bs) s = .next (after s (startStreaming d)))
      ∧ (readRecord 0x22 bs = some r → compatible c = false → exec (.syncReqReceive bs) s = .next (after s d))

/-- What comes of a checkpoint `k` once a record of it has been taken (R404, R405): it is kept while records are
wanting; incomplete on a base that it does not follow; else it waits to be applied, and an ACK leaves. -/
def Claims.Judged (e : Chip) (k : Ckpt) (t : Chip) : Prop :=
  let f := modMirror e fun m => { m with rx := m.rx.filter fun x => x.stroke != k.stroke }
  let whole := k.headed = true ∧ k.ended = some k.count ∧ k.lines.length = k.count
  let follows := e.mirror.anyBase = true ∨ e.mirror.lastComplete = some k.base
  (¬whole → t = modMirror f fun m => { m with rx := m.rx ++ [k] })
    ∧ (whole → ¬follows → t = ckptIncomplete f 2 k.count)
    ∧ (whole → follows → e.mirror.replay = none → t = sendAck (modMirror f fun m => { m with
        anyBase := false, lastComplete := some k.stroke, done := m.done ++ [k] }))

/-- Checkpoint records (R397, R404, R405): a compatible standby collects head, lines and end in any order; those of a
checkpoint that it has whole change nothing, and a record of a stroke ends the wait for checkpoints two strokes older.
-/
def Claims.CheckpointRecordsComplete : Prop :=
  ∀ (s : State) (bs : List Byte) (r : ARec), pairOn s.chip = true → s.chip.seat.laneUp ≠ 0 →
    let c := s.chip
    let d := heardEpoch (modSeat c fun x => { x with silent := 0 }) r.epoch
    let e := rxDeadline (gotCkptRecord d) r.stroke
    let old := rxOf e r.stroke
    let p := r.payload
    let takes := takesCkpt c = true
    let due := takes ∧ e.mirror.lastComplete ≠ some r.stroke
    (readRecord 0x10 bs = some r → due → ∃ t : Chip, exec (.ckptHead bs) s = .next (after s t) ∧ Claims.Judged e
        { old with base := BitVec.ofNat 32 (beAt p 4 4), count := beAt p 0 2, slice := beAt p 2 1
                   paddle := decide (beAt p 3 1 % 2 = 1), headed := true } t)
      ∧ (readRecord 0x11 bs = some r → due → ∃ t : Chip, exec (.ckptLine bs) s = .next (after s t) ∧ Claims.Judged e
        { old with lines := smPut old.lines (beAt p 0 2 * 4 + beAt p 2 1 % 4) (slice p 16 256) } t)
      ∧ (readRecord 0x12 bs = some r → due → ∃ t : Chip, exec (.ckptEnd bs) s = .next (after s t) ∧ Claims.Judged e
        { old with ended := some (beAt p 0 2), latchS := BitVec.ofNat 32 (beAt p 4 4)
                   latchP := BitVec.ofNat 32 (beAt p 8 4) } t)
      ∧ (takes → e.mirror.lastComplete = some r.stroke →
        (readRecord 0x10 bs = some r → exec (.ckptHead bs) s = .next (after s e))
        ∧ (readRecord 0x11 bs = some r → exec (.ckptLine bs) s = .next (after s e))
        ∧ (readRecord 0x12 bs = some r → exec (.ckptEnd bs) s = .next (after s e)))
      ∧ (∀ x : Ckpt, x ∈ e.mirror.rx ↔ x ∈ c.mirror.rx
          ∧ ¬(2 ≤ (r.stroke - x.stroke).toNat ∧ (r.stroke - x.stroke).toNat < 2147483648))
      ∧ (¬takes → (readRecord 0x10 bs = some r → exec (.ckptHead bs) s = .next (after s d))
        ∧ (readRecord 0x11 bs = some r → exec (.ckptLine bs) s = .next (after s d))
        ∧ (readRecord 0x12 bs = some r → exec (.ckptEnd bs) s = .next (after s d)))

/-- An OFFER (R385, R417): a READY standby that holds the checkpoint offered, can still apply what it has and has an
epoch left writes its epoch, answers with TAKE and enters TAKEOVER; any other does nothing. -/
def Claims.OffersAreTaken : Prop :=
  ∀ (s : State) (bs : List Byte) (left : Nat) (r : ARec), pairOn s.chip = true → s.chip.seat.laneUp ≠ 0 →
    readRecord 0x20 bs = some r →
    let c := s.chip
    let d := heardEpoch (modSeat c fun x => { x with silent := 0 }) r.epoch
    let k := BitVec.ofNat 32 (beAt r.payload 0 4)
    let lines := (c.mirror.done.map (·.count)).foldl (· + ·) 0
    let able := c.mode.mode = .standby ∧ ready d = true ∧ exhausted d = false ∧ c.mirror.replay = none
      ∧ 20000 < left ∧ 50000 + 45 * lines < left ∧ c.mirror.lastComplete = some k
    (able → ready (applyAll d) = true → (applyAll d).mirror.lastStroke = k →
        ∃ t : State, exec (.offerReceive bs left) s = .next t
          ∧ t.chip.backup.epoch = (writeEpoch (applyAll d)).backup.epoch
          ∧ (t.chip.mode.mode = .takeover ∨ t.chip.mode.mode = .safeHalt)
          ∧ (holdsCkpt (applyAll d) = true → t.chip.mode.mode = .takeover ∧ t.chip.seat.byHandover = true))
      ∧ (¬able → exec (.offerReceive bs left) s = .next (after s d))

/-- Records of the pair links are taken or counted. -/
def Obligations.PairRecordsComplete : Prop :=
  Claims.RecordsAreTakenOrCounted ∧ Claims.RecordsComplete ∧ Claims.CheckpointRecordsComplete
    ∧ Claims.OffersAreTaken

/-- The lease (R391, R392, R409): a judgment with a lease starts the count anew, one without counts once a lease has
been seen; LEASE + 1 in a row lead to TAKEOVER; LEASE + 1 valid ones without an OUTPUT record release the paired
stages; a module from CONFIG starts by STOP and START of the Boathouse. -/
def Obligations.LeaseCommandsComplete : Prop :=
  ∀ s : State,
    let c := s.chip
    let x := c.seat
    let limit := leaseStrokes c + 1
    let judged := c.mode.mode = .standby ∧ c.stroke.phase = .catch_
    (judged → x.leaseHeard = true → exec .leaseJudgment s = .next (after s { c with seat := { x with
        leaseHeard := false, leaseSeen := true, leaseMiss := 0, waited := x.waited + 1, quiet := x.quiet + 1 } }))
      ∧ (judged → x.leaseHeard = false → x.leaseSeen = true →
        exec .leaseJudgment s = .next (after s { c with seat := { x with
          leaseMiss := satInc 255 x.leaseMiss, waited := x.waited + 1, quiet := 0 } }))
      ∧ (judged → x.leaseHeard = false → x.leaseSeen = false →
        exec .leaseJudgment s = .next (after s { c with seat := { x with
          leaseMiss := 0, waited := x.waited + 1, quiet := 0 } }))
      ∧ (¬judged → exec .leaseJudgment s = .next (after s c))
      ∧ (c.mode.mode = .standby → limit ≤ x.leaseMiss → ∃ t : State, exec .leaseExpiry s = .next t
        ∧ (holdsCkpt c = true → t.chip.mode.mode = .takeover ∧ t.chip.mode.prev = .standby)
        ∧ (holdsCkpt c = false → t.chip.mode.mode = .safeHalt ∧ t.chip.mode.prev = .takeover
          ∧ bitOf (hdr t.chip 0x28).cause 10 = true))
      ∧ (c.mode.mode ≠ .standby ∨ x.leaseMiss < limit → exec .leaseExpiry s = .next (after s c))
      ∧ (c.mode.mode = .standby → limit ≤ x.quiet → x.outDriven = true →
        exec .pairedStageRelease s = .next (after s (applyPaired { c with seat := { x with
          outDriven := false, outPending := none } })))
      ∧ (c.mode.mode ≠ .standby ∨ x.quiet < limit ∨ x.outDriven = false →
        exec .pairedStageRelease s = .next (after s c))
      ∧ (autostartDue c = true → exec .autostartWaitExpiry s = .next (after s
          (writeReg (writeReg c .boathouse 4 0x044 2) .boathouse 4 0x044 1)))
      ∧ (autostartDue c = false → exec .autostartWaitExpiry s = .next (after s c))

/-- Checkpoints applied and paddle strokes (R406, R415, R421, R422): the oldest complete checkpoint goes into the
mirror unless a replay holds it back; a recorded one is replayed in a recovery, compared and then applied. -/
def Claims.MirrorCommandsComplete : Prop :=
  ∀ (s : State) (ck : Ckpt) (rest : List Ckpt),
    let c := s.chip
    let taken := modMirror c fun m => { m with done := rest }
    let free := c.mode.mode = .standby ∧ c.mirror.replay = none
    let ended := modMirror (paddleRestore c) fun m => { m with
      replay := none, done := ck :: m.done, runs := satInc 0xFFFF m.runs }
    let faulted := (c.crewS.cores.any (·.faulted) || c.crewP.cores.any (·.faulted)) = true
    (free → c.mirror.done = ck :: rest → exec .checkpointApply s = .next (after s (applyCkpt taken ck)))
      ∧ (¬free ∨ c.mirror.done = [] → exec .checkpointApply s = .next (after s c))
      ∧ (free → c.stroke.phase = .recovery → c.stroke.capturing = false → c.mirror.done = ck :: rest → ck.paddle = true →
        exec .paddleReplay s = .next (after s
          (replayCrew (replayCrew (modMirror c fun m => { m with replay := some ck, done := rest })
            .safety ck 0) .process ck 1)))
      ∧ (¬free ∨ c.stroke.phase ≠ .recovery ∨ c.stroke.capturing = true ∨ c.mirror.done = []
          ∨ (c.mirror.done = ck :: rest ∧ ck.paddle = false) →
        exec .paddleReplay s = .next (after s c))
      ∧ (c.mirror.replay = some ck → ¬faulted → replayEnded c = true → paddleDiff c ck = none →
        exec .paddleReplayEnd s = .next (after s (checkpointApply
          (pairConds (modMirror ended fun m => { m with result := 1, paddleOk := true })))))
      ∧ (∀ (n : Nat) (w : Word), c.mirror.replay = some ck → ¬faulted → replayEnded c = true →
        paddleDiff c ck = some (n, w) →
        exec .paddleReplayEnd s = .next (after s (checkpointApply (paddleFail ended n ck.stroke w))))
      ∧ (c.mirror.replay = some ck → faulted →
        exec .paddleReplayEnd s = .next (after s (checkpointApply (paddleFail ended 6 ck.stroke 0))))
      ∧ (c.mirror.replay = none ∨ (¬faulted ∧ replayEnded c = false) → exec .paddleReplayEnd s = .next (after s c))
      ∧ (∀ (n : Nat) (st w : Word), let d := paddleFail c n st w
          d.mirror.paddleOk = false ∧ d.mirror.whole = false ∧ d.mirror.result = n
            ∧ d.mirror.fails = satInc 255 c.mirror.fails ∧ bitOf (hdr d 0x28).cause 7 = true)

/-- TAKEOVER (R385, R415): the complete checkpoints are applied; a module without one, or whose epochs are used up,
halts; any other writes its epoch, unless the seat was handed over, and is due to enter RUN at the next T0. -/
def Claims.TakeoverCompletes : Prop :=
  ∀ s : State,
    let c := s.chip
    let d := applyAll c
    let due := fun x : Chip => modSeat x fun y => { y with takeDue := true }
    let ready := c.mode.mode = .takeover ∧ c.seat.takeDue = false ∧ c.mirror.replay = none
    (ready → holdsCkpt d = false → exec .takeover s = .next (after s (enterMode (raise d 0x28 10) .safeHalt 29)))
      ∧ (ready → holdsCkpt d = true → d.seat.byHandover = false → exhausted d = true →
        exec .takeover s = .next (after s (enterMode d .safeHalt 29)))
      ∧ (ready → holdsCkpt d = true → d.seat.byHandover = false → exhausted d = false →
        exec .takeover s = .next (after s (due (writeEpoch d))))
      ∧ (ready → holdsCkpt d = true → d.seat.byHandover = true → exec .takeover s = .next (after s (due d)))
      ∧ (c.mode.mode ≠ .takeover ∨ c.seat.takeDue = true → exec .takeover s = .next (after s c))

/-- The T0 after the steps of TAKEOVER (R390, R415, R416, R429): the module enters RUN and holds the seat under the
epoch that it has written, its takings counted with their cause. -/
def Claims.SeatIsTakenAtTheTick : Prop :=
  ∀ c : Chip, c.mode.mode = .takeover → crewFaulty c = false →
    let d := seatEntered c
    (c.seat.takeDue = true → d.mode.mode = .run ∧ d.mode.prev = .takeover ∧ d.seat.holds = true
        ∧ d.seat.takeDue = false ∧ d.backup.epoch = c.backup.epoch
        ∧ d.pairCnt.takeCause = (if c.seat.byHandover then 2 else 1)
        ∧ d.pairCnt.takeCount = satInc 0xFFFF c.pairCnt.takeCount)
      ∧ (c.seat.takeDue = false → d = c)

/-- The mirror, the paddle and the takeover complete. -/
def Obligations.MirrorCommandsComplete : Prop :=
  Claims.MirrorCommandsComplete ∧ Claims.TakeoverCompletes ∧ Claims.SeatIsTakenAtTheTick

/-- A new epoch is higher than every epoch known (R385): the own one, the partner's and any seen in a beacon; a module
has none left when one of the three is the highest there is. -/
def Obligations.EpochsGrow : Prop :=
  ∀ c : Chip,
    (exhausted c = true ↔ c.backup.epoch = 0xFFFFFFFF ∨ c.backup.partnerEpoch = 0xFFFFFFFF
        ∨ c.seat.beaconEpoch = 0xFFFFFFFF)
      ∧ (exhausted c = false →
        let e := (writeEpoch c).backup.epoch
        c.backup.epoch < e ∧ c.backup.partnerEpoch < e ∧ c.seat.beaconEpoch < e
          ∧ ∀ x : Word, c.backup.epoch < x → c.backup.partnerEpoch < x → c.seat.beaconEpoch < x → e ≤ x)

/-- A newer epoch (R390): a seat holder that sees one higher than its own raises NEWER_EPOCH; in RUN, HOLD or STOP it
becomes a standby, in SAFE_HALT it stays and lets the seat go. Any other epoch changes nothing. -/
def Obligations.NewerEpochsTakeTheSeat : Prop :=
  ∀ (c : Chip) (src : Nat) (e : Word), c.seat.takeEpoch = none →
    let d := newerEpoch c src e
    let seen := paired c = true ∧ c.seat.holds = true ∧ c.backup.epoch < e
    let drives := c.mode.mode = .run ∨ c.mode.mode = .hold ∨ c.mode.mode = .stop
    (seen → drives → d.mode.mode = .standby ∧ d.mode.prev = c.mode.mode ∧ d.seat.holds = false
        ∧ bitOf (hdr d 0x28).cause 5 = true)
      ∧ (seen → c.mode.mode = .safeHalt → d.mode = c.mode ∧ d.seat.holds = false
        ∧ bitOf (hdr d 0x28).cause 5 = true)
      ∧ (¬seen ∨ ¬(drives ∨ c.mode.mode = .safeHalt) → d = c)

/-- The other commands of the pair (R388 to R390, R395, R398, R417 to R419, R423): beacons, HELLO, OFFER, lanes, a lost
partner and self-tests. -/
def Obligations.PairCommandsComplete : Prop :=
  ∀ (s : State) (net n : Fin 2) (bs : List Byte) (test : Fin 8) (ok : Bool) (h : Hello),
    let c := s.chip
    let e := BitVec.ofNat 32 (beAt bs 8 4)
    let hears := pairOn c = true ∧ netServes c net = true ∧ beaconOk c bs = true
    let seen := modSeat c fun x => { x with beaconEpoch := if x.beaconEpoch < e then e else x.beaconEpoch }
    let offers := c.seat.handover = true ∧ c.seat.holds = true ∧ (c.mode.mode.runs = true ∨ c.mode.mode = .stop)
      ∧ c.stroke.phase = .recovery ∧ c.stroke.capturing = false ∧ c.stroke.count ≠ c.seat.handoverAfter
      ∧ c.mirror.streamed.head?.map (·.1) = some c.stroke.count ∧ c.seat.offers < 16
    let lost := pairOn c = true ∧ c.seat.lost = false ∧ leaseStrokes c ≤ c.seat.silent
    let fails := fun b : Bool => pairConds (modMirror c fun m => { m with selftestFails :=
      if b then m.selftestFails &&& ~~~(1#8 <<< (test : Nat)) else m.selftestFails ||| (1#8 <<< (test : Nat)) })
    (hears → beAt bs 3 1 = b2n (sideB c) →
        exec (.seatBeaconReceive net bs) s = .next (after s (newerEpoch seen 1 e)))
      ∧ (hears → beAt bs 3 1 ≠ b2n (sideB c) →
        exec (.seatBeaconReceive net bs) s = .next (after s
          (let d := heardEpoch (modSeat seen fun x => { x with
            partnerRole := beAt bs 6 1
            leaseHeard := x.leaseHeard || (beAt bs 6 1 == 1 && decide (c.backup.epoch ≤ e)) }) e
          newerEpoch (if beAt bs 6 1 = 2 ∧ c.seat.holds = true then partnerReports d (BitVec.ofNat 32 (beAt bs 12 4))
            else d) 1 e)))
      ∧ (¬hears → exec (.seatBeaconReceive net bs) s = .next (after s c))
      ∧ (let d := sendRecord c 0x01 (recStroke c) (helloPayload c)
        exec .hello s = .next (after s
          (if c.mode.mode = .standby ∧ c.mirror.syncSent = true then sendSyncReq d else d)))
      ∧ (offers → exec .offer s = .next (after s (sendRecord (modSeat c fun x => { x with
          offers := x.offers + 1, handoverAfter := c.stroke.count }) 0x20 c.stroke.count
          (beBytes 4 c.stroke.count.toNat ++ List.replicate 12 0))))
      ∧ (¬offers → exec .offer s = .next (after s c))
      ∧ (lanesWork c = true → exec (.laneDown n) s = .next (after s
          (pairConds (modSeat c fun x => { x with laneUp := x.laneUp &&& ~~~(1#2 <<< (n : Nat)) }))))
      ∧ (lanesWork c = true → c.seat.laneUp.getLsbD n = false → exec (.laneUp n) s = .next (after s
          (pairConds (sendHello (modSeat c fun x => { x with laneUp := x.laneUp ||| (1#2 <<< (n : Nat)) })))))
      ∧ (c.seat.laneUp.getLsbD n = true → exec (.laneUp n) s = .next (after s c))
      ∧ (lanesWork c = false → exec (.laneDown n) s = .next (after s c) ∧ exec (.laneUp n) s = .next (after s c))
      ∧ (c.seat.partner = some h → lost → exec .partnerLost s = .next (after s
          (pairConds (partnerState (modSeat c fun x => { x with lost := true }) 0 h))))
      ∧ (c.seat.partner = none ∨ ¬lost → exec .partnerLost s = .next (after s c))
      ∧ (c.mode.mode = .standby → exec (.selftest test ok) s = .next (after s
          (fails (if (test : Nat) = 4 then linkClean c else if (test : Nat) = 5 then !cellLow c else if (test : Nat) = 7 then sensorsOk c else ok))))
      ∧ (c.mode.mode ≠ .standby → exec (.selftest test ok) s = .next (after s c))

/-! ### The field -/

/-- What the digital channels sense (R436, R438, R442 to R444, R462 to R465): the debounced level, open wires,
overloads and over-temperatures; the flags, their records and the conditions follow every change. -/
def Claims.ChannelCommandsComplete : Prop :=
  ∀ (s : State) (ch : Fin 48) (level : Bool),
    let c := s.chip
    let g := (ch : Nat) / 12
    let m := gangMaster c ch
    let set := fun f : DigCh → DigCh => digRefresh (modDig c ch f) g
    let inOpen := digMode c ch = 1 ∧ digOwEn c ch = true ∧ (digCh c ch).level = false
    let outOpen := digMode c ch = 2 ∧ m = ch ∧ digOwEn c ch = true ∧ (digFs c g).held = false
      ∧ ¬(digPaired c ch = true ∧ stageOn c ch = true)
    let heats := digMode c ch = 2 ∧ (digFs c g).state ≠ 2 ∧ (digCh c m).overtemp = false
    fieldRests c.mode.mode = false → (digMode c ch = 1 → exec (.debouncePass ch level) s = .next (after s
        (freqSettle (set fun x => { x with level := level, openWire := x.openWire && !level }) ch)))
      ∧ (digMode c ch ≠ 1 → exec (.debouncePass ch level) s = .next (after s c))
      ∧ (inOpen → exec (.inputOpenWire ch) s = .next (after s (set fun x => { x with openWire := true })))
      ∧ (¬inOpen → exec (.inputOpenWire ch) s = .next (after s c))
      ∧ (outOpen → exec (.outputOpenWire ch) s = .next (after s (set fun x => { x with openWire := true })))
      ∧ (¬outOpen → exec (.outputOpenWire ch) s = .next (after s c))
      ∧ exec (.openWireClear ch) s = .next (after s (freqSettle (set fun x => { x with openWire := false }) ch))
      ∧ (stageOn c ch = true → exec (.overload ch) s = .next (after s
          (digRefresh (raise (noteEdges c (modDig c m fun x => { x with overload := true })) (digPage ch) 1) g)))
      ∧ (stageOn c ch = false → exec (.overload ch) s = .next (after s c))
      ∧ (heats → exec (.overtemp ch) s = .next (after s (digRefresh (raise (noteEdges c (modDig c m fun x => { x with
          overtemp := true, zeroSeen := false })) (digPage m) 2) (m / 12))))
      ∧ (¬heats → exec (.overtemp ch) s = .next (after s c))

/-- Terminal readback (R445 to R449, R452): a stuck-on reading is a short to the supply, or, within 1 ms of an edge
that turned others on, crossed wires with the lowest of them; a short clears once the terminal reads LOW with the
switch off, a crossing when besides the output it names is on and free of faults (one brought back by the backup domain
names none: log entry 74). -/
def Claims.ReadbackCommandsComplete : Prop :=
  ∀ (s : State) (n other : Fin 56) (near : Bool) (rest : List Nat),
    let c := s.chip
    let k : Nat := n
    let sensed := isOutput c n = true ∧ outputOn c n = false ∧ readbackShort c n = false ∧ readbackCross c n = false
    let alone := near = false ∨ (k < 48 ∧ digPaired c n = true)
    let found := fun (d : Chip) (cause : Nat) => if k < 48 then d else detect d cause (k - 48)
    let crosses := isOutput c n = true ∧ readbackShort c n = true ∧ turnedOff c other = true ∧ other ≠ n
      ∧ ¬(k < 48 ∧ digPaired c n = true)
    let off := isOutput c n = true ∧ outputOn c n = false
    let w := readbackWith c n
    let partner := w = 255 ∨ (outputOn c w = true ∧ (if w < 48 then digFault c w else outFaulty c (w - 48)) = false)
    fieldRests c.mode.mode = false → (sensed → alone ∨ c.dig.onEdge.filter (· != k) = [] →
        exec (.shortToSupply n near) s = .next (after s (found (modReadback c n true false 255) 4)))
      ∧ (sensed → ¬alone → c.dig.onEdge.filter (· != k) = (other : Nat) :: rest →
        exec (.shortToSupply n near) s = .next (after s (found (modReadback c n false true other) 5)))
      ∧ (¬sensed → exec (.shortToSupply n near) s = .next (after s c))
      ∧ (crosses → exec (.crossWired n other) s = .next (after s (found (modReadback c n false true other) 5)))
      ∧ (¬crosses → exec (.crossWired n other) s = .next (after s c))
      ∧ (off → readbackShort c n = true →
        exec (.channelClear n) s = .next (after s (modReadback c n false false 255)))
      ∧ (off → readbackShort c n = false → readbackCross c n = true → partner →
        exec (.channelClear n) s = .next (after s (modReadback c n false false 255)))
      ∧ (¬off ∨ (readbackShort c n = false ∧ (readbackCross c n = false ∨ ¬partner)) →
        exec (.channelClear n) s = .next (after s c))

/-- Field supplies (R450, R712): 0 NORMAL, 1 LOW below 19.2 V until 19.5 V, 2 OFF below 15.0 V until a resume, which
leads to LOW. A group that is OFF holds its outputs off, and records every change. -/
def Claims.FieldSuppliesComplete : Prop :=
  ∀ (s : State) (g : Fin 4) (v : Nat),
    let c := s.chip
    let st := (digFs c g).state
    let d := modFs c g fun f => { f with volts := min v 0xFFF }
    let moves := fun n : Nat => exec (.fsSample g v) s = .next (after s (fsTo d g n))
    fieldRests c.mode.mode = false → (st ≠ 2 → v < 1500 → moves 2)
      ∧ (st = 0 → 1500 ≤ v → v < 1920 → moves 1) ∧ (st = 1 → 1950 ≤ v → moves 0)
      ∧ (st = 0 → 1920 ≤ v → exec (.fsSample g v) s = .next (after s d))
      ∧ (st = 1 → 1500 ≤ v → v < 1950 → exec (.fsSample g v) s = .next (after s d))
      ∧ (st = 2 → exec (.fsSample g v) s = .next (after s d))
      ∧ (st = 2 → exec (.fsResume g) s = .next (after s (fsTo c g 1)))
      ∧ (st ≠ 2 → exec (.fsResume g) s = .next (after s c))
      ∧ ∀ n : Nat, n ≠ st →
        let e := fsTo c g n
        (digFs e g).state = n ∧ (n = 2 → (digFs e g).held = true
          ∧ ∀ o : Fin 8, (o : Nat) / 4 + 2 = g → (safeOut e o).high = false ∧ (safeOut e o).low = false)

/-- Frequency capture (R455 to R457): a period below 50 µs is a fault that 16 good ones end; any other enters the
window of the last AVERAGE periods and gives the two values, to the nearest unit; without an edge for TIMEOUT the
values are 0 and the largest period. -/
def Claims.FrequencyCommandsComplete : Prop :=
  ∀ (s : State) (f : Fin 8) (t : Nat),
    let c := s.chip
    let q := digFreq c f
    let avg := fld (freqCfg c f) 23 16
    let on := freqOn c f = true
    fieldRests c.mode.mode = false → (on → t < 5000 → exec (.freqPeriod f t) s = .next (after s
        (digRefresh (modFreq c f fun x => { x with fault := true, good := 0 }) 0)))
      ∧ (on → 5000 ≤ t → 0 < avg → ∃ u : State, exec (.freqPeriod f t) s = .next u
        ∧ (let r := digFreq u.chip f
          let sum := r.window.foldl (· + ·) 0
          let k := r.window.length
          r.window = (t :: q.window).take avg ∧ r.updates = q.updates + 1 ∧ r.good = q.good + 1
            ∧ r.fault = (q.fault && decide (q.good + 1 < 16))
            ∧ (r.fault = false → (digCh c f).openWire = false →
              k * (2 * r.period) ≤ 2 * sum + k ∧ 2 * sum ≤ k * (2 * r.period) + k
                ∧ sum * (2 * r.mhz) ≤ 2 * (k * 100000000000) + sum
                ∧ 2 * (k * 100000000000) ≤ sum * (2 * r.mhz) + sum)
            ∧ (r.fault = true → r.mhz = q.mhz ∧ r.period = q.period)))
      ∧ (on → exec (.freqTimeout f) s = .next (after s (freqReport (modFreq c f fun x => { x with
          window := [], updates := x.updates + 1 }) f 0 0xFFFFFFFF)))
      ∧ (¬on → exec (.freqPeriod f t) s = .next (after s c) ∧ exec (.freqTimeout f) s = .next (after s c))

/-- In RESET and BOOT (R603, R615), and in DORMANT, where the clock of the field blocks is gated (R28), the digital
groups change nothing. That they are field blocks is the model's deduction (log entry 72). -/
def Claims.DigitalGroupsRest : Prop :=
  ∀ (s : State) (ch : Fin 48) (level near : Bool) (n other : Fin 56) (g : Fin 4) (f : Fin 8) (t : Nat),
    fieldRests s.chip.mode.mode = true →
    ∀ j ∈ [Instr.debouncePass ch level, .inputOpenWire ch, .outputOpenWire ch, .openWireClear ch, .overload ch,
        .overtemp ch, .shortToSupply n near, .crossWired n other, .channelClear n, .fsSample g t, .fsResume g,
        .freqPeriod f t, .freqTimeout f],
      exec j s = .next (after s s.chip)

/-- Digital channels, readbacks, supplies and frequency inputs complete. -/
def Obligations.DigitalCommandsComplete : Prop :=
  Claims.ChannelCommandsComplete ∧ Claims.ReadbackCommandsComplete ∧ Claims.FieldSuppliesComplete
    ∧ Claims.FrequencyCommandsComplete ∧ Claims.DigitalGroupsRest

/-- Tiers, starts and the loop supply of the islands (R470 to R472, R478). -/
def Claims.IslandTiersComplete : Prop :=
  ∀ (s : State) (i : Fin 16) (nA : Int) (v : Nat),
    let c := s.chip
    let x := island c i
    let d := modIsland c i fun y => { y with
      decisions := (nA :: y.decisions).take 10, onCap := if nA < 1100000 then y.onCap + 1 else 0 }
    let fed := loopPowered c i = true
    let decide_ := fun e : Chip => exec (.tierDecision i nA) s = .next (after s e)
    let up := fun n : Nat => exec (.tierUp i) s = .next (after s (islReport (modIsland c i fun y => { y with tier := n }) i))
    (fed → x.tier = 3 → 2900000 ≤ nA → decide_ d)
      ∧ (fed → x.tier = 3 → 2000000 ≤ nA → nA < 2900000 → decide_ (tierDown d i 2))
      ∧ (fed → x.tier = 3 → nA < 2000000 → decide_ (tierDown d i 1))
      ∧ (fed → x.tier = 2 → 1900000 ≤ nA → decide_ d) ∧ (fed → x.tier = 2 → nA < 1900000 → decide_ (tierDown d i 1))
      ∧ (fed → x.tier < 2 ∨ 3 < x.tier → decide_ d) ∧ (¬fed → decide_ c)
      ∧ (fed → x.tier = 1 ∨ x.tier = 2 → tenAtLeast x 3000000 = true → up 3)
      ∧ (fed → x.tier = 1 → tenAtLeast x 3000000 = false → tenAtLeast x 2000000 = true → up 2)
      ∧ (¬fed ∨ (¬((x.tier = 1 ∨ x.tier = 2) ∧ tenAtLeast x 3000000 = true)
          ∧ ¬(x.tier = 1 ∧ tenAtLeast x 2000000 = true)) → exec (.tierUp i) s = .next (after s c))
      ∧ (fed → x.tier = 0 → tenAtLeast x 1300000 = true → exec (.islandStart i) s = .next (after s
          (modIsland c i fun y =>
            let y := islStart 1 y
            { y with up := y.up ++ [upFrame y false y.raw 0] })))
      ∧ (¬fed ∨ x.tier ≠ 0 ∨ tenAtLeast x 1300000 = false → exec (.islandStart i) s = .next (after s c))
      ∧ (fed → x.tier = 1 → 5 ≤ x.onCap → exec (.brownout i) s = .next (after s
          (modIsland c i fun y => { y with
            up := y.up ++ [upFrame y true y.raw 0], tier := 0, onCap := 0, drive := .none })))
      ∧ (¬fed ∨ x.tier ≠ 1 ∨ x.onCap < 5 → exec (.brownout i) s = .next (after s c))
      ∧ (fieldRests c.mode.mode = true → exec (.lsSample v) s = .next (after s c))
      ∧ (fieldRests c.mode.mode = false → ∃ t : State, exec (.lsSample v) s = .next t ∧ t.chip.isl.volts = min v 0xFFF
        ∧ t.chip.isl.lsLow = (decide (v < 1920) || (c.isl.lsLow && decide (v < 1950)))
        ∧ t.chip.isl.lsStop = decide (v < 1200) ∧ t.chip.islands = c.islands)
      ∧ (∃ t : State, exec .lsStop s = .next t
        ∧ (islRole c i = 1 → (island t.chip i).tier = 0 ∧ (island t.chip i).drive = .none)
        ∧ (islRole c i ≠ 1 → island t.chip i = x))
      ∧ (∃ t : State, exec .lsStart s = .next t
        ∧ (islRole c i = 1 → x.tier = 0 → island t.chip i = islStart 3 x)
        ∧ (islRole c i ≠ 1 ∨ x.tier ≠ 0 → island t.chip i = x))
      ∧ (c.mode.mode ≠ .activate → exec .activateRefresh s = .next (after s c))
      ∧ (c.mode.mode = .activate → ∃ t : State, exec .activateRefresh s = .next t
        ∧ (islRole c i = 0 → island t.chip i = x)
        ∧ (∀ f : DownFrame, islRole c i ≠ 0 → (islBuf c i).lastDown = some f →
          (island t.chip i).down = x.down ++ [⟨f.kind, effHigh c i⟩]))

/-- The island's side (R473, R475, R476, R480 to R484, R487): a frame to it carries the direction and a command; a
sample applies the command and sends the value; without its core an output drives its fail level, or passes where it
is paired; and the flags it decides are reported. -/
def Claims.IslandCommandsComplete : Prop :=
  ∀ (s : State) (i : Fin 16) (nA : Int) (headroom : Nat) (v : Bool) (f : DownFrame) (rest : List DownFrame) (x : Int),
    let c := s.chip
    let st := island c i
    let out := islOutput c i = true
    let told := modIsland c i fun y => { y with
      down := rest, role := islRole c i, paired := islPaired c i
      tier := if islRole c i = 1 ∧ y.tier ≠ 0 then 3 else y.tier }
    let live := islRole c i ≠ 0 ∧ st.tier ≠ 0
    let sampled := fun t : State =>
      let n := island t.chip i
      n.raw = nA ∧ n.failed = none ∧ ∃ u : UpFrame, n.up = st.up ++ [u] ∧ u.value = nA ∧ u.brownout = false
        ∧ u.headroom = (if islRole c i = 3 ∨ n.drive = .pass then 0 else min headroom 0xFFFF) ∧ u.applied = n.applied ∧ u.tier = st.tier
    let reports := fun (j : Instr) (g : Island → Island) =>
      exec j s = .next (after s (islReport (modIsland c i g) i))
    (st.down = f :: rest → st.tier = 0 → exec (.islandCommand i) s = .next (after s told))
      ∧ (st.down = f :: rest → st.tier ≠ 0 → exec (.islandCommand i) s = .next (after s
          (modIsland told i fun y => { y with heard := true, high := f.high
                                              next := if f.kind = .direction then y.next else some f.kind })))
      ∧ (st.down = [] → exec (.islandCommand i) s = .next (after s c))
      ∧ (live → ∃ t : State, exec (.islandSample i nA headroom) s = .next t ∧ sampled t
        ∧ (st.next = some (.regulate x) → (island t.chip i).drive = .command x ∧ (island t.chip i).applied = x
          ∧ (island t.chip i).next = none)
        ∧ (st.next = some .pass → (island t.chip i).drive = .pass)
        ∧ (st.next = none → out → st.heard = false → st.drive = .none → (island t.chip i).drive =
            if islPaired c i then .pass else .fail (failLevel (islRole c i) st.high)))
      ∧ (¬live → exec (.islandSample i nA headroom) s = .next (after s c))
      ∧ (out → st.tier ≠ 0 → exec (.failDriven i) s = .next (after s (modIsland c i fun y => { y with
          drive := if islPaired c i then .pass else .fail (failLevel (islRole c i) y.high)
          failed := if islPaired c i then none else some 0 })))
      ∧ (¬out ∨ st.tier = 0 → exec (.failDriven i) s = .next (after s c))
      ∧ (islRole c i = 3 → reports (.ne43Fail i) fun y => { y with
          cls := if ne43Class y.raw = 0 then 0 else y.cls ||| 2 ^ (ne43Class y.raw - 1) })
      ∧ (out → st.drive ≠ .pass → complianceHeld c i = false →
        reports (.compliance i v) fun y => { y with compliance := v })
      ∧ (out → st.drive = .pass ∨ complianceHeld c i = true → exec (.compliance i v) s = .next (after s c))
      ∧ (out → reports (.readback i) fun y => { y with readback := true })
      ∧ (out → reports (.readbackClear i) fun y => { y with readback := false })
      ∧ (st.tier ≠ 0 → reports (.calCheck i v) fun y => { y with calBad := !v })
      ∧ (islRole c i ≠ 3 → exec (.ne43Fail i) s = .next (after s c))
      ∧ (¬out → exec (.compliance i v) s = .next (after s c) ∧ exec (.readback i) s = .next (after s c)
        ∧ exec (.readbackClear i) s = .next (after s c))
      ∧ (st.tier = 0 → exec (.calCheck i v) s = .next (after s c))

/-- Sequencer 1 receives (R473, R485, R494): a frame ends AI_LOST and brings the value, trimmed for an input, and the
island's state; a BROWNOUT frame, which is counted, or none for 5 ms, marks the island lost. In RESET and BOOT (R615),
and in DORMANT, where its clock is gated (R28; that it is a field block is deduced, log entry 72), the frame is lost
unread. -/
def Claims.IslandFramesComplete : Prop :=
  ∀ (s : State) (i : Fin 16) (f : UpFrame) (rest : List UpFrame),
    let c := s.chip
    let d := modIsland c i fun x => { x with up := rest }
    let n := fun t : State => islBuf t.chip i
    (fieldRests c.mode.mode = true → exec (.islandFrameReceive i) s = .next (after s (islandFrameLost c i))
        ∧ (islandFrameLost c i).isl = c.isl ∧ (island (islandFrameLost c i) i).up = (island c i).up.drop 1
        ∧ exec (.islandLost i) s = .next (after s c))
      ∧ (fieldRests c.mode.mode = false → ((island c i).up = f :: rest → f.brownout = true →
        exec (.islandFrameReceive i) s = .next (after s
          (islLose (modBuf d i fun b => { b with brownouts := satInc 255 b.brownouts }) i 0)))
      ∧ ((island c i).up = f :: rest → f.brownout = false → ∃ t : State, exec (.islandFrameReceive i) s = .next t
        ∧ (n t).lost = false ∧ (n t).headroom = f.headroom ∧ (n t).applied = f.applied
        ∧ (n t).pass = f.pass ∧ (n t).failDriven = f.failDriven
        ∧ (n t).updates = ((islBuf c i).updates + 1) % 65536
        ∧ (islRole c i ≠ 3 → (n t).value = f.value)
        ∧ (islRole c i = 3 → 1000000 * ((n t).value - 10 * (calTrim c i).2) ≤ f.value * (1000000 + (calTrim c i).1) + 999999
          ∧ f.value * (1000000 + (calTrim c i).1) < 1000000 * ((n t).value - 10 * (calTrim c i).2) + 1000000)
        ∧ (island t.chip i).up = rest
        ∧ (f.failed ≠ none → bitOf (hdr t.chip 0x34).cause 7 = true))
      ∧ ((island c i).up = [] → exec (.islandFrameReceive i) s = .next (after s c))
      ∧ (islRole c i ≠ 0 → exec (.islandLost i) s = .next (after s (islLose c i 1)))
      ∧ (islRole c i = 0 → exec (.islandLost i) s = .next (after s c)))
      ∧ ∀ why : Nat, (islBuf (islLose c i why) i).lost = true

/-- Analogue loop islands: tiers, commands and frames complete. -/
def Obligations.IslandCommandsComplete : Prop :=
  Claims.IslandTiersComplete ∧ Claims.IslandCommandsComplete ∧ Claims.IslandFramesComplete

/-- Commands of the remote links (R500, R504, R508 to R510, R517, R523): management requests go to one station in
turn; an IDENT of the wanted kind leads to CONFIG_SENT, a good CONF_ACK to RUNNING, and each shows what it carries in
any state and has its epoch compared (R390); misses and a dead link lose stations; an IN frame that a check of R504
discards is counted there, and one that every check passes updates the station's buffer. -/
def Claims.LinkCommandsComplete : Prop :=
  ∀ (s : State) (l : Fin 32) (a : Fin 8) (bs : List Byte) (cycle : Nat) (fcs up : Bool) (rest : List Nat),
    let c := s.chip
    let x := stn c l a
    let manages := drives c = true ∧ c.mode.mode.strokes = true ∧ (link c l).managed = false ∧ (link c l).up = true
      ∧ working c (linkPage l) = true
    let asked := modLink c l fun k => { k with managed := true, turn := ((a : Nat) + 1) % 8 }
    let passes := fcs = true ∧ inCheck c l bs = none
    let absent := linkConds (modStn c l a fun y => { y with state := 1 }) l
    let waits := expects c l a = true ∧ x.state = 2 ∧ x.confSent = true
    let news := fun d : Chip => newerEpoch d 3 (BitVec.ofNat 32 (beAt bs 8 4))
    let seen := modStn c l a fun y => { y with
      serial := BitVec.ofNat 32 (beAt bs 20 4), position := beAt bs 5 1, fenced := false }
    let told := modStn c l a fun y => { y with
      position := beAt bs 5 1, fenced := (beAt bs 17 1).testBit 0
      downBad := if (beAt bs 17 1).testBit 0 then y.downBad else (beAt bs 17 1).testBit 1 }
    let sender := fun f : Bool =>
      modStn c l (beAt bs 4 1) fun y => { y with fenced := f, position := beAt bs 5 1 }
    let taken := inAccept c l a cycle bs
    let accepts := passes ∧ beAt bs 4 1 = a
    fieldRests c.mode.mode = false → (manages → needy c l = (a : Nat) :: rest → x.state = 2 → exec (.managementRequest l) s = .next (after s
        (sendRemote (modStn asked l a fun y => { y with confSent := true }) l 0x03 a (configureBody c l a))))
      ∧ (manages → needy c l = (a : Nat) :: rest → x.state ≠ 2 →
        exec (.managementRequest l) s = .next (after s (sendRemote asked l 0x01 a [])))
      ∧ (¬manages ∨ needy c l = [] → exec (.managementRequest l) s = .next (after s c))
      ∧ (stnFrame c l 0x02 bs = none → exec (.ident l bs) s = .next (after s c))
      ∧ (stnFrame c l 0x02 bs = some a → x.state = 2 ∨ x.state = 3 →
        exec (.ident l bs) s = .next (after s (news seen)))
      ∧ (stnFrame c l 0x02 bs = some a → x.state ≠ 2 → x.state ≠ 3 →
        ∃ d : Chip, exec (.ident l bs) s = .next (after s (news d))
        ∧ (let y := stn d l a
          y.serial = BitVec.ofNat 32 (beAt bs 20 4) ∧ y.position = beAt bs 5 1
            ∧ (y.typeBad = true ↔ cfg c (linkPage l) (0x10C + 32 * a) ≠ 0
              ∧ (cfg c (linkPage l) (0x10C + 32 * a)).toNat ≠ beAt bs 16 4)
            ∧ y.state = if y.typeBad || y.capBad then x.state else 2))
      ∧ (stnFrame c l 0x04 bs = some a → x.state = 2 → x.confSent = true →
        ∃ d : Chip, exec (.confAck l bs) s = .next (after s (news d))
          ∧ (stn d l a).state = (if beAt bs 16 1 = 0 then 3 else 1) ∧ (stn d l a).position = beAt bs 5 1
          ∧ (stn d l a).fenced = (beAt bs 17 1).testBit 0)
      ∧ (stnFrame c l 0x04 bs = some a → x.state ≠ 2 ∨ x.confSent = false →
        exec (.confAck l bs) s = .next (after s (news (linkConds told l))))
      ∧ (stnFrame c l 0x04 bs = none → exec (.confAck l bs) s = .next (after s c))
      ∧ (waits → exec (.confAckTimeout l a) s = .next (after s absent))
      ∧ (¬waits → exec (.confAckTimeout l a) s = .next (after s c))
      ∧ (fld (cfg c (linkPage l) 0x040) 23 20 ≤ x.misses →
        exec (.stationLost l a) s = .next (after s (stnLose c l a 0)))
      ∧ (x.misses < fld (cfg c (linkPage l) 0x040) 23 20 → exec (.stationLost l a) s = .next (after s c))
      ∧ ((link c l).up = false → ∃ t : State, exec (.remoteLinkChange l true) s = .next t
        ∧ (link t.chip l).up = true ∧ (expects c l a = true → (stn t.chip l a).state = StnSt.reset.state))
      ∧ ((link c l).up = true → ∃ t : State, exec (.remoteLinkChange l false) s = .next t
        ∧ (link t.chip l).up = false
        ∧ (expects c l a = true → x.state = 3 → (stn t.chip l a).state = 4)
        ∧ (expects c l a = false ∨ x.state ≠ 3 → stn t.chip l a = x))
      ∧ ((link c l).up = up → exec (.remoteLinkChange l up) s = .next (after s c))
      ∧ (drives c = false → exec (.lineOutReceive l) s = .next (after s
          (modLink c l fun k => { k with heardOuts := k.heardOuts + 1 })))
      ∧ (drives c = true → exec (.lineOutReceive l) s = .next (after s c))
      ∧ (exec (.stationIn l false cycle bs) s = .next (after s
          (modLink c l fun n => { n with bad := satInc 255 n.bad })))
      ∧ (inCheck c l bs = some 1 → exec (.stationIn l true cycle bs) s = .next (after s
          (inDiscard c l (beAt bs 4 1) 1)))
      ∧ (∀ k : Nat, inCheck c l bs = some k → 3 ≤ k → exec (.stationIn l true cycle bs) s = .next (after s
          (inDiscard (sender false) l (beAt bs 4 1) k)))
      ∧ (inCheck c l bs = some 2 → exec (.stationIn l true cycle bs) s = .next (after s
          (let d := inDiscard (sender true) l (beAt bs 4 1) 2
          if (ownEpoch c).toNat < beAt bs 8 4 then news d else d)))
      ∧ (accepts → (beAt bs 21 1).testBit 1 = false → exec (.stationIn l fcs cycle bs) s = .next (after s
          (if beAt bs 20 1 = 2 then taken else stnLose taken l a 1)))
      ∧ (accepts → (beAt bs 21 1).testBit 1 = true → ∃ t : State, exec (.stationIn l fcs cycle bs) s = .next t
        ∧ (beAt bs 20 1 ≠ 2 → (stn t.chip l a).state = 4)
        ∧ ∀ b : Fin 8, expects c l b = true → (stn c l b).state = 3 → b ≠ a →
          (stn t.chip l b).state = if beAt bs 5 1 < (stn c l b).position then 4 else 3)
      ∧ (accepts → (let y := stn taken l a
          y.seq = some (BitVec.ofNat 32 (beAt bs 12 4)) ∧ y.bits = BitVec.ofNat 64 (leAt bs 28 8)
            ∧ y.bad = BitVec.ofNat 64 (leAt bs 36 8) ∧ y.got = true ∧ y.awaiting = false ∧ y.misses = 0
            ∧ y.stat = BitVec.ofNat 32 (beAt bs 24 4) ∧ y.updates = x.updates + 1))

/-- In RESET and BOOT (R603, R615), and in DORMANT, where the clock of the field blocks is gated (R28), the remote links
change nothing. That they are field blocks is the model's deduction (log entry 72). -/
def Claims.LinksRest : Prop :=
  ∀ (s : State) (l : Fin 32) (a : Fin 8) (fcs up : Bool) (cycle : Nat) (bs : List Byte),
    fieldRests s.chip.mode.mode = true →
    ∀ j ∈ [Instr.stationIn l fcs cycle bs, .managementRequest l, .ident l bs, .confAck l bs, .confAckTimeout l a,
        .stationLost l a, .remoteLinkChange l up, .lineOutReceive l],
      exec j s = .next (after s s.chip)

/-- The loss of a station (R509, R182): a RUNNING one goes to LOST, is counted, and stands in the lost stations of
each crew whose image it is bound to. -/
def Claims.LostStationsShow : Prop :=
  ∀ (c : Chip) (l : Fin 32) (a : Fin 8) (why : Nat),
    let d := stnLose c l a why
    ((stn c l a).state = 3 → expects c l a = true → (stn d l a).state = 4
        ∧ (link d l).losses = satInc 255 (link c l).losses
        ∧ ∀ cr : Crew, stnBound c cr l a = true → ((crewSt d cr).lostStations).testBit (8 * l + a) = true)
      ∧ ((stn c l a).state ≠ 3 ∨ expects c l a = false → d = c)

/-- Remote I/O links complete, and a lost station shows. -/
def Obligations.RemoteCommandsComplete : Prop :=
  Claims.LinkCommandsComplete ∧ Claims.LinksRest ∧ Claims.LostStationsShow

/-- What a controller receives and sends (R525, R532, R533, R539 to R541, R543, R546 to R548): a matching frame goes to
the lowest object, to the FIFO its filter passes, or is counted; the best pending frame starts; the end of a
transmission counts, waits for another attempt, or drops the frame; in restricted operation no counter moves (R551). -/
def Claims.CanTrafficCompletes : Prop :=
  ∀ (s : State) (n : Fin 16) (f : CanFrame) (o : Nat) (res : CanTxResult) (extra tdcv eights : Nat) (one : Bool),
    let c := s.chip
    let hears := canHears c n = true
    let sends := hears ∧ canRestricted c n = false
    let excepts := hears ∧ bitOf (canCfg c n) 2 = true ∧ one = false ∧ eights = 0
    let t := txObject c n = some o
    let free := canRestricted c n = false
    let counted := modCan c n fun k => { k with rxFrames := (k.rxFrames + 1) % 65536 }
    let lost := fun d : Chip => modCan d n fun k => { k with unmatched := satInc 255 k.unmatched }
    (hears → canRestricted c n = true → exec (.canFrameAccepted n f true) s = .next (after s (lost counted)))
      ∧ (hears → canRestricted c n = true → (rxObjects c n).find? (fun o => objMatches c n o f) = some o →
        exec (.canFrameAccepted n f false) s = .next (after s (objTake counted n o f)))
      ∧ (hears → canRestricted c n = true → (rxObjects c n).find? (fun o => objMatches c n o f) = none →
        fifoMatches c n f = true →
        exec (.canFrameAccepted n f false) s = .next (after s (fifoPut counted n f)))
      ∧ (hears → canRestricted c n = true → (rxObjects c n).find? (fun o => objMatches c n o f) = none →
        fifoMatches c n f = false →
        exec (.canFrameAccepted n f false) s = .next (after s (lost counted)))
      ∧ (sends → (rxObjects c n).find? (fun o => objMatches c n o f) = some o →
        ∃ u : State, exec (.canFrameAccepted n f false) s = .next u
          ∧ (obj u.chip n o).rx = some { f with data := f.data.take (min f.len (objMax c n o)) }
          ∧ (obj u.chip n o).truncated = decide (objMax c n o < f.len)
          ∧ (can u.chip n).rxFrames = ((can c n).rxFrames + 1) % 65536 ∧ (can u.chip n).ackRun = 0
          ∧ (can u.chip n).alone = false ∧ (can u.chip n).recv ≤ max 127 (can c n).recv)
      ∧ (¬hears → ∀ r : Bool, exec (.canFrameAccepted n f r) s = .next (after s c))
      ∧ (excepts → exec (.canRxError n one eights) s = .next (after s (canTo c n 1)))
      ∧ (sends → ¬excepts → exec (.canRxError n one eights) s = .next (after s
          (errorState (modCan c n fun k => { k with recv := min 255 (k.recv + b2n one + 8 * eights) }) n)))
      ∧ (¬sends → ¬excepts → exec (.canRxError n one eights) s = .next (after s c))
      ∧ (sends → (can c n).sleepReq = false → txObject c n = none → bestPending c n = some (o, f) → exec (.canTxStart n) s = .next (after s
          (modObj (modCan c n fun k => { k with offered := o }) n o fun x => { x with
            tx := some { f with esi := f.fd && (can c n).state == 3 }, pending := none })))
      ∧ (¬sends ∨ (can c n).sleepReq = true ∨ txObject c n ≠ none ∨ bestPending c n = none → exec (.canTxStart n) s = .next (after s c))
      ∧ (t → exec (.arbitrationLoss n) s = .next (after s (attemptFails c n o)))
      ∧ (t → ∃ u : State, exec (.canTxEnd n .ok extra tdcv) s = .next u
        ∧ (obj u.chip n o).sentSince = true ∧ (obj u.chip n o).frames = ((obj c n o).frames + 1) % 65536
        ∧ (obj u.chip n o).clash = false ∧ (can u.chip n).txFrames = ((can c n).txFrames + 1) % 65536
        ∧ (can u.chip n).ackRun = 0 ∧ (can u.chip n).alone = false
        ∧ (free → (obj u.chip n o).clashRun = 0 ∧ (can u.chip n).tec = (can c n).tec - 1)
        ∧ (¬free → (obj u.chip n o).clashRun = (obj c n o).clashRun ∧ (can u.chip n).tec = (can c n).tec))
      ∧ (t → ¬free → res ≠ .ok → ∃ u : State, exec (.canTxEnd n res extra tdcv) s = .next u
        ∧ (can u.chip n).tec = (can c n).tec ∧ (can u.chip n).ackRun ≤ (can c n).ackRun
        ∧ (obj u.chip n o).clashRun = (obj c n o).clashRun)
      ∧ (t → free → ∀ e : Bool, ∃ u : State, exec (.canTxEnd n (.ackError e) extra tdcv) s = .next u
        ∧ (can u.chip n).ackRun = satInc 255 (can c n).ackRun ∧ (obj u.chip n o).clashRun = 0
        ∧ (can u.chip n).tec = (can c n).tec + (if e = true ∧ (can c n).state = 3 then 0 else 8) + 8 * extra)
      ∧ (t → free → ∃ u : State, exec (.canTxEnd n .fieldBitError extra tdcv) s = .next u ∧ (can u.chip n).ackRun = 0
        ∧ (can u.chip n).tec = (can c n).tec + 8 + 8 * extra
        ∧ (obj u.chip n o).clashRun = satInc 3 (obj c n o).clashRun)
      ∧ (t → free → ∀ e : Bool, ∃ u : State, exec (.canTxEnd n (.otherError e) extra tdcv) s = .next u
        ∧ (can u.chip n).ackRun = 0 ∧ (obj u.chip n o).clashRun = 0
        ∧ (can u.chip n).tec = (can c n).tec + (if e then 0 else 8) + 8 * extra)
      ∧ (txObject c n = none → exec (.arbitrationLoss n) s = .next (after s c)
        ∧ exec (.canTxEnd n res extra tdcv) s = .next (after s c))

/-- The bus states of a controller (R546 to R551): recovery, integration, sleep, wake, ALONE and ID_CLASH. -/
def Claims.CanStatesComplete : Prop :=
  ∀ (s : State) (n : Fin 16) (o : Fin 128) (w : CanWakeSource) (f : CanFrame),
    let c := s.chip
    let k := can c n
    let clashes := objUsed c n o = true ∧ objSends c n o = true ∧ canRestricted c n = false ∧ 3 ≤ (obj c n o).clashRun
    let rests := k.sleepReq = true ∧ txObject c n = none ∧ canOn c n = true
    let asleep := k.state = 6 ∧ c.mode.mode ≠ .dormant ∧ canOn c n = true
    let frames := bitOf (cfg c (canPage n) 0x064) 0 = true
    let wakes := exec (.canWakeEvent n w) s
    let errs := modCan c n fun x => { x with wakeErr := x.wakeErr + 1 }
    (k.state = 5 → exec (.busOffRecovery n) s = .next (after s
        (canTo (modCan c n fun x => { x with tec := 0, recv := 0 }) n 2)))
      ∧ (k.state ≠ 5 → exec (.busOffRecovery n) s = .next (after s c))
      ∧ (k.state = 1 → exec (.canIntegrated n) s = .next (after s
          (canTo c n (if 127 < k.tec ∨ 127 < k.recv then 3 else 2))))
      ∧ (k.state ≠ 1 → exec (.canIntegrated n) s = .next (after s c))
      ∧ (16 ≤ k.ackRun → canOn c n = true → exec (.alone n) s = .next (after s (setAlone c n true)))
      ∧ (k.ackRun < 16 ∨ canOn c n = false → exec (.alone n) s = .next (after s c))
      ∧ (clashes → exec (.idClash n o) s = .next (after s (setClash (dropPending c n o) n o true)))
      ∧ (¬clashes → exec (.idClash n o) s = .next (after s c))
      ∧ (rests → ∃ t : State, exec (.canSleepEnter n) s = .next t ∧ (can t.chip n).state = 6
        ∧ (can t.chip n).sleepReq = false
        ∧ ((o : Nat) ∈ txObjects c n → (obj t.chip n o).pending = none
          ∧ (obj t.chip n o).failed = ((obj c n o).failed || (obj c n o).pending.isSome)))
      ∧ (¬rests → exec (.canSleepEnter n) s = .next (after s c))
      ∧ (asleep → w = .dominant → ¬frames → wakes = .next (after s (canWakeUp c n 1 0)))
      ∧ (asleep → w = .frame f → frames → f.fd = false → wakeMatches c n f = true →
        wakes = .next (after s (canWakeUp c n 2 f.id)))
      ∧ (asleep → w = .frame f → frames → f.fd = false → wakeMatches c n f = false →
        wakes = .next (after s (modCan c n fun x => { x with wakeErr := x.wakeErr - 1 })))
      ∧ (asleep → w = .erroneous → frames → 31 ≤ k.wakeErr → wakes = .next (after s (canWakeUp errs n 3 0)))
      ∧ (asleep → w = .erroneous → frames → k.wakeErr < 31 → wakes = .next (after s errs))
      ∧ (¬asleep → wakes = .next (after s c))
      ∧ (asleep → ∀ r id : Nat, let d := canWakeUp c n r id
          (can d n).state = 1 ∧ (can d n).wakeReason = r ∧ bitOf (hdr d (canPage n)).cause 6 = true)

/-- CAN FD traffic and bus states complete. -/
def Obligations.CanCommandsComplete : Prop :=
  Claims.CanTrafficCompletes ∧ Claims.CanStatesComplete

/-- Replies, timeouts and sentences on the serial ports (R591 to R595, R601, R602). In RESET and BOOT (R615), and in
DORMANT (R28; that they are field blocks is deduced, log entry 72), they do nothing. -/
def Obligations.SerialCommandsComplete : Prop :=
  ∀ (s : State) (p : Fin 6) (e : Nat) (bs : List Byte),
    let c := s.chip
    let x := serEnt c p e
    let idle := modSer c p fun k => { k with busy := none }
    let n := fun t : State => serEnt t.chip p e
    let nmea := listens c.mode.mode = true ∧ spMode c p = 2 ∧ working c 0x75 = true ∧ (bs.getD 0 0 = 36 ∨ bs.getD 0 0 = 33)
    let body := (bs.drop 1).takeWhile (· != 13)
    let taker := (List.range 16).find? fun e => entUsed c p e && nmeaMatch c p e body
    let good := bs.length ≤ 82 ∧ nmeaCheck body ≠ some false
    (fieldRests c.mode.mode = true → ∀ j ∈ [Instr.modbusReply p bs, .modbusTimeout p, .nmeaSentence p bs],
        exec j s = .next (after s c))
      ∧ (fieldRests c.mode.mode = false → ((serPort c p).busy = some e → replyGood idle p e bs = true → ∃ t : State, exec (.modbusReply p bs) s = .next t
        ∧ (n t).valid = true ∧ (n t).new = true ∧ (n t).timeout = false ∧ (n t).bad = false ∧ (n t).exc = false
        ∧ (n t).good = (x.good + 1) % 65536
        ∧ (n t).words = (if entWrites c p e then x.words else replyWords c p e bs)
        ∧ (serPort t.chip p).busy = none)
      ∧ ((serPort c p).busy = some e → replyGood idle p e bs = false → replyException idle p e bs = true →
        ∃ t : State, exec (.modbusReply p bs) s = .next t ∧ (n t).valid = false ∧ (n t).exc = true
          ∧ (n t).code = beAt bs 2 1 ∧ (serPort t.chip p).exceptions = satInc 255 (serPort c p).exceptions
          ∧ bitOf (hdr t.chip 0x75).cause 2 = true)
      ∧ ((serPort c p).busy = some e → replyGood idle p e bs = false → replyException idle p e bs = false →
        ∃ t : State, exec (.modbusReply p bs) s = .next t ∧ (n t).valid = false ∧ (n t).bad = true
          ∧ (serPort t.chip p).bad = satInc 255 (serPort c p).bad ∧ bitOf (hdr t.chip 0x75).cause 1 = true)
      ∧ ((serPort c p).busy = some e → ∃ t : State, exec (.modbusTimeout p) s = .next t ∧ (n t).valid = false
        ∧ (n t).timeout = true ∧ (serPort t.chip p).timeouts = satInc 255 (serPort c p).timeouts
        ∧ (serPort t.chip p).busy = none ∧ bitOf (hdr t.chip 0x75).cause 0 = true)
      ∧ ((serPort c p).busy = none → exec (.modbusReply p bs) s = .next (after s c)
        ∧ exec (.modbusTimeout p) s = .next (after s c))
      ∧ (nmea → good → taker = some e → ∃ t : State, exec (.nmeaSentence p bs) s = .next t ∧ (n t).valid = true
        ∧ (n t).new = true ∧ (n t).bad = false ∧ (n t).noChk = (nmeaCheck body).isNone
        ∧ (n t).good = (x.good + 1) % 65536 ∧ (n t).age = 0)
      ∧ (nmea → good → taker = none → exec (.nmeaSentence p bs) s = .next (after s
          (modSer c p fun k => { k with unmatched := satInc 255 k.unmatched })))
      ∧ (nmea → ¬good → ∃ t : State, exec (.nmeaSentence p bs) s = .next t
        ∧ (serPort t.chip p).bad = satInc 255 (serPort c p).bad ∧ (taker = some e → (n t).bad = true)
        ∧ bitOf (hdr t.chip 0x75).cause 1 = true)
      ∧ (¬nmea → exec (.nmeaSentence p bs) s = .next (after s c)))

/-! ### Networks and hosts -/

/-- Commands of the plant networks (R563 to R568, R597, R598, R615): links and supervision frames show in PN_STAT
except in RESET, the module's own supervision frames leave where a network serves, PTP messages of the network's domain
and time-outs move a port, ARP and ICMP requests for the module's address are answered, and what leaves a plant port
leaves on both its LANs, each copy with its trailer. That a port past LISTENING sends a delay request, and what a
time-out does, is log entry 106. -/
def Obligations.NetworkCommandsComplete : Prop :=
  ∀ (s : State) (net q : Fin 2) (st : Fin 10) (domain : BitVec 8) (off : Int) (gm : Word) (rank : Nat) (p : Port)
    (mac : BitVec 48) (ip target : Word) (bs : List Byte) (up : Bool),
    let c := s.chip
    let l := lan c net q
    let serves := ptpEn c net = true ∧ netServes c net = true ∧ 0 < (st : Nat) ∧ ((st : Nat) < 5 ∨ 7 < (st : Nat))
      ∧ domain.toNat = fld (cfg c (netPage net) 0x040) 15 8
    let plant := p = .plantA ∨ p = .plantB
    let mine := portAnswers c p = true ∧ p ≠ .backplane ∧ target.toNat = moduleIp c p
    (c.mode.mode ≠ .reset → l.up ≠ up → ∃ t : State, exec (.lanState net q up) s = .next t ∧ lan t.chip net q = { l with up := up }
        ∧ (∀ m r : Fin 2, (m, r) ≠ (net, q) → lan t.chip m r = lan c m r)
        ∧ (working c (netPage net) = true → up = false → bitOf (hdr t.chip (netPage net)).raw 0 = true))
      ∧ (c.mode.mode = .reset ∨ l.up = up → exec (.lanState net q up) s = .next (after s (syncFollow c)))
      ∧ (c.mode.mode ≠ .reset → exec (.prpSupervisionReceive net q false) s = .next (after s
          (netConds (modLan c net q fun l => { l with supervised := true }) net)))
      ∧ (∀ own : Bool, c.mode.mode = .reset ∨ own = true →
        exec (.prpSupervisionReceive net q own) s = .next (after s c))
      ∧ (exec (.supervisionMissing net q) s = .next (after s
          (netConds (modLan c net q fun l => { l with supervised := false }) net)))
      ∧ (netServes c 0 = false → netServes c 1 = false → exec .prpSupervision s = .next (after s c))
      ∧ (netServes c 0 = true → netServes c 1 = true → exec .prpSupervision s = .next (after s { c with
          sent := ⟨.prp 1 1, Config.supervisionFrame 1 1⟩ :: ⟨.prp 1 0, Config.supervisionFrame 1 0⟩
            :: ⟨.prp 0 1, Config.supervisionFrame 0 1⟩ :: ⟨.prp 0 0, Config.supervisionFrame 0 0⟩ :: c.sent }))
      ∧ (serves → ∃ t : State, exec (.ptpMessage net q ⟨domain, st⟩ off gm rank) s = .next t
        ∧ lan t.chip net q = { l with state := st, offset := off, gm := gm, rank := rank }
        ∧ (8 ≤ (st : Nat) → ∃ k : Nat, t.chip.sent = ⟨.ptp net q, Config.delayRequest net q k⟩ :: c.sent)
        ∧ ((st : Nat) < 8 → t.chip.sent = c.sent))
      ∧ (¬serves → exec (.ptpMessage net q ⟨domain, st⟩ off gm rank) s = .next (after s (syncFollow c)))
      ∧ (ptpEn c net = true → 8 ≤ l.state → ∃ t : State, exec (.ptpAnnounceTimeout net q) s = .next t
        ∧ lan t.chip net q = { l with state := 4 })
      ∧ (ptpEn c net = false ∨ l.state < 8 → exec (.ptpAnnounceTimeout net q) s = .next (after s (syncFollow c)))
      ∧ (netServes c net = true → ∃ t : State, exec (.discardedDatagram net) s = .next t
        ∧ smGet 0 t.chip.badFrames net = satInc 255 (smGet 0 c.badFrames net)
        ∧ bitOf (hdr t.chip (netPage net)).cause 3 = true)
      ∧ (netServes c net = false → exec (.discardedDatagram net) s = .next (after s c))
      ∧ (mine → exec (.arpRequest p mac ip target) s = .next (after s (send c (.eth p)
          (beBytes 2 1 ++ beBytes 2 0x0800 ++ [6, 4] ++ beBytes 2 2 ++ beBytes 6 (Config.macAddress p.code)
            ++ beBytes 4 target.toNat ++ beBytes 6 mac.toNat ++ beBytes 4 ip.toNat))))
      ∧ (mine → exec (.icmpEcho p target bs) s = .next (after s (send c (.eth p)
          ([0, 0] ++ beBytes 2 (inetSum ([0, 0] ++ bs)) ++ bs))))
      ∧ (plant → ∃ a b : BitVec 48, (send c (.eth p) bs).sent
        = ⟨.onLan 1 (.eth p), bs ++ beBytes 6 b.toNat⟩ :: ⟨.onLan 0 (.eth p), bs ++ beBytes 6 a.toNat⟩ :: c.sent)
      ∧ (¬plant → (send c (.eth p) bs).sent = ⟨.eth p, bs⟩ :: c.sent)
      ∧ (¬mine → exec (.arpRequest p mac ip target) s = .next (after s c)
        ∧ exec (.icmpEcho p target bs) s = .next (after s c))
      ∧ (c.mode.mode ≠ .reset → exec (.pcieLinkChange true) s = .next (after s
          { c with hosts := { c.hosts with pcieUp := true } }))
      ∧ (c.mode.mode = .reset → exec (.pcieLinkChange true) s = .next (after s c))
      ∧ (exec (.pcieLinkChange false) s = .next (after s { c with hosts := { c.hosts with pcieUp := false } }))

/-- The Boathouse's turn comes to session `n` next: of the open sessions before it in the round none has a message
waiting (R572). -/
def Claims.Turn (c : Chip) (n : Nat) : Prop :=
  let k := c.hosts.turn
  n < 16 ∧ k < 16 ∧ ∀ i : Nat, i < (n + 16 - k) % 16 → ∀ y : Session, session c ((k + i) % 16) = some y → y.queue = []

/-- Message `x` is served: it is the oldest of its session `n`, which is `t` and whose turn it is, `ws` wait behind it,
and its SEQ is not that of the session's last answer. -/
def Claims.Served (c : Chip) (x : RapIn) (op n : Nat) (t : Session) (ws : List Waiting) : Prop :=
  x.phase = .serve ∧ Claims.Turn c n ∧ rapOp x.bytes = op ∧ rapSession x.bytes = n ∧ forPeer c x = true ∧ session c n = some t
    ∧ (∃ k : Nat, t.queue = ⟨x.bytes, k⟩ :: ws) ∧ t.port ≠ 4 ∧ (t.last.map fun l => l.1) ≠ some (rapSeq x.bytes)

/-- The turn has gone past session `n` (R572). -/
def Claims.passed (d : Chip) (n : Nat) : Chip := modHosts d fun h => { h with turn := (n + 1) % 16 }

/-- The answer leaves for the session's peer and is kept, and the turn goes on (R572, R574). -/
def Claims.answered (d : Chip) (x : RapIn) (t : Session) (code : Nat) (body : List Byte) : Chip :=
  let n := rapSession x.bytes
  let resp := rapMessage d (rapOp x.bytes) n code (rapSeq x.bytes) body
  Claims.passed (deliverTo (modSession d n fun y => { y with last := some (rapSeq x.bytes, resp) })
    (portOf t.port) t.ip t.udp resp) n

/-- Operations served in a session (R570, R574 to R577, R582, R588, R589): each takes its message from the queue, has
its effect, and is answered with its STATUS and body; a message with the SEQ of the last answer gets that answer
again and has no effect. -/
def Claims.HostOperationsComplete : Prop :=
  ∀ (s : State) (x : RapIn) (n : Nat) (t : Session) (ws : List Waiting),
    let c := s.chip
    let b := rapBody x.bytes
    let due := fun op : Nat => Claims.Served c x op n t ws
    let d := modSession c n fun y => { y with queue := ws }
    let reply := fun (e : Chip) (code : Nat) (body : List Byte) => Host.Outcome.next (after s (Claims.answered e x t code body))
    let stages := mayStage d n 0 = true
    (due 0x03 → exec (.rapNop x) s = reply d 0 [])
      ∧ (due 0x02 → exec (.rapClose x) s = reply (endSession d n 0) 0 [])
      ∧ (due 0x10 → beAt b 4 2 = 1 → exec (.rapRead x) s =
          reply (regRead d (.session n) (beAt b 0 4)).2 0 (beBytes 4 (regRead d (.session n) (beAt b 0 4)).1.toNat))
      ∧ (due 0x10 → exec (.rapRead x) s = reply (rapRead d n (beAt b 0 4) (beAt b 4 2)).2 0
          (rapRead d n (beAt b 0 4) (beAt b 4 2)).1)
      ∧ (due 0x11 → beAt b 0 2 = 1 →
          let w := regWrite d (.session n) (beAt (b.drop 4) 0 4) true (BitVec.ofNat 32 (beAt (b.drop 4) 4 4))
          exec (.rapWrite x) s = reply w.2 0 [BitVec.ofNat 8 w.1, 0, 0, 0])
      ∧ (due 0x11 → exec (.rapWrite x) s = reply (rapWrite d n (b.drop 4) (beAt b 0 2)).2 0
          (padCodes (rapWrite d n (b.drop 4) (beAt b 0 2)).1))
      ∧ (due 0x20 → exec (.imageRead x) s = reply d 0 (rapImageRead d b))
      ∧ (due 0x20 → beAt b 1 1 = 1 → beAt b 2 2 = 1 → rapImageRead d b = beBytes 4
          (smGet 0 (if beAt b 0 1 = 0 then c.committedS else c.committedP).words (beAt b 4 4)).toNat)
      ∧ (due 0x21 → exec (.imageWrite x) s = reply (rapImageWrite d n (b.drop 4) (beAt b 0 2)).2 0
          (padCodes (rapImageWrite d n (b.drop 4) (beAt b 0 2)).1))
      ∧ (due 0x21 → beAt b 0 2 = 1 → allowanceUsed d (.session n) = false →
          (let i := b.drop 4
          imageWriteCode d (beAt i 0 1) (beAt i 2 2) (BitVec.ofNat 32 (beAt i 4 4)) = 0 →
            exec (.imageWrite x) s = reply (imageWriteItem (modSession d n fun y => { y with writes := y.writes + 1 })
              (beAt i 0 1) (beAt i 2 2) (BitVec.ofNat 32 (beAt i 4 4))) 0 [0, 0, 0, 0]))
      ∧ (due 0x30 → mayStage d n (beAt b 0 1) = false → exec (.stageOpen x) s = reply d 0x14 [])
      ∧ (due 0x30 → beAt b 0 1 ≠ 5 → mayStage d n (beAt b 0 1) = true →
          (∃ m : Nat, stageLimit (beAt b 0 1) (beAt b 1 1) = some m ∧ 0 < beAt b 4 4 ∧ beAt b 4 4 ≤ m) →
          loadRunning d (beAt b 1 1) = false → stagingFor d (beAt b 1 1) = none →
          exec (.stageOpen x) s = reply (updAbandon (modSession d n fun y =>
            { y with staging := some ⟨beAt b 0 1, beAt b 1 1, beAt b 4 4, BitVec.ofNat 32 (beAt b 8 4), [], 0,
              0xFFFFFFFF#32⟩ })) 0 [])
      ∧ (due 0x31 → stages → t.staging = none → exec (.stageData x) s = reply d 0x16 [])
      ∧ (due 0x31 → stages → ∀ g : Staging, t.staging = some g → g.kind ≠ 5 → beAt b 0 4 = g.got →
          g.got + (b.length - 4) ≤ g.length → exec (.stageData x) s = reply (modSession d n fun y => { y with
            staging := some { g with data := g.data ++ b.drop 4, got := g.got + (b.length - 4)
                                     run := crcRun g.run (b.drop 4) } }) 0 [])
      ∧ (due 0x32 → stages → ∀ g : Staging, t.staging = some g → g.kind ≠ 5 → g.got = g.length → ~~~g.run = g.crc →
          exec (.stageClose x) s = reply (modUpd (modSession d n fun y => { y with staging := none }) fun u =>
            { u with staged := smPut u.staged g.page g.data }) 0 [])
      ∧ (due 0x32 → stages → ∀ g : Staging, t.staging = some g → g.got ≠ g.length ∨ ~~~g.run ≠ g.crc →
          exec (.stageClose x) s = reply (updAbandon (modSession d n fun y => { y with staging := none })) 0x17 [])
      ∧ (due 0x41 → exec (.attnFilter x) s = reply (modSession d n fun y => { y with filter := beAt b 0 1 }) 0 [])
      ∧ (∀ (k : Nat) (old : List Byte), x.phase = .serve → Claims.Turn c n → rapOp x.bytes = 0x03 → rapSession x.bytes = n →
          forPeer c x = true → session c n = some t → t.queue = ⟨x.bytes, k⟩ :: ws → t.port ≠ 4 →
          t.last = some (rapSeq x.bytes, old) → exec (.rapNop x) s = .next (after s
            (Claims.passed (deliverTo (modSession d n fun y => { y with last := some (rapSeq x.bytes, old) })
              (portOf t.port) t.ip t.udp old) n)))

/-- Arrivals (R563, R571, R572, R581, R585): a message with a bad header or body, for no open session of its peer, or
over the queue's allowance is answered at once and not admitted; any other waits in its session's queue; OPEN takes
the lowest free session, the last one for class S only. -/
def Claims.ArrivalsComplete : Prop :=
  ∀ (s : State) (x : RapIn) (n : Nat) (t : Session) (rest : List Nat) (v : Word),
    let c := s.chip
    let op := rapOp x.bytes
    let arrives := x.phase = .enqueue ∧ takesMessages c x.port = true
    let good := rapHeaderOk x.bytes = true ∧ rapBodyOk op (rapBody x.bytes) = true
    let refused := fun (e : Chip) (code : Nat) =>
      deliverTo e x.port x.ip x.udp (rapMessage e op (rapSession x.bytes) code (rapSeq x.bytes) [])
    let room := occupancy t + entriesOf x.bytes ≤ t.queueMax
    let queued := modSession c n fun y => { y with queue := y.queue ++ [⟨x.bytes, 0⟩] }
    let cls := portClass c x.port
    let may := rest ≠ [] ∨ cls = 0
    let single := x.port = .backplane → barSession c = false
    let noFree := raise (modHosts c fun h => { h with noFree := satInc 255 h.noFree }) 0x72 2
    (∀ row ∈ [(0x02, Instr.rapClose), (0x03, .rapNop), (0x10, .rapRead), (0x11, .rapWrite), (0x20, .imageRead),
        (0x21, .imageWrite), (0x30, .stageOpen), (0x31, .stageData), (0x32, .stageClose), (0x41, .attnFilter)],
        (arrives → op = row.1 → good → forPeer c x = true → session c (rapSession x.bytes) = some t →
          rapSession x.bytes = n → room → exec (row.2 x) s = .next (after s queued))
        ∧ (arrives → op = row.1 → good → forPeer c x = true → session c (rapSession x.bytes) = some t → ¬room →
          exec (row.2 x) s = .next (after s (refused (overAllowance (if 64 < occupancy t + entriesOf x.bytes then
            queueRefused c (rapSession x.bytes) else c) (rapSession x.bytes)) 0x03)))
        ∧ (arrives → op = row.1 → good → forPeer c x = false →
          exec (row.2 x) s = .next (after s (refused c 0x11)))
        ∧ (arrives → op = row.1 ∨ knownOp op = false → ¬good →
          exec (row.2 x) s = .next (after s (refused (badMessage c) 0x10)))
        ∧ (takesMessages c x.port = false → x.phase ≠ .serve → exec (row.2 x) s = .next (after s c)))
      ∧ (arrives → op = 0x01 → good → freeSessions c = n :: rest → may → single →
        ∃ u : State, exec (.rapOpen x) s = .next u
          ∧ session u.chip n = some { port := x.port.code, cls := cls, ip := x.ip, udp := x.udp
                                      filter := beAt (rapBody x.bytes) 0 1, queueMax := (defaultAllow cls).1
                                      writesMax := (defaultAllow cls).2, writes := 0, refused := 0, queue := []
                                      last := none, staging := none, attnDue := false }
          ∧ bitOf (hdr u.chip 0x72).cause 0 = true)
      ∧ (arrives → op = 0x01 → good → freeSessions c = [] ∨ (freeSessions c = [n] ∧ cls ≠ 0) →
        exec (.rapOpen x) s = .next (after s (refused noFree 0x12)))
      ∧ (x.port = .backplane → x.ip = 0 → x.udp = 0 → arrives → op ≠ 0x01 → good → forPeer c x = true →
        session c (rapSession x.bytes) = some t → rapSession x.bytes = n → room →
        exec (.cmdLen x.bytes .enqueue) s = .next (after s queued))
      ∧ (takesMessages c .backplane = false → ∀ bs : List Byte,
        exec (.cmdLen bs .enqueue) s = .next (after s c))
      ∧ (v = 0 → c.hosts.pcieUp = true → exec (.rspLen v) s = .next (after s (releaseBar1 c)))
      ∧ (v ≠ 0 ∨ c.hosts.pcieUp = false → exec (.rspLen v) s = .next (after s c))

/-- What ends in time (R573, R582): a message that has waited CMD_TIMEOUT strokes is taken from the queue, counted and
answered TIMEOUT; a silent session closes. -/
def Claims.HostTimeoutsComplete : Prop :=
  ∀ (s : State) (n : Fin 16) (t : Session) (w : Waiting) (ws : List Waiting),
    let c := s.chip
    (session c n = some t → t.queue = w :: ws → fld (cfg c 0x72 0x040) 15 0 ≤ w.strokes →
        exec (.cmdTimeout n) s = .next (after s
          (let d := modHosts (modSession c n fun y => { y with queue := ws }) fun h =>
            { h with timeouts := satInc 255 h.timeouts }
          deliverTo (raise d 0x72 3) (portOf t.port) t.ip t.udp
            (rapMessage d (rapOp w.bytes) n 0x13 (rapSeq w.bytes) []))))
      ∧ (session c n = none ∨ (session c n = some t ∧ (t.queue = []
          ∨ (t.queue = w :: ws ∧ w.strokes < fld (cfg c 0x72 0x040) 15 0))) →
        exec (.cmdTimeout n) s = .next (after s c))
      ∧ (session c n = some t → ∃ u : State, exec (.sessionTimeout n) s = .next u ∧ session u.chip n = none
        ∧ (∀ m : Nat, m ≠ n → session u.chip m = session c m)
        ∧ u.chip.hosts.expired = satInc 255 c.hosts.expired
        ∧ smFind u.chip.wake.ctxs n = none)
      ∧ (session c n = none → exec (.sessionTimeout n) s = .next (after s (updAbandon c)))

/-- Register Access Protocol messages are admitted, served, answered and timed out. -/
def Obligations.HostCommandsComplete : Prop :=
  Claims.HostOperationsComplete ∧ Claims.ArrivalsComplete ∧ Claims.HostTimeoutsComplete

/-! ### Loads, resets and start-up -/

/-- The ends of loads (R174, R175, R285, R286, R325): an object that passes replaces what the page held and is stored
as a settings object; one that fails leaves it and is named in the load registers. A page with no load running is
left alone, and outside CONFIG no load ends (R165, R285; that it then ends after the return is the model's choice, log
entry 22). -/
def Obligations.LoadsComplete : Prop :=
  ∀ (s : State) (cr : Crew) (e : Fin 8) (k : Fin 2) (bs : List Byte),
    let c := s.chip
    let eng2 : Nat := (k : Nat) + 8
    let ends := c.mode.mode = .config
    (¬ends → ∀ j ∈ [Instr.programLoad cr, .loopSetLoad e, .tableSetLoad k, .heatSetLoad], exec j s = .next (after s c))
      ∧ ((crewSt c cr).loadResult ≠ 0xFF → exec (.programLoad cr) s = .next (after s c))
      ∧ ((eng c e).result ≠ 0xFF → exec (.loopSetLoad e) s = .next (after s c))
      ∧ ((eng c eng2).result ≠ 0xFF → exec (.tableSetLoad k) s = .next (after s c))
      ∧ (c.sel.result ≠ 0xFF → exec .heatSetLoad s = .next (after s c))
      ∧ (∀ p : Program, ends → (crewSt c cr).loadResult = 0xFF → stagedFor c (crewPage cr) = some bs →
        checkProgram (some bs) cr (scullOption c) = .ok p →
        ∃ t : State, exec (.programLoad cr) s = .next t
          ∧ (crewSt t.chip cr).prog = some p ∧ (crewSt t.chip cr).loadResult = 0
          ∧ (crewSt t.chip cr).cores = p.parts.map (fun q => { CoreSt.reset with mem := freshMem q })
          ∧ stagedFor t.chip (crewPage cr) = none
          ∧ smFind t.chip.upd.objects (128 + crewPage cr) = some bs
          ∧ bitOf (hdr t.chip (crewPage cr)).cause 16 = true)
      ∧ (∀ f : LoadFail, ends → (crewSt c cr).loadResult = 0xFF →
        checkProgram (stagedFor c (crewPage cr)) cr (scullOption c) = .error f →
        ∃ t : State, exec (.programLoad cr) s = .next t
          ∧ crewSt t.chip cr = { crewSt c cr with
            loadResult := f.result, loadSection := f.sect, loadWhere := BitVec.ofNat 32 f.at_ }
          ∧ stagedFor t.chip (crewPage cr) = stagedFor c (crewPage cr)
          ∧ t.chip.upd.objects = c.upd.objects)
      ∧ (∀ (x : LoopSet) (d : SMap Nat), ends → (eng c e).result = 0xFF → stagedFor c (engPage e) = some bs →
        checkLoopSet false e (periodNs c) (some bs) = .ok (x, d) →
        ∃ t : State, exec (.loopSetLoad e) s = .next t ∧ (eng t.chip e).set = some x ∧ (eng t.chip e).result = 0
          ∧ stagedFor t.chip (engPage e) = none ∧ smFind t.chip.upd.objects (256 + engPage e) = some bs)
      ∧ (∀ r n : Nat, ends → (eng c e).result = 0xFF →
        checkLoopSet false e (periodNs c) (stagedFor c (engPage e)) = .error (r, n) →
        ∃ t : State, exec (.loopSetLoad e) s = .next t ∧ eng t.chip e = { eng c e with result := r, failNo := n }
          ∧ t.chip.upd = c.upd)
      ∧ (∀ (x : LoopSet) (d : SMap Nat), ends → (eng c eng2).result = 0xFF → stagedFor c (engPage eng2) = some bs →
        checkLoopSet true k (periodNs c) (some bs) = .ok (x, d) →
        ∃ t : State, exec (.tableSetLoad k) s = .next t ∧ (eng t.chip eng2).set = some x
          ∧ (eng t.chip eng2).result = 0 ∧ stagedFor t.chip (engPage eng2) = none
          ∧ smFind t.chip.upd.objects (512 + engPage eng2) = some bs)
      ∧ (∀ r n : Nat, ends → (eng c eng2).result = 0xFF →
        checkLoopSet true k (periodNs c) (stagedFor c (engPage eng2)) = .error (r, n) →
        ∃ t : State, exec (.tableSetLoad k) s = .next t
          ∧ eng t.chip eng2 = { eng c eng2 with result := r, failNo := n } ∧ t.chip.upd = c.upd)
      ∧ (∀ (i v : Word) (hs : List HeatBlock), ends → c.sel.result = 0xFF → stagedFor c 0x18 = some bs →
        checkHeatSet (some bs) = .ok (i, v, hs) →
        ∃ t : State, exec .heatSetLoad s = .next t ∧ t.chip.sel.set = some (i, v, hs) ∧ t.chip.sel.result = 0
          ∧ stagedFor t.chip 0x18 = none ∧ smFind t.chip.upd.objects (3 * 128 + 0x18) = some bs)
      ∧ (∀ r n : Nat, ends → c.sel.result = 0xFF → checkHeatSet (stagedFor c 0x18) = .error (r, n) →
        ∃ t : State, exec .heatSetLoad s = .next t ∧ t.chip.sel = { c.sel with result := r, failNo := n }
          ∧ t.chip.upd = c.upd)

/-- Outcome `o` is the module in RESET, asserted by source `n` of a reach (3 MODULE, 4 POWER): what MRAM holds and
the underway input stay, the registers and pages are at their reset values, module time goes on through a MODULE
reset, and the assertion is counted (R603, R604, R609, R610, R624). -/
def Claims.Resets (c : Chip) (n reach : Nat) (o : Host.Outcome State Fault Refusal) : Prop :=
  let again := c.mode.mode = .reset
  let held := if again then c.rst.asserted else 0#12
  ∃ t : State, o = .next t ∧ t.chip.mode.mode = .reset ∧ t.chip.pages = Chip.reset.pages
    ∧ t.chip.cfg = Chip.reset.cfg ∧ t.chip.crewS = Chip.reset.crewS ∧ t.chip.crewP = Chip.reset.crewP
    ∧ t.chip.hosts = Chip.reset.hosts ∧ t.chip.rst.asserted = held ||| (1#12 <<< n)
    ∧ t.chip.backup.lastReach = (if again then max c.backup.lastReach reach else reach)
    ∧ t.chip.backup.lastSources = (if again then c.backup.lastSources else 0) ||| (1#12 <<< n)
    ∧ smGet 0 t.chip.backup.counts n = (if c.rst.asserted.getLsbD n then smGet 0 c.backup.counts n else satInc 0xFFFF (smGet 0 c.backup.counts n))
    ∧ t.chip.upd.slots = c.upd.slots ∧ t.chip.upd.objects = c.upd.objects ∧ t.chip.upd.current = c.upd.current
    ∧ t.chip.wake.area = c.wake.area ∧ t.chip.wake.launch = c.wake.launch ∧ t.chip.wake.head = c.wake.head
    ∧ t.chip.underway = c.underway ∧ t.chip.ident.ownerCert = c.ident.ownerCert
    ∧ t.chip.stroke.t0 = if reach = 4 then 0 else c.stroke.t0

/-- The twelve reset sources (R604 to R610, R612): each asserts with its reach unless what R604 asks of it is missing,
and the release of the last one takes the module to BOOT. -/
def Claims.ResetSourcesComplete : Prop :=
  ∀ (s : State) (n : Fin 12) (w : RstCmd) (rest : List RstCmd) (ms : Nat),
    let c := s.chip
    let a := c.rst.asserted
    let oneLess := fun k : Nat => a &&& ~~~(1#12 <<< k)
    let here := c.mode.mode = .reset
    let asked := modRst c fun x => { x with waiting := rest }
    let cr := if w.target = 0 then Crew.safety else Crew.process
    (c.rst.railsOff = false → Claims.Resets c 0 4 (exec .powerOn s) ∧ Claims.Resets c 1 4 (exec .brownoutVcore s)
        ∧ Claims.Resets c 2 4 (exec .brownoutVddr s) ∧ Claims.Resets c 3 4 (exec .brownoutVio s))
      ∧ (c.rst.railsOff = true → exec .powerOn s = .next (after s c) ∧ exec .brownoutVcore s = .next (after s c)
        ∧ exec .brownoutVddr s = .next (after s c) ∧ exec .brownoutVio s = .next (after s c))
      ∧ (c.backup.buttonStuck = false → Claims.Resets c 4 3 (exec .button s))
      ∧ (c.backup.buttonStuck = true → exec .button s = .next (after s
          (modRst c fun x => { x with buttonClosed := true })))
      ∧ Claims.Resets c 5 3 (exec .backplane s)
      ∧ (c.rst.wdtArmed = true → ¬here → Claims.Resets c 6 3 (exec .watchdog s))
      ∧ (c.rst.wdtArmed = false ∨ here → exec .watchdog s = .next (after s c))
      ∧ (takeWaiting 0 c.rst.waiting = none → exec .cmdService s = .next (after s c))
      ∧ (takeWaiting 0 c.rst.waiting = some (w, rest) → w.reach = 3 → Claims.Resets c 9 3 (exec .cmdService s))
      ∧ (takeWaiting 0 c.rst.waiting = some (w, rest) → w.reach = 4 → Claims.Resets c 9 4 (exec .cmdService s))
      ∧ (takeWaiting 0 c.rst.waiting = some (w, rest) → w.reach = 1 → pageCrew w.target = none →
        resettable asked w.target = true → ∃ t : State, exec .cmdService s = .next t
          ∧ (hdr t.chip w.target).st = .isolated ∧ (smFind t.chip.rst.blockResets w.target).isSome = true
          ∧ t.chip.rst.asserted.getLsbD 9 = true)
      ∧ (takeWaiting 0 c.rst.waiting = some (w, rest) → w.reach = 2 → crewHeld c cr = false →
        exec .cmdService s = .next (after s (crewReset asked cr w.cls 9))
          ∧ inCrewReset (crewReset asked cr w.cls 9) cr = true
          ∧ (coxSt (crewReset asked cr w.cls 9) cr).restoring = false)
      ∧ (takeWaiting 0 c.rst.waiting = some (w, rest) →
        (w.reach = 1 ∧ resettable asked w.target = false) ∨ (w.reach = 2 ∧ crewHeld c cr = true) →
        exec .cmdService s = .next (after s asked))
      ∧ (takeWaiting 1 c.rst.waiting = some (w, rest) → Claims.Resets c 10 3 (exec .cmdEngineering s))
      ∧ (takeWaiting 1 c.rst.waiting = none → exec .cmdEngineering s = .next (after s c))
      ∧ (here → a.getLsbD n = true → ∃ t : State, exec (.resetSourceRelease n) s = .next t
        ∧ t.chip.rst.asserted = oneLess n ∧ t.chip.mode.mode = (if oneLess n = 0 then .boot else .reset)
        ∧ (oneLess n = 0 → t.chip.rst.wdtArmed = true ∧ t.chip.boat.locked = 0x1F ∧ t.chip.mode.seq = c.mode.seq + 1))
      ∧ (¬here → a.getLsbD n = true → exec (.resetSourceRelease n) s = .next (after s c))
      ∧ (a.getLsbD n = false → (n : Nat) ≠ 4 ∨ c.backup.buttonStuck = false →
        exec (.resetSourceRelease n) s = .next (after s c))
      ∧ (a.getLsbD 4 = false → c.backup.buttonStuck = true → exec (.resetSourceRelease 4) s = .next (after s
          (modRst c fun x => { x with buttonClosed := false })))
      ∧ (here → a.getLsbD 4 = true → ∃ t : State, exec .buttonStuck s = .next t
        ∧ t.chip.backup.buttonStuck = true ∧ t.chip.rst.asserted = oneLess 4
        ∧ t.chip.mode.mode = (if oneLess 4 = 0 then .boot else .reset))
      ∧ (¬here ∨ a.getLsbD 4 = false → exec .buttonStuck s = .next (after s c))
      ∧ (c.backup.buttonStuck = true → ∃ t : State, exec (.buttonFreed ms) s = .next t
        ∧ t.chip.backup.buttonStuck = false ∧ t.chip.rst.buttonClosed = false)
      ∧ (c.backup.buttonStuck = false → exec (.buttonFreed ms) s = .next (after s c))

/-- The end of a BLOCK reset (R53, R611, R624): the block is DISABLED again, with its owner and mask as they were. -/
def Claims.BlockResetsComplete : Prop :=
  ∀ (s : State) (p : Fin 128) (r : BlkReset),
    let c := s.chip
    (smFind c.rst.blockResets p = some r → ∃ t : State, exec (.blockReset p) s = .next t
        ∧ smFind t.chip.rst.blockResets p = none
        ∧ (hdr t.chip p).st = (if fixedPage p then .enabled else .disabled)
        ∧ (hdr t.chip p).mask = (hdr c p).mask ∧ (hdr t.chip p).ownerE = (hdr c p).ownerE
        ∧ (hdr t.chip p).ownerP = (hdr c p).ownerP
        ∧ bitOf (hdr t.chip 1).cause 5 = true)
      ∧ (smFind c.rst.blockResets p = none → exec (.blockReset p) s = .next (after s c))

/-- The reset sources, their releases and BLOCK resets complete. -/
def Obligations.ResetsComplete : Prop :=
  Claims.ResetSourcesComplete ∧ Claims.BlockResetsComplete

/-- BOOT (R619, R665, R30): on the image chosen, the module goes to CONFIG with a plug read the same twice (and on from
there where its configuration is consistent, R35), else to UNADDRESSED; where no image passes it stays in BOOT FAIL. -/
def Claims.BootCompletes : Prop :=
  ∀ (s : State) (x : BootIn) (r : Running) (why : Nat) (rec : PlugRec),
    let c := s.chip
    let e := bootCopies c x
    let d := modPanel (modIdent (bootBackup e x.backupKept) fun i => { i with keyFault := !x.keyOk }) fun p =>
      { p with shadowOk := p.shadowOk && x.shadowOk }
    let due := c.mode.mode = .boot ∧ c.rst.bootFail = false
    let plug := if plugRead1 x.plug1 = plugRead1 x.plug2 then plugRead1 x.plug1 else none
    let addressed := fun m : Mode => m ∈ [.config, .standby, .run, .stop]
    let plain := due ∧ e.upd.boot.trial = false
    (¬due → exec (.boot x) s = .next (after s c))
      ∧ (due → ∃ t : State, exec (.boot x) s = .next t ∧ t.chip.upd.boot.trial = false
        ∧ ((t.chip.mode.mode = .boot ∧ t.chip.rst.bootFail = true)
          ∨ (t.chip.mode.mode ≠ .boot ∧ t.chip.upd.boot.strikes = 0)))
      ∧ (plain → chooseImage d x false plug.isSome = none → ∃ t : State, exec (.boot x) s = .next t
        ∧ t.chip.mode.mode = .boot ∧ t.chip.rst.bootFail = true ∧ t.chip.rst.wdtArmed = false)
      ∧ (plain → chooseImage d x false plug.isSome = some (r, why) → plug = none →
        ∃ t : State, exec (.boot x) s = .next t ∧ t.chip.mode.mode = .unaddressed ∧ t.chip.upd.running = r)
      ∧ (plain → chooseImage d x false plug.isSome = some (r, why) → plug = some rec →
        ∃ t : State, exec (.boot x) s = .next t ∧ addressed t.chip.mode.mode ∧ t.chip.upd.running = r
          ∧ t.chip.rst.plugId = plugIdOf rec ∧ t.chip.rst.plugRack = rec.rack)

/-- Later plug reads (R617, R618, R30): in UNADDRESSED two reads in a row of the same record address the module; from
CONFIG on a read that differs from what was taken sets the condition. -/
def Claims.PlugReadsComplete : Prop :=
  ∀ (s : State) (x : Option (List Byte)) (rec : PlugRec),
    let c := s.chip
    let polls := c.mode.mode = .unaddressed
    (polls → plugRead1 x = some rec → c.rst.plugSeen = some rec → ∃ t : State, exec (.plugPoll x) s = .next t
        ∧ t.chip.mode.mode ∈ [.config, .standby, .run, .stop] ∧ t.chip.rst.plugId = plugIdOf rec)
      ∧ (polls → plugRead1 x = some rec → c.rst.plugSeen ≠ some rec → exec (.plugPoll x) s = .next (after s
          (modRst c fun y => { y with plugSeen := some rec })))
      ∧ (polls → plugRead1 x = none → exec (.plugPoll x) s = .next (after s
          (modRst c fun y => { y with plugSeen := none })))
      ∧ (¬polls → exec (.plugPoll x) s = .next (after s c))
      ∧ (plugRead c = true → ∃ t : State, exec (.plugCheck x) s = .next t
        ∧ t.chip.rst.plugLast = some x
        ∧ (bitOf (hdr t.chip 1).raw 3 = true ↔ plugRead1 x ≠ some (plugHeld c)))
      ∧ (plugRead c = false → exec (.plugCheck x) s = .next (after s c))

/-- The PLLs (R22, R30, R393): one that loses lock raises PLL_UNLOCK and halts the module, a seat holder whose partner
is READY after handing the seat over; in BOOT, UNADDRESSED, SAFE_HALT and DORMANT the mode stays. -/
def Claims.PllCommandsComplete : Prop :=
  ∀ (s : State) (n : Fin 5),
    let c := s.chip
    let m := c.mode.mode
    let loses := c.boat.locked.getLsbD n = true ∧ m ≠ .reset
    let hands := paired c = true ∧ c.seat.holds = true ∧ partnerReady c = true
    let gone := c.boat.locked &&& ~~~(1#5 <<< (n : Nat))
    (loses → ∃ t : State, exec (.pllUnlock n) s = .next t ∧ t.chip.boat.locked = gone
        ∧ bitOf (hdr t.chip 0x7A).cause 0 = true
        ∧ (m = .activate → t.chip.mode.mode = .safeHalt)
        ∧ (m ∈ [.config, .stop, .run, .hold, .standby, .takeover] →
          (¬hands → t.chip.mode.mode = .safeHalt)
            ∧ (hands → t.chip.mode.mode = m ∧ t.chip.seat.handover = true ∧ t.chip.seat.haltRow.isSome = true))
        ∧ (m = .boot ∨ m = .unaddressed ∨ m = .safeHalt ∨ m = .dormant → t.chip.mode.mode = m))
      ∧ (¬loses → exec (.pllUnlock n) s = .next (after s c))
      ∧ (m ≠ .reset → exec (.pllLock n) s = .next (after s
          { c with boat := { c.boat with locked := c.boat.locked ||| (1#5 <<< (n : Nat)) } }))
      ∧ (m = .reset → exec (.pllLock n) s = .next (after s c))

/-- BOOT, the address plug and the PLLs complete. -/
def Obligations.StartUpCompletes : Prop :=
  Claims.BootCompletes ∧ Claims.PlugReadsComplete ∧ Claims.PllCommandsComplete

/-! ### The Boathouse -/

/-- Sensors (R188, R628 to R631, R640): a sample is held, with its peaks; a shock raises its cause; a condition changes
where the last three samples lie beyond, or back inside, its threshold, and SENSOR_FAULT with the sample itself; the
cell's measurement sets or clears CELL_LOW, and shows a cell that does not answer as 0x8000. -/
def Claims.SensorCommandsComplete : Prop :=
  ∀ (s : State) (x : SensorIn) (bit : Fin 9) (k : Fin 64) (v : Bool) (mv secs : Nat),
    let c := s.chip
    let rises := stayedOut c bit k = true ∧ sensorHeld c bit k = false
    let falls := stayedIn c bit k = true ∧ sensorHeld c bit k = true
    let read := modBoat c (fun b => { b with cell := min 0xFFFF mv, faults := smSet false b.faults 35 false })
    let measured := faultConds { read with
      backup := { c.backup with seconds := max c.backup.seconds (min 0xFFFFFFFF secs) }.signed }
    (∃ t : State, exec (.underwayInput v) s = .next t ∧ t.chip.underway = v
        ∧ (v = true → ∀ i : Nat, bitOf (smGet 0 t.chip.ctlP.bps i) 31 = false)
        ∧ (v = false → t.chip.ctlP = c.ctlP))
      ∧ (∃ t : State, exec (.sensorSample x) s = .next t
        ∧ (∀ i : Nat, i < 12 → tempOf t.chip i = pat16 ((x.temps[i]?).join)
          ∧ sense (smGet 0x8000 t.chip.boat.peaks i)
            = max (sense (smGet 0x8000 c.boat.peaks i)) (sense (tempOf t.chip i)))
        ∧ (∀ r : Nat, r < 5 → ∀ ma m : Nat, x.rails[r]? = some (some (ma, m)) →
          railMv t.chip r = min m 0xFFFF)
        ∧ (∀ r : Nat, r < 5 → (sensorFaulted t.chip (16 + r) = true ↔ (x.rails[r]?).join = none))
        ∧ (∀ i : Nat, i < 12 → (sensorHeld t.chip 8 i = true ↔ (x.temps[i]?).join = none))
        ∧ (∀ (ps : List Nat) (g : Nat), x.motion = some (ps, g) → t.chip.boat.rms = min 0xFFFF g
          ∧ ((∃ a : Nat, a < 3 ∧ 500 < (ps[a]?).getD 0) → bitOf (hdr t.chip 0x7A).cause 6 = true))
        ∧ (x.motion = none → t.chip.boat.rms = 0x8000)
        ∧ t.chip.boat.cap = (match x.cap with | some n => min 0xFFFF n | none => 0x8000))
      ∧ (rises → exec (.sensorState bit k true) s = .next (after s (sensorTo c bit k true)))
      ∧ (¬rises → exec (.sensorState bit k true) s = .next (after s c))
      ∧ (falls → exec (.sensorState bit k false) s = .next (after s (sensorTo c bit k false)))
      ∧ (¬falls → exec (.sensorState bit k false) s = .next (after s c))
      ∧ (∃ t : State, exec (.cellMeasure (some mv) secs) s = .next t ∧ cellLow t.chip = decide (mv < 2700)
        ∧ t.chip.boat.cell = min 0xFFFF mv
        ∧ t.chip.backup.seconds = max c.backup.seconds (min 0xFFFFFFFF secs))
      ∧ (decide (mv < 2700) = sensorHeld c 7 33 →
        exec (.cellMeasure (some mv) secs) s = .next (after s measured))
      ∧ (∃ t : State, exec (.cellMeasure none secs) s = .next t ∧ t.chip.boat.cell = 0x8000
        ∧ sensorHeld t.chip 8 33 = true)

/-- The ends of owner commands and attestations (R638, R639, R643). -/
def Claims.IdentityCommandsComplete : Prop :=
  ∀ (s : State) (len : Nat),
    let c := s.chip
    let i := c.ident
    let cert := ownBytes c len
    let ends := fun (cmd r : Nat) (cert : Option (List Byte)) (lock : Bool) => i.busy = some (cmd, len) →
      ∃ t : State, exec .ownerChange s = .next t
        ∧ t.chip.ident = { i with busy := none, result := r, window := [], ownerCert := cert, ownerLock := lock }
        ∧ (r ≠ 3 → r ≠ 4 → bitOf (hdr t.chip 0x7C).cause 1 = true)
    (certWellFormed cert = false → ends 1 3 i.ownerCert i.ownerLock)
      ∧ (certWellFormed cert = true → certKeyP384 cert = false → ends 1 4 i.ownerCert i.ownerLock)
      ∧ (certWellFormed cert = true → certKeyP384 cert = true → ends 1 1 (some cert) i.ownerLock)
      ∧ ends 2 2 none i.ownerLock ∧ ends 3 5 i.ownerCert true ∧ ends 4 6 i.ownerCert false
      ∧ (i.busy = none → exec .ownerChange s = .next (after s c))
      ∧ (i.attPending = true → i.keyFault = false → ∃ t : State, exec .attested s = .next t
        ∧ t.chip.ident = { i with attPending := false, attResult := 1, sig := keySign (sha256 i.report) }
        ∧ bitOf (hdr t.chip 0x7C).cause 0 = true)
      ∧ (i.attPending = true → i.keyFault = true → ∃ t : State, exec .attested s = .next t
        ∧ t.chip.ident = { i with attPending := false, attResult := 2 }
        ∧ bitOf (hdr t.chip 0x7C).cause 0 = true)
      ∧ (i.attPending = false → exec .attested s = .next (after s c))

/-- The wake recorder (R647 to R651, R657, R658): the record of the queue whose head has the lowest TIME is taken and
stored under the next SEQ, after the LOST record of that queue where entries were refused; an export ends with its
result. Nothing is drained in RESET. -/
def Claims.WakeCommandsComplete : Prop :=
  ∀ (s : State) (q : Nat) (r : WakeRec),
    let c := s.chip
    let wq := smGet WakeQueue.empty c.wake.queues q
    let next := fun w : Word => if c.wake.stored = 0 then 1 else w + 1
    let due := c.mode.mode ≠ .reset ∧ nextQueue c = some (q, r)
    let kept := fun t : State => (smGet WakeQueue.empty t.chip.wake.queues q).recs = wq.recs.drop 1
      ∧ ∀ p : Nat, p ≠ q → smGet WakeQueue.empty t.chip.wake.queues p = smGet WakeQueue.empty c.wake.queues p
    (due → wq.refused = 0 → ∃ t : State, exec .wakeRecordStore s = .next t ∧ kept t
        ∧ t.chip.wake.head = next c.wake.head ∧ t.chip.wake.stored = satInc wakeSlots c.wake.stored
        ∧ smFind t.chip.wake.area ((next c.wake.head).toNat % wakeSlots)
          = some ⟨next c.wake.head, if r.code = 0x7801 then { r with p1 := next c.wake.head } else r⟩)
      ∧ (due → wq.refused ≠ 0 → ∃ t : State, exec .wakeRecordStore s = .next t ∧ kept t
        ∧ t.chip.wake.head = next c.wake.head + 1
        ∧ (smGet WakeQueue.empty t.chip.wake.queues q).refused = 0
        ∧ ∃ l : Stored, smFind t.chip.wake.area ((next c.wake.head).toNat % wakeSlots) = some l
          ∧ l.seq = next c.wake.head ∧ l.body.code = 0x7802 ∧ l.body.source = q
          ∧ l.body.p0 = BitVec.ofNat 32 wq.refused)
      ∧ (c.mode.mode = .reset ∨ nextQueue c = none → exec .wakeRecordStore s = .next (after s c))
      ∧ (exporting c = true → ∃ t : State, exec .exportDone s = .next t ∧ exporting t.chip = false
        ∧ t.chip.wake.expBuf = exportRecords c ∧ t.chip.wake.expHeld = (exportRecords c).length
        ∧ t.chip.wake.expResult = (if exportRecords c = [] then 3 else if c.ident.keyFault then 2 else 1)
        ∧ bitOf (hdr t.chip 0x78).cause 2 = true)
      ∧ (exporting c = false → exec .exportDone s = .next (after s c))

/-- The queue taken next (R647): no other queue's oldest record has a lower TIME, nor the same TIME and a lower
number. -/
def Claims.OldestRecordGoesFirst : Prop :=
  ∀ (c : Chip) (q : Nat) (r : WakeRec), nextQueue c = some (q, r) →
    (q = 56 ∨ q = 57 ∨ q = 58 ∨ q = 59)
      ∧ (∃ rest : List WakeRec, (smGet WakeQueue.empty c.wake.queues q).recs = r :: rest)
      ∧ ∀ (p : Nat) (x : WakeRec) (rest : List WakeRec), p = 56 ∨ p = 57 ∨ p = 58 ∨ p = 59 →
        (smGet WakeQueue.empty c.wake.queues p).recs = x :: rest → r.time < x.time ∨ (r.time = x.time ∧ q ≤ p)

/-- A block's record (R26, R648) joins the end of its queue while that holds fewer than 1,024, and is refused and
counted when it is full; the other queues stay. -/
def Claims.RecordsEnterTheirQueue : Prop :=
  ∀ (c : Chip) (time p low source : Nat) (p0 p1 p2 p3 : Word),
    let q := wakeQueueOf p
    let d := emitAt c time p low source p0 p1 p2 p3
    let old := smGet WakeQueue.empty c.wake.queues q
    let new := smGet WakeQueue.empty d.wake.queues q
    (old.recs.length < 1024 → new = { old with recs := old.recs ++ [⟨time, p * 256 + low, source, p0, p1, p2, p3⟩] })
      ∧ (1024 ≤ old.recs.length → new.recs = old.recs ∧ new.lost = satInc 255 old.lost
        ∧ new.refused = old.refused + 1)
      ∧ (∀ x : Nat, x ≠ q → smGet WakeQueue.empty d.wake.queues x = smGet WakeQueue.empty c.wake.queues x)
      ∧ d.wake.area = c.wake.area ∧ d.wake.head = c.wake.head

/-- Sensors, identity and the wake recorder complete. -/
def Obligations.BoathouseCommandsComplete : Prop :=
  Claims.SensorCommandsComplete ∧ Claims.IdentityCommandsComplete ∧ Claims.WakeCommandsComplete
    ∧ Claims.OldestRecordGoesFirst ∧ Claims.RecordsEnterTheirQueue

/-- Firmware update (R669 to R675): whole blocks out of queue 62 are checked and land in the target slot;
verification ends with the first check that fails, or the slot VALID; ACTIVATE is entered with TRIAL set, and ends on
the new image or, where that cannot take the settings over, back on the old one. -/
def Claims.UpdateCommandsComplete : Prop :=
  ∀ (s : State) (reads : Bool) (r b : Nat),
    let c := s.chip
    let u := c.upd
    let full := (u.state = 1 ∨ u.state = 2) ∧ 65536 ≤ u.queue.length
    let bs := u.queue.take 65536
    let heads := headFits bs = true ∧ leAt bs 0x14 4 = u.length
    let good := if u.block = 0 then heads else (crc32c bs).toNat = entryCrc u.head u.block
    let whole := u.state = 2 ∧ u.queue.length < 65536
    let n := u.boot.active
    let enters := u.state = 3 ∧ (c.mode.mode = .stop ∨ c.mode.mode = .standby)
    let unread := settingsTaken c = false ∨ (reads = true ∧ u.current.isSome = true)
    (full → u.block = 0 → ¬heads → exec (.updateBlock reads) s = .next (after s (updFail c 2 0)))
      ∧ (full → u.block ≠ 0 → ¬good → exec (.updateBlock reads) s = .next (after s (updFail c 4 u.block)))
      ∧ (full → good → exec (.updateBlock false) s = .next (after s (updFail c 5 u.block)))
      ∧ (full → good → exec (.updateBlock true) s = .next (after s (landBlock c bs)))
      ∧ (¬full → exec (.updateBlock reads) s = .next (after s c))
      ∧ (let d := updFail c r b
        d.upd.state = 4 ∧ d.upd.result = r ∧ d.upd.block = b ∧ d.upd.queue = [] ∧ bitOf (hdr d 0x79).cause 0 = true)
      ∧ (whole → verifyFault c = some (r, b) → exec .updateVerify s = .next (after s (updFail c r b)))
      ∧ (whole → verifyFault c = none → ∃ t : State, exec .updateVerify s = .next t ∧ t.chip.upd.state = 3
        ∧ t.chip.upd.result = 1 ∧ (u.target < 2 → slotValid t.chip u.target = true)
        ∧ t.chip.upd.boot.active = (if recoveryRuns c then 0 else n))
      ∧ (¬whole → exec .updateVerify s = .next (after s c))
      ∧ (u.activateDue = true → enters → ∃ t : State, exec .activateEntry s = .next t
        ∧ t.chip.mode.mode = .activate ∧ t.chip.mode.activateFrom = c.mode.mode
        ∧ t.chip.upd.boot.trial = true ∧ t.chip.upd.boot.previous = n ∧ t.chip.upd.boot.active = u.target
        ∧ ∀ k : Nat, k < 16 → session t.chip k = none)
      ∧ (u.activateDue = true → ¬enters → exec .activateEntry s = .next (after s
          { c with upd := { u with activateDue := false } }))
      ∧ (u.activateDue = false → exec .activateEntry s = .next (after s c))
      ∧ (c.mode.mode = .activate → settingsTaken c = true → ∃ t : State, exec .activated s = .next t
        ∧ t.chip.mode.mode = c.mode.activateFrom ∧ t.chip.upd.boot.trial = false ∧ t.chip.upd.state = 0
        ∧ t.chip.upd.running = runningOf n (smGet Slot.empty u.slots n).head
        ∧ bitOf (hdr t.chip 0x79).cause 1 = true)
      ∧ (c.mode.mode ≠ .activate ∨ settingsTaken c = false → exec .activated s = .next (after s c))
      ∧ (c.mode.mode = .activate → unread → ∃ t : State, exec (.fallback reads) s = .next t
        ∧ t.chip.mode.mode = c.mode.activateFrom ∧ t.chip.upd.boot.trial = false
        ∧ t.chip.upd.boot.active = u.boot.previous ∧ t.chip.upd.running = u.running
        ∧ bitOf (hdr t.chip 0x79).cause 2 = true)
      ∧ (c.mode.mode ≠ .activate ∨ ¬unread → exec (.fallback reads) s = .next (after s c))

/-- The panel (R690 to R699): a check starts the clearing that is due, or an update of the commons that differ; a phase
shows its common and the last one ends the update; the end of a test clears; the crack loop reads broken above 200
ohms and whole after two good readings. -/
def Claims.PanelCommandsComplete : Prop :=
  ∀ (s : State) (u : PnlUpdate) (reason k k' ohms : Nat) (cl cl' : Bool) (rest : List (Nat × Bool)),
    let c := s.chip
    let p := c.panel
    let idle := panelServes c = true ∧ p.update = none ∧ p.testing = false
      ∧ (enabled c 0x7B = true ∨ c.rst.bootFail = true)
    let fresh := modPanel c fun q => { q with first := none }
    let shown := modPanel c fun q => { q with glass := phaseShown q.glass u k cl }
    let good := if 200 < ohms then 0 else p.crackGood + 1
    let broken := 200 < ohms ∨ (p.crack = true ∧ good < 2)
    (idle → p.first = some (some reason) → exec .panelCheck s = .next (after s (startClearing fresh reason)))
      ∧ (idle → p.first = none ∨ p.first = some none →
        exec .panelCheck s = .next (after s (startUpdate fresh (wantedPicture c) false)))
      ∧ (¬idle → exec .panelCheck s = .next (after s c))
      ∧ (p.update = none → exec .panelPhaseEnd s = .next (after s c))
      ∧ (p.update = some u → u.phases = [] → exec .panelPhaseEnd s = .next (after s (updateDone c u)))
      ∧ (p.update = some u → u.phases = [(k, cl)] → exec .panelPhaseEnd s = .next (after s (updateDone shown u)))
      ∧ (p.update = some u → u.phases = [(k, cl)] → p.waiting = none → ∃ t : State, exec .panelPhaseEnd s = .next t
        ∧ t.chip.panel.update = none ∧ t.chip.panel.shadow = u.wanted ∧ t.chip.panel.shadowOk = true
        ∧ t.chip.panel.glass = phaseShown p.glass u k cl ∧ t.chip.backup.marker = false
        ∧ t.chip.panel.updates = p.updates + 1)
      ∧ (p.update = some u → u.phases = (k, cl) :: (k', cl') :: rest → u.clearing = none →
        exec .panelPhaseEnd s = .next (after s
          (modPanel shown fun q => { q with update := some { u with phases := (k', cl') :: rest } })))
      ∧ (p.update = some u → u.phases = (k, cl) :: (k', cl') :: rest → ∃ t : State, exec .panelPhaseEnd s = .next t
        ∧ t.chip.panel.glass = phaseShown p.glass u k cl
        ∧ (t.chip.panel.update.map fun x => x.phases) = some ((k', cl') :: rest))
      ∧ (p.testing = true → p.update = none → exec .pnlTestEnd s = .next (after s
          (startClearing (modPanel c fun q => { q with testing := false }) 4)))
      ∧ (p.testing = false ∨ p.update ≠ none → exec .pnlTestEnd s = .next (after s c))
      ∧ (panelServes c = true → ∃ t : State, exec (.crack ohms) s = .next t
        ∧ t.chip.panel.ohms = min ohms 0xFFFF ∧ (t.chip.panel.crack = true ↔ broken)
        ∧ (bitOf (hdr t.chip 0x7B).raw 0 = true ↔ broken))
      ∧ (panelServes c = false → exec (.crack ohms) s = .next (after s c))

/-- Firmware update and the front panel complete. -/
def Obligations.UpdateAndPanelComplete : Prop :=
  Claims.UpdateCommandsComplete ∧ Claims.PanelCommandsComplete
end

