-- ==== Sys2Proof/Laws/State.lean ====
section
/-!
SUPPORT. What each named update of the module's state changes and what it keeps, one lemma per field.
-/
namespace Sys2Proof.Machine

/-! ### The queue and the module -/

@[simp] theorem after_pending (s : State) (c : Chip) : (Safety.after s c).pending = s.pending := rfl
@[simp] theorem after_chip (s : State) (c : Chip) : (Safety.after s c).chip = attnUpdate c := rfl
@[simp] theorem answer_eq (f : Chip → Chip) (s : State) : answer f s = .next (Safety.after s (f s.chip)) := rfl

/-! ### `modStroke` -/

@[simp] theorem modStroke_fresh (c : Chip) (f : StrokeSt → StrokeSt) : (modStroke c f).fresh = c.fresh := rfl
@[simp] theorem modStroke_now (c : Chip) (f : StrokeSt → StrokeSt) : (modStroke c f).now = c.now := rfl
@[simp] theorem modStroke_mode (c : Chip) (f : StrokeSt → StrokeSt) : (modStroke c f).mode = c.mode := rfl
@[simp] theorem modStroke_pages (c : Chip) (f : StrokeSt → StrokeSt) : (modStroke c f).pages = c.pages := rfl
@[simp] theorem modStroke_attn (c : Chip) (f : StrokeSt → StrokeSt) : (modStroke c f).attn = c.attn := rfl
@[simp] theorem modStroke_stroke (c : Chip) (f : StrokeSt → StrokeSt) : (modStroke c f).stroke = f c.stroke := rfl
@[simp] theorem modStroke_backup (c : Chip) (f : StrokeSt → StrokeSt) : (modStroke c f).backup = c.backup := rfl
@[simp] theorem modStroke_rst (c : Chip) (f : StrokeSt → StrokeSt) : (modStroke c f).rst = c.rst := rfl
@[simp] theorem modStroke_boat (c : Chip) (f : StrokeSt → StrokeSt) : (modStroke c f).boat = c.boat := rfl
@[simp] theorem modStroke_ident (c : Chip) (f : StrokeSt → StrokeSt) : (modStroke c f).ident = c.ident := rfl
@[simp] theorem modStroke_upd (c : Chip) (f : StrokeSt → StrokeSt) : (modStroke c f).upd = c.upd := rfl
@[simp] theorem modStroke_panel (c : Chip) (f : StrokeSt → StrokeSt) : (modStroke c f).panel = c.panel := rfl
@[simp] theorem modStroke_underway (c : Chip) (f : StrokeSt → StrokeSt) : (modStroke c f).underway = c.underway := rfl
@[simp] theorem modStroke_cfg (c : Chip) (f : StrokeSt → StrokeSt) : (modStroke c f).cfg = c.cfg := rfl
@[simp] theorem modStroke_qOverflow (c : Chip) (f : StrokeSt → StrokeSt) : (modStroke c f).qOverflow = c.qOverflow := rfl
@[simp] theorem modStroke_wake (c : Chip) (f : StrokeSt → StrokeSt) : (modStroke c f).wake = c.wake := rfl
@[simp] theorem modStroke_rates (c : Chip) (f : StrokeSt → StrokeSt) : (modStroke c f).rates = c.rates := rfl
@[simp] theorem modStroke_sent (c : Chip) (f : StrokeSt → StrokeSt) : (modStroke c f).sent = c.sent := rfl
@[simp] theorem modStroke_img (c : Chip) (f : StrokeSt → StrokeSt) : (modStroke c f).img = c.img := rfl
@[simp] theorem modStroke_work (c : Chip) (f : StrokeSt → StrokeSt) : (modStroke c f).work = c.work := rfl
@[simp] theorem modStroke_latch (c : Chip) (f : StrokeSt → StrokeSt) : (modStroke c f).latch = c.latch := rfl
@[simp] theorem modStroke_engOut (c : Chip) (f : StrokeSt → StrokeSt) : (modStroke c f).engOut = c.engOut := rfl
@[simp] theorem modStroke_committedS (c : Chip) (f : StrokeSt → StrokeSt) : (modStroke c f).committedS = c.committedS := rfl
@[simp] theorem modStroke_committedP (c : Chip) (f : StrokeSt → StrokeSt) : (modStroke c f).committedP = c.committedP := rfl
@[simp] theorem modStroke_engines (c : Chip) (f : StrokeSt → StrokeSt) : (modStroke c f).engines = c.engines := rfl
@[simp] theorem modStroke_sel (c : Chip) (f : StrokeSt → StrokeSt) : (modStroke c f).sel = c.sel := rfl
@[simp] theorem modStroke_safety (c : Chip) (f : StrokeSt → StrokeSt) : (modStroke c f).safety = c.safety := rfl
@[simp] theorem modStroke_zw (c : Chip) (f : StrokeSt → StrokeSt) : (modStroke c f).zw = c.zw := rfl
@[simp] theorem modStroke_crewS (c : Chip) (f : StrokeSt → StrokeSt) : (modStroke c f).crewS = c.crewS := rfl
@[simp] theorem modStroke_crewP (c : Chip) (f : StrokeSt → StrokeSt) : (modStroke c f).crewP = c.crewP := rfl
@[simp] theorem modStroke_ctlS (c : Chip) (f : StrokeSt → StrokeSt) : (modStroke c f).ctlS = c.ctlS := rfl
@[simp] theorem modStroke_ctlP (c : Chip) (f : StrokeSt → StrokeSt) : (modStroke c f).ctlP = c.ctlP := rfl
@[simp] theorem modStroke_coxSafety (c : Chip) (f : StrokeSt → StrokeSt) : (modStroke c f).coxSafety = c.coxSafety := rfl
@[simp] theorem modStroke_coxProcess (c : Chip) (f : StrokeSt → StrokeSt) : (modStroke c f).coxProcess = c.coxProcess := rfl
@[simp] theorem modStroke_seat (c : Chip) (f : StrokeSt → StrokeSt) : (modStroke c f).seat = c.seat := rfl
@[simp] theorem modStroke_mirror (c : Chip) (f : StrokeSt → StrokeSt) : (modStroke c f).mirror = c.mirror := rfl
@[simp] theorem modStroke_pairCnt (c : Chip) (f : StrokeSt → StrokeSt) : (modStroke c f).pairCnt = c.pairCnt := rfl
@[simp] theorem modStroke_dig (c : Chip) (f : StrokeSt → StrokeSt) : (modStroke c f).dig = c.dig := rfl
@[simp] theorem modStroke_islands (c : Chip) (f : StrokeSt → StrokeSt) : (modStroke c f).islands = c.islands := rfl
@[simp] theorem modStroke_isl (c : Chip) (f : StrokeSt → StrokeSt) : (modStroke c f).isl = c.isl := rfl
@[simp] theorem modStroke_links (c : Chip) (f : StrokeSt → StrokeSt) : (modStroke c f).links = c.links := rfl
@[simp] theorem modStroke_cans (c : Chip) (f : StrokeSt → StrokeSt) : (modStroke c f).cans = c.cans := rfl
@[simp] theorem modStroke_lans (c : Chip) (f : StrokeSt → StrokeSt) : (modStroke c f).lans = c.lans := rfl
@[simp] theorem modStroke_badFrames (c : Chip) (f : StrokeSt → StrokeSt) : (modStroke c f).badFrames = c.badFrames := rfl
@[simp] theorem modStroke_serial (c : Chip) (f : StrokeSt → StrokeSt) : (modStroke c f).serial = c.serial := rfl
@[simp] theorem modStroke_hosts (c : Chip) (f : StrokeSt → StrokeSt) : (modStroke c f).hosts = c.hosts := rfl

/-! ### `modSeat` -/

@[simp] theorem modSeat_fresh (c : Chip) (f : SeatSt → SeatSt) : (modSeat c f).fresh = c.fresh := rfl
@[simp] theorem modSeat_now (c : Chip) (f : SeatSt → SeatSt) : (modSeat c f).now = c.now := rfl
@[simp] theorem modSeat_mode (c : Chip) (f : SeatSt → SeatSt) : (modSeat c f).mode = c.mode := rfl
@[simp] theorem modSeat_pages (c : Chip) (f : SeatSt → SeatSt) : (modSeat c f).pages = c.pages := rfl
@[simp] theorem modSeat_attn (c : Chip) (f : SeatSt → SeatSt) : (modSeat c f).attn = c.attn := rfl
@[simp] theorem modSeat_stroke (c : Chip) (f : SeatSt → SeatSt) : (modSeat c f).stroke = c.stroke := rfl
@[simp] theorem modSeat_backup (c : Chip) (f : SeatSt → SeatSt) : (modSeat c f).backup = c.backup := rfl
@[simp] theorem modSeat_rst (c : Chip) (f : SeatSt → SeatSt) : (modSeat c f).rst = c.rst := rfl
@[simp] theorem modSeat_boat (c : Chip) (f : SeatSt → SeatSt) : (modSeat c f).boat = c.boat := rfl
@[simp] theorem modSeat_ident (c : Chip) (f : SeatSt → SeatSt) : (modSeat c f).ident = c.ident := rfl
@[simp] theorem modSeat_upd (c : Chip) (f : SeatSt → SeatSt) : (modSeat c f).upd = c.upd := rfl
@[simp] theorem modSeat_panel (c : Chip) (f : SeatSt → SeatSt) : (modSeat c f).panel = c.panel := rfl
@[simp] theorem modSeat_underway (c : Chip) (f : SeatSt → SeatSt) : (modSeat c f).underway = c.underway := rfl
@[simp] theorem modSeat_cfg (c : Chip) (f : SeatSt → SeatSt) : (modSeat c f).cfg = c.cfg := rfl
@[simp] theorem modSeat_qOverflow (c : Chip) (f : SeatSt → SeatSt) : (modSeat c f).qOverflow = c.qOverflow := rfl
@[simp] theorem modSeat_wake (c : Chip) (f : SeatSt → SeatSt) : (modSeat c f).wake = c.wake := rfl
@[simp] theorem modSeat_rates (c : Chip) (f : SeatSt → SeatSt) : (modSeat c f).rates = c.rates := rfl
@[simp] theorem modSeat_sent (c : Chip) (f : SeatSt → SeatSt) : (modSeat c f).sent = c.sent := rfl
@[simp] theorem modSeat_img (c : Chip) (f : SeatSt → SeatSt) : (modSeat c f).img = c.img := rfl
@[simp] theorem modSeat_work (c : Chip) (f : SeatSt → SeatSt) : (modSeat c f).work = c.work := rfl
@[simp] theorem modSeat_latch (c : Chip) (f : SeatSt → SeatSt) : (modSeat c f).latch = c.latch := rfl
@[simp] theorem modSeat_engOut (c : Chip) (f : SeatSt → SeatSt) : (modSeat c f).engOut = c.engOut := rfl
@[simp] theorem modSeat_committedS (c : Chip) (f : SeatSt → SeatSt) : (modSeat c f).committedS = c.committedS := rfl
@[simp] theorem modSeat_committedP (c : Chip) (f : SeatSt → SeatSt) : (modSeat c f).committedP = c.committedP := rfl
@[simp] theorem modSeat_engines (c : Chip) (f : SeatSt → SeatSt) : (modSeat c f).engines = c.engines := rfl
@[simp] theorem modSeat_sel (c : Chip) (f : SeatSt → SeatSt) : (modSeat c f).sel = c.sel := rfl
@[simp] theorem modSeat_safety (c : Chip) (f : SeatSt → SeatSt) : (modSeat c f).safety = c.safety := rfl
@[simp] theorem modSeat_zw (c : Chip) (f : SeatSt → SeatSt) : (modSeat c f).zw = c.zw := rfl
@[simp] theorem modSeat_crewS (c : Chip) (f : SeatSt → SeatSt) : (modSeat c f).crewS = c.crewS := rfl
@[simp] theorem modSeat_crewP (c : Chip) (f : SeatSt → SeatSt) : (modSeat c f).crewP = c.crewP := rfl
@[simp] theorem modSeat_ctlS (c : Chip) (f : SeatSt → SeatSt) : (modSeat c f).ctlS = c.ctlS := rfl
@[simp] theorem modSeat_ctlP (c : Chip) (f : SeatSt → SeatSt) : (modSeat c f).ctlP = c.ctlP := rfl
@[simp] theorem modSeat_coxSafety (c : Chip) (f : SeatSt → SeatSt) : (modSeat c f).coxSafety = c.coxSafety := rfl
@[simp] theorem modSeat_coxProcess (c : Chip) (f : SeatSt → SeatSt) : (modSeat c f).coxProcess = c.coxProcess := rfl
@[simp] theorem modSeat_seat (c : Chip) (f : SeatSt → SeatSt) : (modSeat c f).seat = f c.seat := rfl
@[simp] theorem modSeat_mirror (c : Chip) (f : SeatSt → SeatSt) : (modSeat c f).mirror = c.mirror := rfl
@[simp] theorem modSeat_pairCnt (c : Chip) (f : SeatSt → SeatSt) : (modSeat c f).pairCnt = c.pairCnt := rfl
@[simp] theorem modSeat_dig (c : Chip) (f : SeatSt → SeatSt) : (modSeat c f).dig = c.dig := rfl
@[simp] theorem modSeat_islands (c : Chip) (f : SeatSt → SeatSt) : (modSeat c f).islands = c.islands := rfl
@[simp] theorem modSeat_isl (c : Chip) (f : SeatSt → SeatSt) : (modSeat c f).isl = c.isl := rfl
@[simp] theorem modSeat_links (c : Chip) (f : SeatSt → SeatSt) : (modSeat c f).links = c.links := rfl
@[simp] theorem modSeat_cans (c : Chip) (f : SeatSt → SeatSt) : (modSeat c f).cans = c.cans := rfl
@[simp] theorem modSeat_lans (c : Chip) (f : SeatSt → SeatSt) : (modSeat c f).lans = c.lans := rfl
@[simp] theorem modSeat_badFrames (c : Chip) (f : SeatSt → SeatSt) : (modSeat c f).badFrames = c.badFrames := rfl
@[simp] theorem modSeat_serial (c : Chip) (f : SeatSt → SeatSt) : (modSeat c f).serial = c.serial := rfl
@[simp] theorem modSeat_hosts (c : Chip) (f : SeatSt → SeatSt) : (modSeat c f).hosts = c.hosts := rfl

/-! ### `modMirror` -/

@[simp] theorem modMirror_fresh (c : Chip) (f : MirrorSt → MirrorSt) : (modMirror c f).fresh = c.fresh := rfl
@[simp] theorem modMirror_now (c : Chip) (f : MirrorSt → MirrorSt) : (modMirror c f).now = c.now := rfl
@[simp] theorem modMirror_mode (c : Chip) (f : MirrorSt → MirrorSt) : (modMirror c f).mode = c.mode := rfl
@[simp] theorem modMirror_pages (c : Chip) (f : MirrorSt → MirrorSt) : (modMirror c f).pages = c.pages := rfl
@[simp] theorem modMirror_attn (c : Chip) (f : MirrorSt → MirrorSt) : (modMirror c f).attn = c.attn := rfl
@[simp] theorem modMirror_stroke (c : Chip) (f : MirrorSt → MirrorSt) : (modMirror c f).stroke = c.stroke := rfl
@[simp] theorem modMirror_backup (c : Chip) (f : MirrorSt → MirrorSt) : (modMirror c f).backup = c.backup := rfl
@[simp] theorem modMirror_rst (c : Chip) (f : MirrorSt → MirrorSt) : (modMirror c f).rst = c.rst := rfl
@[simp] theorem modMirror_boat (c : Chip) (f : MirrorSt → MirrorSt) : (modMirror c f).boat = c.boat := rfl
@[simp] theorem modMirror_ident (c : Chip) (f : MirrorSt → MirrorSt) : (modMirror c f).ident = c.ident := rfl
@[simp] theorem modMirror_upd (c : Chip) (f : MirrorSt → MirrorSt) : (modMirror c f).upd = c.upd := rfl
@[simp] theorem modMirror_panel (c : Chip) (f : MirrorSt → MirrorSt) : (modMirror c f).panel = c.panel := rfl
@[simp] theorem modMirror_underway (c : Chip) (f : MirrorSt → MirrorSt) : (modMirror c f).underway = c.underway := rfl
@[simp] theorem modMirror_cfg (c : Chip) (f : MirrorSt → MirrorSt) : (modMirror c f).cfg = c.cfg := rfl
@[simp] theorem modMirror_qOverflow (c : Chip) (f : MirrorSt → MirrorSt) : (modMirror c f).qOverflow = c.qOverflow := rfl
@[simp] theorem modMirror_wake (c : Chip) (f : MirrorSt → MirrorSt) : (modMirror c f).wake = c.wake := rfl
@[simp] theorem modMirror_rates (c : Chip) (f : MirrorSt → MirrorSt) : (modMirror c f).rates = c.rates := rfl
@[simp] theorem modMirror_sent (c : Chip) (f : MirrorSt → MirrorSt) : (modMirror c f).sent = c.sent := rfl
@[simp] theorem modMirror_img (c : Chip) (f : MirrorSt → MirrorSt) : (modMirror c f).img = c.img := rfl
@[simp] theorem modMirror_work (c : Chip) (f : MirrorSt → MirrorSt) : (modMirror c f).work = c.work := rfl
@[simp] theorem modMirror_latch (c : Chip) (f : MirrorSt → MirrorSt) : (modMirror c f).latch = c.latch := rfl
@[simp] theorem modMirror_engOut (c : Chip) (f : MirrorSt → MirrorSt) : (modMirror c f).engOut = c.engOut := rfl
@[simp] theorem modMirror_committedS (c : Chip) (f : MirrorSt → MirrorSt) : (modMirror c f).committedS = c.committedS := rfl
@[simp] theorem modMirror_committedP (c : Chip) (f : MirrorSt → MirrorSt) : (modMirror c f).committedP = c.committedP := rfl
@[simp] theorem modMirror_engines (c : Chip) (f : MirrorSt → MirrorSt) : (modMirror c f).engines = c.engines := rfl
@[simp] theorem modMirror_sel (c : Chip) (f : MirrorSt → MirrorSt) : (modMirror c f).sel = c.sel := rfl
@[simp] theorem modMirror_safety (c : Chip) (f : MirrorSt → MirrorSt) : (modMirror c f).safety = c.safety := rfl
@[simp] theorem modMirror_zw (c : Chip) (f : MirrorSt → MirrorSt) : (modMirror c f).zw = c.zw := rfl
@[simp] theorem modMirror_crewS (c : Chip) (f : MirrorSt → MirrorSt) : (modMirror c f).crewS = c.crewS := rfl
@[simp] theorem modMirror_crewP (c : Chip) (f : MirrorSt → MirrorSt) : (modMirror c f).crewP = c.crewP := rfl
@[simp] theorem modMirror_ctlS (c : Chip) (f : MirrorSt → MirrorSt) : (modMirror c f).ctlS = c.ctlS := rfl
@[simp] theorem modMirror_ctlP (c : Chip) (f : MirrorSt → MirrorSt) : (modMirror c f).ctlP = c.ctlP := rfl
@[simp] theorem modMirror_coxSafety (c : Chip) (f : MirrorSt → MirrorSt) : (modMirror c f).coxSafety = c.coxSafety := rfl
@[simp] theorem modMirror_coxProcess (c : Chip) (f : MirrorSt → MirrorSt) : (modMirror c f).coxProcess = c.coxProcess := rfl
@[simp] theorem modMirror_seat (c : Chip) (f : MirrorSt → MirrorSt) : (modMirror c f).seat = c.seat := rfl
@[simp] theorem modMirror_mirror (c : Chip) (f : MirrorSt → MirrorSt) : (modMirror c f).mirror = f c.mirror := rfl
@[simp] theorem modMirror_pairCnt (c : Chip) (f : MirrorSt → MirrorSt) : (modMirror c f).pairCnt = c.pairCnt := rfl
@[simp] theorem modMirror_dig (c : Chip) (f : MirrorSt → MirrorSt) : (modMirror c f).dig = c.dig := rfl
@[simp] theorem modMirror_islands (c : Chip) (f : MirrorSt → MirrorSt) : (modMirror c f).islands = c.islands := rfl
@[simp] theorem modMirror_isl (c : Chip) (f : MirrorSt → MirrorSt) : (modMirror c f).isl = c.isl := rfl
@[simp] theorem modMirror_links (c : Chip) (f : MirrorSt → MirrorSt) : (modMirror c f).links = c.links := rfl
@[simp] theorem modMirror_cans (c : Chip) (f : MirrorSt → MirrorSt) : (modMirror c f).cans = c.cans := rfl
@[simp] theorem modMirror_lans (c : Chip) (f : MirrorSt → MirrorSt) : (modMirror c f).lans = c.lans := rfl
@[simp] theorem modMirror_badFrames (c : Chip) (f : MirrorSt → MirrorSt) : (modMirror c f).badFrames = c.badFrames := rfl
@[simp] theorem modMirror_serial (c : Chip) (f : MirrorSt → MirrorSt) : (modMirror c f).serial = c.serial := rfl
@[simp] theorem modMirror_hosts (c : Chip) (f : MirrorSt → MirrorSt) : (modMirror c f).hosts = c.hosts := rfl

/-! ### `modPairCnt` -/

@[simp] theorem modPairCnt_fresh (c : Chip) (f : PairCnt → PairCnt) : (modPairCnt c f).fresh = c.fresh := rfl
@[simp] theorem modPairCnt_now (c : Chip) (f : PairCnt → PairCnt) : (modPairCnt c f).now = c.now := rfl
@[simp] theorem modPairCnt_mode (c : Chip) (f : PairCnt → PairCnt) : (modPairCnt c f).mode = c.mode := rfl
@[simp] theorem modPairCnt_pages (c : Chip) (f : PairCnt → PairCnt) : (modPairCnt c f).pages = c.pages := rfl
@[simp] theorem modPairCnt_attn (c : Chip) (f : PairCnt → PairCnt) : (modPairCnt c f).attn = c.attn := rfl
@[simp] theorem modPairCnt_stroke (c : Chip) (f : PairCnt → PairCnt) : (modPairCnt c f).stroke = c.stroke := rfl
@[simp] theorem modPairCnt_backup (c : Chip) (f : PairCnt → PairCnt) : (modPairCnt c f).backup = c.backup := rfl
@[simp] theorem modPairCnt_rst (c : Chip) (f : PairCnt → PairCnt) : (modPairCnt c f).rst = c.rst := rfl
@[simp] theorem modPairCnt_boat (c : Chip) (f : PairCnt → PairCnt) : (modPairCnt c f).boat = c.boat := rfl
@[simp] theorem modPairCnt_ident (c : Chip) (f : PairCnt → PairCnt) : (modPairCnt c f).ident = c.ident := rfl
@[simp] theorem modPairCnt_upd (c : Chip) (f : PairCnt → PairCnt) : (modPairCnt c f).upd = c.upd := rfl
@[simp] theorem modPairCnt_panel (c : Chip) (f : PairCnt → PairCnt) : (modPairCnt c f).panel = c.panel := rfl
@[simp] theorem modPairCnt_underway (c : Chip) (f : PairCnt → PairCnt) : (modPairCnt c f).underway = c.underway := rfl
@[simp] theorem modPairCnt_cfg (c : Chip) (f : PairCnt → PairCnt) : (modPairCnt c f).cfg = c.cfg := rfl
@[simp] theorem modPairCnt_qOverflow (c : Chip) (f : PairCnt → PairCnt) : (modPairCnt c f).qOverflow = c.qOverflow := rfl
@[simp] theorem modPairCnt_wake (c : Chip) (f : PairCnt → PairCnt) : (modPairCnt c f).wake = c.wake := rfl
@[simp] theorem modPairCnt_rates (c : Chip) (f : PairCnt → PairCnt) : (modPairCnt c f).rates = c.rates := rfl
@[simp] theorem modPairCnt_sent (c : Chip) (f : PairCnt → PairCnt) : (modPairCnt c f).sent = c.sent := rfl
@[simp] theorem modPairCnt_img (c : Chip) (f : PairCnt → PairCnt) : (modPairCnt c f).img = c.img := rfl
@[simp] theorem modPairCnt_work (c : Chip) (f : PairCnt → PairCnt) : (modPairCnt c f).work = c.work := rfl
@[simp] theorem modPairCnt_latch (c : Chip) (f : PairCnt → PairCnt) : (modPairCnt c f).latch = c.latch := rfl
@[simp] theorem modPairCnt_engOut (c : Chip) (f : PairCnt → PairCnt) : (modPairCnt c f).engOut = c.engOut := rfl
@[simp] theorem modPairCnt_committedS (c : Chip) (f : PairCnt → PairCnt) : (modPairCnt c f).committedS = c.committedS := rfl
@[simp] theorem modPairCnt_committedP (c : Chip) (f : PairCnt → PairCnt) : (modPairCnt c f).committedP = c.committedP := rfl
@[simp] theorem modPairCnt_engines (c : Chip) (f : PairCnt → PairCnt) : (modPairCnt c f).engines = c.engines := rfl
@[simp] theorem modPairCnt_sel (c : Chip) (f : PairCnt → PairCnt) : (modPairCnt c f).sel = c.sel := rfl
@[simp] theorem modPairCnt_safety (c : Chip) (f : PairCnt → PairCnt) : (modPairCnt c f).safety = c.safety := rfl
@[simp] theorem modPairCnt_zw (c : Chip) (f : PairCnt → PairCnt) : (modPairCnt c f).zw = c.zw := rfl
@[simp] theorem modPairCnt_crewS (c : Chip) (f : PairCnt → PairCnt) : (modPairCnt c f).crewS = c.crewS := rfl
@[simp] theorem modPairCnt_crewP (c : Chip) (f : PairCnt → PairCnt) : (modPairCnt c f).crewP = c.crewP := rfl
@[simp] theorem modPairCnt_ctlS (c : Chip) (f : PairCnt → PairCnt) : (modPairCnt c f).ctlS = c.ctlS := rfl
@[simp] theorem modPairCnt_ctlP (c : Chip) (f : PairCnt → PairCnt) : (modPairCnt c f).ctlP = c.ctlP := rfl
@[simp] theorem modPairCnt_coxSafety (c : Chip) (f : PairCnt → PairCnt) : (modPairCnt c f).coxSafety = c.coxSafety := rfl
@[simp] theorem modPairCnt_coxProcess (c : Chip) (f : PairCnt → PairCnt) : (modPairCnt c f).coxProcess = c.coxProcess := rfl
@[simp] theorem modPairCnt_seat (c : Chip) (f : PairCnt → PairCnt) : (modPairCnt c f).seat = c.seat := rfl
@[simp] theorem modPairCnt_mirror (c : Chip) (f : PairCnt → PairCnt) : (modPairCnt c f).mirror = c.mirror := rfl
@[simp] theorem modPairCnt_pairCnt (c : Chip) (f : PairCnt → PairCnt) : (modPairCnt c f).pairCnt = f c.pairCnt := rfl
@[simp] theorem modPairCnt_dig (c : Chip) (f : PairCnt → PairCnt) : (modPairCnt c f).dig = c.dig := rfl
@[simp] theorem modPairCnt_islands (c : Chip) (f : PairCnt → PairCnt) : (modPairCnt c f).islands = c.islands := rfl
@[simp] theorem modPairCnt_isl (c : Chip) (f : PairCnt → PairCnt) : (modPairCnt c f).isl = c.isl := rfl
@[simp] theorem modPairCnt_links (c : Chip) (f : PairCnt → PairCnt) : (modPairCnt c f).links = c.links := rfl
@[simp] theorem modPairCnt_cans (c : Chip) (f : PairCnt → PairCnt) : (modPairCnt c f).cans = c.cans := rfl
@[simp] theorem modPairCnt_lans (c : Chip) (f : PairCnt → PairCnt) : (modPairCnt c f).lans = c.lans := rfl
@[simp] theorem modPairCnt_badFrames (c : Chip) (f : PairCnt → PairCnt) : (modPairCnt c f).badFrames = c.badFrames := rfl
@[simp] theorem modPairCnt_serial (c : Chip) (f : PairCnt → PairCnt) : (modPairCnt c f).serial = c.serial := rfl
@[simp] theorem modPairCnt_hosts (c : Chip) (f : PairCnt → PairCnt) : (modPairCnt c f).hosts = c.hosts := rfl

/-! ### `modBoat` -/

@[simp] theorem modBoat_fresh (c : Chip) (f : BoatSt → BoatSt) : (modBoat c f).fresh = c.fresh := rfl
@[simp] theorem modBoat_now (c : Chip) (f : BoatSt → BoatSt) : (modBoat c f).now = c.now := rfl
@[simp] theorem modBoat_mode (c : Chip) (f : BoatSt → BoatSt) : (modBoat c f).mode = c.mode := rfl
@[simp] theorem modBoat_pages (c : Chip) (f : BoatSt → BoatSt) : (modBoat c f).pages = c.pages := rfl
@[simp] theorem modBoat_attn (c : Chip) (f : BoatSt → BoatSt) : (modBoat c f).attn = c.attn := rfl
@[simp] theorem modBoat_stroke (c : Chip) (f : BoatSt → BoatSt) : (modBoat c f).stroke = c.stroke := rfl
@[simp] theorem modBoat_backup (c : Chip) (f : BoatSt → BoatSt) : (modBoat c f).backup = c.backup := rfl
@[simp] theorem modBoat_rst (c : Chip) (f : BoatSt → BoatSt) : (modBoat c f).rst = c.rst := rfl
@[simp] theorem modBoat_boat (c : Chip) (f : BoatSt → BoatSt) : (modBoat c f).boat = f c.boat := rfl
@[simp] theorem modBoat_ident (c : Chip) (f : BoatSt → BoatSt) : (modBoat c f).ident = c.ident := rfl
@[simp] theorem modBoat_upd (c : Chip) (f : BoatSt → BoatSt) : (modBoat c f).upd = c.upd := rfl
@[simp] theorem modBoat_panel (c : Chip) (f : BoatSt → BoatSt) : (modBoat c f).panel = c.panel := rfl
@[simp] theorem modBoat_underway (c : Chip) (f : BoatSt → BoatSt) : (modBoat c f).underway = c.underway := rfl
@[simp] theorem modBoat_cfg (c : Chip) (f : BoatSt → BoatSt) : (modBoat c f).cfg = c.cfg := rfl
@[simp] theorem modBoat_qOverflow (c : Chip) (f : BoatSt → BoatSt) : (modBoat c f).qOverflow = c.qOverflow := rfl
@[simp] theorem modBoat_wake (c : Chip) (f : BoatSt → BoatSt) : (modBoat c f).wake = c.wake := rfl
@[simp] theorem modBoat_rates (c : Chip) (f : BoatSt → BoatSt) : (modBoat c f).rates = c.rates := rfl
@[simp] theorem modBoat_sent (c : Chip) (f : BoatSt → BoatSt) : (modBoat c f).sent = c.sent := rfl
@[simp] theorem modBoat_img (c : Chip) (f : BoatSt → BoatSt) : (modBoat c f).img = c.img := rfl
@[simp] theorem modBoat_work (c : Chip) (f : BoatSt → BoatSt) : (modBoat c f).work = c.work := rfl
@[simp] theorem modBoat_latch (c : Chip) (f : BoatSt → BoatSt) : (modBoat c f).latch = c.latch := rfl
@[simp] theorem modBoat_engOut (c : Chip) (f : BoatSt → BoatSt) : (modBoat c f).engOut = c.engOut := rfl
@[simp] theorem modBoat_committedS (c : Chip) (f : BoatSt → BoatSt) : (modBoat c f).committedS = c.committedS := rfl
@[simp] theorem modBoat_committedP (c : Chip) (f : BoatSt → BoatSt) : (modBoat c f).committedP = c.committedP := rfl
@[simp] theorem modBoat_engines (c : Chip) (f : BoatSt → BoatSt) : (modBoat c f).engines = c.engines := rfl
@[simp] theorem modBoat_sel (c : Chip) (f : BoatSt → BoatSt) : (modBoat c f).sel = c.sel := rfl
@[simp] theorem modBoat_safety (c : Chip) (f : BoatSt → BoatSt) : (modBoat c f).safety = c.safety := rfl
@[simp] theorem modBoat_zw (c : Chip) (f : BoatSt → BoatSt) : (modBoat c f).zw = c.zw := rfl
@[simp] theorem modBoat_crewS (c : Chip) (f : BoatSt → BoatSt) : (modBoat c f).crewS = c.crewS := rfl
@[simp] theorem modBoat_crewP (c : Chip) (f : BoatSt → BoatSt) : (modBoat c f).crewP = c.crewP := rfl
@[simp] theorem modBoat_ctlS (c : Chip) (f : BoatSt → BoatSt) : (modBoat c f).ctlS = c.ctlS := rfl
@[simp] theorem modBoat_ctlP (c : Chip) (f : BoatSt → BoatSt) : (modBoat c f).ctlP = c.ctlP := rfl
@[simp] theorem modBoat_coxSafety (c : Chip) (f : BoatSt → BoatSt) : (modBoat c f).coxSafety = c.coxSafety := rfl
@[simp] theorem modBoat_coxProcess (c : Chip) (f : BoatSt → BoatSt) : (modBoat c f).coxProcess = c.coxProcess := rfl
@[simp] theorem modBoat_seat (c : Chip) (f : BoatSt → BoatSt) : (modBoat c f).seat = c.seat := rfl
@[simp] theorem modBoat_mirror (c : Chip) (f : BoatSt → BoatSt) : (modBoat c f).mirror = c.mirror := rfl
@[simp] theorem modBoat_pairCnt (c : Chip) (f : BoatSt → BoatSt) : (modBoat c f).pairCnt = c.pairCnt := rfl
@[simp] theorem modBoat_dig (c : Chip) (f : BoatSt → BoatSt) : (modBoat c f).dig = c.dig := rfl
@[simp] theorem modBoat_islands (c : Chip) (f : BoatSt → BoatSt) : (modBoat c f).islands = c.islands := rfl
@[simp] theorem modBoat_isl (c : Chip) (f : BoatSt → BoatSt) : (modBoat c f).isl = c.isl := rfl
@[simp] theorem modBoat_links (c : Chip) (f : BoatSt → BoatSt) : (modBoat c f).links = c.links := rfl
@[simp] theorem modBoat_cans (c : Chip) (f : BoatSt → BoatSt) : (modBoat c f).cans = c.cans := rfl
@[simp] theorem modBoat_lans (c : Chip) (f : BoatSt → BoatSt) : (modBoat c f).lans = c.lans := rfl
@[simp] theorem modBoat_badFrames (c : Chip) (f : BoatSt → BoatSt) : (modBoat c f).badFrames = c.badFrames := rfl
@[simp] theorem modBoat_serial (c : Chip) (f : BoatSt → BoatSt) : (modBoat c f).serial = c.serial := rfl
@[simp] theorem modBoat_hosts (c : Chip) (f : BoatSt → BoatSt) : (modBoat c f).hosts = c.hosts := rfl

/-! ### `modIdent` -/

@[simp] theorem modIdent_fresh (c : Chip) (f : IdSt → IdSt) : (modIdent c f).fresh = c.fresh := rfl
@[simp] theorem modIdent_now (c : Chip) (f : IdSt → IdSt) : (modIdent c f).now = c.now := rfl
@[simp] theorem modIdent_mode (c : Chip) (f : IdSt → IdSt) : (modIdent c f).mode = c.mode := rfl
@[simp] theorem modIdent_pages (c : Chip) (f : IdSt → IdSt) : (modIdent c f).pages = c.pages := rfl
@[simp] theorem modIdent_attn (c : Chip) (f : IdSt → IdSt) : (modIdent c f).attn = c.attn := rfl
@[simp] theorem modIdent_stroke (c : Chip) (f : IdSt → IdSt) : (modIdent c f).stroke = c.stroke := rfl
@[simp] theorem modIdent_backup (c : Chip) (f : IdSt → IdSt) : (modIdent c f).backup = c.backup := rfl
@[simp] theorem modIdent_rst (c : Chip) (f : IdSt → IdSt) : (modIdent c f).rst = c.rst := rfl
@[simp] theorem modIdent_boat (c : Chip) (f : IdSt → IdSt) : (modIdent c f).boat = c.boat := rfl
@[simp] theorem modIdent_ident (c : Chip) (f : IdSt → IdSt) : (modIdent c f).ident = f c.ident := rfl
@[simp] theorem modIdent_upd (c : Chip) (f : IdSt → IdSt) : (modIdent c f).upd = c.upd := rfl
@[simp] theorem modIdent_panel (c : Chip) (f : IdSt → IdSt) : (modIdent c f).panel = c.panel := rfl
@[simp] theorem modIdent_underway (c : Chip) (f : IdSt → IdSt) : (modIdent c f).underway = c.underway := rfl
@[simp] theorem modIdent_cfg (c : Chip) (f : IdSt → IdSt) : (modIdent c f).cfg = c.cfg := rfl
@[simp] theorem modIdent_qOverflow (c : Chip) (f : IdSt → IdSt) : (modIdent c f).qOverflow = c.qOverflow := rfl
@[simp] theorem modIdent_wake (c : Chip) (f : IdSt → IdSt) : (modIdent c f).wake = c.wake := rfl
@[simp] theorem modIdent_rates (c : Chip) (f : IdSt → IdSt) : (modIdent c f).rates = c.rates := rfl
@[simp] theorem modIdent_sent (c : Chip) (f : IdSt → IdSt) : (modIdent c f).sent = c.sent := rfl
@[simp] theorem modIdent_img (c : Chip) (f : IdSt → IdSt) : (modIdent c f).img = c.img := rfl
@[simp] theorem modIdent_work (c : Chip) (f : IdSt → IdSt) : (modIdent c f).work = c.work := rfl
@[simp] theorem modIdent_latch (c : Chip) (f : IdSt → IdSt) : (modIdent c f).latch = c.latch := rfl
@[simp] theorem modIdent_engOut (c : Chip) (f : IdSt → IdSt) : (modIdent c f).engOut = c.engOut := rfl
@[simp] theorem modIdent_committedS (c : Chip) (f : IdSt → IdSt) : (modIdent c f).committedS = c.committedS := rfl
@[simp] theorem modIdent_committedP (c : Chip) (f : IdSt → IdSt) : (modIdent c f).committedP = c.committedP := rfl
@[simp] theorem modIdent_engines (c : Chip) (f : IdSt → IdSt) : (modIdent c f).engines = c.engines := rfl
@[simp] theorem modIdent_sel (c : Chip) (f : IdSt → IdSt) : (modIdent c f).sel = c.sel := rfl
@[simp] theorem modIdent_safety (c : Chip) (f : IdSt → IdSt) : (modIdent c f).safety = c.safety := rfl
@[simp] theorem modIdent_zw (c : Chip) (f : IdSt → IdSt) : (modIdent c f).zw = c.zw := rfl
@[simp] theorem modIdent_crewS (c : Chip) (f : IdSt → IdSt) : (modIdent c f).crewS = c.crewS := rfl
@[simp] theorem modIdent_crewP (c : Chip) (f : IdSt → IdSt) : (modIdent c f).crewP = c.crewP := rfl
@[simp] theorem modIdent_ctlS (c : Chip) (f : IdSt → IdSt) : (modIdent c f).ctlS = c.ctlS := rfl
@[simp] theorem modIdent_ctlP (c : Chip) (f : IdSt → IdSt) : (modIdent c f).ctlP = c.ctlP := rfl
@[simp] theorem modIdent_coxSafety (c : Chip) (f : IdSt → IdSt) : (modIdent c f).coxSafety = c.coxSafety := rfl
@[simp] theorem modIdent_coxProcess (c : Chip) (f : IdSt → IdSt) : (modIdent c f).coxProcess = c.coxProcess := rfl
@[simp] theorem modIdent_seat (c : Chip) (f : IdSt → IdSt) : (modIdent c f).seat = c.seat := rfl
@[simp] theorem modIdent_mirror (c : Chip) (f : IdSt → IdSt) : (modIdent c f).mirror = c.mirror := rfl
@[simp] theorem modIdent_pairCnt (c : Chip) (f : IdSt → IdSt) : (modIdent c f).pairCnt = c.pairCnt := rfl
@[simp] theorem modIdent_dig (c : Chip) (f : IdSt → IdSt) : (modIdent c f).dig = c.dig := rfl
@[simp] theorem modIdent_islands (c : Chip) (f : IdSt → IdSt) : (modIdent c f).islands = c.islands := rfl
@[simp] theorem modIdent_isl (c : Chip) (f : IdSt → IdSt) : (modIdent c f).isl = c.isl := rfl
@[simp] theorem modIdent_links (c : Chip) (f : IdSt → IdSt) : (modIdent c f).links = c.links := rfl
@[simp] theorem modIdent_cans (c : Chip) (f : IdSt → IdSt) : (modIdent c f).cans = c.cans := rfl
@[simp] theorem modIdent_lans (c : Chip) (f : IdSt → IdSt) : (modIdent c f).lans = c.lans := rfl
@[simp] theorem modIdent_badFrames (c : Chip) (f : IdSt → IdSt) : (modIdent c f).badFrames = c.badFrames := rfl
@[simp] theorem modIdent_serial (c : Chip) (f : IdSt → IdSt) : (modIdent c f).serial = c.serial := rfl
@[simp] theorem modIdent_hosts (c : Chip) (f : IdSt → IdSt) : (modIdent c f).hosts = c.hosts := rfl

/-! ### `modPanel` -/

@[simp] theorem modPanel_fresh (c : Chip) (f : PnlSt → PnlSt) : (modPanel c f).fresh = c.fresh := rfl
@[simp] theorem modPanel_now (c : Chip) (f : PnlSt → PnlSt) : (modPanel c f).now = c.now := rfl
@[simp] theorem modPanel_mode (c : Chip) (f : PnlSt → PnlSt) : (modPanel c f).mode = c.mode := rfl
@[simp] theorem modPanel_pages (c : Chip) (f : PnlSt → PnlSt) : (modPanel c f).pages = c.pages := rfl
@[simp] theorem modPanel_attn (c : Chip) (f : PnlSt → PnlSt) : (modPanel c f).attn = c.attn := rfl
@[simp] theorem modPanel_stroke (c : Chip) (f : PnlSt → PnlSt) : (modPanel c f).stroke = c.stroke := rfl
@[simp] theorem modPanel_backup (c : Chip) (f : PnlSt → PnlSt) : (modPanel c f).backup = c.backup := rfl
@[simp] theorem modPanel_rst (c : Chip) (f : PnlSt → PnlSt) : (modPanel c f).rst = c.rst := rfl
@[simp] theorem modPanel_boat (c : Chip) (f : PnlSt → PnlSt) : (modPanel c f).boat = c.boat := rfl
@[simp] theorem modPanel_ident (c : Chip) (f : PnlSt → PnlSt) : (modPanel c f).ident = c.ident := rfl
@[simp] theorem modPanel_upd (c : Chip) (f : PnlSt → PnlSt) : (modPanel c f).upd = c.upd := rfl
@[simp] theorem modPanel_panel (c : Chip) (f : PnlSt → PnlSt) : (modPanel c f).panel = f c.panel := rfl
@[simp] theorem modPanel_underway (c : Chip) (f : PnlSt → PnlSt) : (modPanel c f).underway = c.underway := rfl
@[simp] theorem modPanel_cfg (c : Chip) (f : PnlSt → PnlSt) : (modPanel c f).cfg = c.cfg := rfl
@[simp] theorem modPanel_qOverflow (c : Chip) (f : PnlSt → PnlSt) : (modPanel c f).qOverflow = c.qOverflow := rfl
@[simp] theorem modPanel_wake (c : Chip) (f : PnlSt → PnlSt) : (modPanel c f).wake = c.wake := rfl
@[simp] theorem modPanel_rates (c : Chip) (f : PnlSt → PnlSt) : (modPanel c f).rates = c.rates := rfl
@[simp] theorem modPanel_sent (c : Chip) (f : PnlSt → PnlSt) : (modPanel c f).sent = c.sent := rfl
@[simp] theorem modPanel_img (c : Chip) (f : PnlSt → PnlSt) : (modPanel c f).img = c.img := rfl
@[simp] theorem modPanel_work (c : Chip) (f : PnlSt → PnlSt) : (modPanel c f).work = c.work := rfl
@[simp] theorem modPanel_latch (c : Chip) (f : PnlSt → PnlSt) : (modPanel c f).latch = c.latch := rfl
@[simp] theorem modPanel_engOut (c : Chip) (f : PnlSt → PnlSt) : (modPanel c f).engOut = c.engOut := rfl
@[simp] theorem modPanel_committedS (c : Chip) (f : PnlSt → PnlSt) : (modPanel c f).committedS = c.committedS := rfl
@[simp] theorem modPanel_committedP (c : Chip) (f : PnlSt → PnlSt) : (modPanel c f).committedP = c.committedP := rfl
@[simp] theorem modPanel_engines (c : Chip) (f : PnlSt → PnlSt) : (modPanel c f).engines = c.engines := rfl
@[simp] theorem modPanel_sel (c : Chip) (f : PnlSt → PnlSt) : (modPanel c f).sel = c.sel := rfl
@[simp] theorem modPanel_safety (c : Chip) (f : PnlSt → PnlSt) : (modPanel c f).safety = c.safety := rfl
@[simp] theorem modPanel_zw (c : Chip) (f : PnlSt → PnlSt) : (modPanel c f).zw = c.zw := rfl
@[simp] theorem modPanel_crewS (c : Chip) (f : PnlSt → PnlSt) : (modPanel c f).crewS = c.crewS := rfl
@[simp] theorem modPanel_crewP (c : Chip) (f : PnlSt → PnlSt) : (modPanel c f).crewP = c.crewP := rfl
@[simp] theorem modPanel_ctlS (c : Chip) (f : PnlSt → PnlSt) : (modPanel c f).ctlS = c.ctlS := rfl
@[simp] theorem modPanel_ctlP (c : Chip) (f : PnlSt → PnlSt) : (modPanel c f).ctlP = c.ctlP := rfl
@[simp] theorem modPanel_coxSafety (c : Chip) (f : PnlSt → PnlSt) : (modPanel c f).coxSafety = c.coxSafety := rfl
@[simp] theorem modPanel_coxProcess (c : Chip) (f : PnlSt → PnlSt) : (modPanel c f).coxProcess = c.coxProcess := rfl
@[simp] theorem modPanel_seat (c : Chip) (f : PnlSt → PnlSt) : (modPanel c f).seat = c.seat := rfl
@[simp] theorem modPanel_mirror (c : Chip) (f : PnlSt → PnlSt) : (modPanel c f).mirror = c.mirror := rfl
@[simp] theorem modPanel_pairCnt (c : Chip) (f : PnlSt → PnlSt) : (modPanel c f).pairCnt = c.pairCnt := rfl
@[simp] theorem modPanel_dig (c : Chip) (f : PnlSt → PnlSt) : (modPanel c f).dig = c.dig := rfl
@[simp] theorem modPanel_islands (c : Chip) (f : PnlSt → PnlSt) : (modPanel c f).islands = c.islands := rfl
@[simp] theorem modPanel_isl (c : Chip) (f : PnlSt → PnlSt) : (modPanel c f).isl = c.isl := rfl
@[simp] theorem modPanel_links (c : Chip) (f : PnlSt → PnlSt) : (modPanel c f).links = c.links := rfl
@[simp] theorem modPanel_cans (c : Chip) (f : PnlSt → PnlSt) : (modPanel c f).cans = c.cans := rfl
@[simp] theorem modPanel_lans (c : Chip) (f : PnlSt → PnlSt) : (modPanel c f).lans = c.lans := rfl
@[simp] theorem modPanel_badFrames (c : Chip) (f : PnlSt → PnlSt) : (modPanel c f).badFrames = c.badFrames := rfl
@[simp] theorem modPanel_serial (c : Chip) (f : PnlSt → PnlSt) : (modPanel c f).serial = c.serial := rfl
@[simp] theorem modPanel_hosts (c : Chip) (f : PnlSt → PnlSt) : (modPanel c f).hosts = c.hosts := rfl

/-! ### `modRst` -/

@[simp] theorem modRst_fresh (c : Chip) (f : RstSt → RstSt) : (modRst c f).fresh = c.fresh := rfl
@[simp] theorem modRst_now (c : Chip) (f : RstSt → RstSt) : (modRst c f).now = c.now := rfl
@[simp] theorem modRst_mode (c : Chip) (f : RstSt → RstSt) : (modRst c f).mode = c.mode := rfl
@[simp] theorem modRst_pages (c : Chip) (f : RstSt → RstSt) : (modRst c f).pages = c.pages := rfl
@[simp] theorem modRst_attn (c : Chip) (f : RstSt → RstSt) : (modRst c f).attn = c.attn := rfl
@[simp] theorem modRst_stroke (c : Chip) (f : RstSt → RstSt) : (modRst c f).stroke = c.stroke := rfl
@[simp] theorem modRst_backup (c : Chip) (f : RstSt → RstSt) : (modRst c f).backup = c.backup := rfl
@[simp] theorem modRst_rst (c : Chip) (f : RstSt → RstSt) : (modRst c f).rst = f c.rst := rfl
@[simp] theorem modRst_boat (c : Chip) (f : RstSt → RstSt) : (modRst c f).boat = c.boat := rfl
@[simp] theorem modRst_ident (c : Chip) (f : RstSt → RstSt) : (modRst c f).ident = c.ident := rfl
@[simp] theorem modRst_upd (c : Chip) (f : RstSt → RstSt) : (modRst c f).upd = c.upd := rfl
@[simp] theorem modRst_panel (c : Chip) (f : RstSt → RstSt) : (modRst c f).panel = c.panel := rfl
@[simp] theorem modRst_underway (c : Chip) (f : RstSt → RstSt) : (modRst c f).underway = c.underway := rfl
@[simp] theorem modRst_cfg (c : Chip) (f : RstSt → RstSt) : (modRst c f).cfg = c.cfg := rfl
@[simp] theorem modRst_qOverflow (c : Chip) (f : RstSt → RstSt) : (modRst c f).qOverflow = c.qOverflow := rfl
@[simp] theorem modRst_wake (c : Chip) (f : RstSt → RstSt) : (modRst c f).wake = c.wake := rfl
@[simp] theorem modRst_rates (c : Chip) (f : RstSt → RstSt) : (modRst c f).rates = c.rates := rfl
@[simp] theorem modRst_sent (c : Chip) (f : RstSt → RstSt) : (modRst c f).sent = c.sent := rfl
@[simp] theorem modRst_img (c : Chip) (f : RstSt → RstSt) : (modRst c f).img = c.img := rfl
@[simp] theorem modRst_work (c : Chip) (f : RstSt → RstSt) : (modRst c f).work = c.work := rfl
@[simp] theorem modRst_latch (c : Chip) (f : RstSt → RstSt) : (modRst c f).latch = c.latch := rfl
@[simp] theorem modRst_engOut (c : Chip) (f : RstSt → RstSt) : (modRst c f).engOut = c.engOut := rfl
@[simp] theorem modRst_committedS (c : Chip) (f : RstSt → RstSt) : (modRst c f).committedS = c.committedS := rfl
@[simp] theorem modRst_committedP (c : Chip) (f : RstSt → RstSt) : (modRst c f).committedP = c.committedP := rfl
@[simp] theorem modRst_engines (c : Chip) (f : RstSt → RstSt) : (modRst c f).engines = c.engines := rfl
@[simp] theorem modRst_sel (c : Chip) (f : RstSt → RstSt) : (modRst c f).sel = c.sel := rfl
@[simp] theorem modRst_safety (c : Chip) (f : RstSt → RstSt) : (modRst c f).safety = c.safety := rfl
@[simp] theorem modRst_zw (c : Chip) (f : RstSt → RstSt) : (modRst c f).zw = c.zw := rfl
@[simp] theorem modRst_crewS (c : Chip) (f : RstSt → RstSt) : (modRst c f).crewS = c.crewS := rfl
@[simp] theorem modRst_crewP (c : Chip) (f : RstSt → RstSt) : (modRst c f).crewP = c.crewP := rfl
@[simp] theorem modRst_ctlS (c : Chip) (f : RstSt → RstSt) : (modRst c f).ctlS = c.ctlS := rfl
@[simp] theorem modRst_ctlP (c : Chip) (f : RstSt → RstSt) : (modRst c f).ctlP = c.ctlP := rfl
@[simp] theorem modRst_coxSafety (c : Chip) (f : RstSt → RstSt) : (modRst c f).coxSafety = c.coxSafety := rfl
@[simp] theorem modRst_coxProcess (c : Chip) (f : RstSt → RstSt) : (modRst c f).coxProcess = c.coxProcess := rfl
@[simp] theorem modRst_seat (c : Chip) (f : RstSt → RstSt) : (modRst c f).seat = c.seat := rfl
@[simp] theorem modRst_mirror (c : Chip) (f : RstSt → RstSt) : (modRst c f).mirror = c.mirror := rfl
@[simp] theorem modRst_pairCnt (c : Chip) (f : RstSt → RstSt) : (modRst c f).pairCnt = c.pairCnt := rfl
@[simp] theorem modRst_dig (c : Chip) (f : RstSt → RstSt) : (modRst c f).dig = c.dig := rfl
@[simp] theorem modRst_islands (c : Chip) (f : RstSt → RstSt) : (modRst c f).islands = c.islands := rfl
@[simp] theorem modRst_isl (c : Chip) (f : RstSt → RstSt) : (modRst c f).isl = c.isl := rfl
@[simp] theorem modRst_links (c : Chip) (f : RstSt → RstSt) : (modRst c f).links = c.links := rfl
@[simp] theorem modRst_cans (c : Chip) (f : RstSt → RstSt) : (modRst c f).cans = c.cans := rfl
@[simp] theorem modRst_lans (c : Chip) (f : RstSt → RstSt) : (modRst c f).lans = c.lans := rfl
@[simp] theorem modRst_badFrames (c : Chip) (f : RstSt → RstSt) : (modRst c f).badFrames = c.badFrames := rfl
@[simp] theorem modRst_serial (c : Chip) (f : RstSt → RstSt) : (modRst c f).serial = c.serial := rfl
@[simp] theorem modRst_hosts (c : Chip) (f : RstSt → RstSt) : (modRst c f).hosts = c.hosts := rfl

/-! ### `modBackup` -/

@[simp] theorem modBackup_fresh (c : Chip) (f : BackupSt → BackupSt) : (modBackup c f).fresh = c.fresh := rfl
@[simp] theorem modBackup_now (c : Chip) (f : BackupSt → BackupSt) : (modBackup c f).now = c.now := rfl
@[simp] theorem modBackup_mode (c : Chip) (f : BackupSt → BackupSt) : (modBackup c f).mode = c.mode := rfl
@[simp] theorem modBackup_pages (c : Chip) (f : BackupSt → BackupSt) : (modBackup c f).pages = c.pages := rfl
@[simp] theorem modBackup_attn (c : Chip) (f : BackupSt → BackupSt) : (modBackup c f).attn = c.attn := rfl
@[simp] theorem modBackup_stroke (c : Chip) (f : BackupSt → BackupSt) : (modBackup c f).stroke = c.stroke := rfl
@[simp] theorem modBackup_backup (c : Chip) (f : BackupSt → BackupSt) : (modBackup c f).backup = (f c.backup).signed := rfl
@[simp] theorem modBackup_rst (c : Chip) (f : BackupSt → BackupSt) : (modBackup c f).rst = c.rst := rfl
@[simp] theorem modBackup_boat (c : Chip) (f : BackupSt → BackupSt) : (modBackup c f).boat = c.boat := rfl
@[simp] theorem modBackup_ident (c : Chip) (f : BackupSt → BackupSt) : (modBackup c f).ident = c.ident := rfl
@[simp] theorem modBackup_upd (c : Chip) (f : BackupSt → BackupSt) : (modBackup c f).upd = c.upd := rfl
@[simp] theorem modBackup_panel (c : Chip) (f : BackupSt → BackupSt) : (modBackup c f).panel = c.panel := rfl
@[simp] theorem modBackup_underway (c : Chip) (f : BackupSt → BackupSt) : (modBackup c f).underway = c.underway := rfl
@[simp] theorem modBackup_cfg (c : Chip) (f : BackupSt → BackupSt) : (modBackup c f).cfg = c.cfg := rfl
@[simp] theorem modBackup_qOverflow (c : Chip) (f : BackupSt → BackupSt) : (modBackup c f).qOverflow = c.qOverflow := rfl
@[simp] theorem modBackup_wake (c : Chip) (f : BackupSt → BackupSt) : (modBackup c f).wake = c.wake := rfl
@[simp] theorem modBackup_rates (c : Chip) (f : BackupSt → BackupSt) : (modBackup c f).rates = c.rates := rfl
@[simp] theorem modBackup_sent (c : Chip) (f : BackupSt → BackupSt) : (modBackup c f).sent = c.sent := rfl
@[simp] theorem modBackup_img (c : Chip) (f : BackupSt → BackupSt) : (modBackup c f).img = c.img := rfl
@[simp] theorem modBackup_work (c : Chip) (f : BackupSt → BackupSt) : (modBackup c f).work = c.work := rfl
@[simp] theorem modBackup_latch (c : Chip) (f : BackupSt → BackupSt) : (modBackup c f).latch = c.latch := rfl
@[simp] theorem modBackup_engOut (c : Chip) (f : BackupSt → BackupSt) : (modBackup c f).engOut = c.engOut := rfl
@[simp] theorem modBackup_committedS (c : Chip) (f : BackupSt → BackupSt) : (modBackup c f).committedS = c.committedS := rfl
@[simp] theorem modBackup_committedP (c : Chip) (f : BackupSt → BackupSt) : (modBackup c f).committedP = c.committedP := rfl
@[simp] theorem modBackup_engines (c : Chip) (f : BackupSt → BackupSt) : (modBackup c f).engines = c.engines := rfl
@[simp] theorem modBackup_sel (c : Chip) (f : BackupSt → BackupSt) : (modBackup c f).sel = c.sel := rfl
@[simp] theorem modBackup_safety (c : Chip) (f : BackupSt → BackupSt) : (modBackup c f).safety = c.safety := rfl
@[simp] theorem modBackup_zw (c : Chip) (f : BackupSt → BackupSt) : (modBackup c f).zw = c.zw := rfl
@[simp] theorem modBackup_crewS (c : Chip) (f : BackupSt → BackupSt) : (modBackup c f).crewS = c.crewS := rfl
@[simp] theorem modBackup_crewP (c : Chip) (f : BackupSt → BackupSt) : (modBackup c f).crewP = c.crewP := rfl
@[simp] theorem modBackup_ctlS (c : Chip) (f : BackupSt → BackupSt) : (modBackup c f).ctlS = c.ctlS := rfl
@[simp] theorem modBackup_ctlP (c : Chip) (f : BackupSt → BackupSt) : (modBackup c f).ctlP = c.ctlP := rfl
@[simp] theorem modBackup_coxSafety (c : Chip) (f : BackupSt → BackupSt) : (modBackup c f).coxSafety = c.coxSafety := rfl
@[simp] theorem modBackup_coxProcess (c : Chip) (f : BackupSt → BackupSt) : (modBackup c f).coxProcess = c.coxProcess := rfl
@[simp] theorem modBackup_seat (c : Chip) (f : BackupSt → BackupSt) : (modBackup c f).seat = c.seat := rfl
@[simp] theorem modBackup_mirror (c : Chip) (f : BackupSt → BackupSt) : (modBackup c f).mirror = c.mirror := rfl
@[simp] theorem modBackup_pairCnt (c : Chip) (f : BackupSt → BackupSt) : (modBackup c f).pairCnt = c.pairCnt := rfl
@[simp] theorem modBackup_dig (c : Chip) (f : BackupSt → BackupSt) : (modBackup c f).dig = c.dig := rfl
@[simp] theorem modBackup_islands (c : Chip) (f : BackupSt → BackupSt) : (modBackup c f).islands = c.islands := rfl
@[simp] theorem modBackup_isl (c : Chip) (f : BackupSt → BackupSt) : (modBackup c f).isl = c.isl := rfl
@[simp] theorem modBackup_links (c : Chip) (f : BackupSt → BackupSt) : (modBackup c f).links = c.links := rfl
@[simp] theorem modBackup_cans (c : Chip) (f : BackupSt → BackupSt) : (modBackup c f).cans = c.cans := rfl
@[simp] theorem modBackup_lans (c : Chip) (f : BackupSt → BackupSt) : (modBackup c f).lans = c.lans := rfl
@[simp] theorem modBackup_badFrames (c : Chip) (f : BackupSt → BackupSt) : (modBackup c f).badFrames = c.badFrames := rfl
@[simp] theorem modBackup_serial (c : Chip) (f : BackupSt → BackupSt) : (modBackup c f).serial = c.serial := rfl
@[simp] theorem modBackup_hosts (c : Chip) (f : BackupSt → BackupSt) : (modBackup c f).hosts = c.hosts := rfl

/-! ### `modHosts` -/

@[simp] theorem modHosts_fresh (c : Chip) (f : HostSt → HostSt) : (modHosts c f).fresh = c.fresh := rfl
@[simp] theorem modHosts_now (c : Chip) (f : HostSt → HostSt) : (modHosts c f).now = c.now := rfl
@[simp] theorem modHosts_mode (c : Chip) (f : HostSt → HostSt) : (modHosts c f).mode = c.mode := rfl
@[simp] theorem modHosts_pages (c : Chip) (f : HostSt → HostSt) : (modHosts c f).pages = c.pages := rfl
@[simp] theorem modHosts_attn (c : Chip) (f : HostSt → HostSt) : (modHosts c f).attn = c.attn := rfl
@[simp] theorem modHosts_stroke (c : Chip) (f : HostSt → HostSt) : (modHosts c f).stroke = c.stroke := rfl
@[simp] theorem modHosts_backup (c : Chip) (f : HostSt → HostSt) : (modHosts c f).backup = c.backup := rfl
@[simp] theorem modHosts_rst (c : Chip) (f : HostSt → HostSt) : (modHosts c f).rst = c.rst := rfl
@[simp] theorem modHosts_boat (c : Chip) (f : HostSt → HostSt) : (modHosts c f).boat = c.boat := rfl
@[simp] theorem modHosts_ident (c : Chip) (f : HostSt → HostSt) : (modHosts c f).ident = c.ident := rfl
@[simp] theorem modHosts_upd (c : Chip) (f : HostSt → HostSt) : (modHosts c f).upd = c.upd := rfl
@[simp] theorem modHosts_panel (c : Chip) (f : HostSt → HostSt) : (modHosts c f).panel = c.panel := rfl
@[simp] theorem modHosts_underway (c : Chip) (f : HostSt → HostSt) : (modHosts c f).underway = c.underway := rfl
@[simp] theorem modHosts_cfg (c : Chip) (f : HostSt → HostSt) : (modHosts c f).cfg = c.cfg := rfl
@[simp] theorem modHosts_qOverflow (c : Chip) (f : HostSt → HostSt) : (modHosts c f).qOverflow = c.qOverflow := rfl
@[simp] theorem modHosts_wake (c : Chip) (f : HostSt → HostSt) : (modHosts c f).wake = c.wake := rfl
@[simp] theorem modHosts_rates (c : Chip) (f : HostSt → HostSt) : (modHosts c f).rates = c.rates := rfl
@[simp] theorem modHosts_sent (c : Chip) (f : HostSt → HostSt) : (modHosts c f).sent = c.sent := rfl
@[simp] theorem modHosts_img (c : Chip) (f : HostSt → HostSt) : (modHosts c f).img = c.img := rfl
@[simp] theorem modHosts_work (c : Chip) (f : HostSt → HostSt) : (modHosts c f).work = c.work := rfl
@[simp] theorem modHosts_latch (c : Chip) (f : HostSt → HostSt) : (modHosts c f).latch = c.latch := rfl
@[simp] theorem modHosts_engOut (c : Chip) (f : HostSt → HostSt) : (modHosts c f).engOut = c.engOut := rfl
@[simp] theorem modHosts_committedS (c : Chip) (f : HostSt → HostSt) : (modHosts c f).committedS = c.committedS := rfl
@[simp] theorem modHosts_committedP (c : Chip) (f : HostSt → HostSt) : (modHosts c f).committedP = c.committedP := rfl
@[simp] theorem modHosts_engines (c : Chip) (f : HostSt → HostSt) : (modHosts c f).engines = c.engines := rfl
@[simp] theorem modHosts_sel (c : Chip) (f : HostSt → HostSt) : (modHosts c f).sel = c.sel := rfl
@[simp] theorem modHosts_safety (c : Chip) (f : HostSt → HostSt) : (modHosts c f).safety = c.safety := rfl
@[simp] theorem modHosts_zw (c : Chip) (f : HostSt → HostSt) : (modHosts c f).zw = c.zw := rfl
@[simp] theorem modHosts_crewS (c : Chip) (f : HostSt → HostSt) : (modHosts c f).crewS = c.crewS := rfl
@[simp] theorem modHosts_crewP (c : Chip) (f : HostSt → HostSt) : (modHosts c f).crewP = c.crewP := rfl
@[simp] theorem modHosts_ctlS (c : Chip) (f : HostSt → HostSt) : (modHosts c f).ctlS = c.ctlS := rfl
@[simp] theorem modHosts_ctlP (c : Chip) (f : HostSt → HostSt) : (modHosts c f).ctlP = c.ctlP := rfl
@[simp] theorem modHosts_coxSafety (c : Chip) (f : HostSt → HostSt) : (modHosts c f).coxSafety = c.coxSafety := rfl
@[simp] theorem modHosts_coxProcess (c : Chip) (f : HostSt → HostSt) : (modHosts c f).coxProcess = c.coxProcess := rfl
@[simp] theorem modHosts_seat (c : Chip) (f : HostSt → HostSt) : (modHosts c f).seat = c.seat := rfl
@[simp] theorem modHosts_mirror (c : Chip) (f : HostSt → HostSt) : (modHosts c f).mirror = c.mirror := rfl
@[simp] theorem modHosts_pairCnt (c : Chip) (f : HostSt → HostSt) : (modHosts c f).pairCnt = c.pairCnt := rfl
@[simp] theorem modHosts_dig (c : Chip) (f : HostSt → HostSt) : (modHosts c f).dig = c.dig := rfl
@[simp] theorem modHosts_islands (c : Chip) (f : HostSt → HostSt) : (modHosts c f).islands = c.islands := rfl
@[simp] theorem modHosts_isl (c : Chip) (f : HostSt → HostSt) : (modHosts c f).isl = c.isl := rfl
@[simp] theorem modHosts_links (c : Chip) (f : HostSt → HostSt) : (modHosts c f).links = c.links := rfl
@[simp] theorem modHosts_cans (c : Chip) (f : HostSt → HostSt) : (modHosts c f).cans = c.cans := rfl
@[simp] theorem modHosts_lans (c : Chip) (f : HostSt → HostSt) : (modHosts c f).lans = c.lans := rfl
@[simp] theorem modHosts_badFrames (c : Chip) (f : HostSt → HostSt) : (modHosts c f).badFrames = c.badFrames := rfl
@[simp] theorem modHosts_serial (c : Chip) (f : HostSt → HostSt) : (modHosts c f).serial = c.serial := rfl
@[simp] theorem modHosts_hosts (c : Chip) (f : HostSt → HostSt) : (modHosts c f).hosts = f c.hosts := rfl

/-! ### `modUpd` -/

@[simp] theorem modUpd_fresh (c : Chip) (f : UpdSt → UpdSt) : (modUpd c f).fresh = c.fresh := rfl
@[simp] theorem modUpd_now (c : Chip) (f : UpdSt → UpdSt) : (modUpd c f).now = c.now := rfl
@[simp] theorem modUpd_mode (c : Chip) (f : UpdSt → UpdSt) : (modUpd c f).mode = c.mode := rfl
@[simp] theorem modUpd_pages (c : Chip) (f : UpdSt → UpdSt) : (modUpd c f).pages = c.pages := rfl
@[simp] theorem modUpd_attn (c : Chip) (f : UpdSt → UpdSt) : (modUpd c f).attn = c.attn := rfl
@[simp] theorem modUpd_stroke (c : Chip) (f : UpdSt → UpdSt) : (modUpd c f).stroke = c.stroke := rfl
@[simp] theorem modUpd_backup (c : Chip) (f : UpdSt → UpdSt) : (modUpd c f).backup = c.backup := rfl
@[simp] theorem modUpd_rst (c : Chip) (f : UpdSt → UpdSt) : (modUpd c f).rst = c.rst := rfl
@[simp] theorem modUpd_boat (c : Chip) (f : UpdSt → UpdSt) : (modUpd c f).boat = c.boat := rfl
@[simp] theorem modUpd_ident (c : Chip) (f : UpdSt → UpdSt) : (modUpd c f).ident = c.ident := rfl
@[simp] theorem modUpd_upd (c : Chip) (f : UpdSt → UpdSt) : (modUpd c f).upd = f c.upd := rfl
@[simp] theorem modUpd_panel (c : Chip) (f : UpdSt → UpdSt) : (modUpd c f).panel = c.panel := rfl
@[simp] theorem modUpd_underway (c : Chip) (f : UpdSt → UpdSt) : (modUpd c f).underway = c.underway := rfl
@[simp] theorem modUpd_cfg (c : Chip) (f : UpdSt → UpdSt) : (modUpd c f).cfg = c.cfg := rfl
@[simp] theorem modUpd_qOverflow (c : Chip) (f : UpdSt → UpdSt) : (modUpd c f).qOverflow = c.qOverflow := rfl
@[simp] theorem modUpd_wake (c : Chip) (f : UpdSt → UpdSt) : (modUpd c f).wake = c.wake := rfl
@[simp] theorem modUpd_rates (c : Chip) (f : UpdSt → UpdSt) : (modUpd c f).rates = c.rates := rfl
@[simp] theorem modUpd_sent (c : Chip) (f : UpdSt → UpdSt) : (modUpd c f).sent = c.sent := rfl
@[simp] theorem modUpd_img (c : Chip) (f : UpdSt → UpdSt) : (modUpd c f).img = c.img := rfl
@[simp] theorem modUpd_work (c : Chip) (f : UpdSt → UpdSt) : (modUpd c f).work = c.work := rfl
@[simp] theorem modUpd_latch (c : Chip) (f : UpdSt → UpdSt) : (modUpd c f).latch = c.latch := rfl
@[simp] theorem modUpd_engOut (c : Chip) (f : UpdSt → UpdSt) : (modUpd c f).engOut = c.engOut := rfl
@[simp] theorem modUpd_committedS (c : Chip) (f : UpdSt → UpdSt) : (modUpd c f).committedS = c.committedS := rfl
@[simp] theorem modUpd_committedP (c : Chip) (f : UpdSt → UpdSt) : (modUpd c f).committedP = c.committedP := rfl
@[simp] theorem modUpd_engines (c : Chip) (f : UpdSt → UpdSt) : (modUpd c f).engines = c.engines := rfl
@[simp] theorem modUpd_sel (c : Chip) (f : UpdSt → UpdSt) : (modUpd c f).sel = c.sel := rfl
@[simp] theorem modUpd_safety (c : Chip) (f : UpdSt → UpdSt) : (modUpd c f).safety = c.safety := rfl
@[simp] theorem modUpd_zw (c : Chip) (f : UpdSt → UpdSt) : (modUpd c f).zw = c.zw := rfl
@[simp] theorem modUpd_crewS (c : Chip) (f : UpdSt → UpdSt) : (modUpd c f).crewS = c.crewS := rfl
@[simp] theorem modUpd_crewP (c : Chip) (f : UpdSt → UpdSt) : (modUpd c f).crewP = c.crewP := rfl
@[simp] theorem modUpd_ctlS (c : Chip) (f : UpdSt → UpdSt) : (modUpd c f).ctlS = c.ctlS := rfl
@[simp] theorem modUpd_ctlP (c : Chip) (f : UpdSt → UpdSt) : (modUpd c f).ctlP = c.ctlP := rfl
@[simp] theorem modUpd_coxSafety (c : Chip) (f : UpdSt → UpdSt) : (modUpd c f).coxSafety = c.coxSafety := rfl
@[simp] theorem modUpd_coxProcess (c : Chip) (f : UpdSt → UpdSt) : (modUpd c f).coxProcess = c.coxProcess := rfl
@[simp] theorem modUpd_seat (c : Chip) (f : UpdSt → UpdSt) : (modUpd c f).seat = c.seat := rfl
@[simp] theorem modUpd_mirror (c : Chip) (f : UpdSt → UpdSt) : (modUpd c f).mirror = c.mirror := rfl
@[simp] theorem modUpd_pairCnt (c : Chip) (f : UpdSt → UpdSt) : (modUpd c f).pairCnt = c.pairCnt := rfl
@[simp] theorem modUpd_dig (c : Chip) (f : UpdSt → UpdSt) : (modUpd c f).dig = c.dig := rfl
@[simp] theorem modUpd_islands (c : Chip) (f : UpdSt → UpdSt) : (modUpd c f).islands = c.islands := rfl
@[simp] theorem modUpd_isl (c : Chip) (f : UpdSt → UpdSt) : (modUpd c f).isl = c.isl := rfl
@[simp] theorem modUpd_links (c : Chip) (f : UpdSt → UpdSt) : (modUpd c f).links = c.links := rfl
@[simp] theorem modUpd_cans (c : Chip) (f : UpdSt → UpdSt) : (modUpd c f).cans = c.cans := rfl
@[simp] theorem modUpd_lans (c : Chip) (f : UpdSt → UpdSt) : (modUpd c f).lans = c.lans := rfl
@[simp] theorem modUpd_badFrames (c : Chip) (f : UpdSt → UpdSt) : (modUpd c f).badFrames = c.badFrames := rfl
@[simp] theorem modUpd_serial (c : Chip) (f : UpdSt → UpdSt) : (modUpd c f).serial = c.serial := rfl
@[simp] theorem modUpd_hosts (c : Chip) (f : UpdSt → UpdSt) : (modUpd c f).hosts = c.hosts := rfl

/-! ### `modWake` -/

@[simp] theorem modWake_fresh (c : Chip) (f : WakeSt → WakeSt) : (modWake c f).fresh = c.fresh := rfl
@[simp] theorem modWake_now (c : Chip) (f : WakeSt → WakeSt) : (modWake c f).now = c.now := rfl
@[simp] theorem modWake_mode (c : Chip) (f : WakeSt → WakeSt) : (modWake c f).mode = c.mode := rfl
@[simp] theorem modWake_pages (c : Chip) (f : WakeSt → WakeSt) : (modWake c f).pages = c.pages := rfl
@[simp] theorem modWake_attn (c : Chip) (f : WakeSt → WakeSt) : (modWake c f).attn = c.attn := rfl
@[simp] theorem modWake_stroke (c : Chip) (f : WakeSt → WakeSt) : (modWake c f).stroke = c.stroke := rfl
@[simp] theorem modWake_backup (c : Chip) (f : WakeSt → WakeSt) : (modWake c f).backup = c.backup := rfl
@[simp] theorem modWake_rst (c : Chip) (f : WakeSt → WakeSt) : (modWake c f).rst = c.rst := rfl
@[simp] theorem modWake_boat (c : Chip) (f : WakeSt → WakeSt) : (modWake c f).boat = c.boat := rfl
@[simp] theorem modWake_ident (c : Chip) (f : WakeSt → WakeSt) : (modWake c f).ident = c.ident := rfl
@[simp] theorem modWake_upd (c : Chip) (f : WakeSt → WakeSt) : (modWake c f).upd = c.upd := rfl
@[simp] theorem modWake_panel (c : Chip) (f : WakeSt → WakeSt) : (modWake c f).panel = c.panel := rfl
@[simp] theorem modWake_underway (c : Chip) (f : WakeSt → WakeSt) : (modWake c f).underway = c.underway := rfl
@[simp] theorem modWake_cfg (c : Chip) (f : WakeSt → WakeSt) : (modWake c f).cfg = c.cfg := rfl
@[simp] theorem modWake_qOverflow (c : Chip) (f : WakeSt → WakeSt) : (modWake c f).qOverflow = c.qOverflow := rfl
@[simp] theorem modWake_wake (c : Chip) (f : WakeSt → WakeSt) : (modWake c f).wake = f c.wake := rfl
@[simp] theorem modWake_rates (c : Chip) (f : WakeSt → WakeSt) : (modWake c f).rates = c.rates := rfl
@[simp] theorem modWake_sent (c : Chip) (f : WakeSt → WakeSt) : (modWake c f).sent = c.sent := rfl
@[simp] theorem modWake_img (c : Chip) (f : WakeSt → WakeSt) : (modWake c f).img = c.img := rfl
@[simp] theorem modWake_work (c : Chip) (f : WakeSt → WakeSt) : (modWake c f).work = c.work := rfl
@[simp] theorem modWake_latch (c : Chip) (f : WakeSt → WakeSt) : (modWake c f).latch = c.latch := rfl
@[simp] theorem modWake_engOut (c : Chip) (f : WakeSt → WakeSt) : (modWake c f).engOut = c.engOut := rfl
@[simp] theorem modWake_committedS (c : Chip) (f : WakeSt → WakeSt) : (modWake c f).committedS = c.committedS := rfl
@[simp] theorem modWake_committedP (c : Chip) (f : WakeSt → WakeSt) : (modWake c f).committedP = c.committedP := rfl
@[simp] theorem modWake_engines (c : Chip) (f : WakeSt → WakeSt) : (modWake c f).engines = c.engines := rfl
@[simp] theorem modWake_sel (c : Chip) (f : WakeSt → WakeSt) : (modWake c f).sel = c.sel := rfl
@[simp] theorem modWake_safety (c : Chip) (f : WakeSt → WakeSt) : (modWake c f).safety = c.safety := rfl
@[simp] theorem modWake_zw (c : Chip) (f : WakeSt → WakeSt) : (modWake c f).zw = c.zw := rfl
@[simp] theorem modWake_crewS (c : Chip) (f : WakeSt → WakeSt) : (modWake c f).crewS = c.crewS := rfl
@[simp] theorem modWake_crewP (c : Chip) (f : WakeSt → WakeSt) : (modWake c f).crewP = c.crewP := rfl
@[simp] theorem modWake_ctlS (c : Chip) (f : WakeSt → WakeSt) : (modWake c f).ctlS = c.ctlS := rfl
@[simp] theorem modWake_ctlP (c : Chip) (f : WakeSt → WakeSt) : (modWake c f).ctlP = c.ctlP := rfl
@[simp] theorem modWake_coxSafety (c : Chip) (f : WakeSt → WakeSt) : (modWake c f).coxSafety = c.coxSafety := rfl
@[simp] theorem modWake_coxProcess (c : Chip) (f : WakeSt → WakeSt) : (modWake c f).coxProcess = c.coxProcess := rfl
@[simp] theorem modWake_seat (c : Chip) (f : WakeSt → WakeSt) : (modWake c f).seat = c.seat := rfl
@[simp] theorem modWake_mirror (c : Chip) (f : WakeSt → WakeSt) : (modWake c f).mirror = c.mirror := rfl
@[simp] theorem modWake_pairCnt (c : Chip) (f : WakeSt → WakeSt) : (modWake c f).pairCnt = c.pairCnt := rfl
@[simp] theorem modWake_dig (c : Chip) (f : WakeSt → WakeSt) : (modWake c f).dig = c.dig := rfl
@[simp] theorem modWake_islands (c : Chip) (f : WakeSt → WakeSt) : (modWake c f).islands = c.islands := rfl
@[simp] theorem modWake_isl (c : Chip) (f : WakeSt → WakeSt) : (modWake c f).isl = c.isl := rfl
@[simp] theorem modWake_links (c : Chip) (f : WakeSt → WakeSt) : (modWake c f).links = c.links := rfl
@[simp] theorem modWake_cans (c : Chip) (f : WakeSt → WakeSt) : (modWake c f).cans = c.cans := rfl
@[simp] theorem modWake_lans (c : Chip) (f : WakeSt → WakeSt) : (modWake c f).lans = c.lans := rfl
@[simp] theorem modWake_badFrames (c : Chip) (f : WakeSt → WakeSt) : (modWake c f).badFrames = c.badFrames := rfl
@[simp] theorem modWake_serial (c : Chip) (f : WakeSt → WakeSt) : (modWake c f).serial = c.serial := rfl
@[simp] theorem modWake_hosts (c : Chip) (f : WakeSt → WakeSt) : (modWake c f).hosts = c.hosts := rfl

/-! ### `modCrew` -/

@[simp] theorem crewSt_modCrew (c : Chip) (cr : Crew) (f : CrewSt → CrewSt) : crewSt (modCrew c cr f) cr = f (crewSt c cr) := by
  cases cr <;> rfl
theorem crewSt_modCrew_ne (c : Chip) {x y : Crew} (f : CrewSt → CrewSt) (h : x ≠ y) : crewSt (modCrew c x f) y = crewSt c y := by
  cases x <;> cases y <;> simp_all [modCrew, crewSt]
@[simp] theorem ctlSt_modCrew (c : Chip) (x y : Crew) (f : CrewSt → CrewSt) : ctlSt (modCrew c x f) y = ctlSt c y := by
  cases x <;> cases y <;> rfl
@[simp] theorem coxSt_modCrew (c : Chip) (x y : Crew) (f : CrewSt → CrewSt) : coxSt (modCrew c x f) y = coxSt c y := by
  cases x <;> cases y <;> rfl
@[simp] theorem modCrew_fresh (c : Chip) (cr : Crew) (f : CrewSt → CrewSt) : (modCrew c cr f).fresh = c.fresh := by
  cases cr <;> rfl
@[simp] theorem modCrew_now (c : Chip) (cr : Crew) (f : CrewSt → CrewSt) : (modCrew c cr f).now = c.now := by
  cases cr <;> rfl
@[simp] theorem modCrew_mode (c : Chip) (cr : Crew) (f : CrewSt → CrewSt) : (modCrew c cr f).mode = c.mode := by
  cases cr <;> rfl
@[simp] theorem modCrew_pages (c : Chip) (cr : Crew) (f : CrewSt → CrewSt) : (modCrew c cr f).pages = c.pages := by
  cases cr <;> rfl
@[simp] theorem modCrew_attn (c : Chip) (cr : Crew) (f : CrewSt → CrewSt) : (modCrew c cr f).attn = c.attn := by
  cases cr <;> rfl
@[simp] theorem modCrew_stroke (c : Chip) (cr : Crew) (f : CrewSt → CrewSt) : (modCrew c cr f).stroke = c.stroke := by
  cases cr <;> rfl
@[simp] theorem modCrew_backup (c : Chip) (cr : Crew) (f : CrewSt → CrewSt) : (modCrew c cr f).backup = c.backup := by
  cases cr <;> rfl
@[simp] theorem modCrew_rst (c : Chip) (cr : Crew) (f : CrewSt → CrewSt) : (modCrew c cr f).rst = c.rst := by
  cases cr <;> rfl
@[simp] theorem modCrew_boat (c : Chip) (cr : Crew) (f : CrewSt → CrewSt) : (modCrew c cr f).boat = c.boat := by
  cases cr <;> rfl
@[simp] theorem modCrew_ident (c : Chip) (cr : Crew) (f : CrewSt → CrewSt) : (modCrew c cr f).ident = c.ident := by
  cases cr <;> rfl
@[simp] theorem modCrew_upd (c : Chip) (cr : Crew) (f : CrewSt → CrewSt) : (modCrew c cr f).upd = c.upd := by
  cases cr <;> rfl
@[simp] theorem modCrew_panel (c : Chip) (cr : Crew) (f : CrewSt → CrewSt) : (modCrew c cr f).panel = c.panel := by
  cases cr <;> rfl
@[simp] theorem modCrew_underway (c : Chip) (cr : Crew) (f : CrewSt → CrewSt) : (modCrew c cr f).underway = c.underway := by
  cases cr <;> rfl
@[simp] theorem modCrew_cfg (c : Chip) (cr : Crew) (f : CrewSt → CrewSt) : (modCrew c cr f).cfg = c.cfg := by
  cases cr <;> rfl
@[simp] theorem modCrew_qOverflow (c : Chip) (cr : Crew) (f : CrewSt → CrewSt) : (modCrew c cr f).qOverflow = c.qOverflow := by
  cases cr <;> rfl
@[simp] theorem modCrew_wake (c : Chip) (cr : Crew) (f : CrewSt → CrewSt) : (modCrew c cr f).wake = c.wake := by
  cases cr <;> rfl
@[simp] theorem modCrew_rates (c : Chip) (cr : Crew) (f : CrewSt → CrewSt) : (modCrew c cr f).rates = c.rates := by
  cases cr <;> rfl
@[simp] theorem modCrew_sent (c : Chip) (cr : Crew) (f : CrewSt → CrewSt) : (modCrew c cr f).sent = c.sent := by
  cases cr <;> rfl
@[simp] theorem modCrew_img (c : Chip) (cr : Crew) (f : CrewSt → CrewSt) : (modCrew c cr f).img = c.img := by
  cases cr <;> rfl
@[simp] theorem modCrew_work (c : Chip) (cr : Crew) (f : CrewSt → CrewSt) : (modCrew c cr f).work = c.work := by
  cases cr <;> rfl
@[simp] theorem modCrew_latch (c : Chip) (cr : Crew) (f : CrewSt → CrewSt) : (modCrew c cr f).latch = c.latch := by
  cases cr <;> rfl
@[simp] theorem modCrew_engOut (c : Chip) (cr : Crew) (f : CrewSt → CrewSt) : (modCrew c cr f).engOut = c.engOut := by
  cases cr <;> rfl
@[simp] theorem modCrew_committedS (c : Chip) (cr : Crew) (f : CrewSt → CrewSt) : (modCrew c cr f).committedS = c.committedS := by
  cases cr <;> rfl
@[simp] theorem modCrew_committedP (c : Chip) (cr : Crew) (f : CrewSt → CrewSt) : (modCrew c cr f).committedP = c.committedP := by
  cases cr <;> rfl
@[simp] theorem modCrew_engines (c : Chip) (cr : Crew) (f : CrewSt → CrewSt) : (modCrew c cr f).engines = c.engines := by
  cases cr <;> rfl
@[simp] theorem modCrew_sel (c : Chip) (cr : Crew) (f : CrewSt → CrewSt) : (modCrew c cr f).sel = c.sel := by
  cases cr <;> rfl
@[simp] theorem modCrew_safety (c : Chip) (cr : Crew) (f : CrewSt → CrewSt) : (modCrew c cr f).safety = c.safety := by
  cases cr <;> rfl
@[simp] theorem modCrew_zw (c : Chip) (cr : Crew) (f : CrewSt → CrewSt) : (modCrew c cr f).zw = c.zw := by
  cases cr <;> rfl
@[simp] theorem modCrew_ctlS (c : Chip) (cr : Crew) (f : CrewSt → CrewSt) : (modCrew c cr f).ctlS = c.ctlS := by
  cases cr <;> rfl
@[simp] theorem modCrew_ctlP (c : Chip) (cr : Crew) (f : CrewSt → CrewSt) : (modCrew c cr f).ctlP = c.ctlP := by
  cases cr <;> rfl
@[simp] theorem modCrew_coxSafety (c : Chip) (cr : Crew) (f : CrewSt → CrewSt) : (modCrew c cr f).coxSafety = c.coxSafety := by
  cases cr <;> rfl
@[simp] theorem modCrew_coxProcess (c : Chip) (cr : Crew) (f : CrewSt → CrewSt) : (modCrew c cr f).coxProcess = c.coxProcess := by
  cases cr <;> rfl
@[simp] theorem modCrew_seat (c : Chip) (cr : Crew) (f : CrewSt → CrewSt) : (modCrew c cr f).seat = c.seat := by
  cases cr <;> rfl
@[simp] theorem modCrew_mirror (c : Chip) (cr : Crew) (f : CrewSt → CrewSt) : (modCrew c cr f).mirror = c.mirror := by
  cases cr <;> rfl
@[simp] theorem modCrew_pairCnt (c : Chip) (cr : Crew) (f : CrewSt → CrewSt) : (modCrew c cr f).pairCnt = c.pairCnt := by
  cases cr <;> rfl
@[simp] theorem modCrew_dig (c : Chip) (cr : Crew) (f : CrewSt → CrewSt) : (modCrew c cr f).dig = c.dig := by
  cases cr <;> rfl
@[simp] theorem modCrew_islands (c : Chip) (cr : Crew) (f : CrewSt → CrewSt) : (modCrew c cr f).islands = c.islands := by
  cases cr <;> rfl
@[simp] theorem modCrew_isl (c : Chip) (cr : Crew) (f : CrewSt → CrewSt) : (modCrew c cr f).isl = c.isl := by
  cases cr <;> rfl
@[simp] theorem modCrew_links (c : Chip) (cr : Crew) (f : CrewSt → CrewSt) : (modCrew c cr f).links = c.links := by
  cases cr <;> rfl
@[simp] theorem modCrew_cans (c : Chip) (cr : Crew) (f : CrewSt → CrewSt) : (modCrew c cr f).cans = c.cans := by
  cases cr <;> rfl
@[simp] theorem modCrew_lans (c : Chip) (cr : Crew) (f : CrewSt → CrewSt) : (modCrew c cr f).lans = c.lans := by
  cases cr <;> rfl
@[simp] theorem modCrew_badFrames (c : Chip) (cr : Crew) (f : CrewSt → CrewSt) : (modCrew c cr f).badFrames = c.badFrames := by
  cases cr <;> rfl
@[simp] theorem modCrew_serial (c : Chip) (cr : Crew) (f : CrewSt → CrewSt) : (modCrew c cr f).serial = c.serial := by
  cases cr <;> rfl
@[simp] theorem modCrew_hosts (c : Chip) (cr : Crew) (f : CrewSt → CrewSt) : (modCrew c cr f).hosts = c.hosts := by
  cases cr <;> rfl

/-! ### `modCtl` -/

@[simp] theorem ctlSt_modCtl (c : Chip) (cr : Crew) (f : CrewCtl → CrewCtl) : ctlSt (modCtl c cr f) cr = f (ctlSt c cr) := by
  cases cr <;> rfl
theorem ctlSt_modCtl_ne (c : Chip) {x y : Crew} (f : CrewCtl → CrewCtl) (h : x ≠ y) : ctlSt (modCtl c x f) y = ctlSt c y := by
  cases x <;> cases y <;> simp_all [modCtl, ctlSt]
@[simp] theorem crewSt_modCtl (c : Chip) (x y : Crew) (f : CrewCtl → CrewCtl) : crewSt (modCtl c x f) y = crewSt c y := by
  cases x <;> cases y <;> rfl
@[simp] theorem coxSt_modCtl (c : Chip) (x y : Crew) (f : CrewCtl → CrewCtl) : coxSt (modCtl c x f) y = coxSt c y := by
  cases x <;> cases y <;> rfl
@[simp] theorem modCtl_fresh (c : Chip) (cr : Crew) (f : CrewCtl → CrewCtl) : (modCtl c cr f).fresh = c.fresh := by
  cases cr <;> rfl
@[simp] theorem modCtl_now (c : Chip) (cr : Crew) (f : CrewCtl → CrewCtl) : (modCtl c cr f).now = c.now := by
  cases cr <;> rfl
@[simp] theorem modCtl_mode (c : Chip) (cr : Crew) (f : CrewCtl → CrewCtl) : (modCtl c cr f).mode = c.mode := by
  cases cr <;> rfl
@[simp] theorem modCtl_pages (c : Chip) (cr : Crew) (f : CrewCtl → CrewCtl) : (modCtl c cr f).pages = c.pages := by
  cases cr <;> rfl
@[simp] theorem modCtl_attn (c : Chip) (cr : Crew) (f : CrewCtl → CrewCtl) : (modCtl c cr f).attn = c.attn := by
  cases cr <;> rfl
@[simp] theorem modCtl_stroke (c : Chip) (cr : Crew) (f : CrewCtl → CrewCtl) : (modCtl c cr f).stroke = c.stroke := by
  cases cr <;> rfl
@[simp] theorem modCtl_backup (c : Chip) (cr : Crew) (f : CrewCtl → CrewCtl) : (modCtl c cr f).backup = c.backup := by
  cases cr <;> rfl
@[simp] theorem modCtl_rst (c : Chip) (cr : Crew) (f : CrewCtl → CrewCtl) : (modCtl c cr f).rst = c.rst := by
  cases cr <;> rfl
@[simp] theorem modCtl_boat (c : Chip) (cr : Crew) (f : CrewCtl → CrewCtl) : (modCtl c cr f).boat = c.boat := by
  cases cr <;> rfl
@[simp] theorem modCtl_ident (c : Chip) (cr : Crew) (f : CrewCtl → CrewCtl) : (modCtl c cr f).ident = c.ident := by
  cases cr <;> rfl
@[simp] theorem modCtl_upd (c : Chip) (cr : Crew) (f : CrewCtl → CrewCtl) : (modCtl c cr f).upd = c.upd := by
  cases cr <;> rfl
@[simp] theorem modCtl_panel (c : Chip) (cr : Crew) (f : CrewCtl → CrewCtl) : (modCtl c cr f).panel = c.panel := by
  cases cr <;> rfl
@[simp] theorem modCtl_underway (c : Chip) (cr : Crew) (f : CrewCtl → CrewCtl) : (modCtl c cr f).underway = c.underway := by
  cases cr <;> rfl
@[simp] theorem modCtl_cfg (c : Chip) (cr : Crew) (f : CrewCtl → CrewCtl) : (modCtl c cr f).cfg = c.cfg := by
  cases cr <;> rfl
@[simp] theorem modCtl_qOverflow (c : Chip) (cr : Crew) (f : CrewCtl → CrewCtl) : (modCtl c cr f).qOverflow = c.qOverflow := by
  cases cr <;> rfl
@[simp] theorem modCtl_wake (c : Chip) (cr : Crew) (f : CrewCtl → CrewCtl) : (modCtl c cr f).wake = c.wake := by
  cases cr <;> rfl
@[simp] theorem modCtl_rates (c : Chip) (cr : Crew) (f : CrewCtl → CrewCtl) : (modCtl c cr f).rates = c.rates := by
  cases cr <;> rfl
@[simp] theorem modCtl_sent (c : Chip) (cr : Crew) (f : CrewCtl → CrewCtl) : (modCtl c cr f).sent = c.sent := by
  cases cr <;> rfl
@[simp] theorem modCtl_img (c : Chip) (cr : Crew) (f : CrewCtl → CrewCtl) : (modCtl c cr f).img = c.img := by
  cases cr <;> rfl
@[simp] theorem modCtl_work (c : Chip) (cr : Crew) (f : CrewCtl → CrewCtl) : (modCtl c cr f).work = c.work := by
  cases cr <;> rfl
@[simp] theorem modCtl_latch (c : Chip) (cr : Crew) (f : CrewCtl → CrewCtl) : (modCtl c cr f).latch = c.latch := by
  cases cr <;> rfl
@[simp] theorem modCtl_engOut (c : Chip) (cr : Crew) (f : CrewCtl → CrewCtl) : (modCtl c cr f).engOut = c.engOut := by
  cases cr <;> rfl
@[simp] theorem modCtl_committedS (c : Chip) (cr : Crew) (f : CrewCtl → CrewCtl) : (modCtl c cr f).committedS = c.committedS := by
  cases cr <;> rfl
@[simp] theorem modCtl_committedP (c : Chip) (cr : Crew) (f : CrewCtl → CrewCtl) : (modCtl c cr f).committedP = c.committedP := by
  cases cr <;> rfl
@[simp] theorem modCtl_engines (c : Chip) (cr : Crew) (f : CrewCtl → CrewCtl) : (modCtl c cr f).engines = c.engines := by
  cases cr <;> rfl
@[simp] theorem modCtl_sel (c : Chip) (cr : Crew) (f : CrewCtl → CrewCtl) : (modCtl c cr f).sel = c.sel := by
  cases cr <;> rfl
@[simp] theorem modCtl_safety (c : Chip) (cr : Crew) (f : CrewCtl → CrewCtl) : (modCtl c cr f).safety = c.safety := by
  cases cr <;> rfl
@[simp] theorem modCtl_zw (c : Chip) (cr : Crew) (f : CrewCtl → CrewCtl) : (modCtl c cr f).zw = c.zw := by
  cases cr <;> rfl
@[simp] theorem modCtl_crewS (c : Chip) (cr : Crew) (f : CrewCtl → CrewCtl) : (modCtl c cr f).crewS = c.crewS := by
  cases cr <;> rfl
@[simp] theorem modCtl_crewP (c : Chip) (cr : Crew) (f : CrewCtl → CrewCtl) : (modCtl c cr f).crewP = c.crewP := by
  cases cr <;> rfl
@[simp] theorem modCtl_coxSafety (c : Chip) (cr : Crew) (f : CrewCtl → CrewCtl) : (modCtl c cr f).coxSafety = c.coxSafety := by
  cases cr <;> rfl
@[simp] theorem modCtl_coxProcess (c : Chip) (cr : Crew) (f : CrewCtl → CrewCtl) : (modCtl c cr f).coxProcess = c.coxProcess := by
  cases cr <;> rfl
@[simp] theorem modCtl_seat (c : Chip) (cr : Crew) (f : CrewCtl → CrewCtl) : (modCtl c cr f).seat = c.seat := by
  cases cr <;> rfl
@[simp] theorem modCtl_mirror (c : Chip) (cr : Crew) (f : CrewCtl → CrewCtl) : (modCtl c cr f).mirror = c.mirror := by
  cases cr <;> rfl
@[simp] theorem modCtl_pairCnt (c : Chip) (cr : Crew) (f : CrewCtl → CrewCtl) : (modCtl c cr f).pairCnt = c.pairCnt := by
  cases cr <;> rfl
@[simp] theorem modCtl_dig (c : Chip) (cr : Crew) (f : CrewCtl → CrewCtl) : (modCtl c cr f).dig = c.dig := by
  cases cr <;> rfl
@[simp] theorem modCtl_islands (c : Chip) (cr : Crew) (f : CrewCtl → CrewCtl) : (modCtl c cr f).islands = c.islands := by
  cases cr <;> rfl
@[simp] theorem modCtl_isl (c : Chip) (cr : Crew) (f : CrewCtl → CrewCtl) : (modCtl c cr f).isl = c.isl := by
  cases cr <;> rfl
@[simp] theorem modCtl_links (c : Chip) (cr : Crew) (f : CrewCtl → CrewCtl) : (modCtl c cr f).links = c.links := by
  cases cr <;> rfl
@[simp] theorem modCtl_cans (c : Chip) (cr : Crew) (f : CrewCtl → CrewCtl) : (modCtl c cr f).cans = c.cans := by
  cases cr <;> rfl
@[simp] theorem modCtl_lans (c : Chip) (cr : Crew) (f : CrewCtl → CrewCtl) : (modCtl c cr f).lans = c.lans := by
  cases cr <;> rfl
@[simp] theorem modCtl_badFrames (c : Chip) (cr : Crew) (f : CrewCtl → CrewCtl) : (modCtl c cr f).badFrames = c.badFrames := by
  cases cr <;> rfl
@[simp] theorem modCtl_serial (c : Chip) (cr : Crew) (f : CrewCtl → CrewCtl) : (modCtl c cr f).serial = c.serial := by
  cases cr <;> rfl
@[simp] theorem modCtl_hosts (c : Chip) (cr : Crew) (f : CrewCtl → CrewCtl) : (modCtl c cr f).hosts = c.hosts := by
  cases cr <;> rfl

/-! ### `modCox` -/

@[simp] theorem coxSt_modCox (c : Chip) (cr : Crew) (f : CoxSt → CoxSt) : coxSt (modCox c cr f) cr = f (coxSt c cr) := by
  cases cr <;> rfl
theorem coxSt_modCox_ne (c : Chip) {x y : Crew} (f : CoxSt → CoxSt) (h : x ≠ y) : coxSt (modCox c x f) y = coxSt c y := by
  cases x <;> cases y <;> simp_all [modCox, coxSt]
@[simp] theorem crewSt_modCox (c : Chip) (x y : Crew) (f : CoxSt → CoxSt) : crewSt (modCox c x f) y = crewSt c y := by
  cases x <;> cases y <;> rfl
@[simp] theorem ctlSt_modCox (c : Chip) (x y : Crew) (f : CoxSt → CoxSt) : ctlSt (modCox c x f) y = ctlSt c y := by
  cases x <;> cases y <;> rfl
@[simp] theorem modCox_fresh (c : Chip) (cr : Crew) (f : CoxSt → CoxSt) : (modCox c cr f).fresh = c.fresh := by
  cases cr <;> rfl
@[simp] theorem modCox_now (c : Chip) (cr : Crew) (f : CoxSt → CoxSt) : (modCox c cr f).now = c.now := by
  cases cr <;> rfl
@[simp] theorem modCox_mode (c : Chip) (cr : Crew) (f : CoxSt → CoxSt) : (modCox c cr f).mode = c.mode := by
  cases cr <;> rfl
@[simp] theorem modCox_pages (c : Chip) (cr : Crew) (f : CoxSt → CoxSt) : (modCox c cr f).pages = c.pages := by
  cases cr <;> rfl
@[simp] theorem modCox_attn (c : Chip) (cr : Crew) (f : CoxSt → CoxSt) : (modCox c cr f).attn = c.attn := by
  cases cr <;> rfl
@[simp] theorem modCox_stroke (c : Chip) (cr : Crew) (f : CoxSt → CoxSt) : (modCox c cr f).stroke = c.stroke := by
  cases cr <;> rfl
@[simp] theorem modCox_backup (c : Chip) (cr : Crew) (f : CoxSt → CoxSt) : (modCox c cr f).backup = c.backup := by
  cases cr <;> rfl
@[simp] theorem modCox_rst (c : Chip) (cr : Crew) (f : CoxSt → CoxSt) : (modCox c cr f).rst = c.rst := by
  cases cr <;> rfl
@[simp] theorem modCox_boat (c : Chip) (cr : Crew) (f : CoxSt → CoxSt) : (modCox c cr f).boat = c.boat := by
  cases cr <;> rfl
@[simp] theorem modCox_ident (c : Chip) (cr : Crew) (f : CoxSt → CoxSt) : (modCox c cr f).ident = c.ident := by
  cases cr <;> rfl
@[simp] theorem modCox_upd (c : Chip) (cr : Crew) (f : CoxSt → CoxSt) : (modCox c cr f).upd = c.upd := by
  cases cr <;> rfl
@[simp] theorem modCox_panel (c : Chip) (cr : Crew) (f : CoxSt → CoxSt) : (modCox c cr f).panel = c.panel := by
  cases cr <;> rfl
@[simp] theorem modCox_underway (c : Chip) (cr : Crew) (f : CoxSt → CoxSt) : (modCox c cr f).underway = c.underway := by
  cases cr <;> rfl
@[simp] theorem modCox_cfg (c : Chip) (cr : Crew) (f : CoxSt → CoxSt) : (modCox c cr f).cfg = c.cfg := by
  cases cr <;> rfl
@[simp] theorem modCox_qOverflow (c : Chip) (cr : Crew) (f : CoxSt → CoxSt) : (modCox c cr f).qOverflow = c.qOverflow := by
  cases cr <;> rfl
@[simp] theorem modCox_wake (c : Chip) (cr : Crew) (f : CoxSt → CoxSt) : (modCox c cr f).wake = c.wake := by
  cases cr <;> rfl
@[simp] theorem modCox_rates (c : Chip) (cr : Crew) (f : CoxSt → CoxSt) : (modCox c cr f).rates = c.rates := by
  cases cr <;> rfl
@[simp] theorem modCox_sent (c : Chip) (cr : Crew) (f : CoxSt → CoxSt) : (modCox c cr f).sent = c.sent := by
  cases cr <;> rfl
@[simp] theorem modCox_img (c : Chip) (cr : Crew) (f : CoxSt → CoxSt) : (modCox c cr f).img = c.img := by
  cases cr <;> rfl
@[simp] theorem modCox_work (c : Chip) (cr : Crew) (f : CoxSt → CoxSt) : (modCox c cr f).work = c.work := by
  cases cr <;> rfl
@[simp] theorem modCox_latch (c : Chip) (cr : Crew) (f : CoxSt → CoxSt) : (modCox c cr f).latch = c.latch := by
  cases cr <;> rfl
@[simp] theorem modCox_engOut (c : Chip) (cr : Crew) (f : CoxSt → CoxSt) : (modCox c cr f).engOut = c.engOut := by
  cases cr <;> rfl
@[simp] theorem modCox_committedS (c : Chip) (cr : Crew) (f : CoxSt → CoxSt) : (modCox c cr f).committedS = c.committedS := by
  cases cr <;> rfl
@[simp] theorem modCox_committedP (c : Chip) (cr : Crew) (f : CoxSt → CoxSt) : (modCox c cr f).committedP = c.committedP := by
  cases cr <;> rfl
@[simp] theorem modCox_engines (c : Chip) (cr : Crew) (f : CoxSt → CoxSt) : (modCox c cr f).engines = c.engines := by
  cases cr <;> rfl
@[simp] theorem modCox_sel (c : Chip) (cr : Crew) (f : CoxSt → CoxSt) : (modCox c cr f).sel = c.sel := by
  cases cr <;> rfl
@[simp] theorem modCox_safety (c : Chip) (cr : Crew) (f : CoxSt → CoxSt) : (modCox c cr f).safety = c.safety := by
  cases cr <;> rfl
@[simp] theorem modCox_zw (c : Chip) (cr : Crew) (f : CoxSt → CoxSt) : (modCox c cr f).zw = c.zw := by
  cases cr <;> rfl
@[simp] theorem modCox_crewS (c : Chip) (cr : Crew) (f : CoxSt → CoxSt) : (modCox c cr f).crewS = c.crewS := by
  cases cr <;> rfl
@[simp] theorem modCox_crewP (c : Chip) (cr : Crew) (f : CoxSt → CoxSt) : (modCox c cr f).crewP = c.crewP := by
  cases cr <;> rfl
@[simp] theorem modCox_ctlS (c : Chip) (cr : Crew) (f : CoxSt → CoxSt) : (modCox c cr f).ctlS = c.ctlS := by
  cases cr <;> rfl
@[simp] theorem modCox_ctlP (c : Chip) (cr : Crew) (f : CoxSt → CoxSt) : (modCox c cr f).ctlP = c.ctlP := by
  cases cr <;> rfl
@[simp] theorem modCox_seat (c : Chip) (cr : Crew) (f : CoxSt → CoxSt) : (modCox c cr f).seat = c.seat := by
  cases cr <;> rfl
@[simp] theorem modCox_mirror (c : Chip) (cr : Crew) (f : CoxSt → CoxSt) : (modCox c cr f).mirror = c.mirror := by
  cases cr <;> rfl
@[simp] theorem modCox_pairCnt (c : Chip) (cr : Crew) (f : CoxSt → CoxSt) : (modCox c cr f).pairCnt = c.pairCnt := by
  cases cr <;> rfl
@[simp] theorem modCox_dig (c : Chip) (cr : Crew) (f : CoxSt → CoxSt) : (modCox c cr f).dig = c.dig := by
  cases cr <;> rfl
@[simp] theorem modCox_islands (c : Chip) (cr : Crew) (f : CoxSt → CoxSt) : (modCox c cr f).islands = c.islands := by
  cases cr <;> rfl
@[simp] theorem modCox_isl (c : Chip) (cr : Crew) (f : CoxSt → CoxSt) : (modCox c cr f).isl = c.isl := by
  cases cr <;> rfl
@[simp] theorem modCox_links (c : Chip) (cr : Crew) (f : CoxSt → CoxSt) : (modCox c cr f).links = c.links := by
  cases cr <;> rfl
@[simp] theorem modCox_cans (c : Chip) (cr : Crew) (f : CoxSt → CoxSt) : (modCox c cr f).cans = c.cans := by
  cases cr <;> rfl
@[simp] theorem modCox_lans (c : Chip) (cr : Crew) (f : CoxSt → CoxSt) : (modCox c cr f).lans = c.lans := by
  cases cr <;> rfl
@[simp] theorem modCox_badFrames (c : Chip) (cr : Crew) (f : CoxSt → CoxSt) : (modCox c cr f).badFrames = c.badFrames := by
  cases cr <;> rfl
@[simp] theorem modCox_serial (c : Chip) (cr : Crew) (f : CoxSt → CoxSt) : (modCox c cr f).serial = c.serial := by
  cases cr <;> rfl
@[simp] theorem modCox_hosts (c : Chip) (cr : Crew) (f : CoxSt → CoxSt) : (modCox c cr f).hosts = c.hosts := by
  cases cr <;> rfl

end Sys2Proof.Machine
end

