-- ==== Sys2Proof/Laws/Ops.lean ====
section
/-!
SUPPORT. What the operations every family shares can do: the attention tree, page headers, causes, wake records.
-/
namespace Sys2Proof.Machine

/-! ### `attnUpdate` -/

@[simp] theorem attnUpdate_fresh (c : Chip) : (attnUpdate c).fresh = c.fresh := by
  unfold attnUpdate; dsimp only; split <;> rfl
@[simp] theorem attnUpdate_now (c : Chip) : (attnUpdate c).now = c.now := by
  unfold attnUpdate; dsimp only; split <;> rfl
@[simp] theorem attnUpdate_mode (c : Chip) : (attnUpdate c).mode = c.mode := by
  unfold attnUpdate; dsimp only; split <;> rfl
@[simp] theorem attnUpdate_pages (c : Chip) : (attnUpdate c).pages = c.pages := by
  unfold attnUpdate; dsimp only; split <;> rfl
@[simp] theorem attnUpdate_stroke (c : Chip) : (attnUpdate c).stroke = c.stroke := by
  unfold attnUpdate; dsimp only; split <;> rfl
@[simp] theorem attnUpdate_backup (c : Chip) : (attnUpdate c).backup = c.backup := by
  unfold attnUpdate; dsimp only; split <;> rfl
@[simp] theorem attnUpdate_rst (c : Chip) : (attnUpdate c).rst = c.rst := by
  unfold attnUpdate; dsimp only; split <;> rfl
@[simp] theorem attnUpdate_boat (c : Chip) : (attnUpdate c).boat = c.boat := by
  unfold attnUpdate; dsimp only; split <;> rfl
@[simp] theorem attnUpdate_ident (c : Chip) : (attnUpdate c).ident = c.ident := by
  unfold attnUpdate; dsimp only; split <;> rfl
@[simp] theorem attnUpdate_upd (c : Chip) : (attnUpdate c).upd = c.upd := by
  unfold attnUpdate; dsimp only; split <;> rfl
@[simp] theorem attnUpdate_panel (c : Chip) : (attnUpdate c).panel = c.panel := by
  unfold attnUpdate; dsimp only; split <;> rfl
@[simp] theorem attnUpdate_underway (c : Chip) : (attnUpdate c).underway = c.underway := by
  unfold attnUpdate; dsimp only; split <;> rfl
@[simp] theorem attnUpdate_cfg (c : Chip) : (attnUpdate c).cfg = c.cfg := by
  unfold attnUpdate; dsimp only; split <;> rfl
@[simp] theorem attnUpdate_qOverflow (c : Chip) : (attnUpdate c).qOverflow = c.qOverflow := by
  unfold attnUpdate; dsimp only; split <;> rfl
@[simp] theorem attnUpdate_wake (c : Chip) : (attnUpdate c).wake = c.wake := by
  unfold attnUpdate; dsimp only; split <;> rfl
@[simp] theorem attnUpdate_rates (c : Chip) : (attnUpdate c).rates = c.rates := by
  unfold attnUpdate; dsimp only; split <;> rfl
@[simp] theorem attnUpdate_sent (c : Chip) : (attnUpdate c).sent = c.sent := by
  unfold attnUpdate; dsimp only; split <;> rfl
@[simp] theorem attnUpdate_img (c : Chip) : (attnUpdate c).img = c.img := by
  unfold attnUpdate; dsimp only; split <;> rfl
@[simp] theorem attnUpdate_work (c : Chip) : (attnUpdate c).work = c.work := by
  unfold attnUpdate; dsimp only; split <;> rfl
@[simp] theorem attnUpdate_latch (c : Chip) : (attnUpdate c).latch = c.latch := by
  unfold attnUpdate; dsimp only; split <;> rfl
@[simp] theorem attnUpdate_engOut (c : Chip) : (attnUpdate c).engOut = c.engOut := by
  unfold attnUpdate; dsimp only; split <;> rfl
@[simp] theorem attnUpdate_committedS (c : Chip) : (attnUpdate c).committedS = c.committedS := by
  unfold attnUpdate; dsimp only; split <;> rfl
@[simp] theorem attnUpdate_committedP (c : Chip) : (attnUpdate c).committedP = c.committedP := by
  unfold attnUpdate; dsimp only; split <;> rfl
@[simp] theorem attnUpdate_engines (c : Chip) : (attnUpdate c).engines = c.engines := by
  unfold attnUpdate; dsimp only; split <;> rfl
@[simp] theorem attnUpdate_sel (c : Chip) : (attnUpdate c).sel = c.sel := by
  unfold attnUpdate; dsimp only; split <;> rfl
@[simp] theorem attnUpdate_safety (c : Chip) : (attnUpdate c).safety = c.safety := by
  unfold attnUpdate; dsimp only; split <;> rfl
@[simp] theorem attnUpdate_zw (c : Chip) : (attnUpdate c).zw = c.zw := by
  unfold attnUpdate; dsimp only; split <;> rfl
@[simp] theorem attnUpdate_crewS (c : Chip) : (attnUpdate c).crewS = c.crewS := by
  unfold attnUpdate; dsimp only; split <;> rfl
@[simp] theorem attnUpdate_crewP (c : Chip) : (attnUpdate c).crewP = c.crewP := by
  unfold attnUpdate; dsimp only; split <;> rfl
@[simp] theorem attnUpdate_ctlS (c : Chip) : (attnUpdate c).ctlS = c.ctlS := by
  unfold attnUpdate; dsimp only; split <;> rfl
@[simp] theorem attnUpdate_ctlP (c : Chip) : (attnUpdate c).ctlP = c.ctlP := by
  unfold attnUpdate; dsimp only; split <;> rfl
@[simp] theorem attnUpdate_coxSafety (c : Chip) : (attnUpdate c).coxSafety = c.coxSafety := by
  unfold attnUpdate; dsimp only; split <;> rfl
@[simp] theorem attnUpdate_coxProcess (c : Chip) : (attnUpdate c).coxProcess = c.coxProcess := by
  unfold attnUpdate; dsimp only; split <;> rfl
@[simp] theorem attnUpdate_seat (c : Chip) : (attnUpdate c).seat = c.seat := by
  unfold attnUpdate; dsimp only; split <;> rfl
@[simp] theorem attnUpdate_mirror (c : Chip) : (attnUpdate c).mirror = c.mirror := by
  unfold attnUpdate; dsimp only; split <;> rfl
@[simp] theorem attnUpdate_pairCnt (c : Chip) : (attnUpdate c).pairCnt = c.pairCnt := by
  unfold attnUpdate; dsimp only; split <;> rfl
@[simp] theorem attnUpdate_dig (c : Chip) : (attnUpdate c).dig = c.dig := by
  unfold attnUpdate; dsimp only; split <;> rfl
@[simp] theorem attnUpdate_islands (c : Chip) : (attnUpdate c).islands = c.islands := by
  unfold attnUpdate; dsimp only; split <;> rfl
@[simp] theorem attnUpdate_isl (c : Chip) : (attnUpdate c).isl = c.isl := by
  unfold attnUpdate; dsimp only; split <;> rfl
@[simp] theorem attnUpdate_links (c : Chip) : (attnUpdate c).links = c.links := by
  unfold attnUpdate; dsimp only; split <;> rfl
@[simp] theorem attnUpdate_cans (c : Chip) : (attnUpdate c).cans = c.cans := by
  unfold attnUpdate; dsimp only; split <;> rfl
@[simp] theorem attnUpdate_lans (c : Chip) : (attnUpdate c).lans = c.lans := by
  unfold attnUpdate; dsimp only; split <;> rfl
@[simp] theorem attnUpdate_badFrames (c : Chip) : (attnUpdate c).badFrames = c.badFrames := by
  unfold attnUpdate; dsimp only; split <;> rfl
@[simp] theorem attnUpdate_serial (c : Chip) : (attnUpdate c).serial = c.serial := by
  unfold attnUpdate; dsimp only; split <;> rfl
@[simp] theorem attnUpdate_hosts (c : Chip) : (attnUpdate c).hosts = c.hosts := by
  unfold attnUpdate; dsimp only; split <;> rfl
@[simp] theorem crewSt_attnUpdate (c : Chip) (x : Crew) : crewSt (attnUpdate c) x = crewSt c x := by
  cases x <;> simp [crewSt]
@[simp] theorem ctlSt_attnUpdate (c : Chip) (x : Crew) : ctlSt (attnUpdate c) x = ctlSt c x := by
  cases x <;> simp [ctlSt]
@[simp] theorem coxSt_attnUpdate (c : Chip) (x : Crew) : coxSt (attnUpdate c) x = coxSt c x := by
  cases x <;> simp [coxSt]

theorem attnSummary_pages {c d : Chip} (h : c.pages = d.pages) : attnSummary c = attnSummary d := by
  simp [attnSummary, attnGroup, h]

/-- After the update ATTN_SUMMARY shows the pages. -/
@[simp] theorem attnUpdate_ok (c : Chip) : Safety.attnOk (attnUpdate c) := by
  have h : attnSummary (attnUpdate c) = attnSummary c := attnSummary_pages (attnUpdate_pages c)
  unfold Safety.attnOk
  rw [h]
  unfold attnUpdate
  dsimp only
  split
  · next e => exact e.symm
  · rfl

/-- A module whose tree is settled stays as it is. -/
theorem attnUpdate_of_ok {c : Chip} (h : Safety.attnOk c) : attnUpdate c = c := by
  unfold attnUpdate
  dsimp only
  rw [if_pos h.symm]

theorem attnUpdate_idem (c : Chip) : attnUpdate (attnUpdate c) = attnUpdate c := attnUpdate_of_ok (attnUpdate_ok c)

/-! ### `modHdr` -/

@[simp] theorem modHdr_fresh (c : Chip) (p : Nat) (f : PageHdr → PageHdr) : (modHdr c p f).fresh = c.fresh := by
  simp [modHdr]
@[simp] theorem modHdr_now (c : Chip) (p : Nat) (f : PageHdr → PageHdr) : (modHdr c p f).now = c.now := by
  simp [modHdr]
@[simp] theorem modHdr_mode (c : Chip) (p : Nat) (f : PageHdr → PageHdr) : (modHdr c p f).mode = c.mode := by
  simp [modHdr]
@[simp] theorem modHdr_stroke (c : Chip) (p : Nat) (f : PageHdr → PageHdr) : (modHdr c p f).stroke = c.stroke := by
  simp [modHdr]
@[simp] theorem modHdr_backup (c : Chip) (p : Nat) (f : PageHdr → PageHdr) : (modHdr c p f).backup = c.backup := by
  simp [modHdr]
@[simp] theorem modHdr_rst (c : Chip) (p : Nat) (f : PageHdr → PageHdr) : (modHdr c p f).rst = c.rst := by
  simp [modHdr]
@[simp] theorem modHdr_boat (c : Chip) (p : Nat) (f : PageHdr → PageHdr) : (modHdr c p f).boat = c.boat := by
  simp [modHdr]
@[simp] theorem modHdr_ident (c : Chip) (p : Nat) (f : PageHdr → PageHdr) : (modHdr c p f).ident = c.ident := by
  simp [modHdr]
@[simp] theorem modHdr_upd (c : Chip) (p : Nat) (f : PageHdr → PageHdr) : (modHdr c p f).upd = c.upd := by
  simp [modHdr]
@[simp] theorem modHdr_panel (c : Chip) (p : Nat) (f : PageHdr → PageHdr) : (modHdr c p f).panel = c.panel := by
  simp [modHdr]
@[simp] theorem modHdr_underway (c : Chip) (p : Nat) (f : PageHdr → PageHdr) : (modHdr c p f).underway = c.underway := by
  simp [modHdr]
@[simp] theorem modHdr_cfg (c : Chip) (p : Nat) (f : PageHdr → PageHdr) : (modHdr c p f).cfg = c.cfg := by
  simp [modHdr]
@[simp] theorem modHdr_qOverflow (c : Chip) (p : Nat) (f : PageHdr → PageHdr) : (modHdr c p f).qOverflow = c.qOverflow := by
  simp [modHdr]
@[simp] theorem modHdr_wake (c : Chip) (p : Nat) (f : PageHdr → PageHdr) : (modHdr c p f).wake = c.wake := by
  simp [modHdr]
@[simp] theorem modHdr_rates (c : Chip) (p : Nat) (f : PageHdr → PageHdr) : (modHdr c p f).rates = c.rates := by
  simp [modHdr]
@[simp] theorem modHdr_sent (c : Chip) (p : Nat) (f : PageHdr → PageHdr) : (modHdr c p f).sent = c.sent := by
  simp [modHdr]
@[simp] theorem modHdr_img (c : Chip) (p : Nat) (f : PageHdr → PageHdr) : (modHdr c p f).img = c.img := by
  simp [modHdr]
@[simp] theorem modHdr_work (c : Chip) (p : Nat) (f : PageHdr → PageHdr) : (modHdr c p f).work = c.work := by
  simp [modHdr]
@[simp] theorem modHdr_latch (c : Chip) (p : Nat) (f : PageHdr → PageHdr) : (modHdr c p f).latch = c.latch := by
  simp [modHdr]
@[simp] theorem modHdr_engOut (c : Chip) (p : Nat) (f : PageHdr → PageHdr) : (modHdr c p f).engOut = c.engOut := by
  simp [modHdr]
@[simp] theorem modHdr_committedS (c : Chip) (p : Nat) (f : PageHdr → PageHdr) : (modHdr c p f).committedS = c.committedS := by
  simp [modHdr]
@[simp] theorem modHdr_committedP (c : Chip) (p : Nat) (f : PageHdr → PageHdr) : (modHdr c p f).committedP = c.committedP := by
  simp [modHdr]
@[simp] theorem modHdr_engines (c : Chip) (p : Nat) (f : PageHdr → PageHdr) : (modHdr c p f).engines = c.engines := by
  simp [modHdr]
@[simp] theorem modHdr_sel (c : Chip) (p : Nat) (f : PageHdr → PageHdr) : (modHdr c p f).sel = c.sel := by
  simp [modHdr]
@[simp] theorem modHdr_safety (c : Chip) (p : Nat) (f : PageHdr → PageHdr) : (modHdr c p f).safety = c.safety := by
  simp [modHdr]
@[simp] theorem modHdr_zw (c : Chip) (p : Nat) (f : PageHdr → PageHdr) : (modHdr c p f).zw = c.zw := by
  simp [modHdr]
@[simp] theorem modHdr_crewS (c : Chip) (p : Nat) (f : PageHdr → PageHdr) : (modHdr c p f).crewS = c.crewS := by
  simp [modHdr]
@[simp] theorem modHdr_crewP (c : Chip) (p : Nat) (f : PageHdr → PageHdr) : (modHdr c p f).crewP = c.crewP := by
  simp [modHdr]
@[simp] theorem modHdr_ctlS (c : Chip) (p : Nat) (f : PageHdr → PageHdr) : (modHdr c p f).ctlS = c.ctlS := by
  simp [modHdr]
@[simp] theorem modHdr_ctlP (c : Chip) (p : Nat) (f : PageHdr → PageHdr) : (modHdr c p f).ctlP = c.ctlP := by
  simp [modHdr]
@[simp] theorem modHdr_coxSafety (c : Chip) (p : Nat) (f : PageHdr → PageHdr) : (modHdr c p f).coxSafety = c.coxSafety := by
  simp [modHdr]
@[simp] theorem modHdr_coxProcess (c : Chip) (p : Nat) (f : PageHdr → PageHdr) : (modHdr c p f).coxProcess = c.coxProcess := by
  simp [modHdr]
@[simp] theorem modHdr_seat (c : Chip) (p : Nat) (f : PageHdr → PageHdr) : (modHdr c p f).seat = c.seat := by
  simp [modHdr]
@[simp] theorem modHdr_mirror (c : Chip) (p : Nat) (f : PageHdr → PageHdr) : (modHdr c p f).mirror = c.mirror := by
  simp [modHdr]
@[simp] theorem modHdr_pairCnt (c : Chip) (p : Nat) (f : PageHdr → PageHdr) : (modHdr c p f).pairCnt = c.pairCnt := by
  simp [modHdr]
@[simp] theorem modHdr_dig (c : Chip) (p : Nat) (f : PageHdr → PageHdr) : (modHdr c p f).dig = c.dig := by
  simp [modHdr]
@[simp] theorem modHdr_islands (c : Chip) (p : Nat) (f : PageHdr → PageHdr) : (modHdr c p f).islands = c.islands := by
  simp [modHdr]
@[simp] theorem modHdr_isl (c : Chip) (p : Nat) (f : PageHdr → PageHdr) : (modHdr c p f).isl = c.isl := by
  simp [modHdr]
@[simp] theorem modHdr_links (c : Chip) (p : Nat) (f : PageHdr → PageHdr) : (modHdr c p f).links = c.links := by
  simp [modHdr]
@[simp] theorem modHdr_cans (c : Chip) (p : Nat) (f : PageHdr → PageHdr) : (modHdr c p f).cans = c.cans := by
  simp [modHdr]
@[simp] theorem modHdr_lans (c : Chip) (p : Nat) (f : PageHdr → PageHdr) : (modHdr c p f).lans = c.lans := by
  simp [modHdr]
@[simp] theorem modHdr_badFrames (c : Chip) (p : Nat) (f : PageHdr → PageHdr) : (modHdr c p f).badFrames = c.badFrames := by
  simp [modHdr]
@[simp] theorem modHdr_serial (c : Chip) (p : Nat) (f : PageHdr → PageHdr) : (modHdr c p f).serial = c.serial := by
  simp [modHdr]
@[simp] theorem modHdr_hosts (c : Chip) (p : Nat) (f : PageHdr → PageHdr) : (modHdr c p f).hosts = c.hosts := by
  simp [modHdr]
@[simp] theorem crewSt_modHdr (c : Chip) (p : Nat) (f : PageHdr → PageHdr) (x : Crew) : crewSt (modHdr c p f) x = crewSt c x := by
  cases x <;> simp [crewSt]
@[simp] theorem ctlSt_modHdr (c : Chip) (p : Nat) (f : PageHdr → PageHdr) (x : Crew) : ctlSt (modHdr c p f) x = ctlSt c x := by
  cases x <;> simp [ctlSt]
@[simp] theorem coxSt_modHdr (c : Chip) (p : Nat) (f : PageHdr → PageHdr) (x : Crew) : coxSt (modHdr c p f) x = coxSt c x := by
  cases x <;> simp [coxSt]

/-! ### `setCause`, `raise`, `setCond` -/

@[simp] theorem setCause_fresh (c : Chip) (p b : Nat) (e : Bool) : (setCause c p b e).fresh = c.fresh := by
  unfold setCause; dsimp only; split <;> simp
@[simp] theorem setCause_now (c : Chip) (p b : Nat) (e : Bool) : (setCause c p b e).now = c.now := by
  unfold setCause; dsimp only; split <;> simp
@[simp] theorem setCause_mode (c : Chip) (p b : Nat) (e : Bool) : (setCause c p b e).mode = c.mode := by
  unfold setCause; dsimp only; split <;> simp
@[simp] theorem setCause_stroke (c : Chip) (p b : Nat) (e : Bool) : (setCause c p b e).stroke = c.stroke := by
  unfold setCause; dsimp only; split <;> simp
@[simp] theorem setCause_rst (c : Chip) (p b : Nat) (e : Bool) : (setCause c p b e).rst = c.rst := by
  unfold setCause; dsimp only; split <;> simp
@[simp] theorem setCause_boat (c : Chip) (p b : Nat) (e : Bool) : (setCause c p b e).boat = c.boat := by
  unfold setCause; dsimp only; split <;> simp
@[simp] theorem setCause_ident (c : Chip) (p b : Nat) (e : Bool) : (setCause c p b e).ident = c.ident := by
  unfold setCause; dsimp only; split <;> simp
@[simp] theorem setCause_upd (c : Chip) (p b : Nat) (e : Bool) : (setCause c p b e).upd = c.upd := by
  unfold setCause; dsimp only; split <;> simp
@[simp] theorem setCause_panel (c : Chip) (p b : Nat) (e : Bool) : (setCause c p b e).panel = c.panel := by
  unfold setCause; dsimp only; split <;> simp
@[simp] theorem setCause_underway (c : Chip) (p b : Nat) (e : Bool) : (setCause c p b e).underway = c.underway := by
  unfold setCause; dsimp only; split <;> simp
@[simp] theorem setCause_cfg (c : Chip) (p b : Nat) (e : Bool) : (setCause c p b e).cfg = c.cfg := by
  unfold setCause; dsimp only; split <;> simp
@[simp] theorem setCause_qOverflow (c : Chip) (p b : Nat) (e : Bool) : (setCause c p b e).qOverflow = c.qOverflow := by
  unfold setCause; dsimp only; split <;> simp
@[simp] theorem setCause_wake (c : Chip) (p b : Nat) (e : Bool) : (setCause c p b e).wake = c.wake := by
  unfold setCause; dsimp only; split <;> simp
@[simp] theorem setCause_rates (c : Chip) (p b : Nat) (e : Bool) : (setCause c p b e).rates = c.rates := by
  unfold setCause; dsimp only; split <;> simp
@[simp] theorem setCause_sent (c : Chip) (p b : Nat) (e : Bool) : (setCause c p b e).sent = c.sent := by
  unfold setCause; dsimp only; split <;> simp
@[simp] theorem setCause_img (c : Chip) (p b : Nat) (e : Bool) : (setCause c p b e).img = c.img := by
  unfold setCause; dsimp only; split <;> simp
@[simp] theorem setCause_work (c : Chip) (p b : Nat) (e : Bool) : (setCause c p b e).work = c.work := by
  unfold setCause; dsimp only; split <;> simp
@[simp] theorem setCause_latch (c : Chip) (p b : Nat) (e : Bool) : (setCause c p b e).latch = c.latch := by
  unfold setCause; dsimp only; split <;> simp
@[simp] theorem setCause_engOut (c : Chip) (p b : Nat) (e : Bool) : (setCause c p b e).engOut = c.engOut := by
  unfold setCause; dsimp only; split <;> simp
@[simp] theorem setCause_committedS (c : Chip) (p b : Nat) (e : Bool) : (setCause c p b e).committedS = c.committedS := by
  unfold setCause; dsimp only; split <;> simp
@[simp] theorem setCause_committedP (c : Chip) (p b : Nat) (e : Bool) : (setCause c p b e).committedP = c.committedP := by
  unfold setCause; dsimp only; split <;> simp
@[simp] theorem setCause_engines (c : Chip) (p b : Nat) (e : Bool) : (setCause c p b e).engines = c.engines := by
  unfold setCause; dsimp only; split <;> simp
@[simp] theorem setCause_sel (c : Chip) (p b : Nat) (e : Bool) : (setCause c p b e).sel = c.sel := by
  unfold setCause; dsimp only; split <;> simp
@[simp] theorem setCause_safety (c : Chip) (p b : Nat) (e : Bool) : (setCause c p b e).safety = c.safety := by
  unfold setCause; dsimp only; split <;> simp
@[simp] theorem setCause_zw (c : Chip) (p b : Nat) (e : Bool) : (setCause c p b e).zw = c.zw := by
  unfold setCause; dsimp only; split <;> simp
@[simp] theorem setCause_crewS (c : Chip) (p b : Nat) (e : Bool) : (setCause c p b e).crewS = c.crewS := by
  unfold setCause; dsimp only; split <;> simp
@[simp] theorem setCause_crewP (c : Chip) (p b : Nat) (e : Bool) : (setCause c p b e).crewP = c.crewP := by
  unfold setCause; dsimp only; split <;> simp
@[simp] theorem setCause_ctlS (c : Chip) (p b : Nat) (e : Bool) : (setCause c p b e).ctlS = c.ctlS := by
  unfold setCause; dsimp only; split <;> simp
@[simp] theorem setCause_ctlP (c : Chip) (p b : Nat) (e : Bool) : (setCause c p b e).ctlP = c.ctlP := by
  unfold setCause; dsimp only; split <;> simp
@[simp] theorem setCause_coxSafety (c : Chip) (p b : Nat) (e : Bool) : (setCause c p b e).coxSafety = c.coxSafety := by
  unfold setCause; dsimp only; split <;> simp
@[simp] theorem setCause_coxProcess (c : Chip) (p b : Nat) (e : Bool) : (setCause c p b e).coxProcess = c.coxProcess := by
  unfold setCause; dsimp only; split <;> simp
@[simp] theorem setCause_seat (c : Chip) (p b : Nat) (e : Bool) : (setCause c p b e).seat = c.seat := by
  unfold setCause; dsimp only; split <;> simp
@[simp] theorem setCause_mirror (c : Chip) (p b : Nat) (e : Bool) : (setCause c p b e).mirror = c.mirror := by
  unfold setCause; dsimp only; split <;> simp
@[simp] theorem setCause_pairCnt (c : Chip) (p b : Nat) (e : Bool) : (setCause c p b e).pairCnt = c.pairCnt := by
  unfold setCause; dsimp only; split <;> simp
@[simp] theorem setCause_dig (c : Chip) (p b : Nat) (e : Bool) : (setCause c p b e).dig = c.dig := by
  unfold setCause; dsimp only; split <;> simp
@[simp] theorem setCause_islands (c : Chip) (p b : Nat) (e : Bool) : (setCause c p b e).islands = c.islands := by
  unfold setCause; dsimp only; split <;> simp
@[simp] theorem setCause_isl (c : Chip) (p b : Nat) (e : Bool) : (setCause c p b e).isl = c.isl := by
  unfold setCause; dsimp only; split <;> simp
@[simp] theorem setCause_links (c : Chip) (p b : Nat) (e : Bool) : (setCause c p b e).links = c.links := by
  unfold setCause; dsimp only; split <;> simp
@[simp] theorem setCause_cans (c : Chip) (p b : Nat) (e : Bool) : (setCause c p b e).cans = c.cans := by
  unfold setCause; dsimp only; split <;> simp
@[simp] theorem setCause_lans (c : Chip) (p b : Nat) (e : Bool) : (setCause c p b e).lans = c.lans := by
  unfold setCause; dsimp only; split <;> simp
@[simp] theorem setCause_badFrames (c : Chip) (p b : Nat) (e : Bool) : (setCause c p b e).badFrames = c.badFrames := by
  unfold setCause; dsimp only; split <;> simp
@[simp] theorem setCause_serial (c : Chip) (p b : Nat) (e : Bool) : (setCause c p b e).serial = c.serial := by
  unfold setCause; dsimp only; split <;> simp
@[simp] theorem setCause_hosts (c : Chip) (p b : Nat) (e : Bool) : (setCause c p b e).hosts = c.hosts := by
  unfold setCause; dsimp only; split <;> simp
@[simp] theorem crewSt_setCause (c : Chip) (p b : Nat) (e : Bool) (x : Crew) : crewSt (setCause c p b e) x = crewSt c x := by
  cases x <;> simp [crewSt]
@[simp] theorem ctlSt_setCause (c : Chip) (p b : Nat) (e : Bool) (x : Crew) : ctlSt (setCause c p b e) x = ctlSt c x := by
  cases x <;> simp [ctlSt]
@[simp] theorem coxSt_setCause (c : Chip) (p b : Nat) (e : Bool) (x : Crew) : coxSt (setCause c p b e) x = coxSt c x := by
  cases x <;> simp [coxSt]
@[simp] theorem raise_fresh (c : Chip) (p b : Nat) : (raise c p b).fresh = c.fresh := by
  simp [raise]
@[simp] theorem raise_now (c : Chip) (p b : Nat) : (raise c p b).now = c.now := by
  simp [raise]
@[simp] theorem raise_mode (c : Chip) (p b : Nat) : (raise c p b).mode = c.mode := by
  simp [raise]
@[simp] theorem raise_stroke (c : Chip) (p b : Nat) : (raise c p b).stroke = c.stroke := by
  simp [raise]
@[simp] theorem raise_rst (c : Chip) (p b : Nat) : (raise c p b).rst = c.rst := by
  simp [raise]
@[simp] theorem raise_boat (c : Chip) (p b : Nat) : (raise c p b).boat = c.boat := by
  simp [raise]
@[simp] theorem raise_ident (c : Chip) (p b : Nat) : (raise c p b).ident = c.ident := by
  simp [raise]
@[simp] theorem raise_upd (c : Chip) (p b : Nat) : (raise c p b).upd = c.upd := by
  simp [raise]
@[simp] theorem raise_panel (c : Chip) (p b : Nat) : (raise c p b).panel = c.panel := by
  simp [raise]
@[simp] theorem raise_underway (c : Chip) (p b : Nat) : (raise c p b).underway = c.underway := by
  simp [raise]
@[simp] theorem raise_cfg (c : Chip) (p b : Nat) : (raise c p b).cfg = c.cfg := by
  simp [raise]
@[simp] theorem raise_qOverflow (c : Chip) (p b : Nat) : (raise c p b).qOverflow = c.qOverflow := by
  simp [raise]
@[simp] theorem raise_wake (c : Chip) (p b : Nat) : (raise c p b).wake = c.wake := by
  simp [raise]
@[simp] theorem raise_rates (c : Chip) (p b : Nat) : (raise c p b).rates = c.rates := by
  simp [raise]
@[simp] theorem raise_sent (c : Chip) (p b : Nat) : (raise c p b).sent = c.sent := by
  simp [raise]
@[simp] theorem raise_img (c : Chip) (p b : Nat) : (raise c p b).img = c.img := by
  simp [raise]
@[simp] theorem raise_work (c : Chip) (p b : Nat) : (raise c p b).work = c.work := by
  simp [raise]
@[simp] theorem raise_latch (c : Chip) (p b : Nat) : (raise c p b).latch = c.latch := by
  simp [raise]
@[simp] theorem raise_engOut (c : Chip) (p b : Nat) : (raise c p b).engOut = c.engOut := by
  simp [raise]
@[simp] theorem raise_committedS (c : Chip) (p b : Nat) : (raise c p b).committedS = c.committedS := by
  simp [raise]
@[simp] theorem raise_committedP (c : Chip) (p b : Nat) : (raise c p b).committedP = c.committedP := by
  simp [raise]
@[simp] theorem raise_engines (c : Chip) (p b : Nat) : (raise c p b).engines = c.engines := by
  simp [raise]
@[simp] theorem raise_sel (c : Chip) (p b : Nat) : (raise c p b).sel = c.sel := by
  simp [raise]
@[simp] theorem raise_safety (c : Chip) (p b : Nat) : (raise c p b).safety = c.safety := by
  simp [raise]
@[simp] theorem raise_zw (c : Chip) (p b : Nat) : (raise c p b).zw = c.zw := by
  simp [raise]
@[simp] theorem raise_crewS (c : Chip) (p b : Nat) : (raise c p b).crewS = c.crewS := by
  simp [raise]
@[simp] theorem raise_crewP (c : Chip) (p b : Nat) : (raise c p b).crewP = c.crewP := by
  simp [raise]
@[simp] theorem raise_ctlS (c : Chip) (p b : Nat) : (raise c p b).ctlS = c.ctlS := by
  simp [raise]
@[simp] theorem raise_ctlP (c : Chip) (p b : Nat) : (raise c p b).ctlP = c.ctlP := by
  simp [raise]
@[simp] theorem raise_coxSafety (c : Chip) (p b : Nat) : (raise c p b).coxSafety = c.coxSafety := by
  simp [raise]
@[simp] theorem raise_coxProcess (c : Chip) (p b : Nat) : (raise c p b).coxProcess = c.coxProcess := by
  simp [raise]
@[simp] theorem raise_seat (c : Chip) (p b : Nat) : (raise c p b).seat = c.seat := by
  simp [raise]
@[simp] theorem raise_mirror (c : Chip) (p b : Nat) : (raise c p b).mirror = c.mirror := by
  simp [raise]
@[simp] theorem raise_pairCnt (c : Chip) (p b : Nat) : (raise c p b).pairCnt = c.pairCnt := by
  simp [raise]
@[simp] theorem raise_dig (c : Chip) (p b : Nat) : (raise c p b).dig = c.dig := by
  simp [raise]
@[simp] theorem raise_islands (c : Chip) (p b : Nat) : (raise c p b).islands = c.islands := by
  simp [raise]
@[simp] theorem raise_isl (c : Chip) (p b : Nat) : (raise c p b).isl = c.isl := by
  simp [raise]
@[simp] theorem raise_links (c : Chip) (p b : Nat) : (raise c p b).links = c.links := by
  simp [raise]
@[simp] theorem raise_cans (c : Chip) (p b : Nat) : (raise c p b).cans = c.cans := by
  simp [raise]
@[simp] theorem raise_lans (c : Chip) (p b : Nat) : (raise c p b).lans = c.lans := by
  simp [raise]
@[simp] theorem raise_badFrames (c : Chip) (p b : Nat) : (raise c p b).badFrames = c.badFrames := by
  simp [raise]
@[simp] theorem raise_serial (c : Chip) (p b : Nat) : (raise c p b).serial = c.serial := by
  simp [raise]
@[simp] theorem raise_hosts (c : Chip) (p b : Nat) : (raise c p b).hosts = c.hosts := by
  simp [raise]
@[simp] theorem crewSt_raise (c : Chip) (p b : Nat) (x : Crew) : crewSt (raise c p b) x = crewSt c x := by
  cases x <;> simp [crewSt]
@[simp] theorem ctlSt_raise (c : Chip) (p b : Nat) (x : Crew) : ctlSt (raise c p b) x = ctlSt c x := by
  cases x <;> simp [ctlSt]
@[simp] theorem coxSt_raise (c : Chip) (p b : Nat) (x : Crew) : coxSt (raise c p b) x = coxSt c x := by
  cases x <;> simp [coxSt]
@[simp] theorem setCond_fresh (c : Chip) (p b : Nat) (v : Bool) : (setCond c p b v).fresh = c.fresh := by
  unfold setCond
  dsimp only
  split
  · rfl
  · split <;> simp
@[simp] theorem setCond_now (c : Chip) (p b : Nat) (v : Bool) : (setCond c p b v).now = c.now := by
  unfold setCond
  dsimp only
  split
  · rfl
  · split <;> simp
@[simp] theorem setCond_mode (c : Chip) (p b : Nat) (v : Bool) : (setCond c p b v).mode = c.mode := by
  unfold setCond
  dsimp only
  split
  · rfl
  · split <;> simp
@[simp] theorem setCond_stroke (c : Chip) (p b : Nat) (v : Bool) : (setCond c p b v).stroke = c.stroke := by
  unfold setCond
  dsimp only
  split
  · rfl
  · split <;> simp
@[simp] theorem setCond_rst (c : Chip) (p b : Nat) (v : Bool) : (setCond c p b v).rst = c.rst := by
  unfold setCond
  dsimp only
  split
  · rfl
  · split <;> simp
@[simp] theorem setCond_boat (c : Chip) (p b : Nat) (v : Bool) : (setCond c p b v).boat = c.boat := by
  unfold setCond
  dsimp only
  split
  · rfl
  · split <;> simp
@[simp] theorem setCond_ident (c : Chip) (p b : Nat) (v : Bool) : (setCond c p b v).ident = c.ident := by
  unfold setCond
  dsimp only
  split
  · rfl
  · split <;> simp
@[simp] theorem setCond_upd (c : Chip) (p b : Nat) (v : Bool) : (setCond c p b v).upd = c.upd := by
  unfold setCond
  dsimp only
  split
  · rfl
  · split <;> simp
@[simp] theorem setCond_panel (c : Chip) (p b : Nat) (v : Bool) : (setCond c p b v).panel = c.panel := by
  unfold setCond
  dsimp only
  split
  · rfl
  · split <;> simp
@[simp] theorem setCond_underway (c : Chip) (p b : Nat) (v : Bool) : (setCond c p b v).underway = c.underway := by
  unfold setCond
  dsimp only
  split
  · rfl
  · split <;> simp
@[simp] theorem setCond_cfg (c : Chip) (p b : Nat) (v : Bool) : (setCond c p b v).cfg = c.cfg := by
  unfold setCond
  dsimp only
  split
  · rfl
  · split <;> simp
@[simp] theorem setCond_qOverflow (c : Chip) (p b : Nat) (v : Bool) : (setCond c p b v).qOverflow = c.qOverflow := by
  unfold setCond
  dsimp only
  split
  · rfl
  · split <;> simp
@[simp] theorem setCond_wake (c : Chip) (p b : Nat) (v : Bool) : (setCond c p b v).wake = c.wake := by
  unfold setCond
  dsimp only
  split
  · rfl
  · split <;> simp
@[simp] theorem setCond_rates (c : Chip) (p b : Nat) (v : Bool) : (setCond c p b v).rates = c.rates := by
  unfold setCond
  dsimp only
  split
  · rfl
  · split <;> simp
@[simp] theorem setCond_sent (c : Chip) (p b : Nat) (v : Bool) : (setCond c p b v).sent = c.sent := by
  unfold setCond
  dsimp only
  split
  · rfl
  · split <;> simp
@[simp] theorem setCond_img (c : Chip) (p b : Nat) (v : Bool) : (setCond c p b v).img = c.img := by
  unfold setCond
  dsimp only
  split
  · rfl
  · split <;> simp
@[simp] theorem setCond_work (c : Chip) (p b : Nat) (v : Bool) : (setCond c p b v).work = c.work := by
  unfold setCond
  dsimp only
  split
  · rfl
  · split <;> simp
@[simp] theorem setCond_latch (c : Chip) (p b : Nat) (v : Bool) : (setCond c p b v).latch = c.latch := by
  unfold setCond
  dsimp only
  split
  · rfl
  · split <;> simp
@[simp] theorem setCond_engOut (c : Chip) (p b : Nat) (v : Bool) : (setCond c p b v).engOut = c.engOut := by
  unfold setCond
  dsimp only
  split
  · rfl
  · split <;> simp
@[simp] theorem setCond_committedS (c : Chip) (p b : Nat) (v : Bool) : (setCond c p b v).committedS = c.committedS := by
  unfold setCond
  dsimp only
  split
  · rfl
  · split <;> simp
@[simp] theorem setCond_committedP (c : Chip) (p b : Nat) (v : Bool) : (setCond c p b v).committedP = c.committedP := by
  unfold setCond
  dsimp only
  split
  · rfl
  · split <;> simp
@[simp] theorem setCond_engines (c : Chip) (p b : Nat) (v : Bool) : (setCond c p b v).engines = c.engines := by
  unfold setCond
  dsimp only
  split
  · rfl
  · split <;> simp
@[simp] theorem setCond_sel (c : Chip) (p b : Nat) (v : Bool) : (setCond c p b v).sel = c.sel := by
  unfold setCond
  dsimp only
  split
  · rfl
  · split <;> simp
@[simp] theorem setCond_safety (c : Chip) (p b : Nat) (v : Bool) : (setCond c p b v).safety = c.safety := by
  unfold setCond
  dsimp only
  split
  · rfl
  · split <;> simp
@[simp] theorem setCond_zw (c : Chip) (p b : Nat) (v : Bool) : (setCond c p b v).zw = c.zw := by
  unfold setCond
  dsimp only
  split
  · rfl
  · split <;> simp
@[simp] theorem setCond_crewS (c : Chip) (p b : Nat) (v : Bool) : (setCond c p b v).crewS = c.crewS := by
  unfold setCond
  dsimp only
  split
  · rfl
  · split <;> simp
@[simp] theorem setCond_crewP (c : Chip) (p b : Nat) (v : Bool) : (setCond c p b v).crewP = c.crewP := by
  unfold setCond
  dsimp only
  split
  · rfl
  · split <;> simp
@[simp] theorem setCond_ctlS (c : Chip) (p b : Nat) (v : Bool) : (setCond c p b v).ctlS = c.ctlS := by
  unfold setCond
  dsimp only
  split
  · rfl
  · split <;> simp
@[simp] theorem setCond_ctlP (c : Chip) (p b : Nat) (v : Bool) : (setCond c p b v).ctlP = c.ctlP := by
  unfold setCond
  dsimp only
  split
  · rfl
  · split <;> simp
@[simp] theorem setCond_coxSafety (c : Chip) (p b : Nat) (v : Bool) : (setCond c p b v).coxSafety = c.coxSafety := by
  unfold setCond
  dsimp only
  split
  · rfl
  · split <;> simp
@[simp] theorem setCond_coxProcess (c : Chip) (p b : Nat) (v : Bool) : (setCond c p b v).coxProcess = c.coxProcess := by
  unfold setCond
  dsimp only
  split
  · rfl
  · split <;> simp
@[simp] theorem setCond_seat (c : Chip) (p b : Nat) (v : Bool) : (setCond c p b v).seat = c.seat := by
  unfold setCond
  dsimp only
  split
  · rfl
  · split <;> simp
@[simp] theorem setCond_mirror (c : Chip) (p b : Nat) (v : Bool) : (setCond c p b v).mirror = c.mirror := by
  unfold setCond
  dsimp only
  split
  · rfl
  · split <;> simp
@[simp] theorem setCond_pairCnt (c : Chip) (p b : Nat) (v : Bool) : (setCond c p b v).pairCnt = c.pairCnt := by
  unfold setCond
  dsimp only
  split
  · rfl
  · split <;> simp
@[simp] theorem setCond_dig (c : Chip) (p b : Nat) (v : Bool) : (setCond c p b v).dig = c.dig := by
  unfold setCond
  dsimp only
  split
  · rfl
  · split <;> simp
@[simp] theorem setCond_islands (c : Chip) (p b : Nat) (v : Bool) : (setCond c p b v).islands = c.islands := by
  unfold setCond
  dsimp only
  split
  · rfl
  · split <;> simp
@[simp] theorem setCond_isl (c : Chip) (p b : Nat) (v : Bool) : (setCond c p b v).isl = c.isl := by
  unfold setCond
  dsimp only
  split
  · rfl
  · split <;> simp
@[simp] theorem setCond_links (c : Chip) (p b : Nat) (v : Bool) : (setCond c p b v).links = c.links := by
  unfold setCond
  dsimp only
  split
  · rfl
  · split <;> simp
@[simp] theorem setCond_cans (c : Chip) (p b : Nat) (v : Bool) : (setCond c p b v).cans = c.cans := by
  unfold setCond
  dsimp only
  split
  · rfl
  · split <;> simp
@[simp] theorem setCond_lans (c : Chip) (p b : Nat) (v : Bool) : (setCond c p b v).lans = c.lans := by
  unfold setCond
  dsimp only
  split
  · rfl
  · split <;> simp
@[simp] theorem setCond_badFrames (c : Chip) (p b : Nat) (v : Bool) : (setCond c p b v).badFrames = c.badFrames := by
  unfold setCond
  dsimp only
  split
  · rfl
  · split <;> simp
@[simp] theorem setCond_serial (c : Chip) (p b : Nat) (v : Bool) : (setCond c p b v).serial = c.serial := by
  unfold setCond
  dsimp only
  split
  · rfl
  · split <;> simp
@[simp] theorem setCond_hosts (c : Chip) (p b : Nat) (v : Bool) : (setCond c p b v).hosts = c.hosts := by
  unfold setCond
  dsimp only
  split
  · rfl
  · split <;> simp
@[simp] theorem crewSt_setCond (c : Chip) (p b : Nat) (v : Bool) (x : Crew) : crewSt (setCond c p b v) x = crewSt c x := by
  cases x <;> simp [crewSt]
@[simp] theorem ctlSt_setCond (c : Chip) (p b : Nat) (v : Bool) (x : Crew) : ctlSt (setCond c p b v) x = ctlSt c x := by
  cases x <;> simp [ctlSt]
@[simp] theorem coxSt_setCond (c : Chip) (p b : Nat) (v : Bool) (x : Crew) : coxSt (setCond c p b v) x = coxSt c x := by
  cases x <;> simp [coxSt]

/-! ### Wake records -/

@[simp] theorem queueRefused_fresh (c : Chip) (q : Nat) : (queueRefused c q).fresh = c.fresh := by
  simp [queueRefused]
@[simp] theorem queueRefused_now (c : Chip) (q : Nat) : (queueRefused c q).now = c.now := by
  simp [queueRefused]
@[simp] theorem queueRefused_mode (c : Chip) (q : Nat) : (queueRefused c q).mode = c.mode := by
  simp [queueRefused]
@[simp] theorem queueRefused_stroke (c : Chip) (q : Nat) : (queueRefused c q).stroke = c.stroke := by
  simp [queueRefused]
@[simp] theorem queueRefused_rst (c : Chip) (q : Nat) : (queueRefused c q).rst = c.rst := by
  simp [queueRefused]
@[simp] theorem queueRefused_boat (c : Chip) (q : Nat) : (queueRefused c q).boat = c.boat := by
  simp [queueRefused]
@[simp] theorem queueRefused_ident (c : Chip) (q : Nat) : (queueRefused c q).ident = c.ident := by
  simp [queueRefused]
@[simp] theorem queueRefused_upd (c : Chip) (q : Nat) : (queueRefused c q).upd = c.upd := by
  simp [queueRefused]
@[simp] theorem queueRefused_panel (c : Chip) (q : Nat) : (queueRefused c q).panel = c.panel := by
  simp [queueRefused]
@[simp] theorem queueRefused_underway (c : Chip) (q : Nat) : (queueRefused c q).underway = c.underway := by
  simp [queueRefused]
@[simp] theorem queueRefused_cfg (c : Chip) (q : Nat) : (queueRefused c q).cfg = c.cfg := by
  simp [queueRefused]
@[simp] theorem queueRefused_wake (c : Chip) (q : Nat) : (queueRefused c q).wake = c.wake := by
  simp [queueRefused]
@[simp] theorem queueRefused_rates (c : Chip) (q : Nat) : (queueRefused c q).rates = c.rates := by
  simp [queueRefused]
@[simp] theorem queueRefused_sent (c : Chip) (q : Nat) : (queueRefused c q).sent = c.sent := by
  simp [queueRefused]
@[simp] theorem queueRefused_img (c : Chip) (q : Nat) : (queueRefused c q).img = c.img := by
  simp [queueRefused]
@[simp] theorem queueRefused_work (c : Chip) (q : Nat) : (queueRefused c q).work = c.work := by
  simp [queueRefused]
@[simp] theorem queueRefused_latch (c : Chip) (q : Nat) : (queueRefused c q).latch = c.latch := by
  simp [queueRefused]
@[simp] theorem queueRefused_engOut (c : Chip) (q : Nat) : (queueRefused c q).engOut = c.engOut := by
  simp [queueRefused]
@[simp] theorem queueRefused_committedS (c : Chip) (q : Nat) : (queueRefused c q).committedS = c.committedS := by
  simp [queueRefused]
@[simp] theorem queueRefused_committedP (c : Chip) (q : Nat) : (queueRefused c q).committedP = c.committedP := by
  simp [queueRefused]
@[simp] theorem queueRefused_engines (c : Chip) (q : Nat) : (queueRefused c q).engines = c.engines := by
  simp [queueRefused]
@[simp] theorem queueRefused_sel (c : Chip) (q : Nat) : (queueRefused c q).sel = c.sel := by
  simp [queueRefused]
@[simp] theorem queueRefused_safety (c : Chip) (q : Nat) : (queueRefused c q).safety = c.safety := by
  simp [queueRefused]
@[simp] theorem queueRefused_zw (c : Chip) (q : Nat) : (queueRefused c q).zw = c.zw := by
  simp [queueRefused]
@[simp] theorem queueRefused_crewS (c : Chip) (q : Nat) : (queueRefused c q).crewS = c.crewS := by
  simp [queueRefused]
@[simp] theorem queueRefused_crewP (c : Chip) (q : Nat) : (queueRefused c q).crewP = c.crewP := by
  simp [queueRefused]
@[simp] theorem queueRefused_ctlS (c : Chip) (q : Nat) : (queueRefused c q).ctlS = c.ctlS := by
  simp [queueRefused]
@[simp] theorem queueRefused_ctlP (c : Chip) (q : Nat) : (queueRefused c q).ctlP = c.ctlP := by
  simp [queueRefused]
@[simp] theorem queueRefused_coxSafety (c : Chip) (q : Nat) : (queueRefused c q).coxSafety = c.coxSafety := by
  simp [queueRefused]
@[simp] theorem queueRefused_coxProcess (c : Chip) (q : Nat) : (queueRefused c q).coxProcess = c.coxProcess := by
  simp [queueRefused]
@[simp] theorem queueRefused_seat (c : Chip) (q : Nat) : (queueRefused c q).seat = c.seat := by
  simp [queueRefused]
@[simp] theorem queueRefused_mirror (c : Chip) (q : Nat) : (queueRefused c q).mirror = c.mirror := by
  simp [queueRefused]
@[simp] theorem queueRefused_pairCnt (c : Chip) (q : Nat) : (queueRefused c q).pairCnt = c.pairCnt := by
  simp [queueRefused]
@[simp] theorem queueRefused_dig (c : Chip) (q : Nat) : (queueRefused c q).dig = c.dig := by
  simp [queueRefused]
@[simp] theorem queueRefused_islands (c : Chip) (q : Nat) : (queueRefused c q).islands = c.islands := by
  simp [queueRefused]
@[simp] theorem queueRefused_isl (c : Chip) (q : Nat) : (queueRefused c q).isl = c.isl := by
  simp [queueRefused]
@[simp] theorem queueRefused_links (c : Chip) (q : Nat) : (queueRefused c q).links = c.links := by
  simp [queueRefused]
@[simp] theorem queueRefused_cans (c : Chip) (q : Nat) : (queueRefused c q).cans = c.cans := by
  simp [queueRefused]
@[simp] theorem queueRefused_lans (c : Chip) (q : Nat) : (queueRefused c q).lans = c.lans := by
  simp [queueRefused]
@[simp] theorem queueRefused_badFrames (c : Chip) (q : Nat) : (queueRefused c q).badFrames = c.badFrames := by
  simp [queueRefused]
@[simp] theorem queueRefused_serial (c : Chip) (q : Nat) : (queueRefused c q).serial = c.serial := by
  simp [queueRefused]
@[simp] theorem queueRefused_hosts (c : Chip) (q : Nat) : (queueRefused c q).hosts = c.hosts := by
  simp [queueRefused]
@[simp] theorem crewSt_queueRefused (c : Chip) (q : Nat) (x : Crew) : crewSt (queueRefused c q) x = crewSt c x := by
  cases x <;> simp [crewSt]
@[simp] theorem ctlSt_queueRefused (c : Chip) (q : Nat) (x : Crew) : ctlSt (queueRefused c q) x = ctlSt c x := by
  cases x <;> simp [ctlSt]
@[simp] theorem coxSt_queueRefused (c : Chip) (q : Nat) (x : Crew) : coxSt (queueRefused c q) x = coxSt c x := by
  cases x <;> simp [coxSt]
@[simp] theorem emitAt_fresh (c : Chip) (t p low source : Nat) (p0 p1 p2 p3 : Word) : (emitAt c t p low source p0 p1 p2 p3).fresh = c.fresh := by
  unfold emitAt; dsimp only; split <;> simp
@[simp] theorem emitAt_now (c : Chip) (t p low source : Nat) (p0 p1 p2 p3 : Word) : (emitAt c t p low source p0 p1 p2 p3).now = c.now := by
  unfold emitAt; dsimp only; split <;> simp
@[simp] theorem emitAt_mode (c : Chip) (t p low source : Nat) (p0 p1 p2 p3 : Word) : (emitAt c t p low source p0 p1 p2 p3).mode = c.mode := by
  unfold emitAt; dsimp only; split <;> simp
@[simp] theorem emitAt_stroke (c : Chip) (t p low source : Nat) (p0 p1 p2 p3 : Word) : (emitAt c t p low source p0 p1 p2 p3).stroke = c.stroke := by
  unfold emitAt; dsimp only; split <;> simp
@[simp] theorem emitAt_rst (c : Chip) (t p low source : Nat) (p0 p1 p2 p3 : Word) : (emitAt c t p low source p0 p1 p2 p3).rst = c.rst := by
  unfold emitAt; dsimp only; split <;> simp
@[simp] theorem emitAt_boat (c : Chip) (t p low source : Nat) (p0 p1 p2 p3 : Word) : (emitAt c t p low source p0 p1 p2 p3).boat = c.boat := by
  unfold emitAt; dsimp only; split <;> simp
@[simp] theorem emitAt_ident (c : Chip) (t p low source : Nat) (p0 p1 p2 p3 : Word) : (emitAt c t p low source p0 p1 p2 p3).ident = c.ident := by
  unfold emitAt; dsimp only; split <;> simp
@[simp] theorem emitAt_upd (c : Chip) (t p low source : Nat) (p0 p1 p2 p3 : Word) : (emitAt c t p low source p0 p1 p2 p3).upd = c.upd := by
  unfold emitAt; dsimp only; split <;> simp
@[simp] theorem emitAt_panel (c : Chip) (t p low source : Nat) (p0 p1 p2 p3 : Word) : (emitAt c t p low source p0 p1 p2 p3).panel = c.panel := by
  unfold emitAt; dsimp only; split <;> simp
@[simp] theorem emitAt_underway (c : Chip) (t p low source : Nat) (p0 p1 p2 p3 : Word) : (emitAt c t p low source p0 p1 p2 p3).underway = c.underway := by
  unfold emitAt; dsimp only; split <;> simp
@[simp] theorem emitAt_cfg (c : Chip) (t p low source : Nat) (p0 p1 p2 p3 : Word) : (emitAt c t p low source p0 p1 p2 p3).cfg = c.cfg := by
  unfold emitAt; dsimp only; split <;> simp
@[simp] theorem emitAt_rates (c : Chip) (t p low source : Nat) (p0 p1 p2 p3 : Word) : (emitAt c t p low source p0 p1 p2 p3).rates = c.rates := by
  unfold emitAt; dsimp only; split <;> simp
@[simp] theorem emitAt_sent (c : Chip) (t p low source : Nat) (p0 p1 p2 p3 : Word) : (emitAt c t p low source p0 p1 p2 p3).sent = c.sent := by
  unfold emitAt; dsimp only; split <;> simp
@[simp] theorem emitAt_img (c : Chip) (t p low source : Nat) (p0 p1 p2 p3 : Word) : (emitAt c t p low source p0 p1 p2 p3).img = c.img := by
  unfold emitAt; dsimp only; split <;> simp
@[simp] theorem emitAt_work (c : Chip) (t p low source : Nat) (p0 p1 p2 p3 : Word) : (emitAt c t p low source p0 p1 p2 p3).work = c.work := by
  unfold emitAt; dsimp only; split <;> simp
@[simp] theorem emitAt_latch (c : Chip) (t p low source : Nat) (p0 p1 p2 p3 : Word) : (emitAt c t p low source p0 p1 p2 p3).latch = c.latch := by
  unfold emitAt; dsimp only; split <;> simp
@[simp] theorem emitAt_engOut (c : Chip) (t p low source : Nat) (p0 p1 p2 p3 : Word) : (emitAt c t p low source p0 p1 p2 p3).engOut = c.engOut := by
  unfold emitAt; dsimp only; split <;> simp
@[simp] theorem emitAt_committedS (c : Chip) (t p low source : Nat) (p0 p1 p2 p3 : Word) : (emitAt c t p low source p0 p1 p2 p3).committedS = c.committedS := by
  unfold emitAt; dsimp only; split <;> simp
@[simp] theorem emitAt_committedP (c : Chip) (t p low source : Nat) (p0 p1 p2 p3 : Word) : (emitAt c t p low source p0 p1 p2 p3).committedP = c.committedP := by
  unfold emitAt; dsimp only; split <;> simp
@[simp] theorem emitAt_engines (c : Chip) (t p low source : Nat) (p0 p1 p2 p3 : Word) : (emitAt c t p low source p0 p1 p2 p3).engines = c.engines := by
  unfold emitAt; dsimp only; split <;> simp
@[simp] theorem emitAt_sel (c : Chip) (t p low source : Nat) (p0 p1 p2 p3 : Word) : (emitAt c t p low source p0 p1 p2 p3).sel = c.sel := by
  unfold emitAt; dsimp only; split <;> simp
@[simp] theorem emitAt_safety (c : Chip) (t p low source : Nat) (p0 p1 p2 p3 : Word) : (emitAt c t p low source p0 p1 p2 p3).safety = c.safety := by
  unfold emitAt; dsimp only; split <;> simp
@[simp] theorem emitAt_zw (c : Chip) (t p low source : Nat) (p0 p1 p2 p3 : Word) : (emitAt c t p low source p0 p1 p2 p3).zw = c.zw := by
  unfold emitAt; dsimp only; split <;> simp
@[simp] theorem emitAt_crewS (c : Chip) (t p low source : Nat) (p0 p1 p2 p3 : Word) : (emitAt c t p low source p0 p1 p2 p3).crewS = c.crewS := by
  unfold emitAt; dsimp only; split <;> simp
@[simp] theorem emitAt_crewP (c : Chip) (t p low source : Nat) (p0 p1 p2 p3 : Word) : (emitAt c t p low source p0 p1 p2 p3).crewP = c.crewP := by
  unfold emitAt; dsimp only; split <;> simp
@[simp] theorem emitAt_ctlS (c : Chip) (t p low source : Nat) (p0 p1 p2 p3 : Word) : (emitAt c t p low source p0 p1 p2 p3).ctlS = c.ctlS := by
  unfold emitAt; dsimp only; split <;> simp
@[simp] theorem emitAt_ctlP (c : Chip) (t p low source : Nat) (p0 p1 p2 p3 : Word) : (emitAt c t p low source p0 p1 p2 p3).ctlP = c.ctlP := by
  unfold emitAt; dsimp only; split <;> simp
@[simp] theorem emitAt_coxSafety (c : Chip) (t p low source : Nat) (p0 p1 p2 p3 : Word) : (emitAt c t p low source p0 p1 p2 p3).coxSafety = c.coxSafety := by
  unfold emitAt; dsimp only; split <;> simp
@[simp] theorem emitAt_coxProcess (c : Chip) (t p low source : Nat) (p0 p1 p2 p3 : Word) : (emitAt c t p low source p0 p1 p2 p3).coxProcess = c.coxProcess := by
  unfold emitAt; dsimp only; split <;> simp
@[simp] theorem emitAt_seat (c : Chip) (t p low source : Nat) (p0 p1 p2 p3 : Word) : (emitAt c t p low source p0 p1 p2 p3).seat = c.seat := by
  unfold emitAt; dsimp only; split <;> simp
@[simp] theorem emitAt_mirror (c : Chip) (t p low source : Nat) (p0 p1 p2 p3 : Word) : (emitAt c t p low source p0 p1 p2 p3).mirror = c.mirror := by
  unfold emitAt; dsimp only; split <;> simp
@[simp] theorem emitAt_pairCnt (c : Chip) (t p low source : Nat) (p0 p1 p2 p3 : Word) : (emitAt c t p low source p0 p1 p2 p3).pairCnt = c.pairCnt := by
  unfold emitAt; dsimp only; split <;> simp
@[simp] theorem emitAt_dig (c : Chip) (t p low source : Nat) (p0 p1 p2 p3 : Word) : (emitAt c t p low source p0 p1 p2 p3).dig = c.dig := by
  unfold emitAt; dsimp only; split <;> simp
@[simp] theorem emitAt_islands (c : Chip) (t p low source : Nat) (p0 p1 p2 p3 : Word) : (emitAt c t p low source p0 p1 p2 p3).islands = c.islands := by
  unfold emitAt; dsimp only; split <;> simp
@[simp] theorem emitAt_isl (c : Chip) (t p low source : Nat) (p0 p1 p2 p3 : Word) : (emitAt c t p low source p0 p1 p2 p3).isl = c.isl := by
  unfold emitAt; dsimp only; split <;> simp
@[simp] theorem emitAt_links (c : Chip) (t p low source : Nat) (p0 p1 p2 p3 : Word) : (emitAt c t p low source p0 p1 p2 p3).links = c.links := by
  unfold emitAt; dsimp only; split <;> simp
@[simp] theorem emitAt_cans (c : Chip) (t p low source : Nat) (p0 p1 p2 p3 : Word) : (emitAt c t p low source p0 p1 p2 p3).cans = c.cans := by
  unfold emitAt; dsimp only; split <;> simp
@[simp] theorem emitAt_lans (c : Chip) (t p low source : Nat) (p0 p1 p2 p3 : Word) : (emitAt c t p low source p0 p1 p2 p3).lans = c.lans := by
  unfold emitAt; dsimp only; split <;> simp
@[simp] theorem emitAt_badFrames (c : Chip) (t p low source : Nat) (p0 p1 p2 p3 : Word) : (emitAt c t p low source p0 p1 p2 p3).badFrames = c.badFrames := by
  unfold emitAt; dsimp only; split <;> simp
@[simp] theorem emitAt_serial (c : Chip) (t p low source : Nat) (p0 p1 p2 p3 : Word) : (emitAt c t p low source p0 p1 p2 p3).serial = c.serial := by
  unfold emitAt; dsimp only; split <;> simp
@[simp] theorem emitAt_hosts (c : Chip) (t p low source : Nat) (p0 p1 p2 p3 : Word) : (emitAt c t p low source p0 p1 p2 p3).hosts = c.hosts := by
  unfold emitAt; dsimp only; split <;> simp
@[simp] theorem crewSt_emitAt (c : Chip) (t p low source : Nat) (p0 p1 p2 p3 : Word) (x : Crew) : crewSt (emitAt c t p low source p0 p1 p2 p3) x = crewSt c x := by
  cases x <;> simp [crewSt]
@[simp] theorem ctlSt_emitAt (c : Chip) (t p low source : Nat) (p0 p1 p2 p3 : Word) (x : Crew) : ctlSt (emitAt c t p low source p0 p1 p2 p3) x = ctlSt c x := by
  cases x <;> simp [ctlSt]
@[simp] theorem coxSt_emitAt (c : Chip) (t p low source : Nat) (p0 p1 p2 p3 : Word) (x : Crew) : coxSt (emitAt c t p low source p0 p1 p2 p3) x = coxSt c x := by
  cases x <;> simp [coxSt]
@[simp] theorem eventTime_mode (c : Chip) : (eventTime c).2.mode = c.mode := by unfold eventTime; split <;> rfl
@[simp] theorem eventTime_pages (c : Chip) : (eventTime c).2.pages = c.pages := by unfold eventTime; split <;> rfl
@[simp] theorem eventTime_now (c : Chip) : (eventTime c).2.now = c.now := by unfold eventTime; split <;> rfl
@[simp] theorem eventTime_stroke (c : Chip) : (eventTime c).2.stroke = c.stroke := by unfold eventTime; split <;> rfl
@[simp] theorem eventTime_rst (c : Chip) : (eventTime c).2.rst = c.rst := by unfold eventTime; split <;> rfl
@[simp] theorem eventTime_boat (c : Chip) : (eventTime c).2.boat = c.boat := by unfold eventTime; split <;> rfl
@[simp] theorem eventTime_ident (c : Chip) : (eventTime c).2.ident = c.ident := by unfold eventTime; split <;> rfl
@[simp] theorem eventTime_upd (c : Chip) : (eventTime c).2.upd = c.upd := by unfold eventTime; split <;> rfl
@[simp] theorem eventTime_panel (c : Chip) : (eventTime c).2.panel = c.panel := by unfold eventTime; split <;> rfl
@[simp] theorem eventTime_underway (c : Chip) : (eventTime c).2.underway = c.underway := by unfold eventTime; split <;> rfl
@[simp] theorem eventTime_cfg (c : Chip) : (eventTime c).2.cfg = c.cfg := by unfold eventTime; split <;> rfl
@[simp] theorem eventTime_rates (c : Chip) : (eventTime c).2.rates = c.rates := by unfold eventTime; split <;> rfl
@[simp] theorem eventTime_sent (c : Chip) : (eventTime c).2.sent = c.sent := by unfold eventTime; split <;> rfl
@[simp] theorem eventTime_img (c : Chip) : (eventTime c).2.img = c.img := by unfold eventTime; split <;> rfl
@[simp] theorem eventTime_work (c : Chip) : (eventTime c).2.work = c.work := by unfold eventTime; split <;> rfl
@[simp] theorem eventTime_latch (c : Chip) : (eventTime c).2.latch = c.latch := by unfold eventTime; split <;> rfl
@[simp] theorem eventTime_engOut (c : Chip) : (eventTime c).2.engOut = c.engOut := by unfold eventTime; split <;> rfl
@[simp] theorem eventTime_committedS (c : Chip) : (eventTime c).2.committedS = c.committedS := by unfold eventTime; split <;> rfl
@[simp] theorem eventTime_committedP (c : Chip) : (eventTime c).2.committedP = c.committedP := by unfold eventTime; split <;> rfl
@[simp] theorem eventTime_engines (c : Chip) : (eventTime c).2.engines = c.engines := by unfold eventTime; split <;> rfl
@[simp] theorem eventTime_sel (c : Chip) : (eventTime c).2.sel = c.sel := by unfold eventTime; split <;> rfl
@[simp] theorem eventTime_safety (c : Chip) : (eventTime c).2.safety = c.safety := by unfold eventTime; split <;> rfl
@[simp] theorem eventTime_zw (c : Chip) : (eventTime c).2.zw = c.zw := by unfold eventTime; split <;> rfl
@[simp] theorem eventTime_crewS (c : Chip) : (eventTime c).2.crewS = c.crewS := by unfold eventTime; split <;> rfl
@[simp] theorem eventTime_crewP (c : Chip) : (eventTime c).2.crewP = c.crewP := by unfold eventTime; split <;> rfl
@[simp] theorem eventTime_ctlS (c : Chip) : (eventTime c).2.ctlS = c.ctlS := by unfold eventTime; split <;> rfl
@[simp] theorem eventTime_ctlP (c : Chip) : (eventTime c).2.ctlP = c.ctlP := by unfold eventTime; split <;> rfl
@[simp] theorem eventTime_coxSafety (c : Chip) : (eventTime c).2.coxSafety = c.coxSafety := by unfold eventTime; split <;> rfl
@[simp] theorem eventTime_coxProcess (c : Chip) : (eventTime c).2.coxProcess = c.coxProcess := by unfold eventTime; split <;> rfl
@[simp] theorem eventTime_seat (c : Chip) : (eventTime c).2.seat = c.seat := by unfold eventTime; split <;> rfl
@[simp] theorem eventTime_mirror (c : Chip) : (eventTime c).2.mirror = c.mirror := by unfold eventTime; split <;> rfl
@[simp] theorem eventTime_pairCnt (c : Chip) : (eventTime c).2.pairCnt = c.pairCnt := by unfold eventTime; split <;> rfl
@[simp] theorem eventTime_dig (c : Chip) : (eventTime c).2.dig = c.dig := by unfold eventTime; split <;> rfl
@[simp] theorem eventTime_islands (c : Chip) : (eventTime c).2.islands = c.islands := by unfold eventTime; split <;> rfl
@[simp] theorem eventTime_isl (c : Chip) : (eventTime c).2.isl = c.isl := by unfold eventTime; split <;> rfl
@[simp] theorem eventTime_links (c : Chip) : (eventTime c).2.links = c.links := by unfold eventTime; split <;> rfl
@[simp] theorem eventTime_cans (c : Chip) : (eventTime c).2.cans = c.cans := by unfold eventTime; split <;> rfl
@[simp] theorem eventTime_lans (c : Chip) : (eventTime c).2.lans = c.lans := by unfold eventTime; split <;> rfl
@[simp] theorem eventTime_badFrames (c : Chip) : (eventTime c).2.badFrames = c.badFrames := by unfold eventTime; split <;> rfl
@[simp] theorem eventTime_serial (c : Chip) : (eventTime c).2.serial = c.serial := by unfold eventTime; split <;> rfl
@[simp] theorem eventTime_hosts (c : Chip) : (eventTime c).2.hosts = c.hosts := by unfold eventTime; split <;> rfl
@[simp] theorem emit_mode (c : Chip) (p low source : Nat) (p0 p1 p2 p3 : Word) : (emit c p low source p0 p1 p2 p3).mode = c.mode := by
  simp [emit]
@[simp] theorem emit_stroke (c : Chip) (p low source : Nat) (p0 p1 p2 p3 : Word) : (emit c p low source p0 p1 p2 p3).stroke = c.stroke := by
  simp [emit]
@[simp] theorem emit_rst (c : Chip) (p low source : Nat) (p0 p1 p2 p3 : Word) : (emit c p low source p0 p1 p2 p3).rst = c.rst := by
  simp [emit]
@[simp] theorem emit_boat (c : Chip) (p low source : Nat) (p0 p1 p2 p3 : Word) : (emit c p low source p0 p1 p2 p3).boat = c.boat := by
  simp [emit]
@[simp] theorem emit_ident (c : Chip) (p low source : Nat) (p0 p1 p2 p3 : Word) : (emit c p low source p0 p1 p2 p3).ident = c.ident := by
  simp [emit]
@[simp] theorem emit_upd (c : Chip) (p low source : Nat) (p0 p1 p2 p3 : Word) : (emit c p low source p0 p1 p2 p3).upd = c.upd := by
  simp [emit]
@[simp] theorem emit_panel (c : Chip) (p low source : Nat) (p0 p1 p2 p3 : Word) : (emit c p low source p0 p1 p2 p3).panel = c.panel := by
  simp [emit]
@[simp] theorem emit_underway (c : Chip) (p low source : Nat) (p0 p1 p2 p3 : Word) : (emit c p low source p0 p1 p2 p3).underway = c.underway := by
  simp [emit]
@[simp] theorem emit_cfg (c : Chip) (p low source : Nat) (p0 p1 p2 p3 : Word) : (emit c p low source p0 p1 p2 p3).cfg = c.cfg := by
  simp [emit]
@[simp] theorem emit_rates (c : Chip) (p low source : Nat) (p0 p1 p2 p3 : Word) : (emit c p low source p0 p1 p2 p3).rates = c.rates := by
  simp [emit]
@[simp] theorem emit_sent (c : Chip) (p low source : Nat) (p0 p1 p2 p3 : Word) : (emit c p low source p0 p1 p2 p3).sent = c.sent := by
  simp [emit]
@[simp] theorem emit_img (c : Chip) (p low source : Nat) (p0 p1 p2 p3 : Word) : (emit c p low source p0 p1 p2 p3).img = c.img := by
  simp [emit]
@[simp] theorem emit_work (c : Chip) (p low source : Nat) (p0 p1 p2 p3 : Word) : (emit c p low source p0 p1 p2 p3).work = c.work := by
  simp [emit]
@[simp] theorem emit_latch (c : Chip) (p low source : Nat) (p0 p1 p2 p3 : Word) : (emit c p low source p0 p1 p2 p3).latch = c.latch := by
  simp [emit]
@[simp] theorem emit_engOut (c : Chip) (p low source : Nat) (p0 p1 p2 p3 : Word) : (emit c p low source p0 p1 p2 p3).engOut = c.engOut := by
  simp [emit]
@[simp] theorem emit_committedS (c : Chip) (p low source : Nat) (p0 p1 p2 p3 : Word) : (emit c p low source p0 p1 p2 p3).committedS = c.committedS := by
  simp [emit]
@[simp] theorem emit_committedP (c : Chip) (p low source : Nat) (p0 p1 p2 p3 : Word) : (emit c p low source p0 p1 p2 p3).committedP = c.committedP := by
  simp [emit]
@[simp] theorem emit_engines (c : Chip) (p low source : Nat) (p0 p1 p2 p3 : Word) : (emit c p low source p0 p1 p2 p3).engines = c.engines := by
  simp [emit]
@[simp] theorem emit_sel (c : Chip) (p low source : Nat) (p0 p1 p2 p3 : Word) : (emit c p low source p0 p1 p2 p3).sel = c.sel := by
  simp [emit]
@[simp] theorem emit_safety (c : Chip) (p low source : Nat) (p0 p1 p2 p3 : Word) : (emit c p low source p0 p1 p2 p3).safety = c.safety := by
  simp [emit]
@[simp] theorem emit_zw (c : Chip) (p low source : Nat) (p0 p1 p2 p3 : Word) : (emit c p low source p0 p1 p2 p3).zw = c.zw := by
  simp [emit]
@[simp] theorem emit_crewS (c : Chip) (p low source : Nat) (p0 p1 p2 p3 : Word) : (emit c p low source p0 p1 p2 p3).crewS = c.crewS := by
  simp [emit]
@[simp] theorem emit_crewP (c : Chip) (p low source : Nat) (p0 p1 p2 p3 : Word) : (emit c p low source p0 p1 p2 p3).crewP = c.crewP := by
  simp [emit]
@[simp] theorem emit_ctlS (c : Chip) (p low source : Nat) (p0 p1 p2 p3 : Word) : (emit c p low source p0 p1 p2 p3).ctlS = c.ctlS := by
  simp [emit]
@[simp] theorem emit_ctlP (c : Chip) (p low source : Nat) (p0 p1 p2 p3 : Word) : (emit c p low source p0 p1 p2 p3).ctlP = c.ctlP := by
  simp [emit]
@[simp] theorem emit_coxSafety (c : Chip) (p low source : Nat) (p0 p1 p2 p3 : Word) : (emit c p low source p0 p1 p2 p3).coxSafety = c.coxSafety := by
  simp [emit]
@[simp] theorem emit_coxProcess (c : Chip) (p low source : Nat) (p0 p1 p2 p3 : Word) : (emit c p low source p0 p1 p2 p3).coxProcess = c.coxProcess := by
  simp [emit]
@[simp] theorem emit_seat (c : Chip) (p low source : Nat) (p0 p1 p2 p3 : Word) : (emit c p low source p0 p1 p2 p3).seat = c.seat := by
  simp [emit]
@[simp] theorem emit_mirror (c : Chip) (p low source : Nat) (p0 p1 p2 p3 : Word) : (emit c p low source p0 p1 p2 p3).mirror = c.mirror := by
  simp [emit]
@[simp] theorem emit_pairCnt (c : Chip) (p low source : Nat) (p0 p1 p2 p3 : Word) : (emit c p low source p0 p1 p2 p3).pairCnt = c.pairCnt := by
  simp [emit]
@[simp] theorem emit_dig (c : Chip) (p low source : Nat) (p0 p1 p2 p3 : Word) : (emit c p low source p0 p1 p2 p3).dig = c.dig := by
  simp [emit]
@[simp] theorem emit_islands (c : Chip) (p low source : Nat) (p0 p1 p2 p3 : Word) : (emit c p low source p0 p1 p2 p3).islands = c.islands := by
  simp [emit]
@[simp] theorem emit_isl (c : Chip) (p low source : Nat) (p0 p1 p2 p3 : Word) : (emit c p low source p0 p1 p2 p3).isl = c.isl := by
  simp [emit]
@[simp] theorem emit_links (c : Chip) (p low source : Nat) (p0 p1 p2 p3 : Word) : (emit c p low source p0 p1 p2 p3).links = c.links := by
  simp [emit]
@[simp] theorem emit_cans (c : Chip) (p low source : Nat) (p0 p1 p2 p3 : Word) : (emit c p low source p0 p1 p2 p3).cans = c.cans := by
  simp [emit]
@[simp] theorem emit_lans (c : Chip) (p low source : Nat) (p0 p1 p2 p3 : Word) : (emit c p low source p0 p1 p2 p3).lans = c.lans := by
  simp [emit]
@[simp] theorem emit_badFrames (c : Chip) (p low source : Nat) (p0 p1 p2 p3 : Word) : (emit c p low source p0 p1 p2 p3).badFrames = c.badFrames := by
  simp [emit]
@[simp] theorem emit_serial (c : Chip) (p low source : Nat) (p0 p1 p2 p3 : Word) : (emit c p low source p0 p1 p2 p3).serial = c.serial := by
  simp [emit]
@[simp] theorem emit_hosts (c : Chip) (p low source : Nat) (p0 p1 p2 p3 : Word) : (emit c p low source p0 p1 p2 p3).hosts = c.hosts := by
  simp [emit]
@[simp] theorem crewSt_emit (c : Chip) (p low source : Nat) (p0 p1 p2 p3 : Word) (x : Crew) : crewSt (emit c p low source p0 p1 p2 p3) x = crewSt c x := by
  cases x <;> simp [crewSt]
@[simp] theorem ctlSt_emit (c : Chip) (p low source : Nat) (p0 p1 p2 p3 : Word) (x : Crew) : ctlSt (emit c p low source p0 p1 p2 p3) x = ctlSt c x := by
  cases x <;> simp [ctlSt]
@[simp] theorem coxSt_emit (c : Chip) (p low source : Nat) (p0 p1 p2 p3 : Word) (x : Crew) : coxSt (emit c p low source p0 p1 p2 p3) x = coxSt c x := by
  cases x <;> simp [coxSt]

/-! ### Frames sent, and events at a known time -/

/-- Sending adds frames to `sent`, takes one free value where there are trailers to fill, and changes nothing else. -/
theorem send_changes (c : Chip) (line : Line) (bytes : List Byte) :
    ∃ fs n, send c line bytes = { c with sent := fs ++ c.sent, fresh := n } := by
  unfold send
  split
  · exact ⟨[_, _], _, rfl⟩
  · exact ⟨[_], c.fresh, rfl⟩

/-- An event at a known time leaves no time behind. -/
@[simp] theorem atTime_now (t : Nat) (f : Chip → Chip) (c : Chip) : (atTime t f c).now = none := rfl

/-- An event under way at a known time is stamped with it. -/
theorem eventTime_known (c : Chip) (t : Nat) (h : c.now = some t) : eventTime c = (t, c) := by
  simp [eventTime, h]

end Sys2Proof.Machine
end

