-- ==== Sys2Proof/Laws/SMap.lean ====
section
/-!
SUPPORT. Sparse memories: a read after a write, and that every operation keeps the canonical form.
-/
namespace Sys2Proof.Machine

/-! ### Reads after writes -/

section reads
variable {α : Type} (d : α)

theorem smGet_smPut (m : SMap α) (i : Nat) (v : α) (j : Nat) :
    smGet d (smPut m i v) j = if j = i then v else smGet d m j := by
  induction m with
  | nil => simp [smPut, smGet]
  | cons e m ih =>
    obtain ⟨k, w⟩ := e
    unfold smPut
    split
    · simp only [smGet]
    · split
      · next h => subst h; simp only [smGet]; split <;> rfl
      · next h => simp only [smGet, ih]; by_cases h1 : j = k <;> by_cases h2 : j = i <;> simp_all

theorem smGet_smDel (m : SMap α) (i j : Nat) : smGet d (smDel m i) j = if j = i then d else smGet d m j := by
  induction m with
  | nil => simp [smDel, smGet]
  | cons e m ih =>
    obtain ⟨k, w⟩ := e
    unfold smDel
    split
    · next h => subst h; rw [ih]; simp only [smGet]; split <;> rfl
    · next h => simp only [smGet, ih]; by_cases h1 : j = k <;> by_cases h2 : j = i <;> simp_all

variable [DecidableEq α]

@[simp] theorem smGet_smSet (m : SMap α) (i : Nat) (v : α) (j : Nat) :
    smGet d (smSet d m i v) j = if j = i then v else smGet d m j := by
  unfold smSet
  split
  · next h => subst h; exact smGet_smDel v m i j
  · exact smGet_smPut d m i v j

/-- A write at one index leaves what another index reads as, whatever an unlisted one reads as. -/
theorem smGet_smSet_ne (e : α) (m : SMap α) {i j : Nat} (v : α) (h : j ≠ i) :
    smGet e (smSet d m i v) j = smGet e m j := by
  unfold smSet
  split
  · rw [smGet_smDel, if_neg h]
  · rw [smGet_smPut, if_neg h]

@[simp] theorem smGet_smMod (m : SMap α) (i : Nat) (f : α → α) (j : Nat) :
    smGet d (smMod d m i f) j = if j = i then f (smGet d m i) else smGet d m j := smGet_smSet d m i _ j

end reads

/-! ### The canonical form -/

section form
variable {α : Type} [DecidableEq α] {d : α}

theorem smWf_nil : smWf d ([] : SMap α) = true := rfl

theorem smWf_cons {k : Nat} {v : α} {m : SMap α} :
    smWf d ((k, v) :: m) = true ↔ v ≠ d ∧ (∀ e ∈ m, k < e.1) ∧ smWf d m = true := by
  simp [smWf, and_assoc]

omit [DecidableEq α] in
theorem mem_smPut {m : SMap α} {i : Nat} {v : α} {e : Nat × α} (h : e ∈ smPut m i v) : e = (i, v) ∨ e ∈ m := by
  induction m with
  | nil => simpa [smPut] using h
  | cons x m ih =>
    obtain ⟨k, w⟩ := x
    unfold smPut at h
    split at h
    · simpa using h
    · split at h
      · rcases List.mem_cons.mp h with h | h
        · exact .inl h
        · exact .inr (List.mem_cons_of_mem _ h)
      · rcases List.mem_cons.mp h with h | h
        · exact .inr (h ▸ List.mem_cons_self)
        · exact (ih h).imp id (List.mem_cons_of_mem _)

omit [DecidableEq α] in
theorem mem_smDel {m : SMap α} {i : Nat} {e : Nat × α} (h : e ∈ smDel m i) : e ∈ m := by
  induction m with
  | nil => exact h
  | cons x m ih =>
    obtain ⟨k, w⟩ := x
    unfold smDel at h
    split at h
    · exact List.mem_cons_of_mem _ (ih h)
    · rcases List.mem_cons.mp h with h | h
      · exact h ▸ List.mem_cons_self
      · exact List.mem_cons_of_mem _ (ih h)

theorem smWf_smPut {m : SMap α} {i : Nat} {v : α} (hm : smWf d m = true) (hv : v ≠ d) :
    smWf d (smPut m i v) = true := by
  induction m with
  | nil => simp [smPut, smWf, hv]
  | cons x m ih =>
    obtain ⟨k, w⟩ := x
    obtain ⟨h1, h2, h3⟩ := smWf_cons.mp hm
    unfold smPut
    split
    · next h =>
      refine smWf_cons.mpr ⟨hv, fun e he => ?_, hm⟩
      rcases List.mem_cons.mp he with rfl | he
      · exact h
      · exact Nat.lt_trans h (h2 e he)
    · next h =>
      split
      · next h' => subst h'; exact smWf_cons.mpr ⟨hv, h2, h3⟩
      · next h' =>
        refine smWf_cons.mpr ⟨h1, fun e he => ?_, ih h3⟩
        rcases mem_smPut he with rfl | he
        · exact Nat.lt_of_le_of_ne (Nat.not_lt.mp h) (Ne.symm h')
        · exact h2 e he

theorem smWf_smDel {m : SMap α} {i : Nat} (hm : smWf d m = true) : smWf d (smDel m i) = true := by
  induction m with
  | nil => rfl
  | cons x m ih =>
    obtain ⟨k, w⟩ := x
    obtain ⟨h1, h2, h3⟩ := smWf_cons.mp hm
    unfold smDel
    split
    · exact ih h3
    · exact smWf_cons.mpr ⟨h1, fun e he => h2 e (mem_smDel he), ih h3⟩

theorem smWf_smSet {m : SMap α} (hm : smWf d m = true) (i : Nat) (v : α) : smWf d (smSet d m i v) = true := by
  unfold smSet
  split
  · exact smWf_smDel hm
  · next h => exact smWf_smPut hm h

theorem smWf_smMod {m : SMap α} (hm : smWf d m = true) (i : Nat) (f : α → α) : smWf d (smMod d m i f) = true :=
  smWf_smSet hm i _

theorem smWf_smWrites {m : SMap α} (hm : smWf d m = true) (ws : List (Nat × α)) : smWf d (smWrites d m ws) = true := by
  induction ws generalizing m with
  | nil => exact hm
  | cons w ws ih => obtain ⟨i, v⟩ := w; exact ih (smWf_smSet hm i v)

theorem smWf_filter {m : SMap α} (hm : smWf d m = true) (p : Nat × α → Bool) : smWf d (m.filter p) = true := by
  induction m with
  | nil => rfl
  | cons x m ih =>
    obtain ⟨k, w⟩ := x
    obtain ⟨h1, h2, h3⟩ := smWf_cons.mp hm
    rw [List.filter_cons]
    split
    · exact smWf_cons.mpr ⟨h1, fun e he => h2 e (List.mem_filter.mp he).1, ih h3⟩
    · exact ih h3

theorem smWf_smOverlay {a : SMap α} (ha : smWf d a = true) (p : Nat → Bool) (b : SMap α) :
    smWf d (smOverlay d p a b) = true := smWf_smWrites (smWf_filter ha _) _

end form

/-! ### A core's data memory (R131) -/

theorem readBit_writeBit (m : CrewMem) (a b : Nat) (v : Bool) :
    readBit (writeBit m a v) b = if b = a then v else readBit m b := by
  unfold writeBit
  split
  · next ha =>
    unfold readBit
    split
    · exact smGet_smSet false m.img.bits a v b
    · next hb => rw [if_neg (by omega)]
  · next ha =>
    unfold readBit
    split
    · next hb => rw [if_neg (by omega)]
    · next hb =>
      refine (smGet_smSet false m.markers _ v _).trans ?_
      have e : b - 0x10000 = a - 0x10000 ↔ b = a := by omega
      simp only [e]

theorem readWord_writeWord (m : CrewMem) (a b : Nat) (v : Word) :
    readWord (writeWord m a v) b = if b = a then v else readWord m b := by
  unfold writeWord
  split
  · next ha =>
    unfold readWord
    split
    · exact smGet_smSet 0 m.img.words a v b
    · next hb => rw [if_neg (by omega)]
  · next ha =>
    unfold readWord
    split
    · next hb => rw [if_neg (by omega)]
    · exact smGet_smSet 0 m.priv a v b

/-- A bit write touches no word, a word write no bit, and neither the edges, timers and counters. -/
theorem writeBit_frame (m : CrewMem) (a : Nat) (v : Bool) :
    (∀ b, readWord (writeBit m a v) b = readWord m b) ∧ (writeBit m a v).edges = m.edges
      ∧ (writeBit m a v).timers = m.timers ∧ (writeBit m a v).counters = m.counters := by
  unfold writeBit readWord
  split <;> simp

theorem writeWord_frame (m : CrewMem) (a : Nat) (v : Word) :
    (∀ b, readBit (writeWord m a v) b = readBit m b) ∧ (writeWord m a v).edges = m.edges
      ∧ (writeWord m a v).timers = m.timers ∧ (writeWord m a v).counters = m.counters := by
  unfold writeWord readBit
  split <;> simp

/-! ### Page headers and causes -/

@[simp] theorem hdr_attnUpdate (c : Chip) (p : Nat) : hdr (attnUpdate c) p = hdr c p := by simp [hdr]

/-- The page whose header is changed: `smMod` changes it from what an unlisted page reads as. -/
theorem hdr_modHdr (c : Chip) (p : Nat) (f : PageHdr → PageHdr) : hdr (modHdr c p f) p = f (hdr c p) := by
  simp [hdr, modHdr]

theorem hdr_modHdr_ne (c : Chip) {p q : Nat} (f : PageHdr → PageHdr) (h : q ≠ p) :
    hdr (modHdr c p f) q = hdr c q := by
  simp only [hdr, modHdr, attnUpdate_pages, smMod]
  exact smGet_smSet_ne _ _ _ _ h

@[simp] theorem hdr_setCause (c : Chip) (p b : Nat) (e : Bool) :
    hdr (setCause c p b e) p = { hdr c p with cause := setBit (hdr c p).cause b true } := by
  unfold setCause
  dsimp only
  split <;> exact hdr_modHdr c p _

theorem hdr_setCause_ne (c : Chip) {p q : Nat} (b : Nat) (e : Bool) (h : q ≠ p) :
    hdr (setCause c p b e) q = hdr c q := by
  unfold setCause
  dsimp only
  split <;> exact hdr_modHdr_ne c _ h

@[simp] theorem hdr_raise (c : Chip) (p b : Nat) :
    hdr (raise c p b) p = { hdr c p with cause := setBit (hdr c p).cause b true } := hdr_setCause c p b _

theorem hdr_raise_ne (c : Chip) {p q : Nat} (b : Nat) (h : q ≠ p) : hdr (raise c p b) q = hdr c q :=
  hdr_setCause_ne c b _ h

end Sys2Proof.Machine
end

