-- ==== Sys2Proof/Laws/Bits.lean ====
section
/-!
SUPPORT. Single bits of a word.
-/
namespace Sys2Proof.Machine

theorem getLsbD_ofNat_two_pow (i j : Nat) (hj : j < 32) : (BitVec.ofNat 32 (2 ^ i)).getLsbD j = decide (j = i) := by
  rw [BitVec.getLsbD_ofNat, Nat.testBit_two_pow]
  simp [hj, eq_comm]

theorem bitOf_setBit (w : Word) {i : Nat} (b : Bool) (j : Nat) (hj : j < 32) :
    bitOf (setBit w i b) j = if j = i then b else bitOf w j := by
  have e : (2 ^ (i - i + 1) - 1) * 2 ^ i = 2 ^ i := by simp
  have hp : pack [(b2n b, i, i)] = BitVec.ofNat 32 (b2n b * 2 ^ i) := by
    cases b <;> simp [pack, b2n]
  unfold bitOf setBit setFld
  rw [e, hp]
  simp only [BitVec.getLsbD_or, BitVec.getLsbD_and, BitVec.getLsbD_not, hj, decide_true, Bool.true_and,
    getLsbD_ofNat_two_pow i j hj]
  have hb : (BitVec.ofNat 32 (b2n b * 2 ^ i)).getLsbD j = (b && decide (j = i)) := by
    cases b
    · simp [b2n]
    · simp only [b2n, if_true, Nat.one_mul, getLsbD_ofNat_two_pow i j hj, Bool.true_and]
  rw [hb]
  by_cases h : j = i
  · simp [h]
  · simp [h]

/-- Setting a cause bit, then reading it. -/
theorem bitOf_cause_raise (c : Chip) (p : Nat) {b : Nat} (h : b < 32) : bitOf (hdr (raise c p b) p).cause b = true := by
  rw [hdr_raise]
  simp only
  rw [bitOf_setBit _ _ _ h, if_pos rfl]

/-- A wake record changes no header but those of pages 0x74 and 0x78, and only when it is refused (R26, R648). -/
theorem hdr_emitAt (c : Chip) (t p low source : Nat) (p0 p1 p2 p3 : Word) {q : Nat} (h1 : q ≠ 0x74)
    (h2 : q ≠ 0x78) : hdr (emitAt c t p low source p0 p1 p2 p3) q = hdr c q := by
  unfold emitAt
  dsimp only
  split
  · rfl
  · rw [hdr_raise_ne _ _ h2, queueRefused, hdr_raise_ne _ _ h1]; rfl

theorem hdr_emit (c : Chip) (p low source : Nat) (p0 p1 p2 p3 : Word) {q : Nat} (h1 : q ≠ 0x74) (h2 : q ≠ 0x78) :
    hdr (emit c p low source p0 p1 p2 p3) q = hdr c q := by
  unfold emit
  dsimp only
  rw [hdr_emitAt _ _ _ _ _ _ _ _ _ h1 h2]
  simp [hdr]

end Sys2Proof.Machine
end

