-- ==== Sys2Proof/Laws/Writes.lean ====
section
/-!
SUPPORT. Addresses of registers, sessions, and what every accepted write does first.
-/
namespace Sys2Proof.Machine

theorem pageOf_regAddr {p off : Nat} (hp : p < 128) (ho : off < 4096) : pageOf (regAddr p off) = p := by
  unfold pageOf regAddr pageBase
  rw [if_pos (by omega)]
  omega

theorem offsetOf_regAddr {p off : Nat} (ho : off < 4096) : offsetOf (regAddr p off) = off := by
  unfold offsetOf regAddr pageBase
  omega

/-! ### Sessions -/

theorem smFind_smPut {α : Type} (m : SMap α) (i : Nat) (v : α) (j : Nat) :
    smFind (smPut m i v) j = if j = i then some v else smFind m j := by
  induction m with
  | nil => simp [smPut, smFind]
  | cons e m ih =>
    obtain ⟨k, w⟩ := e
    unfold smPut
    split
    · simp only [smFind]
    · split
      · next h => subst h; simp only [smFind]; split <;> rfl
      · next h => simp only [smFind, ih]; by_cases h1 : j = k <;> by_cases h2 : j = i <;> simp_all

theorem session_modSession (c : Chip) (s : Nat) (f : Session → Session) (t : Nat) :
    session (modSession c s f) t = if t = s then (session c s).map f else session c t := by
  unfold modSession
  split
  · next x h =>
    simp only [session, modHosts_hosts, smFind_smPut] at *
    simp [h]
  · next h => split <;> simp_all

@[simp] theorem modSession_fresh (c : Chip) (s : Nat) (f : Session → Session) : (modSession c s f).fresh = c.fresh := by
  unfold modSession; split <;> rfl
@[simp] theorem modSession_now (c : Chip) (s : Nat) (f : Session → Session) : (modSession c s f).now = c.now := by
  unfold modSession; split <;> rfl
@[simp] theorem modSession_mode (c : Chip) (s : Nat) (f : Session → Session) : (modSession c s f).mode = c.mode := by
  unfold modSession; split <;> rfl
@[simp] theorem modSession_pages (c : Chip) (s : Nat) (f : Session → Session) : (modSession c s f).pages = c.pages := by
  unfold modSession; split <;> rfl
@[simp] theorem modSession_attn (c : Chip) (s : Nat) (f : Session → Session) : (modSession c s f).attn = c.attn := by
  unfold modSession; split <;> rfl
@[simp] theorem modSession_stroke (c : Chip) (s : Nat) (f : Session → Session) : (modSession c s f).stroke = c.stroke := by
  unfold modSession; split <;> rfl
@[simp] theorem modSession_backup (c : Chip) (s : Nat) (f : Session → Session) : (modSession c s f).backup = c.backup := by
  unfold modSession; split <;> rfl
@[simp] theorem modSession_rst (c : Chip) (s : Nat) (f : Session → Session) : (modSession c s f).rst = c.rst := by
  unfold modSession; split <;> rfl
@[simp] theorem modSession_boat (c : Chip) (s : Nat) (f : Session → Session) : (modSession c s f).boat = c.boat := by
  unfold modSession; split <;> rfl
@[simp] theorem modSession_ident (c : Chip) (s : Nat) (f : Session → Session) : (modSession c s f).ident = c.ident := by
  unfold modSession; split <;> rfl
@[simp] theorem modSession_upd (c : Chip) (s : Nat) (f : Session → Session) : (modSession c s f).upd = c.upd := by
  unfold modSession; split <;> rfl
@[simp] theorem modSession_panel (c : Chip) (s : Nat) (f : Session → Session) : (modSession c s f).panel = c.panel := by
  unfold modSession; split <;> rfl
@[simp] theorem modSession_underway (c : Chip) (s : Nat) (f : Session → Session) : (modSession c s f).underway = c.underway := by
  unfold modSession; split <;> rfl
@[simp] theorem modSession_cfg (c : Chip) (s : Nat) (f : Session → Session) : (modSession c s f).cfg = c.cfg := by
  unfold modSession; split <;> rfl
@[simp] theorem modSession_qOverflow (c : Chip) (s : Nat) (f : Session → Session) : (modSession c s f).qOverflow = c.qOverflow := by
  unfold modSession; split <;> rfl
@[simp] theorem modSession_wake (c : Chip) (s : Nat) (f : Session → Session) : (modSession c s f).wake = c.wake := by
  unfold modSession; split <;> rfl
@[simp] theorem modSession_rates (c : Chip) (s : Nat) (f : Session → Session) : (modSession c s f).rates = c.rates := by
  unfold modSession; split <;> rfl
@[simp] theorem modSession_sent (c : Chip) (s : Nat) (f : Session → Session) : (modSession c s f).sent = c.sent := by
  unfold modSession; split <;> rfl
@[simp] theorem modSession_img (c : Chip) (s : Nat) (f : Session → Session) : (modSession c s f).img = c.img := by
  unfold modSession; split <;> rfl
@[simp] theorem modSession_work (c : Chip) (s : Nat) (f : Session → Session) : (modSession c s f).work = c.work := by
  unfold modSession; split <;> rfl
@[simp] theorem modSession_latch (c : Chip) (s : Nat) (f : Session → Session) : (modSession c s f).latch = c.latch := by
  unfold modSession; split <;> rfl
@[simp] theorem modSession_engOut (c : Chip) (s : Nat) (f : Session → Session) : (modSession c s f).engOut = c.engOut := by
  unfold modSession; split <;> rfl
@[simp] theorem modSession_committedS (c : Chip) (s : Nat) (f : Session → Session) : (modSession c s f).committedS = c.committedS := by
  unfold modSession; split <;> rfl
@[simp] theorem modSession_committedP (c : Chip) (s : Nat) (f : Session → Session) : (modSession c s f).committedP = c.committedP := by
  unfold modSession; split <;> rfl
@[simp] theorem modSession_engines (c : Chip) (s : Nat) (f : Session → Session) : (modSession c s f).engines = c.engines := by
  unfold modSession; split <;> rfl
@[simp] theorem modSession_sel (c : Chip) (s : Nat) (f : Session → Session) : (modSession c s f).sel = c.sel := by
  unfold modSession; split <;> rfl
@[simp] theorem modSession_safety (c : Chip) (s : Nat) (f : Session → Session) : (modSession c s f).safety = c.safety := by
  unfold modSession; split <;> rfl
@[simp] theorem modSession_zw (c : Chip) (s : Nat) (f : Session → Session) : (modSession c s f).zw = c.zw := by
  unfold modSession; split <;> rfl
@[simp] theorem modSession_crewS (c : Chip) (s : Nat) (f : Session → Session) : (modSession c s f).crewS = c.crewS := by
  unfold modSession; split <;> rfl
@[simp] theorem modSession_crewP (c : Chip) (s : Nat) (f : Session → Session) : (modSession c s f).crewP = c.crewP := by
  unfold modSession; split <;> rfl
@[simp] theorem modSession_ctlS (c : Chip) (s : Nat) (f : Session → Session) : (modSession c s f).ctlS = c.ctlS := by
  unfold modSession; split <;> rfl
@[simp] theorem modSession_ctlP (c : Chip) (s : Nat) (f : Session → Session) : (modSession c s f).ctlP = c.ctlP := by
  unfold modSession; split <;> rfl
@[simp] theorem modSession_coxSafety (c : Chip) (s : Nat) (f : Session → Session) : (modSession c s f).coxSafety = c.coxSafety := by
  unfold modSession; split <;> rfl
@[simp] theorem modSession_coxProcess (c : Chip) (s : Nat) (f : Session → Session) : (modSession c s f).coxProcess = c.coxProcess := by
  unfold modSession; split <;> rfl
@[simp] theorem modSession_seat (c : Chip) (s : Nat) (f : Session → Session) : (modSession c s f).seat = c.seat := by
  unfold modSession; split <;> rfl
@[simp] theorem modSession_mirror (c : Chip) (s : Nat) (f : Session → Session) : (modSession c s f).mirror = c.mirror := by
  unfold modSession; split <;> rfl
@[simp] theorem modSession_pairCnt (c : Chip) (s : Nat) (f : Session → Session) : (modSession c s f).pairCnt = c.pairCnt := by
  unfold modSession; split <;> rfl
@[simp] theorem modSession_dig (c : Chip) (s : Nat) (f : Session → Session) : (modSession c s f).dig = c.dig := by
  unfold modSession; split <;> rfl
@[simp] theorem modSession_islands (c : Chip) (s : Nat) (f : Session → Session) : (modSession c s f).islands = c.islands := by
  unfold modSession; split <;> rfl
@[simp] theorem modSession_isl (c : Chip) (s : Nat) (f : Session → Session) : (modSession c s f).isl = c.isl := by
  unfold modSession; split <;> rfl
@[simp] theorem modSession_links (c : Chip) (s : Nat) (f : Session → Session) : (modSession c s f).links = c.links := by
  unfold modSession; split <;> rfl
@[simp] theorem modSession_cans (c : Chip) (s : Nat) (f : Session → Session) : (modSession c s f).cans = c.cans := by
  unfold modSession; split <;> rfl
@[simp] theorem modSession_lans (c : Chip) (s : Nat) (f : Session → Session) : (modSession c s f).lans = c.lans := by
  unfold modSession; split <;> rfl
@[simp] theorem modSession_badFrames (c : Chip) (s : Nat) (f : Session → Session) : (modSession c s f).badFrames = c.badFrames := by
  unfold modSession; split <;> rfl
@[simp] theorem modSession_serial (c : Chip) (s : Nat) (f : Session → Session) : (modSession c s f).serial = c.serial := by
  unfold modSession; split <;> rfl
@[simp] theorem crewSt_modSession (c : Chip) (s : Nat) (f : Session → Session) (x : Crew) : crewSt (modSession c s f) x = crewSt c x := by
  cases x <;> simp [crewSt]
@[simp] theorem ctlSt_modSession (c : Chip) (s : Nat) (f : Session → Session) (x : Crew) : ctlSt (modSession c s f) x = ctlSt c x := by
  cases x <;> simp [ctlSt]
@[simp] theorem coxSt_modSession (c : Chip) (s : Nat) (f : Session → Session) (x : Crew) : coxSt (modSession c s f) x = coxSt c x := by
  cases x <;> simp [coxSt]

/-! ### `countWrite` and `granted` -/

@[simp] theorem countWrite_fresh (c : Chip) (r : Requester) (k : Option Nat) : (countWrite c r k).fresh = c.fresh := by
  unfold countWrite; split
  · split <;> simp
  · simp
  · rfl
@[simp] theorem countWrite_now (c : Chip) (r : Requester) (k : Option Nat) : (countWrite c r k).now = c.now := by
  unfold countWrite; split
  · split <;> simp
  · simp
  · rfl
@[simp] theorem countWrite_mode (c : Chip) (r : Requester) (k : Option Nat) : (countWrite c r k).mode = c.mode := by
  unfold countWrite; split
  · split <;> simp
  · simp
  · rfl
@[simp] theorem countWrite_pages (c : Chip) (r : Requester) (k : Option Nat) : (countWrite c r k).pages = c.pages := by
  unfold countWrite; split
  · split <;> simp
  · simp
  · rfl
@[simp] theorem countWrite_attn (c : Chip) (r : Requester) (k : Option Nat) : (countWrite c r k).attn = c.attn := by
  unfold countWrite; split
  · split <;> simp
  · simp
  · rfl
@[simp] theorem countWrite_stroke (c : Chip) (r : Requester) (k : Option Nat) : (countWrite c r k).stroke = c.stroke := by
  unfold countWrite; split
  · split <;> simp
  · simp
  · rfl
@[simp] theorem countWrite_backup (c : Chip) (r : Requester) (k : Option Nat) : (countWrite c r k).backup = c.backup := by
  unfold countWrite; split
  · split <;> simp
  · simp
  · rfl
@[simp] theorem countWrite_rst (c : Chip) (r : Requester) (k : Option Nat) : (countWrite c r k).rst = c.rst := by
  unfold countWrite; split
  · split <;> simp
  · simp
  · rfl
@[simp] theorem countWrite_boat (c : Chip) (r : Requester) (k : Option Nat) : (countWrite c r k).boat = c.boat := by
  unfold countWrite; split
  · split <;> simp
  · simp
  · rfl
@[simp] theorem countWrite_ident (c : Chip) (r : Requester) (k : Option Nat) : (countWrite c r k).ident = c.ident := by
  unfold countWrite; split
  · split <;> simp
  · simp
  · rfl
@[simp] theorem countWrite_upd (c : Chip) (r : Requester) (k : Option Nat) : (countWrite c r k).upd = c.upd := by
  unfold countWrite; split
  · split <;> simp
  · simp
  · rfl
@[simp] theorem countWrite_panel (c : Chip) (r : Requester) (k : Option Nat) : (countWrite c r k).panel = c.panel := by
  unfold countWrite; split
  · split <;> simp
  · simp
  · rfl
@[simp] theorem countWrite_underway (c : Chip) (r : Requester) (k : Option Nat) : (countWrite c r k).underway = c.underway := by
  unfold countWrite; split
  · split <;> simp
  · simp
  · rfl
@[simp] theorem countWrite_cfg (c : Chip) (r : Requester) (k : Option Nat) : (countWrite c r k).cfg = c.cfg := by
  unfold countWrite; split
  · split <;> simp
  · simp
  · rfl
@[simp] theorem countWrite_qOverflow (c : Chip) (r : Requester) (k : Option Nat) : (countWrite c r k).qOverflow = c.qOverflow := by
  unfold countWrite; split
  · split <;> simp
  · simp
  · rfl
@[simp] theorem countWrite_wake (c : Chip) (r : Requester) (k : Option Nat) : (countWrite c r k).wake = c.wake := by
  unfold countWrite; split
  · split <;> simp
  · simp
  · rfl
@[simp] theorem countWrite_rates (c : Chip) (r : Requester) (k : Option Nat) : (countWrite c r k).rates = c.rates := by
  unfold countWrite; split
  · split <;> simp
  · simp
  · rfl
@[simp] theorem countWrite_sent (c : Chip) (r : Requester) (k : Option Nat) : (countWrite c r k).sent = c.sent := by
  unfold countWrite; split
  · split <;> simp
  · simp
  · rfl
@[simp] theorem countWrite_img (c : Chip) (r : Requester) (k : Option Nat) : (countWrite c r k).img = c.img := by
  unfold countWrite; split
  · split <;> simp
  · simp
  · rfl
@[simp] theorem countWrite_work (c : Chip) (r : Requester) (k : Option Nat) : (countWrite c r k).work = c.work := by
  unfold countWrite; split
  · split <;> simp
  · simp
  · rfl
@[simp] theorem countWrite_latch (c : Chip) (r : Requester) (k : Option Nat) : (countWrite c r k).latch = c.latch := by
  unfold countWrite; split
  · split <;> simp
  · simp
  · rfl
@[simp] theorem countWrite_engOut (c : Chip) (r : Requester) (k : Option Nat) : (countWrite c r k).engOut = c.engOut := by
  unfold countWrite; split
  · split <;> simp
  · simp
  · rfl
@[simp] theorem countWrite_committedS (c : Chip) (r : Requester) (k : Option Nat) : (countWrite c r k).committedS = c.committedS := by
  unfold countWrite; split
  · split <;> simp
  · simp
  · rfl
@[simp] theorem countWrite_committedP (c : Chip) (r : Requester) (k : Option Nat) : (countWrite c r k).committedP = c.committedP := by
  unfold countWrite; split
  · split <;> simp
  · simp
  · rfl
@[simp] theorem countWrite_engines (c : Chip) (r : Requester) (k : Option Nat) : (countWrite c r k).engines = c.engines := by
  unfold countWrite; split
  · split <;> simp
  · simp
  · rfl
@[simp] theorem countWrite_sel (c : Chip) (r : Requester) (k : Option Nat) : (countWrite c r k).sel = c.sel := by
  unfold countWrite; split
  · split <;> simp
  · simp
  · rfl
@[simp] theorem countWrite_safety (c : Chip) (r : Requester) (k : Option Nat) : (countWrite c r k).safety = c.safety := by
  unfold countWrite; split
  · split <;> simp
  · simp
  · rfl
@[simp] theorem countWrite_zw (c : Chip) (r : Requester) (k : Option Nat) : (countWrite c r k).zw = c.zw := by
  unfold countWrite; split
  · split <;> simp
  · simp
  · rfl
@[simp] theorem countWrite_crewS (c : Chip) (r : Requester) (k : Option Nat) : (countWrite c r k).crewS = c.crewS := by
  unfold countWrite; split
  · split <;> simp
  · simp
  · rfl
@[simp] theorem countWrite_crewP (c : Chip) (r : Requester) (k : Option Nat) : (countWrite c r k).crewP = c.crewP := by
  unfold countWrite; split
  · split <;> simp
  · simp
  · rfl
@[simp] theorem countWrite_ctlS (c : Chip) (r : Requester) (k : Option Nat) : (countWrite c r k).ctlS = c.ctlS := by
  unfold countWrite; split
  · split <;> simp
  · simp
  · rfl
@[simp] theorem countWrite_ctlP (c : Chip) (r : Requester) (k : Option Nat) : (countWrite c r k).ctlP = c.ctlP := by
  unfold countWrite; split
  · split <;> simp
  · simp
  · rfl
@[simp] theorem countWrite_coxSafety (c : Chip) (r : Requester) (k : Option Nat) : (countWrite c r k).coxSafety = c.coxSafety := by
  unfold countWrite; split
  · split <;> simp
  · simp
  · rfl
@[simp] theorem countWrite_coxProcess (c : Chip) (r : Requester) (k : Option Nat) : (countWrite c r k).coxProcess = c.coxProcess := by
  unfold countWrite; split
  · split <;> simp
  · simp
  · rfl
@[simp] theorem countWrite_seat (c : Chip) (r : Requester) (k : Option Nat) : (countWrite c r k).seat = c.seat := by
  unfold countWrite; split
  · split <;> simp
  · simp
  · rfl
@[simp] theorem countWrite_mirror (c : Chip) (r : Requester) (k : Option Nat) : (countWrite c r k).mirror = c.mirror := by
  unfold countWrite; split
  · split <;> simp
  · simp
  · rfl
@[simp] theorem countWrite_pairCnt (c : Chip) (r : Requester) (k : Option Nat) : (countWrite c r k).pairCnt = c.pairCnt := by
  unfold countWrite; split
  · split <;> simp
  · simp
  · rfl
@[simp] theorem countWrite_dig (c : Chip) (r : Requester) (k : Option Nat) : (countWrite c r k).dig = c.dig := by
  unfold countWrite; split
  · split <;> simp
  · simp
  · rfl
@[simp] theorem countWrite_islands (c : Chip) (r : Requester) (k : Option Nat) : (countWrite c r k).islands = c.islands := by
  unfold countWrite; split
  · split <;> simp
  · simp
  · rfl
@[simp] theorem countWrite_isl (c : Chip) (r : Requester) (k : Option Nat) : (countWrite c r k).isl = c.isl := by
  unfold countWrite; split
  · split <;> simp
  · simp
  · rfl
@[simp] theorem countWrite_links (c : Chip) (r : Requester) (k : Option Nat) : (countWrite c r k).links = c.links := by
  unfold countWrite; split
  · split <;> simp
  · simp
  · rfl
@[simp] theorem countWrite_cans (c : Chip) (r : Requester) (k : Option Nat) : (countWrite c r k).cans = c.cans := by
  unfold countWrite; split
  · split <;> simp
  · simp
  · rfl
@[simp] theorem countWrite_lans (c : Chip) (r : Requester) (k : Option Nat) : (countWrite c r k).lans = c.lans := by
  unfold countWrite; split
  · split <;> simp
  · simp
  · rfl
@[simp] theorem countWrite_badFrames (c : Chip) (r : Requester) (k : Option Nat) : (countWrite c r k).badFrames = c.badFrames := by
  unfold countWrite; split
  · split <;> simp
  · simp
  · rfl
@[simp] theorem countWrite_serial (c : Chip) (r : Requester) (k : Option Nat) : (countWrite c r k).serial = c.serial := by
  unfold countWrite; split
  · split <;> simp
  · simp
  · rfl
@[simp] theorem crewSt_countWrite (c : Chip) (r : Requester) (k : Option Nat) (x : Crew) : crewSt (countWrite c r k) x = crewSt c x := by
  cases x <;> simp [crewSt]
@[simp] theorem ctlSt_countWrite (c : Chip) (r : Requester) (k : Option Nat) (x : Crew) : ctlSt (countWrite c r k) x = ctlSt c x := by
  cases x <;> simp [ctlSt]
@[simp] theorem coxSt_countWrite (c : Chip) (r : Requester) (k : Option Nat) (x : Crew) : coxSt (countWrite c r k) x = coxSt c x := by
  cases x <;> simp [coxSt]

@[simp] theorem hdr_countWrite (c : Chip) (r : Requester) (k : Option Nat) (p : Nat) :
    hdr (countWrite c r k) p = hdr c p := by simp [hdr]

/-- Counting a write changes nobody's class. -/
theorem writerClass_countWrite (c : Chip) (r : Requester) (k : Option Nat) :
    writerClass (countWrite c r k) r = writerClass c r := by
  unfold countWrite
  split
  · split
    · simp only [writerClass, session_modSession]
      cases session c _ <;> rfl
    · rfl
  · simp only [writerClass, session_modSession]
    cases session c _ <;> rfl
  · rfl

@[simp] theorem granted_fresh (c : Chip) (r : Requester) (p : Nat) : (Safety.granted c r p).fresh = c.fresh := by
  simp [Safety.granted]
@[simp] theorem granted_now (c : Chip) (r : Requester) (p : Nat) : (Safety.granted c r p).now = c.now := by
  simp [Safety.granted]
@[simp] theorem granted_mode (c : Chip) (r : Requester) (p : Nat) : (Safety.granted c r p).mode = c.mode := by
  simp [Safety.granted]
@[simp] theorem granted_stroke (c : Chip) (r : Requester) (p : Nat) : (Safety.granted c r p).stroke = c.stroke := by
  simp [Safety.granted]
@[simp] theorem granted_backup (c : Chip) (r : Requester) (p : Nat) : (Safety.granted c r p).backup = c.backup := by
  simp [Safety.granted]
@[simp] theorem granted_rst (c : Chip) (r : Requester) (p : Nat) : (Safety.granted c r p).rst = c.rst := by
  simp [Safety.granted]
@[simp] theorem granted_boat (c : Chip) (r : Requester) (p : Nat) : (Safety.granted c r p).boat = c.boat := by
  simp [Safety.granted]
@[simp] theorem granted_ident (c : Chip) (r : Requester) (p : Nat) : (Safety.granted c r p).ident = c.ident := by
  simp [Safety.granted]
@[simp] theorem granted_upd (c : Chip) (r : Requester) (p : Nat) : (Safety.granted c r p).upd = c.upd := by
  simp [Safety.granted]
@[simp] theorem granted_panel (c : Chip) (r : Requester) (p : Nat) : (Safety.granted c r p).panel = c.panel := by
  simp [Safety.granted]
@[simp] theorem granted_underway (c : Chip) (r : Requester) (p : Nat) : (Safety.granted c r p).underway = c.underway := by
  simp [Safety.granted]
@[simp] theorem granted_cfg (c : Chip) (r : Requester) (p : Nat) : (Safety.granted c r p).cfg = c.cfg := by
  simp [Safety.granted]
@[simp] theorem granted_qOverflow (c : Chip) (r : Requester) (p : Nat) : (Safety.granted c r p).qOverflow = c.qOverflow := by
  simp [Safety.granted]
@[simp] theorem granted_wake (c : Chip) (r : Requester) (p : Nat) : (Safety.granted c r p).wake = c.wake := by
  simp [Safety.granted]
@[simp] theorem granted_rates (c : Chip) (r : Requester) (p : Nat) : (Safety.granted c r p).rates = c.rates := by
  simp [Safety.granted]
@[simp] theorem granted_sent (c : Chip) (r : Requester) (p : Nat) : (Safety.granted c r p).sent = c.sent := by
  simp [Safety.granted]
@[simp] theorem granted_img (c : Chip) (r : Requester) (p : Nat) : (Safety.granted c r p).img = c.img := by
  simp [Safety.granted]
@[simp] theorem granted_work (c : Chip) (r : Requester) (p : Nat) : (Safety.granted c r p).work = c.work := by
  simp [Safety.granted]
@[simp] theorem granted_latch (c : Chip) (r : Requester) (p : Nat) : (Safety.granted c r p).latch = c.latch := by
  simp [Safety.granted]
@[simp] theorem granted_engOut (c : Chip) (r : Requester) (p : Nat) : (Safety.granted c r p).engOut = c.engOut := by
  simp [Safety.granted]
@[simp] theorem granted_committedS (c : Chip) (r : Requester) (p : Nat) : (Safety.granted c r p).committedS = c.committedS := by
  simp [Safety.granted]
@[simp] theorem granted_committedP (c : Chip) (r : Requester) (p : Nat) : (Safety.granted c r p).committedP = c.committedP := by
  simp [Safety.granted]
@[simp] theorem granted_engines (c : Chip) (r : Requester) (p : Nat) : (Safety.granted c r p).engines = c.engines := by
  simp [Safety.granted]
@[simp] theorem granted_sel (c : Chip) (r : Requester) (p : Nat) : (Safety.granted c r p).sel = c.sel := by
  simp [Safety.granted]
@[simp] theorem granted_safety (c : Chip) (r : Requester) (p : Nat) : (Safety.granted c r p).safety = c.safety := by
  simp [Safety.granted]
@[simp] theorem granted_zw (c : Chip) (r : Requester) (p : Nat) : (Safety.granted c r p).zw = c.zw := by
  simp [Safety.granted]
@[simp] theorem granted_crewS (c : Chip) (r : Requester) (p : Nat) : (Safety.granted c r p).crewS = c.crewS := by
  simp [Safety.granted]
@[simp] theorem granted_crewP (c : Chip) (r : Requester) (p : Nat) : (Safety.granted c r p).crewP = c.crewP := by
  simp [Safety.granted]
@[simp] theorem granted_ctlS (c : Chip) (r : Requester) (p : Nat) : (Safety.granted c r p).ctlS = c.ctlS := by
  simp [Safety.granted]
@[simp] theorem granted_ctlP (c : Chip) (r : Requester) (p : Nat) : (Safety.granted c r p).ctlP = c.ctlP := by
  simp [Safety.granted]
@[simp] theorem granted_coxSafety (c : Chip) (r : Requester) (p : Nat) : (Safety.granted c r p).coxSafety = c.coxSafety := by
  simp [Safety.granted]
@[simp] theorem granted_coxProcess (c : Chip) (r : Requester) (p : Nat) : (Safety.granted c r p).coxProcess = c.coxProcess := by
  simp [Safety.granted]
@[simp] theorem granted_seat (c : Chip) (r : Requester) (p : Nat) : (Safety.granted c r p).seat = c.seat := by
  simp [Safety.granted]
@[simp] theorem granted_mirror (c : Chip) (r : Requester) (p : Nat) : (Safety.granted c r p).mirror = c.mirror := by
  simp [Safety.granted]
@[simp] theorem granted_pairCnt (c : Chip) (r : Requester) (p : Nat) : (Safety.granted c r p).pairCnt = c.pairCnt := by
  simp [Safety.granted]
@[simp] theorem granted_dig (c : Chip) (r : Requester) (p : Nat) : (Safety.granted c r p).dig = c.dig := by
  simp [Safety.granted]
@[simp] theorem granted_islands (c : Chip) (r : Requester) (p : Nat) : (Safety.granted c r p).islands = c.islands := by
  simp [Safety.granted]
@[simp] theorem granted_isl (c : Chip) (r : Requester) (p : Nat) : (Safety.granted c r p).isl = c.isl := by
  simp [Safety.granted]
@[simp] theorem granted_links (c : Chip) (r : Requester) (p : Nat) : (Safety.granted c r p).links = c.links := by
  simp [Safety.granted]
@[simp] theorem granted_cans (c : Chip) (r : Requester) (p : Nat) : (Safety.granted c r p).cans = c.cans := by
  simp [Safety.granted]
@[simp] theorem granted_lans (c : Chip) (r : Requester) (p : Nat) : (Safety.granted c r p).lans = c.lans := by
  simp [Safety.granted]
@[simp] theorem granted_badFrames (c : Chip) (r : Requester) (p : Nat) : (Safety.granted c r p).badFrames = c.badFrames := by
  simp [Safety.granted]
@[simp] theorem granted_serial (c : Chip) (r : Requester) (p : Nat) : (Safety.granted c r p).serial = c.serial := by
  simp [Safety.granted]
@[simp] theorem crewSt_granted (c : Chip) (r : Requester) (p : Nat) (x : Crew) : crewSt (Safety.granted c r p) x = crewSt c x := by
  cases x <;> simp [crewSt]
@[simp] theorem ctlSt_granted (c : Chip) (r : Requester) (p : Nat) (x : Crew) : ctlSt (Safety.granted c r p) x = ctlSt c x := by
  cases x <;> simp [ctlSt]
@[simp] theorem coxSt_granted (c : Chip) (r : Requester) (p : Nat) (x : Crew) : coxSt (Safety.granted c r p) x = coxSt c x := by
  cases x <;> simp [coxSt]

theorem hdr_granted (c : Chip) (r : Requester) (p : Nat) :
    hdr (Safety.granted c r p) p = { hdr c p with seq := (hdr c p).seq + 1 } := by
  simp [Safety.granted, hdr_modHdr]

end Sys2Proof.Machine
end

