-- ==== Sys2Proof/Tests/Slice0.lean ====
section
/-!
SUPPORT. Tests on fixed values: the checks of well-formedness, the encodings of chapter 4, one step of each logic
instruction, and for every statement with hypotheses a state and operands that meet them. Expected values come from
the spec.
-/
namespace Sys2Proof.Tests
open Sys2Proof.Machine Sys2Proof.Safety
set_option Elab.async false

/-! ### Ill-formed commands (WellFormed.lean) -/

/-- A peer's message of no bytes. -/
def rap0 : RapIn := ⟨.service, 0, 0, [], .whole⟩

theorem test_wf_session : (Instr.start (.session 15)).wf = true ∧ (Instr.start (.session 16)).wf = false := by decide
theorem test_wf_core : (Instr.nop ⟨.process, 2, none⟩ ⟨0, 0⟩).wf = true ∧ (Instr.nop ⟨.process, 3, none⟩ ⟨0, 0⟩).wf = false
    ∧ (Instr.nop ⟨.safety, 1, none⟩ ⟨0, 0⟩).wf = false := by decide
theorem test_wf_ecc : (Instr.nop ⟨.safety, 0, some ⟨true, 3, 0⟩⟩ ⟨0, 0⟩).wf = false
    ∧ (Instr.nop ⟨.safety, 0, some ⟨true, 0, 2⟩⟩ ⟨0, 0⟩).wf = false
    ∧ (Instr.nop ⟨.safety, 0, some ⟨true, 0, 0x100000⟩⟩ ⟨0, 0⟩).wf = false
    ∧ (Instr.nop ⟨.safety, 0, some ⟨false, 0, 0x100000⟩⟩ ⟨0, 0⟩).wf = true := by decide
theorem test_wf_frame : frameWf (List.replicate 1501 0) = false ∧ frameWf [] = true
    ∧ bufferWf (List.replicate 2049 0) = false := by decide +kernel
theorem test_wf_wires : (Instr.crossWired 1 1).wf = false ∧ (Instr.crossWired 1 2).wf = true := by decide
theorem test_wf_can : (CanFrame.wf ⟨0x800, false, false, false, false, 0, []⟩) = false
    ∧ (CanFrame.wf ⟨0, false, true, false, false, 9, List.replicate 9 0⟩) = false
    ∧ (CanFrame.wf ⟨0, false, false, true, false, 0, []⟩) = false
    ∧ (CanFrame.wf ⟨0, false, true, false, false, 2, [0]⟩) = false
    ∧ (CanFrame.wf ⟨0x7FF, false, true, true, false, 12, List.replicate 12 0⟩) = true := by decide
theorem test_wf_remote : (Instr.canFrameAccepted 0 ⟨0, false, true, false, false, 0, []⟩ true).wf = false
    ∧ (Instr.canWakeEvent 0 (.frame ⟨0x800, false, false, false, false, 0, []⟩)).wf = false := by decide
theorem test_wf_rap : rap0.wf = true ∧ (RapIn.wf { rap0 with ip := 0x100000000 }) = false
    ∧ (RapIn.wf { rap0 with udp := 0x10000 }) = false
    ∧ (RapIn.wf { rap0 with bytes := List.replicate 1473 0 }) = false := by decide +kernel
theorem test_wf_plug : (Instr.plugPoll (some [0])).wf = false ∧ (Instr.plugPoll none).wf = true := by decide
theorem test_wf_boot : (BootIn.wf ⟨true, true, true, true, true, some [0], none, none, 0, true, true⟩) = false
    ∧ (BootIn.wf ⟨true, true, true, true, true, none, none, some 5, 0, true, true⟩) = true := by decide
theorem test_wf_sensor : (SensorIn.wf ⟨[], [], none, none, none⟩) = false := by decide

/-! ### One step -/

/-- What a command leaves of the module. -/
def ran (i : Instr) (c : Chip) : Chip :=
  match exec i ⟨c, []⟩ with
  | .next t => t.chip
  | _ => c

/-- The module of reset in another mode. -/
def base (m : Mode) : Chip := { State.reset.chip with mode := { State.reset.chip.mode with mode := m } }

/-- The safety crew's core 0, and the place where its program is tested. -/
def wk : Issue := ⟨.safety, 0, none⟩

/-- The safety crew in a drive at the first word of a program, its core as `f` sets it. -/
def drv (code : List Word) (f : CoreSt → CoreSt) : Chip :=
  { base .run with
    crewS := { CrewSt.reset with
      prog := some ⟨0, 0, 0, [⟨code, [], [], [], [], []⟩]⟩
      cores := [f { CoreSt.reset with task := some 2, ended := false }]
      run := .running, caught := true, catchCount := 1000, catchTime := 5000000 } }

/-- Core 0 after an instruction. -/
def core0 (i : Instr) (code : List Word) (f : CoreSt → CoreSt) : CoreSt := coreAt (ran i (drv code f)).crewS 0

/-- Registers BA, WA, WB and OV. -/
def regs (b : Bool) (wa wb : Word) (ov : Bool) (s : CoreSt) : CoreSt := { s with ba := b, wa := wa, wb := wb, ov := ov }

/-- BA set, with bit B.64 at `v` (the worked example of chapter 4). -/
def bit64 (b v : Bool) (s : CoreSt) : CoreSt := { s with ba := b, mem := writeBit s.mem 64 v }

def none_ : Opnd := ⟨0, 0⟩
def b64 : Opnd := ⟨1, 64⟩

/-! The words are those of the encoding: opcode in bits 31 to 24, class in 23 and 22, operand below (R133). -/

theorem test_word_bld : instrWord 0x0E ⟨1, 0x40⟩ = 0x0E400040 := by decide
theorem test_word_ton : instrWord 0x38 ⟨2, 2055⟩ = 0x38800807 := by decide
theorem test_bld : (core0 (.bld wk b64) [0x0E400040, 0] (bit64 false true)).ba = true := by decide
theorem test_bld_indexed : (core0 (.bld wk ⟨3, 66⟩) [0x0EC00042, 0] fun s => { bit64 false true s with wa := -2 }).ba = true
    ∧ (core0 (.bld wk ⟨3, 66⟩) [0x0EC00042, 0] fun s => { bit64 false true s with wa := -2 }).clocks = 2 := by decide
theorem test_bldn : (core0 (.bldn wk b64) [0x0F400040, 0] (bit64 true true)).ba = false := by decide
theorem test_band : (core0 (.band wk b64) [0x10400040, 0] (bit64 true false)).ba = false := by decide
theorem test_bandn : (core0 (.bandn wk b64) [0x11400040, 0] (bit64 true false)).ba = true := by decide
theorem test_bor : (core0 (.bor wk b64) [0x12400040, 0] (bit64 false true)).ba = true := by decide
theorem test_born : (core0 (.born wk b64) [0x13400040, 0] (bit64 false true)).ba = false := by decide
theorem test_bxor : (core0 (.bxor wk b64) [0x14400040, 0] (bit64 true true)).ba = false := by decide
theorem test_bxorn : (core0 (.bxorn wk b64) [0x15400040, 0] (bit64 true true)).ba = true := by decide
theorem test_inv : (core0 (.inv wk none_) [0x16000000, 0] (bit64 true false)).ba = false := by decide
theorem test_btrue : (core0 (.btrue wk none_) [0x17000000, 0] id).ba = true := by decide
theorem test_bfalse : (core0 (.bfalse wk none_) [0x18000000, 0] (bit64 true true)).ba = false := by decide
theorem test_ldov : (core0 (.ldov wk none_) [0x19000000, 0] (regs false 0 0 true)).ba = true
    ∧ (core0 (.ldov wk none_) [0x19000000, 0] (regs false 0 0 true)).ov = false := by decide
theorem test_opa : (core0 (.opa wk none_) [0x20000000, 0] (bit64 true true)).branch = [(true, .and)] := by decide
theorem test_opo : (core0 (.opo wk none_) [0x21000000, 0] (bit64 true true)).branch = [(true, .or)] := by decide
theorem test_opx : (core0 (.opx wk none_) [0x22000000, 0] (bit64 true true)).branch = [(true, .xor)] := by decide
theorem test_clb : (core0 (.clb wk none_) [0x23000000, 0] fun s => { s with ba := true, branch := [(true, .xor)] }).ba = false
    ∧ (core0 (.clb wk none_) [0x23000000, 0] fun s => { s with ba := true, branch := [(true, .xor)] }).branch = [] := by
  decide
theorem test_st : readBit (core0 (.st wk b64) [0x28400040, 0] (bit64 true false)).mem 64 = true := by decide
theorem test_stn : readBit (core0 (.stn wk b64) [0x29400040, 0] (bit64 true true)).mem 64 = false := by decide
theorem test_setb : readBit (core0 (.setb wk b64) [0x2A400040, 0] (bit64 false false)).mem 64 = false := by decide
theorem test_clrb : readBit (core0 (.clrb wk b64) [0x2B400040, 0] (bit64 true true)).mem 64 = false := by decide
theorem test_edgr : (core0 (.edgr wk ⟨2, 9⟩) [0x30800009, 0] (bit64 true true)).ba = true
    ∧ smGet false (core0 (.edgr wk ⟨2, 9⟩) [0x30800009, 0] (bit64 true true)).mem.edges 9 = true := by decide
theorem test_edgf : (core0 (.edgf wk ⟨2, 9⟩) [0x31800009, 0] fun s =>
    { s with mem := { s.mem with edges := [(9, true)] } }).ba = true := by decide
theorem test_ton : (core0 (.ton wk ⟨2, 5⟩) [0x38800005, 0] (regs true 0 0 false)).ba = true
    ∧ (core0 (.ton wk ⟨2, 5⟩) [0x38800005, 0] (regs true 1 0 false)).ba = false := by decide
theorem test_ton_us : (smGet Timer.reset (core0 (.ton wk ⟨2, 2055⟩) [0x38800807, 0] (regs true 1 0 false)).mem.timers 2055).start
    = 5000 := by decide
theorem test_tof : (core0 (.tof wk ⟨2, 5⟩) [0x39800005, 0] (regs true 7 0 false)).ba = true := by decide
theorem test_tp : (core0 (.tp wk ⟨2, 5⟩) [0x3A800005, 0] (regs true 7 0 false)).ba = true
    ∧ (core0 (.tp wk ⟨2, 5⟩) [0x3A800005, 0] (regs true 0 0 false)).ba = false := by decide
theorem test_trst : (smGet Timer.reset (core0 (.trst wk ⟨2, 5⟩) [0x3B800005, 0] fun s => { s with
    ba := true, mem := { s.mem with timers := [(5, ⟨true, 3, true, true, 7, true⟩)] } }).mem.timers 5)
    = ⟨false, 0, false, false, 7, false⟩ := by decide
theorem test_tet : (core0 (.tet wk ⟨2, 5⟩) [0x3C800005, 0] fun s => { s with
    mem := { s.mem with timers := [(5, ⟨true, 900, false, false, 700, true⟩)] } }).wa = 100 := by decide
theorem test_ctu : (core0 (.ctu wk ⟨2, 5⟩) [0x40800005, 0] (regs true 1 0 false)).ba = true
    ∧ (smGet Counter.reset (core0 (.ctu wk ⟨2, 5⟩) [0x40800005, 0] (regs true 1 0 false)).mem.counters 5).cv = 1 := by decide
theorem test_ctd : (core0 (.ctd wk ⟨2, 5⟩) [0x41800005, 0] fun s => { s with
    ba := true, mem := { s.mem with counters := [(5, ⟨2, false, false⟩)] } }).ba = false := by decide
theorem test_crst : (smGet Counter.reset (core0 (.crst wk ⟨2, 5⟩) [0x42800005, 0] fun s => { s with
    ba := true, mem := { s.mem with counters := [(5, ⟨2, false, false⟩)] } }).mem.counters 5).cv = 0 := by decide
theorem test_cld : (smGet Counter.reset (core0 (.cld wk ⟨2, 5⟩) [0x43800005, 0] (regs true 77 0 false)).mem.counters 5).cv = 77 := by
  decide
theorem test_lcv : (core0 (.lcv wk ⟨2, 5⟩) [0x44800005, 0] fun s => { s with
    mem := { s.mem with counters := [(5, ⟨2, false, false⟩)] } }).wa = 2 := by decide
theorem test_ldw : (core0 (.ldw wk ⟨2, 42304⟩) [0x5080A540, 0] id).wa = 0xA540
    ∧ (core0 (.ldw wk ⟨2, 0x3FFFFF⟩) [0x50BFFFFF, 0] id).wa = 0xFFFFFFFF := by decide
theorem test_ldhi : (core0 (.ldhi wk ⟨2, 686⟩) [0x518002AE, 0] (regs false 0xFFFFA540 0 false)).wa = 45000000 := by decide
theorem test_tw : readWord (core0 (.tw wk ⟨3, 0x4000⟩) [0x52C04000, 0] (regs false 7 2 false)).mem 0x4002 = 7 := by decide
theorem test_swap : (core0 (.swap wk none_) [0x53000000, 0] (regs false 7 2 false)).wa = 2 := by decide
theorem test_ldwb : (core0 (.ldwb wk ⟨1, 3⟩) [0x54400003, 0] fun s => { s with mem := writeWord s.mem 3 9 }).wb = 9 := by decide
theorem test_add : (core0 (.add wk none_) [0x58000000, 0] (regs false 1 0x7FFFFFFF false)).wa = 0x80000000
    ∧ (core0 (.add wk none_) [0x58000000, 0] (regs false 1 0x7FFFFFFF false)).ov = true := by decide
theorem test_sub : (core0 (.sub wk none_) [0x59000000, 0] (regs false 3 2 false)).wa = -1 := by decide
theorem test_mul : (core0 (.mul wk none_) [0x5A000000, 0] (regs false 0x10000 0x10000 false)).wa = 0
    ∧ (core0 (.mul wk none_) [0x5A000000, 0] (regs false 0x10000 0x10000 false)).ov = true := by decide
theorem test_div : (core0 (.div wk none_) [0x5B000000, 0] (regs false 2 (-7) false)).wa = -3
    ∧ (core0 (.div wk none_) [0x5B000000, 0] (regs false 0 (-7) false)).wa = 0x80000000 := by decide
theorem test_mod : (core0 (.mod wk none_) [0x5C000000, 0] (regs false 2 (-7) false)).wa = -1
    ∧ (core0 (.mod wk none_) [0x5C000000, 0] (regs false 0 (-7) false)).ov = true := by decide
theorem test_neg : (core0 (.neg wk none_) [0x5D000000, 0] (regs false 0x80000000 0 false)).ov = true := by decide
theorem test_abs : (core0 (.abs wk none_) [0x5E000000, 0] (regs false 0x80000000 0 false)).wa = 0x7FFFFFFF := by decide
theorem test_aw : (core0 (.aw wk none_) [0x60000000, 0] (regs false 6 3 false)).wa = 2 := by decide
theorem test_ow : (core0 (.ow wk none_) [0x61000000, 0] (regs false 6 3 false)).wa = 7 := by decide
theorem test_xw : (core0 (.xw wk none_) [0x62000000, 0] (regs false 6 3 false)).wa = 5 := by decide
theorem test_shl : (core0 (.shl wk ⟨2, 31⟩) [0x6380001F, 0] (regs false 3 0 false)).wa = 0x80000000 := by decide
theorem test_shr : (core0 (.shr wk ⟨2, 31⟩) [0x6480001F, 0] (regs false 0x80000000 0 false)).wa = 1 := by decide
theorem test_sar : (core0 (.sar wk ⟨2, 31⟩) [0x6580001F, 0] (regs false 0x80000000 0 false)).wa = -1 := by decide
theorem test_eq : (core0 (.eq wk none_) [0x68000000, 0] (regs false 3 3 false)).ba = true := by decide
theorem test_ne : (core0 (.ne wk none_) [0x69000000, 0] (regs true 3 3 false)).ba = false := by decide
theorem test_gt : (core0 (.gt wk none_) [0x6A000000, 0] (regs false (-1) 1 false)).ba = true := by decide
theorem test_ge : (core0 (.ge wk none_) [0x6B000000, 0] (regs false 1 1 false)).ba = true := by decide
theorem test_lt : (core0 (.lt wk none_) [0x6C000000, 0] (regs false 1 (-1) false)).ba = true := by decide
theorem test_le : (core0 (.le wk none_) [0x6D000000, 0] (regs true (-1) 1 false)).ba = false := by decide
theorem test_nop : (core0 (.nop wk none_) [0x00000000, 0] id).pc = 1 := by decide
theorem test_end : (core0 (.endTask wk none_) [0x01000000, 0] id).ended = true := by decide
theorem test_jmp : (core0 (.jmp wk ⟨2, 2⟩) [0x70800002, 0, 0] id).pc = 2 := by decide
theorem test_jbt : (core0 (.jbt wk ⟨2, 2⟩) [0x71800002, 0, 0] id).pc = 1 := by decide
theorem test_jbf : (core0 (.jbf wk ⟨2, 2⟩) [0x72800002, 0, 0] id).pc = 2 := by decide
theorem test_call : (core0 (.call wk ⟨2, 2⟩) [0x74800002, 0, 0] id).calls = [1] := by decide
theorem test_callt : (core0 (.callt wk ⟨2, 2⟩) [0x75800002, 0, 0] id).clocks = 1 := by decide
theorem test_ret : (core0 (.ret wk none_) [0x76000000, 0, 0] fun s => { s with calls := [2] }).pc = 2 := by decide

/-- A jump past the program stops the crew with TARGET_RANGE and changes nothing of the core. -/
theorem test_fault : (core0 (.jmp wk ⟨2, 9⟩) [0x70800009, 0] id).faulted = true
    ∧ (core0 (.jmp wk ⟨2, 9⟩) [0x70800009, 0] id).pc = 0
    ∧ fld (ran (.jmp wk ⟨2, 9⟩) (drv [0x70800009, 0] id)).coxSafety.faultStat 31 28 = 5 := by decide

/-! ### Witnesses: logic instructions

Each theorem shows a state and operands that meet the hypotheses of a statement together. -/

/-- A word whose opcode is listed stands at `pc`, as a test that is computed. -/
def fetched (c : Chip) (pc : Nat) : Bool :=
  ((partAt (crewSt c .safety) 0).code[pc]?).any fun w => (opForm (opcodeOf w)).isSome
theorem fetches_of_fetched (c : Chip) (pc : Nat) (h : fetched c pc = true) : Fetches c wk pc := by
  simp only [fetched, Option.any_eq_true] at h
  exact h

/-- The hypotheses of `Completes` hold for an instruction at the first of two words. -/
def readyAt (op : Nat) (o : Opnd) (clocks : Nat) (f : CoreSt → CoreSt) : Prop :=
  let c := drv [instrWord op o, 0] f
  Ready c wk op o clocks ∧ fetched c ((coreOf c wk).pc + 1) = true ∧ (coxSt c .safety).testArm = false

theorem witness_bit_direct : readyAt 0x0E b64 1 id ∧ Names bitLimit 0 b64 :=
  ⟨by unfold readyAt Ready; decide, by decide, rfl⟩
theorem witness_bit_top : readyAt 0x28 ⟨1, 0x1FFFF⟩ 1 id ∧ Names bitLimit 0 ⟨1, 0x1FFFF⟩ :=
  ⟨by unfold readyAt Ready; decide, by decide, rfl⟩
theorem witness_bit_indexed : readyAt 0x2A ⟨3, 0⟩ 2 (regs true 0x1FFFF 0 false) ∧ Names bitLimit 0x1FFFF ⟨3, 0⟩ :=
  ⟨by unfold readyAt Ready; decide, by decide, rfl⟩
theorem witness_bit_sets : readyAt 0x16 none_ 1 id := by unfold readyAt Ready; decide
theorem witness_branches : readyAt 0x20 none_ 1 (fun s => { s with branch := List.replicate 31 (true, .or) })
    ∧ (List.replicate 31 (true, BranchKind.or)).length < 32 := by unfold readyAt Ready; decide
theorem witness_close : readyAt 0x23 none_ 1 (fun s => { s with branch := [(true, .and)] }) := by
  unfold readyAt Ready; decide
theorem witness_edges : readyAt 0x30 ⟨2, 65535⟩ 1 id ∧ (2 : BitVec 2) = 2 ∧ (65535 : BitVec 22).toNat < 65536 := by
  unfold readyAt Ready; decide
theorem witness_timers : readyAt 0x38 ⟨2, 4095⟩ 4 id ∧ (4095 : BitVec 22).toNat < 4096
    ∧ (5000 : Word) = BitVec.ofNat 32 ((drv [] id).crewS.catchTime / 1000) := by unfold readyAt Ready; decide
theorem witness_stroke_timer : readyAt 0x3C ⟨2, 2047⟩ 2 id ∧ (1000 : Word) = (drv [] id).crewS.catchCount := by
  unfold readyAt Ready; decide
theorem witness_counters : readyAt 0x40 ⟨2, 4095⟩ 3 id := by unfold readyAt Ready; decide
theorem witness_word_top : readyAt 0x50 ⟨1, 0x37FFF⟩ 1 id ∧ Names wordLimit 0 ⟨1, 0x37FFF⟩ :=
  ⟨by unfold readyAt Ready; decide, by decide, rfl⟩
theorem witness_store_top : readyAt 0x52 ⟨3, 0⟩ 2 (regs false 0 0x37FFF false) ∧ Names wordLimit 0x37FFF ⟨3, 0⟩ :=
  ⟨by unfold readyAt Ready; decide, by decide, rfl⟩
theorem witness_ldhi : readyAt 0x51 ⟨2, 65535⟩ 1 id ∧ (65535 : BitVec 22).toNat < 65536 := by
  unfold readyAt Ready; decide
theorem witness_arithmetic : readyAt 0x5B none_ 34 (regs false (-1) 0x80000000 false)
    ∧ readyAt 0x5B none_ 34 (regs false 0 5 false) ∧ readyAt 0x5B none_ 34 (regs false 2 5 false)
    ∧ readyAt 0x5E none_ 1 (regs false 0x80000000 0 false) ∧ readyAt 0x5E none_ 1 (regs false 1 0 false)
    ∧ readyAt 0x5C none_ 34 (regs false 0 5 false) ∧ readyAt 0x5C none_ 34 (regs false 3 5 false) := by
  unfold readyAt Ready; decide
theorem witness_shifts : readyAt 0x63 ⟨2, 31⟩ 1 id ∧ readyAt 0x65 ⟨2, BitVec.ofNat 22 (31 : Fin 32)⟩ 1 id := by
  unfold readyAt Ready; decide
theorem witness_jumps : readyAt 0x70 ⟨2, 1⟩ 2 id ∧ fetched (drv [instrWord 0x70 ⟨2, 1⟩, 0] id) 1 = true := by
  unfold readyAt Ready; decide
theorem witness_calls : readyAt 0x74 ⟨2, 1⟩ 3 (fun s => { s with calls := List.replicate 15 1 })
    ∧ readyAt 0x75 ⟨2, 1⟩ 3 (regs true 0 0 false) ∧ readyAt 0x76 none_ 3 (fun s => { s with calls := [1] }) := by
  unfold readyAt Ready; decide
theorem witness_end : Ready (drv [0x01000000] id) wk 0x01 none_ 1 ∧ (coreOf (drv [0x01000000] id) wk).branch = []
    ∧ (coreOf (drv [0x01000000] id) wk).calls = []
    ∧ (enterTask (partAt (drv [0x01000000] id).crewS 0) (coreAt (drv [0x01000000] id).crewS 0)).task = none := by
  unfold Ready; decide

/-- The hypotheses of `Faults` hold for an instruction. -/
def faultAtStart (op : Nat) (o : Opnd) (f : CoreSt → CoreSt) : Prop :=
  let c := drv [instrWord op o, 0] f
  instrDue c wk (instrWord op o) = true ∧ breakpointAt c wk = none ∧ wk.ecc = none

theorem witness_fault_class : faultAtStart 0x58 ⟨1, 0⟩ id ∧ (1 : BitVec 2) ≠ 0 := by unfold faultAtStart; decide
theorem witness_fault_operand : faultAtStart 0x58 ⟨0, 1⟩ id ∧ faultAtStart 0x38 ⟨2, 4096⟩ id := by
  unfold faultAtStart; decide
theorem witness_fault_bit : faultAtStart 0x0E ⟨1, 0x20000⟩ id ∧ effAddr bitLimit 0 ⟨1, 0x20000⟩ = .error 4 :=
  ⟨by unfold faultAtStart; decide, rfl⟩
theorem witness_fault_word : faultAtStart 0x50 ⟨3, 0⟩ (regs false (-1) 0 false) ∧ effAddr wordLimit (-1) ⟨3, 0⟩ = .error 4 :=
  ⟨by unfold faultAtStart; decide, rfl⟩
theorem witness_fault_target : faultAtStart 0x70 ⟨2, 2⟩ id
    ∧ (partAt (drv [instrWord 0x70 ⟨2, 2⟩, 0] id).crewS 0).code.length ≤ 2 := by unfold faultAtStart; decide
theorem witness_fault_stacks : faultAtStart 0x21 none_ (fun s => { s with branch := List.replicate 32 (true, .or) })
    ∧ faultAtStart 0x23 none_ id ∧ faultAtStart 0x01 none_ (fun s => { s with branch := [(true, .or)] })
    ∧ faultAtStart 0x74 ⟨2, 1⟩ (fun s => { s with calls := List.replicate 16 1 }) ∧ faultAtStart 0x76 none_ id
    ∧ faultAtStart 0x01 none_ (fun s => { s with calls := [1] }) := by unfold faultAtStart; decide
theorem witness_fault_core : replaying (drv [0] id) = false ∧ (0 : Nat) < (drv [0] id).crewS.cores.length := by decide

/-! ### Witnesses: register pages -/

/-- A page header with a cause, no cause masked, in a state. -/
def withPage (c : Chip) (p : Nat) (st : BlkState) (cause : Word) : Chip :=
  { c with pages := [(p, { PageHdr.reset p with st := st, cause := cause })] }

theorem witness_attention : (attnGroup (withPage (base .stop) 0x20 .enabled 1) 1).getLsbD 0 = true
    ∧ (attnSummary (withPage (base .stop) 0x20 .enabled 1)).getLsbD 1 = true := by decide
theorem witness_causes : (31 : Nat) < 32 ∧ bitOf (hdr (setCond (base .stop) 0x20 31 true) 0x20).raw 31 = true
    ∧ bitOf (hdr (setCond (base .stop) 0x20 31 true) 0x20).cause 31 = true := by decide

/-- What refuses a write of `v` to a page's register. -/
def refusal (c : Chip) (r : Requester) (p off : Nat) (v : Word) : Option Nat := writeRefusal c r (regAddr p off) true v

theorem witness_checks_unmapped : refusal (base .stop) .boathouse 0x05 0x008 0 = some 1 := by decide
theorem witness_checks_alignment : writeRefusal (base .stop) .boathouse (regAddr 4 0x044) false 1 = some 2 := by decide
theorem witness_checks_class : refusal (base .stop) .boathouse 4 0x040 0 = some 4 := by decide
theorem witness_checks_isolated : refusal (withPage (base .stop) 0x20 .isolated 0) .boathouse 0x20 0x010 0 = some 6 := by
  decide
theorem witness_checks_draining : refusal (withPage (base .stop) 0x20 .draining 0) .boathouse 0x20 0x010 0 = some 7 := by
  decide
theorem witness_checks_reserved : refusal (base .stop) .boathouse 4 0x044 0x100 = some 8 := by decide
theorem witness_checks_range : refusal (base .stop) .boathouse 4 0x044 0 = some 9 := by decide
theorem witness_checks_mode : refusal (base .run) .boathouse 4 0x044 1 = some 10 := by decide
theorem witness_checks_pass : refusal (base .stop) .boathouse 4 0x044 1 = none := by decide

/-- One session of a class, with its writes so far. -/
def sess (cls writes : Nat) : Session :=
  { port := 3, cls := cls, ip := 5, udp := 6, filter := 0, queueMax := 8, writesMax := 32, writes := writes, refused := 0
    queue := [], last := none, staging := none, attnDue := false }
def withSession (c : Chip) (t : Session) : Chip := { c with hosts := { c.hosts with sessions := [(0, t)] } }

theorem witness_checks_allowance : refusal (withSession (base .stop) (sess 2 32)) (.session 0) 0x20 0x010 0 = some 3 := by
  decide
theorem witness_checks_owner : refusal (withSession (base .stop) (sess 2 31)) (.session 0) 0x20 0x010 0 = some 5 := by
  decide

/-- A write of `v` to a register of page `p` is accepted. -/
def acc (c : Chip) (p off : Nat) (v : Word) : Bool := reaches c .boathouse && (refusal c .boathouse p off v).isNone

theorem witness_accepted : Accepts (base .stop) .boathouse 4 0x044 1 ∧ (4 : Nat) < 128 ∧ (0x044 : Nat) < 4096 := by
  unfold Accepts; decide
theorem witness_refused : reaches (base .stop) .boathouse = true ∧ refusal (base .stop) .boathouse 4 0x040 0 = some 4
    ∧ (4 : Nat) ≠ 3 ∧ ¬(4 = 4 ∧ 0x040 = 0x044) ∧ reaches (base .stop) (.session 0) = false := by decide
theorem witness_header :
    acc (base .stop) 0x60 0x008 (pack [(255, 15, 8), (1, 0, 0)]) = true ∧ (hdr (base .stop) 0x60).st = .disabled
    ∧ acc (withPage (base .stop) 0x34 .enabled 0) 0x34 0x008 (pack [(1, 15, 8)]) = true
    ∧ acc (withPage (base .stop) 0x60 .enabled 0) 0x60 0x008 (pack [(1, 15, 8)]) = true
    ∧ acc (withPage (base .stop) 0x60 .enabled 0) 0x60 0x008 (pack [(1, 15, 8), (1, 0, 0)]) = true
    ∧ acc (withPage (base .stop) 0x10 .enabled 0) 0x10 0x008 (pack [(1, 15, 8)]) = true
    ∧ acc (withPage (base .stop) 0x18 .enabled 0) 0x18 0x008 (pack [(1, 15, 8)]) = true
    ∧ acc (base .stop) 0x34 0x008 (pack [(1, 15, 8)]) = true
    ∧ acc (base .stop) 0x60 0x008 (pack [(1, 15, 8), (1, 4, 4)]) = true
    ∧ acc (base .stop) 0x60 0x010 0xFFFFFFFF = true
    ∧ writeRefusal (withSession (base .stop) (sess 0 0)) (.session 0) (regAddr 0x60 0x01C) true 1 = none := by decide
theorem witness_drains :
    (hdr (withPage (base .stop) 0x34 .draining 0) 0x34).st = .draining
    ∧ workOf (withPage (base .stop) 0x34 .draining 0) 0x34 = 0
    ∧ (hdr (withPage (base .stop) 0x79 .draining 0) 0x79).drainLeft = 0
    ∧ workOf { withPage (base .stop) 0x79 .draining 0 with upd := { UpdSt.reset with queue := [0] } } 0x79 ≠ 0 := by decide

/-! ### Witnesses: mode commands, commissioning and block commands -/

/-- A session of class S writes `v` and is accepted. -/
def accS (c : Chip) (p off : Nat) (v : Word) : Bool :=
  let d := withSession c (sess 0 0)
  reaches d (.session 0) && (refusal d (.session 0) p off v).isNone

/-- A seat holder in RUN whose partner stands by, ready. -/
def pairRun : Chip :=
  { base .run with
    cfg := [(cfgKey 0x28 0x040, 0x40100104)]
    seat := { SeatSt.reset with holds := true, lost := false, partnerHealth := 0x80000000 } }

theorem witness_mode_codes : modeCmdRefusal (base .stop) 12 = some 9 ∧ modeCmdRefusal (base .stop) 0 = some 9
    ∧ modeCmdRefusal (base .stop) 7 = some 10 ∧ modeCmdRefusal (base .stop) 11 = some 10
    ∧ modeCmdRefusal (base .stop) 1 = none ∧ modeCmdRefusal (base .run) 11 = some 11 := by decide
theorem witness_mode_commands :
    accS (base .stop) 4 0x044 1 = true ∧ accS (base .run) 4 0x044 2 = true ∧ accS (base .stop) 4 0x044 3 = true
    ∧ accS (base .config) 4 0x044 4 = true ∧ accS (base .hold) 4 0x044 5 = true ∧ accS (base .hold) 4 0x044 6 = true
    ∧ accS { base .safeHalt with boat := { BoatSt.reset with locked := 0x1F } } 4 0x044 7 = true
    ∧ accS (base .stop) 4 0x044 8 = true
    ∧ accS { base .dormant with boat := { BoatSt.reset with locked := 0x1F } } 4 0x044 9 = true
    ∧ accS { base .stop with upd := { UpdSt.reset with state := 3 } } 4 0x044 10 = true
    ∧ accS pairRun 4 0x044 11 = true := by decide
theorem witness_mode_change : (base .stop).mode.mode ≠ .run
    ∧ (smGet WakeQueue.empty (base .stop).wake.queues 59).recs.length < 1024 := by decide

/-- A crew page with one trim entered (R212). -/
def trimmed : Chip :=
  { base .stop with
    crewS := { CrewSt.reset with prog := some ⟨0, 0, 0, [⟨[0x01000000], [], [], [⟨0, 0, -5, 5⟩], [], []⟩]⟩ }
    cfg := [(cfgKey 0x08 0x184, 5)] }

theorem witness_crew_writes :
    accS trimmed 8 0x124 (pack [(1, 8, 8), (1, 4, 0)]) = true ∧
    accS (base .config) 8 0x10C 1 = true ∧ accS (base .config) 9 0x10C 2 = true
    ∧ accS (base .stop) 8 0x138 1 = true ∧ accS (base .stop) 9 0x134 5 = true
    ∧ accS (base .stop) 9 0x140 1 = true ∧ accS (base .stop) 9 0x15C 1 = true
    ∧ accS (base .stop) 8 0x068 1 = true ∧ accS (base .stop) 8 0x068 0 = true := by decide

/-- No binding, and a loop block of one section. -/
def noBind : Binding := ⟨0, 0, 0, 0, 0⟩
def com0 (no : Nat) : LoopCommon :=
  ⟨no, 1, false, false, false, false, 0, 1, 3, 0, 100, -100, 0, 0, noBind, noBind, noBind, noBind, noBind, noBind,
    noBind, noBind⟩
def loop0 : LoopBlock := ⟨com0 0, .cascade 16384 1 16384 1 [⟨16384, 0, 0, 0, 0, 1, true⟩]⟩
def table0 : LoopBlock := ⟨com0 0, .table 0 16384 1 [0, 0]⟩
def eng0 (b : LoopBlock) (l : LoopSt) : EngSt :=
  { EngSt.reset with set := some ⟨0, 1, [b]⟩, loops := [(0, l)] }

/-- A heat of one lane in the selector. -/
def heat0 : HeatBlock := ⟨0, 1, 0, false, 0, 7, 4, 0, 0, 1, [], noBind, noBind⟩
def engines (c : Chip) : Chip :=
  { c with engines := [(0, eng0 loop0 LoopSt.reset), (8, eng0 table0 LoopSt.reset)]
           sel := { SelSt.reset with set := some (0, 1, [heat0]) } }

theorem witness_engine_writes :
    accS (base .config) 0x10 0x04C 1 = true ∧ accS (base .config) 0x1A 0x04C 1 = true
    ∧ accS (base .config) 0x17 0x04C 2 = true ∧ accS (base .config) 0x1B 0x04C 2 = true
    ∧ accS (base .config) 0x18 0x04C 1 = true ∧ accS (base .config) 0x18 0x04C 2 = true
    ∧ accS { engines (base .stop) with cfg := [(cfgKey 0x10 0x068, 0x0064FF9C)] } 0x10 0x06C (pack [(1, 16, 16), (0, 5, 0)])
      = true
    ∧ accS (engines (base .stop)) 0x1A 0x060 (pack [(1, 31, 31), (0, 27, 24), (255, 23, 16), (65535, 15, 0)]) = true
    ∧ accS (engines (base .stop)) 0x10 0x800 2 = true ∧ accS (engines (base .stop)) 0x1A 0x800 1 = true
    ∧ accS (engines (base .stop)) 0x18 0x800 2 = true ∧ accS (base .stop) 0x18 0x83C 1 = true := by decide
theorem witness_block_commands :
    accS (base .config) 2 0x040 0x008C0008 = true ∧ accS (base .stop) 2 0x060 (pack [(1, 8, 8), (90, 7, 0)]) = true
    ∧ accS (base .stop) 0x7A 0x174 1 = true ∧ accS (base .stop) 0x72 0x108 (pack [(8, 23, 16), (32, 15, 0)]) = true
    ∧ accS (base .stop) 0x72 0x050 (pack [(1, 4, 4), (0, 3, 0)]) = true
    ∧ accS { pairRun with rst := { pairRun.rst with plugId := 0x20000000 } } 0x28 0x050 1 = true
    ∧ accS { base .stop with cfg := [(cfgKey 0x60 0x040, 1)] } 0x60 0x044 1 = true
    ∧ accS (base .stop) 0x6F 0x044 2 = true
    ∧ accS { base .stop with cfg := [(cfgKey 0x60 0x040, 1)], cans := [(0, { CanSt.reset with state := 4 })] } 0x60 0x044 3 = true
    ∧ accS (base .stop) 0x60 0x098 0x20000000 = true := by decide
theorem witness_service_commands :
    accS (base .stop) 0x7C 0x04C (pack [(1, 31, 24), (1, 10, 0)]) = true
    ∧ accS (base .stop) 0x7C 0x04C (pack [(2, 31, 24)]) = true ∧ accS (base .stop) 0x7C 0x04C (pack [(3, 31, 24)]) = true
    ∧ accS (base .stop) 0x7C 0x04C (pack [(4, 31, 24)]) = true ∧ accS (base .stop) 0x7C 0x050 1 = true
    ∧ accS (base .stop) 0x78 0x04C 0x100 = true ∧ accS (base .stop) 0x78 0x04C 1 = true
    ∧ accS (base .stop) 0x78 0x04C 2 = true ∧ accS (base .stop) 0x79 0x044 1 = true
    ∧ accS (base .stop) 0x7B 0x044 1 = true ∧ accS (base .stop) 0x7B 0x044 2 = true := by decide
theorem witness_reset_commands :
    accS (base .stop) 1 0x040 0x00010000 = true ∧ accS (base .stop) 1 0x040 (pack [(1, 10, 8), (0x34, 6, 0)]) = true
    ∧ accS (base .stop) 1 0x040 (pack [(2, 10, 8), (1, 6, 0)]) = true ∧ accS (base .stop) 1 0x040 0x300 = true
    ∧ accS (base .stop) 1 0x040 0x400 = true := by decide

/-! ### Witnesses: the stroke, the cox, loops and heats -/

/-- RUN, the stroke as `f` sets it. -/
def stroke (f : StrokeSt → StrokeSt) : Chip := { base .run with stroke := f (base .run).stroke }
def phase (p : Phase) : Chip := stroke fun k => { k with phase := p }

/-- A task that has not ended drive, and one that stands at a fault. -/
def crewAt (ended faulted : Bool) : CrewSt :=
  { CrewSt.reset with
    cores := [{ CoreSt.reset with task := some 2, ended := ended, faulted := faulted }], run := .running, caught := true }

theorem witness_ticks : (phase .recovery).mode.mode.strokes = true ∧ (base .dormant).mode.mode.strokes = false
    ∧ (phase .drive).stroke.phase ≠ .recovery ∧ (phase .drive).stroke.phase ≠ .catch_ := by decide
theorem witness_phases : (phase .catch_).mode.mode.strokes = true ∧ (phase .drive).stroke.phase = .drive
    ∧ (phase .finish).stroke.phase = .finish ∧ (phase .finish).mode.mode.runs = true
    ∧ (stroke fun k => { k with phase := .finish, haltAtStrobe := true }).stroke.haltAtStrobe = true
    ∧ (let c := modCtl (phase .catch_) .process fun t => { t with haltNext := true }
      c.mode.mode = .run ∧ c.ctlP.haltNext = true)
    ∧ (phase .catch_).ctlP.haltNext = false ∧ (phase .catch_).crewP.run ≠ .halted ∧ (base .hold).mode.mode ≠ .run := by
  decide

/-- Records of the checkpoint of stroke 5 that have not left, of three lines; that of stroke 6 is streaming. -/
def streaming : Chip :=
  { stroke fun k => { k with count := 7 } with
    sent := [⟨.aderoth 0, [0x11, 0, 0, 0, 0, 0, 0, 0, 0, 0, 0, 5]⟩, ⟨.aderoth 1, [0x11, 0, 0, 0, 0, 0, 0, 0, 0, 0, 0, 6]⟩]
    mirror := { MirrorSt.reset with streamed := [(6, 0), (5, 3)] } }

theorem witness_recovery : (stroke fun k => { k with capturing := true }).stroke.capturing = true
    ∧ (phase .drive).stroke.capturing = false ∧ (base .dormant).mode.mode.strokes = false
    ∧ (streaming.mirror.streamed.find? fun e => decide (2 ≤ (streaming.stroke.count - e.1).toNat)) = some (5, 3)
    ∧ 1 ≤ (streaming.sent.filter (isCkptFrame 5)).length
    ∧ (∀ e ∈ (phase .drive).mirror.streamed, ((phase .drive).stroke.count - e.1).toNat < 2) := by decide
theorem witness_watchdog : trips { base .run with crewS := crewAt false false } = true
    ∧ trips { base .run with crewP := crewAt true true } = true
    ∧ trips { base .run with crewP := crewAt false false } = true
    ∧ trips { stroke (fun k => { k with active := 0x1000 }) with crewP := crewAt false false } = false
    ∧ trips { stroke (fun k => { k with active := 0x1000, skipRun := 2 }) with crewP := crewAt false false } = true
    ∧ overran { base .run with crewP := crewAt false false } .process = true
    ∧ endedDrive { base .run with crewP := crewAt true false } .process = true := by decide

/-- SYNC and the state of synchronisation. -/
def synced (m : Word) (x : SyncState) : Chip := stroke fun k => { k with active := m <<< 13, sync := x }

theorem witness_sync : syncMode (synced 2 .free) = 2 ∧ (synced 2 .acquiring).stroke.sync = .acquiring
    ∧ syncMode (synced 0 .free) = 0 ∧ 16 ≤ (stroke fun k => { k with sync := .acquiring, within := 16 }).stroke.within
    ∧ 4 ≤ (stroke fun k => { k with sync := .locked, beyond := 4 }).stroke.beyond
    ∧ ptpSelected (synced 1 .locked) = none ∧ SyncState.holdover ≠ (synced 2 .free).stroke.sync := by decide
theorem witness_offsets : (synced 2 .locked).stroke.sync = .locked ∧ (-1000 : Int) ≤ -1000 ∧ (-10001 : Int) < -10000 := by
  decide
theorem witness_latches : reaches (withSession (base .run) (sess 0 0)) (.session 0) = true
    ∧ reaches (base .run) .boathouse = true
    ∧ (modStroke (base .run) fun x => { x with hiLatch := smPut x.hiLatch 0 (highHalf 5) }).stroke.hiLatch
      = smPut (base .run).stroke.hiLatch 0 (highHalf 5) := by decide

/-- The safety crew in drive. -/
def driving : Chip := { phase .drive with crewS := crewAt false false }
def restored : Chip := { base .run with coxSafety := { CoxSt.reset with restoring := true } }

theorem witness_mismatch : canMismatch driving .safety .write = true ∧ canMismatch driving .process .ecc = true
    ∧ canMismatch (base .dormant) .safety .ecc = false ∧ (EccHit.mk true 0 8).dataMem = true
    ∧ MismatchKind.write ≠ .ecc
    ∧ (let c := modCox driving .safety fun k => { k with faulty := true }
      canMismatch c .safety .ecc = true ∧ (coxSt c .safety).faulty = true)
    ∧ (coxSt driving .process).faulty = false := by decide
theorem witness_faulty : (coxSt driving .safety).faulty = false ∧ driving.mode.mode.strokes = true
    ∧ ¬(Crew.safety = .process) ∧ driving.mode.mode.runs = true ∧ paired driving = false
    ∧ (base .dormant).mode.mode.strokes = false ∧ (base .stop).mode.mode.runs = false := by decide
theorem witness_restores : inCrewReset restored .safety = true ∧ (coxSt restored .safety).faulty = false
    ∧ inCrewReset { base .run with rst := { (base .run).rst with crewResets := [(1, 36)] } } .process = true
    ∧ inCrewReset driving .safety = false := by decide

/-- The engines and the selector at work in a mode. -/
def looping (m : Mode) : Chip :=
  { engines (base m) with pages := [(0x10, { PageHdr.reset 0x10 with st := .enabled })
                                    , (0x18, { PageHdr.reset 0x18 with st := .enabled })
                                    , (0x1A, { PageHdr.reset 0x1A with st := .enabled })] }
def latched (req : Nat) : TickLatch := ⟨0, false, 0, [], [], false, false, req, 0, none, 0⟩

/-- A loop with its tick latched. -/
def sampled (req : Nat) (off stop : Bool) : Chip :=
  let l := { LoopSt.reset with req := req, offDone := off, stopped := stop, latch := some (latched req), secs := [⟨0, 0, 0, 0, 0⟩] }
  { looping .run with engines := [(0, eng0 loop0 l), (8, eng0 table0 l)] }

theorem witness_loop_ticks : sampling (looping .run) 0 = true
    ∧ (eng (looping .run) 0).set = some ⟨0, 1, [loop0]⟩ ∧ ([loop0].map (·.com.no)).Nodup
    ∧ 0 ∈ tickInstants (periodNs (looping .run)) loop0.com.ticks
    ∧ ¬9999 ∈ tickInstants (periodNs (looping .run)) loop0.com.ticks ∧ sampling (looping .stop) 0 = false := by decide
theorem witness_samples : loopBlock (sampled 1 false false) 0 0 = some loop0
    ∧ loopBlock (sampled 1 false false) 8 0 = some table0
    ∧ (loopSt (sampled 1 false false) 0 0).latch = some (latched 1) ∧ completing (sampled 1 false false) 8 = true
    ∧ (loopSt (sampled 1 false false) 0 0).stopped = false ∧ (latched 1).req ≠ 0 ∧ (latched 0).req = 0
    ∧ completing (sampled 1 false false) 0 = true ∧ completing (sampled 0 false false) 1 = false
    ∧ (loopSt (sampled 0 false false) 0 0).offDone = false
    ∧ (loopSt (sampled 0 true false) 8 0).offDone = true ∧ (loopSt (sampled 1 false true) 0 0).stopped = true
    ∧ (loopSt (looping .run) 0 0).latch = none ∧ (loopSt (looping .run) 0 0).stopped = false := by decide
theorem witness_ready : Claims.Ready (sampled 1 false false) 0 0 loop0 (latched 1)
    ∧ Claims.Ready (sampled 0 true false) 8 0 table0 (latched 0) := by
  unfold Claims.Ready; decide
theorem witness_sample_late : (loopSt (sampled 1 false false) 0 0).dmax * 10 < 1 := by decide
theorem witness_limits : (limitOut (-5) 5 9).clampHi = true ∧ (limitOut (-5) 5 (-9)).clampLo = true
    ∧ (limitOut 5 (-5) 0).u = -5 := by decide
theorem witness_residues : (sectionStep 0 ⟨16384, 0, 0, 0, 0, 1, true⟩ ⟨0, 0, 0, 0, 3⟩ 100).2.hit = none
    ∧ (sectionStep 0 ⟨16384, 0, 0, 0, 0, 4, true⟩ ⟨0, 0, 0, 0, 3⟩ 32767).2.hit = some 0
    ∧ (sectionStep 0 ⟨16384, 0, 0, 0, 0, 1, false⟩ ⟨0, 0, 0, 0, 3⟩ 100).1.r = 0 := by decide
/-- G[i] = i. -/
def gains : List Int := (List.range 256).map Int.ofNat

theorem witness_gains : (-32768 : Int) ≤ -32768 ∧ (32767 : Int) ≤ 32767
    ∧ tableGain (gains) (-32768) = 0
    ∧ tableGain (gains) 32767 = 255
    ∧ tableGain (gains.reverse) 256 = 126 := by decide

/-- The heat with a request, its lane delivered. -/
def heating (req mode : Nat) (lane : LaneSt) : Chip :=
  { looping .run with
    sel := { SelSt.reset with set := some (0, 1, [heat0]), heats := [(0, { HeatSt.reset with
      req := req, mode := mode, started := true, deciding := some 0, lanes := [lane] })] } }
def arrived : LaneSt := ⟨none, some ⟨12, 12, false, false, 0⟩, none, false, false⟩

theorem witness_decisions : heatBlock (heating 0 0 arrived) 0 = some heat0 ∧ deciding (heating 0 0 arrived) = true
    ∧ working (heating 0 0 arrived) 0x18 = true ∧ (heat (heating 0 0 arrived) 0).deciding ≠ none
    ∧ (heating 0 0 arrived).mode.mode.runs = true ∧ (heat (looping .run) 0).deciding = none
    ∧ (heat (heating 0 0 arrived) 0).req = 0 ∧ (heat (heating 2 1 arrived) 0).req = 2
    ∧ (heat (heating 1 1 arrived) 0).req ≠ 0 ∧ (heat (heating 1 1 arrived) 0).mode ≠ 0
    ∧ (heat (heating 1 1 arrived) 0).warm = false ∧ heatBlock (base .run) 0 = none
    ∧ working (base .run) 0x18 = false ∧ (base .stop).mode.mode.runs = false := by decide
theorem witness_leader : (([(0, 9), (3, 4)] : List (Nat × Int)).map (·.1)).Pairwise (· < ·)
    ∧ chooseLeader [(0, 9), (3, 4)] (some 0) 5 = some (0, 9) ∧ chooseLeader [(0, 9), (3, 4)] (some 0) 4 = some (3, 4)
    ∧ chooseLeader [(0, 9), (3, 9)] none 5 = some (0, 9) := by decide
theorem witness_lane : (⟨some ⟨12, 12, false, false, 0⟩, none, none, true, false⟩ : LaneSt).timedOut = true
    ∧ deciding (base .stop) = false := by decide

/-! ### Witnesses: safety and Zwistra -/

/-- RUN with fields of the safety block as `f` sets them. -/
def safe (f : SafetySt → SafetySt) : Chip := { base .run with safety := f (base .run).safety }
def input (closed stuck : Bool) : Chip :=
  safe fun x => { x with rstIn := { ResetIn.reset with closed := closed, stuck := stuck } }

theorem witness_inputs :
    pairAgrees (safe fun x => { x with chans := [(0, { SafeCh.reset with level := true })] }) 0 = false
    ∧ pairAgrees (base .run) 0 = true
    ∧ (safeOut (safe fun x => { x with outs := [(3, { SafeOut.reset with high := true, low := true })] }) 3).high = true
    ∧ (safeOut (base .run) 3).high = false := by decide
theorem witness_discrepancy : (2 : Nat) ≠ 3
    ∧ (pairFault (pairRecheck (safe fun x => { x with pairs := [(0, ⟨true, true, false⟩)] }) 0) 0).present = false
    ∧ (pairFault (pairRecheck (safe fun x => { x with
        pairs := [(0, ⟨true, true, false⟩)], chans := [(0, { SafeCh.reset with level := true })] }) 0) 0).present = true := by
  decide
theorem witness_reset_input : (input true false).safety.rstIn.closed = true ∧ (input true false).safety.rstIn.stuck = false
    ∧ (input true true).safety.rstIn.stuck = true ∧ (input false false).safety.rstIn.closed = false
    ∧ (500 : Nat) ≤ 500 ∧ (5000 : Nat) ≤ 5000 ∧ 499 < 500 ∧ 5000 < 5001
    ∧ (input true false).mode.mode.strokes = true ∧ (base .dormant).mode.mode.strokes = false := by decide

/-- Group 0 with pair 0 and output 0, in a state; its pair without demand when `quiet`. -/
def grouped (cfgw : Word) (st : Nat) (quiet first : Bool) : Chip :=
  { safe (fun x => { x with
      groups := [(0, { GroupSt.reset with state := st })], firstTf := first
      caughtDemand := if quiet then 0 else 1 }) with
    cfg := [(cfgKey 0x20 0x100, cfgw), (cfgKey 0x20 0x540, 0x80000000)]
    pages := [(0x20, { PageHdr.reset 0x20 with st := .enabled })] }
def gstate (faults : List (Nat × Nat)) (rst : Bool) (c : Chip) : Nat := (group (evalGroup faults rst 0 c) 0).state

theorem witness_groups :
    gstate [] false (grouped 0x00010100 2 true false) = 0 ∧ gstate [(1, 0)] false (grouped 0x80010100 2 true false) = 4
    ∧ gstate [] false (grouped 0x80010100 0 true true) = 1 ∧ gstate [] false (grouped 0x80010100 0 true false) = 0
    ∧ gstate [] false (grouped 0x80010100 1 false false) = 1 ∧ gstate [] false (grouped 0x80010100 1 true false) = 2
    ∧ gstate [] false (grouped 0x80010100 2 false false) = 3 ∧ gstate [] false (grouped 0x80010100 2 true false) = 2
    ∧ gstate [] true (grouped 0xC0010100 3 false false) = 3 ∧ gstate [] true (grouped 0xC0010100 3 true false) = 2
    ∧ gstate [] false (grouped 0xC0010100 3 true false) = 3 ∧ gstate [] true (grouped 0x80010100 4 true false) = 1
    ∧ gstate [] false (grouped 0x80010100 4 true false) = 4 := by decide
theorem witness_outputs :
    (safeOut (outCommand { grouped 0x80010100 2 true false with latch := ⟨[(0, true)], []⟩ } 0) 0).nextHigh = true
    ∧ (safeOut (outCommand { grouped 0x80010100 3 true false with latch := ⟨[(0, true)], []⟩ } 0) 0).nextHigh = false := by
  decide

/-- A 60-byte frame on network A from address 7, connection 2, SEQ 5 and EPOCH 1, with a CRC. -/
def zw (crc : Word) : List Byte :=
  [0x5A, 0x57, 1, 0x0A, 0, 7, 2, 0, 0, 0, 0, 1, 0, 0, 0, 5] ++ List.replicate 40 0
    ++ [crc.extractLsb' 24 8, crc.extractLsb' 16 8, crc.extractLsb' 8 8, crc.extractLsb' 0 8]
def goodZw : List Byte := zw (zwCrc 0 (zwPdu (zw 0)))

/-- Connection 0 receives from there, or sends. -/
def zwChip (w : Word) (z : ZwConn) : Chip :=
  { withPage (base .run) 0x21 .enabled 0 with
    cfg := [(cfgWKey 0x21 0 0x04C, w)], zw := [(0, z)] }
def receiving (z : ZwConn) : Chip := zwChip 0x80070002 z

theorem witness_zwistra_kinds : enabled (base .run) 0x21 = false ∧ enabled (receiving ZwConn.reset) 0x21 = true
    ∧ zwShapeOk false goodZw = false ∧ zwShapeOk true goodZw = true
    ∧ zwMatch (withPage (base .run) 0x21 .enabled 0) goodZw = none
    ∧ zwOwn (withPage (base .run) 0x21 .enabled 0) goodZw = none
    ∧ zwMatch (receiving ZwConn.reset) goodZw = some 0 := by decide +kernel
theorem witness_zwistra_own :
    zwOwn { zwChip 0xC0000002 ZwConn.reset with rst := { (base .run).rst with plugId := 7 } } goodZw = some 0 := by
  decide +kernel
theorem witness_zwistra_crc : (zwCrc (zwCfg (receiving ZwConn.reset) 0 1) (zwPdu goodZw)).toNat = beAt goodZw 0x38 4
    ∧ ¬(zwCrc (zwCfg (receiving ZwConn.reset) 0 1) (zwPdu (zw 1))).toNat = beAt (zw 1) 0x38 4 := by decide +kernel
theorem witness_zwistra_order : beAt goodZw 8 4 = 1 ∧ beAt goodZw 0xC 4 = 5
    ∧ newerSeq 5 (zwConn (receiving { ZwConn.reset with seen := true, epoch := 1, seq := 5 }) 0).seq = false
    ∧ beAt goodZw 8 4 < (zwConn (receiving { ZwConn.reset with epoch := 2 }) 0).epoch.toNat
    ∧ (zwConn (receiving ZwConn.reset) 0).seen = false
    ∧ (beAt goodZw 8 4, beAt goodZw 0xC 4) ∈ (zwConn (receiving { ZwConn.reset with dropped := [(1, 6), (1, 5)] }) 0).dropped
    ∧ newerSeq 6 5 = true ∧ newerSeq 4 5 = false := by decide

/-- The time of arrival is not known, but it is not before T0 (R361, check 6). -/
theorem witness_zwistra_aged (free : Nat) :
    let z := goodZw.set 7 2
    fld (1000 : Word) 15 0 ≠ 0 ∧ (beAt z 7 1).testBit 1 = true ∧ (synced 0 .locked).stroke.sync = .locked
    ∧ beAt z 0x10 8 + fld (1000 : Word) 15 0 * 1000000 < 2000000000 + free := by
  refine ⟨by decide, by decide, by decide, ?_⟩
  have h : beAt (goodZw.set 7 2) 0x10 8 + fld (1000 : Word) 15 0 * 1000000 = 1000000000 := by decide +kernel
  omega
theorem witness_zwistra_windows :
    let w := { ZwConn.reset with window := some (true, zwPdu goodZw, 3) }
    (zwConn (receiving w) 0).window = some (true, zwPdu goodZw, 3) ∧ bitOf (zwCfg (receiving w) 0 0) 29 = false
    ∧ bitOf (zwCfg (zwChip 0xA0070002 w) 0 0) 29 = true ∧ (zwConn (receiving ZwConn.reset) 0).window = none
    ∧ zwState (receiving { ZwConn.reset with state := 2 }) 0 = 2 ∧ zwSends (receiving ZwConn.reset) 0 = false
    ∧ zwState (receiving ZwConn.reset) 0 ≠ 2 ∧ zwSends (zwChip 0xC0000002 ZwConn.reset) 0 = true
    ∧ beAt (zwPdu goodZw) 4 4 = beAt (zwPdu (goodZw.set 20 1)) 4 4 ∧ beAt (zwPdu goodZw) 8 4 = beAt (zwPdu (goodZw.set 20 1)) 8 4
    ∧ zwPdu goodZw ≠ zwPdu (goodZw.set 20 1) := by decide +kernel
theorem witness_zwistra_acceptances : (ZwConn.reset).fault = false
    ∧ (zwConn (zwAccept (receiving { ZwConn.reset with fault := true, equalRun := 15 }) 0 (zwPdu goodZw) false 0) 0).fault
      = false := by decide +kernel

/-! ### Witnesses: the pair -/

/-- A record with its CRC, EPOCH 9 and STROKE 6 (R394). -/
def record (type : Byte) (payload : List Byte) : List Byte :=
  let head := [type, 0, BitVec.ofNat 8 (payload.length / 256), BitVec.ofNat 8 payload.length, 0, 0, 0, 9, 0, 0, 0, 6]
  let crc := crc32c (head ++ payload)
  head ++ [crc.extractLsb' 24 8, crc.extractLsb' 16 8, crc.extractLsb' 8 8, crc.extractLsb' 0 8] ++ payload
def parsed (payload : List Byte) : Option ARec := some ⟨9, 6, payload⟩
def zeros (n : Nat) : List Byte := List.replicate n 0

/-- One module of a pair, its partner compatible, in a mode. -/
def pairChip (m : Mode) (f : SeatSt → SeatSt) : Chip :=
  { withPage (base m) 0x28 .enabled 0 with
    cfg := [(cfgKey 0x28 0x040, 0x40100104)]
    seat := f { SeatSt.reset with
      laneUp := 1, lost := false, partner := some ⟨0, 1, 0, 0, 0x41, 0, 0, 0, 0, 0, 0⟩ } }

theorem witness_link : pairOn (pairChip .standby id) = true ∧ (pairChip .standby id).seat.laneUp ≠ 0
    ∧ pairOn (base .stop) = false ∧ readRecord 0x02 [1] = none := by decide
/-- A record with a good CRC is read whole, whatever its payload; so every kind of record is. -/
theorem witness_record (type : Byte) (payload : List Byte) (h : payloadLength type.toNat = some payload.length)
    (hl : payload.length < 65536) : readRecord type.toNat (record type payload) = parsed payload := by
  have len : payload.length / 256 % 256 * 256 + payload.length % 256 = payload.length := by omega
  simp only [readRecord, record, parsed, beAt, slice, beVal, List.cons_append, List.nil_append, List.drop_succ_cons,
    List.drop_zero, List.take_succ_cons, List.take_zero, List.reverse_cons, List.reverse_nil, leVal, h]
  simp
  omega
theorem witness_record_kinds : [1, 2, 3, 4, 0x10, 0x11, 0x12, 0x20, 0x21, 0x22].map payloadLength
    = [some 32, some 16, some 16, some 16, some 32, some 272, some 32, some 16, some 16, some 16] := by decide

/-- A seat holder that hands the seat over in recovery. -/
def handing : Chip :=
  { pairChip .run (fun x => { x with holds := true, handover := true, offers := 1, handoverAfter := 5 }) with
    stroke := { StrokeSt.reset with phase := .recovery, count := 5 } }

theorem witness_records : (pairChip .standby id).seat.holds = false
    ∧ (pairChip .run fun x => { x with holds := true }).seat.holds = true
    ∧ (pairChip .standby id).pairCnt.acked ≠ some 6 ∧ BitVec.ofNat 32 (beAt ((zeros 16).set 3 6) 0 4) ≠ 0
    ∧ (pairChip .standby id).mode.mode = .standby ∧ (pairChip .standby id).backup.epoch ≤ 9
    ∧ handing.seat.handover = true ∧ handing.seat.holds = true ∧ handing.mode.mode.runs = true
    ∧ handing.stroke.phase = .recovery ∧ handing.seat.offers ≠ 0 ∧ handing.seat.handoverAfter = handing.stroke.count
    ∧ BitVec.ofNat 32 (beAt ((zeros 16).set 7 5) 4 4) = handing.stroke.count
    ∧ compatible (pairChip .standby id) = true ∧ compatible (base .stop) = false := by decide

/-- A checkpoint without lines, of the stroke of the records. -/
def ckpt : Ckpt := ⟨6, 0, 0, 0, false, [], 0, 0, true, some 0⟩
def mirrored (m : Mode) (f : MirrorSt → MirrorSt) : Chip :=
  { pairChip m id with mirror := f MirrorSt.reset }

theorem witness_checkpoints : takesCkpt (mirrored .standby id) = true ∧ takesCkpt (mirrored .run id) = false
    ∧ ckpt.headed = true ∧ ckpt.ended = some ckpt.count ∧ ckpt.lines.length = ckpt.count
    ∧ { ckpt with ended := none }.ended ≠ some ckpt.count
    ∧ (mirrored .standby fun x => { x with anyBase := true }).mirror.anyBase = true
    ∧ (mirrored .standby id).mirror.lastComplete ≠ some ckpt.base ∧ (mirrored .standby id).mirror.anyBase = false
    ∧ (mirrored .standby id).mirror.replay = none ∧ (mirrored .standby id).mirror.lastComplete ≠ some 6
    ∧ (rxDeadline (gotCkptRecord (mirrored .standby fun x => { x with lastComplete := some 6 })) 6).mirror.lastComplete
      = some 6
    ∧ rxOf (mirrored .standby fun x => { x with rx := [ckpt] }) 6 = ckpt
    ∧ (rxDeadline (mirrored .standby fun x => { x with rx := [ckpt] }) 8).mirror.rx = []
    ∧ (rxDeadline (mirrored .standby fun x => { x with rx := [ckpt] }) 7).mirror.rx = [ckpt] := by decide +kernel

/-- A standby in catch. -/
def judging (f : SeatSt → SeatSt) : Chip :=
  { pairChip .standby f with stroke := { StrokeSt.reset with phase := .catch_ } }

theorem witness_lease : (judging id).stroke.phase = .catch_ ∧ (judging fun x => { x with leaseHeard := true }).seat.leaseHeard
    ∧ (judging fun x => { x with leaseSeen := true }).seat.leaseSeen ∧ (judging id).seat.leaseSeen = false
    ∧ (pairChip .run id).mode.mode ≠ .standby
    ∧ leaseStrokes (judging id) + 1 ≤ (judging fun x => { x with leaseMiss := 5 }).seat.leaseMiss
    ∧ (judging id).seat.leaseMiss < leaseStrokes (judging id) + 1 ∧ holdsCkpt (judging id) = false
    ∧ holdsCkpt (mirrored .standby fun x => { x with whole := true, lastComplete := some 6, applyAge := 0 }) = true
    ∧ leaseStrokes (judging id) + 1 ≤ (judging fun x => { x with quiet := 5, outDriven := true }).seat.quiet
    ∧ (judging id).seat.outDriven = false := by decide
theorem witness_autostart : autostartDue { pairChip .standby (fun x => { x with fromConfig := true, waited := 5 }) with
      cfg := [(cfgKey 0x28 0x040, 0x40100104), (cfgKey 0x79 0x058, 0x80000000)] } = true
    ∧ autostartDue (judging id) = false := by decide

/-- A standby that replays a recorded stroke, its cores as given. -/
def replaying_ (ck : Ckpt) (f : CrewSt → CrewSt) : Chip :=
  { mirrored .standby (fun x => { x with replay := some ck }) with crewS := f CrewSt.reset }

theorem witness_mirror : (mirrored .standby fun x => { x with done := [ckpt] }).mirror.done = [ckpt]
    ∧ (mirrored .standby fun x => { x with done := [ckpt] }).mirror.replay = none
    ∧ (mirrored .standby id).mirror.done = [] ∧ ckpt.paddle = false ∧ { ckpt with paddle := true }.paddle = true
    ∧ replayEnded (replaying_ ckpt id) = true
    ∧ (replaying_ ckpt fun k => { k with cores := [{ CoreSt.reset with faulted := true }] }).crewS.cores.any (·.faulted)
    ∧ replayEnded (replaying_ ckpt fun _ => crewAt false false) = false
    ∧ (replaying_ ckpt fun _ => crewAt false false).crewS.cores.any (·.faulted) = false := by
  decide
theorem witness_paddle_start :
    let c := { mirrored .standby (fun x => { x with done := [{ ckpt with paddle := true }] }) with
      stroke := { StrokeSt.reset with phase := .recovery } }
    c.mode.mode = .standby ∧ c.mirror.replay = none ∧ c.stroke.phase = .recovery
      ∧ c.mirror.done = [{ ckpt with paddle := true }]
      ∧ (mirrored .standby id).stroke.phase ≠ .recovery := by decide
theorem witness_paddle_same : ∃ k : Ckpt, paddleDiff (replaying_ k id) k = none := by
  refine ⟨{ ckpt with latchS := latchCrc Img.reset, latchP := latchCrc Img.reset }, ?_⟩
  have h : ∀ k : Ckpt, replayLines (replaying_ k id) = [] := by
    intro k
    simp only [replayLines, List.filterMap_eq_nil_iff]
    intro l _
    have m : ∀ cr i, cleanMem (replaying_ k id) cr i = (coreAt (crewSt (replaying_ k id) cr) i).mem := by
      intro cr i; cases cr <;> rfl
    simp [m]
  have crc : ∀ (k : Ckpt) (cr : Crew), latchCrcOf (crewSt (replaying_ k id) cr)
      ((crewSt (replaying_ k id) cr).cores.map (·.mem)) = latchCrc Img.reset := by
    intro k cr; cases cr <;> rfl
  have hs := fun k => crc k .safety
  have hp := fun k => crc k .process
  simp only [crewSt] at hs hp
  simp only [paddleDiff, h, hs, hp]
  simp [ckptChanges, ckpt]
theorem witness_paddle_differs : ∃ k : Ckpt, (paddleDiff (replaying_ k id) k).isSome := by
  refine ⟨{ ckpt with latchS := latchCrc Img.reset + 1 }, ?_⟩
  have crc : ∀ k : Ckpt, latchCrcOf (replaying_ k id).crewS ((replaying_ k id).crewS.cores.map (·.mem)) = latchCrc Img.reset :=
    fun _ => rfl
  simp [paddleDiff, crc]

/-- TAKEOVER with the latest checkpoint applied. -/
def takes (epoch : Word) (by_ : Bool) : Chip :=
  { mirrored .takeover (fun x => { x with whole := true, lastComplete := some 6, applyAge := 0 }) with
    seat := { (pairChip .takeover id).seat with byHandover := by_ }
    backup := { BackupSt.zero with epoch := epoch } }

theorem witness_takeover : (takes 0 true).coxSafety.faulty = false ∧ (takes 0 true).coxProcess.faulty = false
    ∧ (takes 0 false).mode.mode = .takeover ∧ (takes 0 false).mirror.replay = none
    ∧ holdsCkpt (applyAll (takes 0 false)) = true ∧ holdsCkpt (applyAll (mirrored .takeover id)) = false
    ∧ (takes 0 false).seat.takeDue = false
    ∧ (applyAll (takes 0 false)).seat.byHandover = false ∧ exhausted (applyAll (takes 0 false)) = false
    ∧ exhausted (applyAll (takes 0xFFFFFFFF false)) = true ∧ (applyAll (takes 0 true)).seat.byHandover = true := by decide
theorem witness_seat_tick : (takes 5 false).mode.mode = .takeover ∧ crewFaulty (takes 5 false) = false
    ∧ (takes 5 false).seat.takeDue = false
    ∧ (modSeat (takes 5 false) fun x => { x with takeDue := true }).seat.takeDue = true := by decide
theorem witness_epochs : exhausted (takes 0xFFFFFFFE false) = false ∧ exhausted (takes 0xFFFFFFFF false) = true := by decide

/-- A seat holder of epoch 0 in a mode. -/
def holder (m : Mode) : Chip := pairChip m fun x => { x with holds := true }

theorem witness_newer : (holder .run).seat.takeEpoch = none ∧ paired (holder .hold) = true
    ∧ (holder .stop).seat.holds = true ∧ (holder .safeHalt).backup.epoch < 1 ∧ ¬(holder .run).backup.epoch < 0 := by decide

/-- A beacon of the side given in a role, EPOCH 9 (R388). -/
def beacon (side role : Byte) : List Byte := [0x53, 0x42, 1, side, 0, 0, role, 0, 0, 0, 0, 9, 0, 0, 0, 0]
def hearing (f : SeatSt → SeatSt) : Chip :=
  { pairChip .run f with pages := [(0x28, { PageHdr.reset 0x28 with st := .enabled })
                                   , (netPage 0, { PageHdr.reset (netPage 0) with st := .enabled })] }

theorem witness_beacons : pairOn (hearing id) = true ∧ netServes (hearing id) 0 = true
    ∧ beaconOk (hearing id) (beacon 0 1) = true ∧ beaconOk (hearing id) (beacon 1 2) = true
    ∧ beaconOk (hearing id) (beacon 1 1) = true ∧ beaconOk (hearing id) (beacon 2 1) = false
    ∧ beAt (beacon 0 1) 3 1 = b2n (sideB (hearing id)) ∧ beAt (beacon 1 2) 3 1 ≠ b2n (sideB (hearing id))
    ∧ beAt (beacon 1 2) 6 1 = 2 ∧ beAt (beacon 1 1) 6 1 = 1
    ∧ (hearing fun x => { x with holds := true }).seat.holds = true := by decide
theorem witness_pair_commands :
    (let c := { handing with mirror := { MirrorSt.reset with streamed := [(6, 0)] }, stroke := { handing.stroke with count := 6 } }
     c.seat.handover = true ∧ c.seat.holds = true ∧ c.mode.mode.runs = true ∧ c.stroke.phase = .recovery
     ∧ c.stroke.capturing = false ∧ c.stroke.count ≠ c.seat.handoverAfter ∧ c.mirror.streamed.head?.map (·.1) = some c.stroke.count
     ∧ c.seat.offers < 16)
    ∧ (handing.mirror.streamed.head?.map (·.1) ≠ some handing.stroke.count)
    ∧ lanesWork (holder .run) = true ∧ lanesWork (base .boot) = false ∧ (holder .run).seat.laneUp.getLsbD 1 = false
    ∧ (holder .run).seat.partner.isSome = true ∧ (holder .run).seat.lost = false
    ∧ leaseStrokes (holder .run) ≤ (hearing fun x => { x with silent := 4 }).seat.silent
    ∧ (base .run).seat.partner = none ∧ (judging id).mode.mode = .standby ∧ (base .run).mode.mode ≠ .standby := by decide
theorem witness_offers :
    let c := { takes 0 false with
      mode := (judging id).mode
      boat := { BoatSt.reset with rails := [(0, 1)] }
      seat := (judging id).seat
      mirror := { (takes 0 false).mirror with lastComplete := some 5, lastStroke := 5, paddleOk := true } }
    pairOn c = true ∧ c.seat.laneUp ≠ 0 ∧ c.mode.mode = .standby ∧ exhausted c = false ∧ c.mirror.replay = none
    ∧ c.mirror.lastComplete = some (BitVec.ofNat 32 (beAt ((zeros 16).set 3 5) 0 4))
    ∧ ready c = true ∧ ready (applyAll c) = true ∧ (applyAll c).mirror.lastStroke = 5 ∧ 50000 < 50001 := by decide

/-! ### Witnesses: digital channels and islands -/

theorem witness_field_clock : fieldRests (base .dormant).mode.mode = true ∧ fieldRests (base .run).mode.mode = false
    ∧ (base .config).mode.mode = .config ∧ (base .run).mode.mode ≠ .config := by decide

/-- Channel 0 with DIG_CFGA, its stage as `f` sets it. -/
def dig (w : Word) (f : DigCh → DigCh) : Chip :=
  { base .run with
    cfg := [(cfgKey 0x30 0x100, w), (cfgKey 0x30 0x200, 0x80100000)]
    dig := { DigSt.reset with chans := [(0, f DigCh.reset)] } }

theorem witness_channels : digMode (dig 0x42000000 id) 0 = 1 ∧ digOwEn (dig 0x42000000 id) 0 = true
    ∧ (digCh (dig 0x42000000 id) 0).level = false ∧ digMode (dig 0x82000000 id) 0 = 2 ∧ gangMaster (dig 0x82000000 id) 0 = 0
    ∧ (digFs (dig 0x82000000 id) 0).held = false ∧ (digFs (dig 0x82000000 id) 0).state ≠ 2 ∧ stageOn (dig 0x82000000 id) 0 = false
    ∧ stageOn (dig 0x80000000 fun x => { x with commit := true }) 0 = true ∧ (digCh (dig 0x80000000 id) 0).overtemp = false
    ∧ digOwEn (dig 0 id) 0 = false ∧ digMode (dig 0 id) 0 ≠ 2 := by decide

/-- Output 0 off, edges noted at the last strobe. -/
def edges (w : Word) (on : List Nat) (off : SMap Nat) (short : Bool) : Chip :=
  { dig w (fun x => { x with short := short }) with
    dig := { (dig w fun x => { x with short := short }).dig with onEdge := on, offEdge := off } }

theorem witness_readback : isOutput (edges 0x80000000 [] [] false) 0 = true ∧ outputOn (edges 0x80000000 [] [] false) 0 = false
    ∧ readbackShort (edges 0x80000000 [] [] false) 0 = false ∧ readbackCross (edges 0x80000000 [] [] false) 0 = false
    ∧ (edges 0x80000000 [0] [] false).dig.onEdge.filter (· != 0) = []
    ∧ (edges 0x80000000 [0, 48] [] false).dig.onEdge.filter (· != 0) = [48]
    ∧ digPaired (edges 0x80000000 [] [] false) 0 = false ∧ digPaired (edges 0x88000000 [] [] false) 0 = true
    ∧ readbackShort (edges 0x80000000 [] [(55, 0)] true) 0 = true ∧ turnedOff (edges 0x80000000 [] [(55, 0)] true) 55 = true
    ∧ turnedOff { edges 0x80000000 [] [(55, 0)] true with stroke := { StrokeSt.reset with t0 := 90000000 } } 55 = false
    ∧ isOutput (edges 0x40000000 [] [] false) 0 = false ∧ isOutput (edges 0 [] [] false) 55 = true := by decide

/-- Output 0 off and crossed with another, safety output 0 on or off. -/
def crossed (w : Nat) (on : Bool) : Chip :=
  { dig 0x80000000 (fun x => { x with cross := true, with_ := w }) with
    safety := { SafetySt.reset with outs := [(0, { SafeOut.reset with high := on })] } }

theorem witness_crossings : outputOn (crossed 255 false) 0 = false ∧ readbackCross (crossed 255 false) 0 = true
    ∧ readbackShort (crossed 255 false) 0 = false ∧ readbackWith (crossed 255 false) 0 = 255
    ∧ readbackWith (crossed 48 true) 0 = 48 ∧ outputOn (crossed 48 true) 48 = true ∧ outFaulty (crossed 48 true) 0 = false
    ∧ outputOn (crossed 48 false) 48 = false := by decide

/-- Field supply 0 in a state. -/
def supply (st : Nat) : Chip := { base .run with dig := { DigSt.reset with fs := [(0, ⟨st, 2400, false⟩)] } }

theorem witness_supplies : (digFs (supply 0) 0).state = 0 ∧ (digFs (supply 1) 0).state = 1 ∧ (digFs (supply 2) 0).state = 2
    ∧ (1499 : Nat) < 1500 ∧ (1500 : Nat) ≤ 1500 ∧ (1919 : Nat) < 1920 ∧ (1950 : Nat) ≤ 1950 ∧ (1949 : Nat) < 1950
    ∧ ((3 : Fin 8) : Nat) / 4 + 2 = 2 := by decide
theorem witness_frequency : freqOn (dig 0x40000000 id) 0 = true ∧ freqOn (dig 0x80000000 id) 0 = false
    ∧ 0 < fld (freqCfg (dig 0x40000000 id) 0) 23 16 ∧ (4999 : Nat) < 5000 ∧ (5000 : Nat) ≤ 5000 := by decide
theorem witness_frequency_value : (digFreq (ran (.freqPeriod 0 5000) (dig 0x40000000 id)) 0).period = 5000
    ∧ (digFreq (ran (.freqPeriod 0 5000) (dig 0x40000000 id)) 0).fault = false
    ∧ (digFreq (ran (.freqPeriod 0 4999) (dig 0x40000000 id)) 0).fault = true := by
  decide +kernel

/-- Island 0 in a role, as `f` sets it: 1 source, 2 sink, 3 input. -/
def isle (m : Mode) (role : Nat) (f : Island → Island) : Chip :=
  { base m with
    cfg := [(cfgKey 0x34 0x100, BitVec.ofNat 32 (role * 2 ^ 30))]
    islands := [(0, f Island.reset)]
    isl := { IslSt.reset with bufs := [(0, { IslBuf.reset with lastDown := some ⟨.pass, true⟩ })] } }
def tier (n : Nat) (nA : Int) : Island → Island := fun x => { x with tier := n, decisions := List.replicate 10 nA }

theorem witness_tiers : loopPowered (isle .run 3 (tier 3 0)) 0 = true ∧ loopPowered (isle .run 1 id) 0 = false
    ∧ (island (isle .run 3 (tier 3 0)) 0).tier = 3 ∧ (island (isle .run 2 (tier 2 0)) 0).tier = 2
    ∧ (island (isle .run 2 (tier 1 0)) 0).tier < 2 ∧ tenAtLeast (tier 1 3000000 Island.reset) 3000000 = true
    ∧ tenAtLeast (tier 1 2000000 Island.reset) 3000000 = false ∧ tenAtLeast (tier 1 2000000 Island.reset) 2000000 = true
    ∧ tenAtLeast (tier 0 1300000 Island.reset) 1300000 = true ∧ tenAtLeast Island.reset 1300000 = false
    ∧ (island (isle .run 2 (tier 0 1300000)) 0).tier = 0
    ∧ 5 ≤ (island (isle .run 3 fun x => { x with tier := 1, onCap := 5 }) 0).onCap
    ∧ (1899999 : Int) < 1900000 ∧ (2899999 : Int) < 2900000 ∧ (2000000 : Int) ≤ 2899999 ∧ (1999999 : Int) < 2000000
    ∧ 3 < (island (isle .run 2 (tier 4 0)) 0).tier := by
  decide
theorem witness_loop_supply : islRole (isle .run 1 id) 0 = 1 ∧ islRole (isle .run 3 id) 0 ≠ 1
    ∧ (isle .activate 2 id).mode.mode = .activate ∧ islRole (isle .activate 2 id) 0 ≠ 0
    ∧ (islBuf (isle .activate 2 id) 0).lastDown = some ⟨.pass, true⟩ ∧ islRole (base .activate) 0 = 0
    ∧ (isle .run 2 id).mode.mode ≠ .activate := by decide
theorem witness_islands :
    (island (isle .run 2 fun x => { tier 3 0 x with down := [⟨.direction, true⟩] }) 0).down = [⟨.direction, true⟩]
    ∧ (island (isle .run 2 (tier 3 0)) 0).tier ≠ 0 ∧ (island (isle .run 2 id) 0).tier = 0
    ∧ (island (isle .run 2 id) 0).down = [] ∧ islOutput (isle .run 2 id) 0 = true ∧ islOutput (isle .run 3 id) 0 = false
    ∧ islRole (isle .run 2 id) 0 ≠ 0 ∧ (island (isle .run 2 fun x => { tier 3 0 x with next := some .pass }) 0).next = some .pass
    ∧ (island (isle .run 2 fun x => { tier 3 0 x with next := some (.regulate 5) }) 0).next = some (.regulate 5)
    ∧ (island (isle .run 2 (tier 3 0)) 0).next = none ∧ (island (isle .run 2 (tier 3 0)) 0).heard = false
    ∧ (island (isle .run 2 (tier 3 0)) 0).drive = .none ∧ complianceHeld (isle .run 2 id) 0 = false
    ∧ IslDrive.none ≠ .pass ∧ islRole (isle .run 3 id) 0 = 3
    ∧ (island (isle .run 2 fun x => { tier 3 0 x with drive := .pass }) 0).drive = .pass := by decide

/-- A frame from the island. -/
def frameUp (brown : Bool) : UpFrame := ⟨brown, 4000000, 12, 0, 3, false, false, some 1⟩
def sentUp (role : Nat) (brown : Bool) : Chip := isle .run role fun x => { tier 3 0 x with up := [frameUp brown] }

theorem witness_island_frames : (island (sentUp 3 true) 0).up = [frameUp true] ∧ (frameUp true).brownout = true
    ∧ (island (sentUp 2 false) 0).up = [frameUp false] ∧ (frameUp false).brownout = false ∧ (frameUp false).failed ≠ none
    ∧ (island (isle .run 3 id) 0).up = [] ∧ islRole (base .run) 0 = 0 := by decide

/-! ### Witnesses: remote links, CAN and serial ports -/

/-- Link 0 expects station 0, three misses lose it; its state as `f` sets it. -/
def linked (m : Mode) (up : Bool) (f : StnSt → StnSt) : Chip :=
  { withPage (base m) 0x40 .enabled 0 with
    cfg := [(cfgKey 0x40 0x040, 0x00300001)]
    links := [(0, { LinkSt.reset with up := up, stns := [(0, f StnSt.reset)] })] }
def stnIs (n : Nat) : StnSt → StnSt := fun x => { x with state := n }

/-- A frame of a station: TYPE, ADDR 0, and what follows from byte 4 on (R500). -/
def rframe (type : Byte) (tail : List Byte) : List Byte := [0x52, 0x49, 1, type] ++ tail
/-- An IN frame: LENGTH 44, EPOCH 0, SEQ 1, ACK 0, STATE 2 (R504). -/
def inFrame (flags : Byte) : List Byte :=
  rframe 0x11 ([0, 0, 0, 44, 0, 0, 0, 0, 0, 0, 0, 1, 0, 0, 0, 0, 2, flags] ++ zeros 38)

theorem witness_links : drives (linked .run true id) = true ∧ (linked .run true id).mode.mode.strokes = true
    ∧ (link (linked .run true id) 0).managed = false ∧ (link (linked .run true id) 0).up = true
    ∧ working (linked .run true id) 0x40 = true ∧ needy (linked .run true id) 0 = [0]
    ∧ needy (linked .run true (stnIs 2)) 0 = [0] ∧ needy (linked .run true (stnIs 3)) 0 = []
    ∧ (link (linked .run false id) 0).up = false ∧ drives (holder .run) = true ∧ drives (pairChip .standby id) = false := by
  decide
theorem witness_stations : stnFrame (linked .run true id) 0 0x02 [] = none
    ∧ stnFrame (linked .run true id) 0 0x02 (rframe 2 (zeros 20)) = some 0
    ∧ stnFrame (linked .run true id) 0 0x04 (rframe 4 (zeros 13)) = some 0
    ∧ stnFrame (linked .run true id) 0 0x04 [] = none ∧ (stn (linked .run true (stnIs 2)) 0 0).state = 2
    ∧ (stn (linked .run true fun x => { x with state := 2, confSent := true }) 0 0).confSent = true
    ∧ (stn (linked .run true (stnIs 3)) 0 0).state = 3 ∧ expects (linked .run true id) 0 0 = true
    ∧ fld (cfg (linked .run true id) 0x40 0x040) 23 20 = 3
    ∧ 3 ≤ (stn (linked .run true fun x => { x with misses := 3 }) 0 0).misses
    ∧ (stn (linked .run true id) 0 0).misses < 3 ∧ expects (linked .run true id) 0 1 = false := by decide
theorem witness_in_frames : inCheck (linked .run true (stnIs 3)) 0 (inFrame 0) = none
    ∧ inCheck (linked .run true (stnIs 3)) 0 (inFrame 1) = some 2 ∧ inCheck (linked .run true id) 0 (inFrame 0) = some 1
    ∧ inCheck (linked .run true fun x => { x with state := 3, seq := some 1 }) 0 (inFrame 0) = some 3
    ∧ beAt (inFrame 0) 4 1 = 0 ∧ beAt (inFrame 0) 20 1 = 2 ∧ (beAt (inFrame 0) 21 1).testBit 1 = false
    ∧ inCheck (linked .run true (stnIs 3)) 0 (inFrame 2) = none ∧ (beAt (inFrame 2) 21 1).testBit 1 = true
    ∧ inCheck (linked .run true (stnIs 3)) 0 ((inFrame 0).set 20 1) = none ∧ beAt ((inFrame 0).set 20 1) 20 1 ≠ 2
    ∧ (ownEpoch (linked .run true (stnIs 3))).toNat < beAt ((inFrame 0).set 11 1) 8 4
    ∧ inCheck (linked .run true (stnIs 3)) 0 ((inFrame 0).set 11 1) = some 2 := by decide +kernel

/-- Two RUNNING stations on link 0, the second further along the line. -/
def linkedTwo : Chip :=
  { withPage (base .run) 0x40 .enabled 0 with
    cfg := [(cfgKey 0x40 0x040, 0x00300003)]
    links := [(0, { LinkSt.reset with up := true, stns := [(0, stnIs 3 StnSt.reset), (1, { stnIs 3 StnSt.reset with position := 1 })] })] }

theorem witness_stations_behind : inCheck linkedTwo 0 (inFrame 2) = none ∧ expects linkedTwo 0 1 = true
    ∧ (stn linkedTwo 0 1).state = 3 ∧ beAt (inFrame 2) 5 1 < (stn linkedTwo 0 1).position := by decide +kernel
theorem witness_lost : stnBound { linked .run true (stnIs 3) with cfg := [(cfgWKey 0x40 0 0x204, 0x40000000)] } .safety 0 0
    = true := by decide

/-- Controller 0 in a state, its object 0 as configured and as `f` sets it. -/
def onBus (m : Mode) (st : Nat) (w : Word) (f : ObjSt → ObjSt) : Chip :=
  { withPage (base m) 0x60 .enabled 0 with
    cfg := [(cfgKey 0x60 0x040, 1), (cfgKey 0x60 0x058, 0x80000000), (cfgWKey 0x60 0 0x084, w)]
    cans := [(0, { CanSt.reset with state := st, objs := [(0, f ObjSt.reset)] })] }
def frame0 : CanFrame := ⟨0, false, false, false, false, 0, []⟩

theorem witness_can_receive : canHears (onBus .run 2 0x80000000 id) 0 = true
    ∧ canRestricted (onBus .run 2 0x80000000 id) 0 = false ∧ canRestricted (onBus .standby 2 0x80000000 id) 0 = true
    ∧ (rxObjects (onBus .run 2 0x80000000 id) 0).find? (fun o => objMatches (onBus .run 2 0x80000000 id) 0 o frame0) = some 0
    ∧ (rxObjects (onBus .standby 2 0 id) 0).find? (fun o => objMatches (onBus .standby 2 0 id) 0 o frame0) = none
    ∧ fifoMatches (onBus .standby 2 0 id) 0 frame0 = true
    ∧ fifoMatches (onBus .standby 2 0 id) 0 { frame0 with ide := true } = false
    ∧ canHears (onBus .run 4 0 id) 0 = false
    ∧ bitOf (canCfg { onBus .run 2 0 id with cfg := [(cfgKey 0x60 0x040, 5), (cfgKey 0x60 0x058, 0x80000000)] } 0) 2 = true
    ∧ canHears { onBus .run 2 0 id with cfg := [(cfgKey 0x60 0x040, 5), (cfgKey 0x60 0x058, 0x80000000)] } 0 = true
    ∧ bitOf (canCfg (onBus .run 2 0 id) 0) 2 = false := by decide +kernel
theorem witness_can_send : txObject (onBus .run 2 0xC0000000 fun x => { x with tx := some frame0 }) 0 = some 0
    ∧ txObject (onBus .run 2 0xC0000000 id) 0 = none
    ∧ bestPending (onBus .run 2 0xC0000000 fun x => { x with pending := some frame0 }) 0 = some (0, frame0)
    ∧ bestPending (onBus .run 2 0xC0000000 id) 0 = none ∧ (can (onBus .run 2 0xC0000000 id) 0).sleepReq = false
    ∧ (can (onBus .run 2 0xC0000000 fun x => { x with pending := some frame0 }) 0).sleepReq = false
    ∧ canRestricted (onBus .run 2 0xC0000000 fun x => { x with tx := some frame0 }) 0 = false
    ∧ txObject (onBus .standby 2 0xC0000000 fun x => { x with tx := some frame0 }) 0 = some 0
    ∧ canRestricted (onBus .standby 2 0xC0000000 fun x => { x with tx := some frame0 }) 0 = true
    ∧ CanTxResult.fieldBitError ≠ .ok := by decide +kernel
theorem witness_can_states : (can (onBus .run 5 0 id) 0).state = 5 ∧ (can (onBus .run 1 0 id) 0).state = 1
    ∧ canOn (onBus .run 2 0 id) 0 = true ∧ canOn (base .run) 0 = false
    ∧ 16 ≤ (can { base .run with cans := [(0, { CanSt.reset with ackRun := 16 })] } 0).ackRun
    ∧ objUsed (onBus .run 2 0xC0000000 id) 0 0 = true ∧ objSends (onBus .run 2 0xC0000000 id) 0 0 = true
    ∧ 3 ≤ (obj (onBus .run 2 0xC0000000 fun x => { x with clashRun := 3 }) 0 0).clashRun
    ∧ 0 ∈ txObjects (onBus .run 2 0xC0000000 id) 0 ∧ (can (onBus .run 2 0 id) 0).state ≠ 5 := by decide +kernel

/-- A sleeping controller that frames may wake, by the masks given. -/
def asleep (cfgw mask : Word) (errs : Nat) : Chip :=
  { withPage (base .run) 0x60 .enabled 0 with
    cfg := [(cfgKey 0x60 0x040, 1), (cfgKey 0x60 0x064, cfgw), (cfgKey 0x60 0x068, 1), (cfgKey 0x60 0x06C, mask)]
    cans := [(0, { CanSt.reset with state := 6, wakeErr := errs, sleepReq := true })] }

theorem witness_can_wake : (can (asleep 0 0 0) 0).state = 6 ∧ (asleep 0 0 0).mode.mode ≠ .dormant ∧ canOn (asleep 0 0 0) 0 = true
    ∧ ¬bitOf (cfg (asleep 0 0 0) 0x60 0x064) 0 = true ∧ bitOf (cfg (asleep 1 0 0) 0x60 0x064) 0 = true
    ∧ wakeMatches (asleep 1 0 0) 0 frame0 = true ∧ wakeMatches (asleep 1 1 0) 0 frame0 = false ∧ frame0.fd = false
    ∧ 31 ≤ (can (asleep 1 0 31) 0).wakeErr ∧ (can (asleep 1 0 30) 0).wakeErr < 31
    ∧ (can (asleep 0 0 0) 0).sleepReq = true ∧ txObject (asleep 0 0 0) 0 = none := by decide +kernel

/-- Serial port 0 in a mode, its entry 0 reading one register of slave 1. -/
def port0 (mode : Nat) (busy : Option Nat) : Chip :=
  { withPage (base .run) 0x75 .enabled 0 with
    cfg := [(cfgKey 0x75 0x100, BitVec.ofNat 32 (mode * 2 ^ 30)), (cfgWKey 0x75 0 0x044, 0x80010301)]
    serial := [(0, { SerPort.reset with busy := busy })] }
def withCrc (bs : List Byte) : List Byte := bs ++ [BitVec.ofNat 8 (crc16 bs), BitVec.ofNat 8 (crc16 bs / 256)]

theorem witness_modbus : (serPort (port0 1 (some 0)) 0).busy = some 0 ∧ (serPort (port0 1 none) 0).busy = none
    ∧ replyGood (port0 1 none) 0 0 (withCrc [1, 3, 2, 0, 7]) = true
    ∧ replyGood (port0 1 none) 0 0 (withCrc [1, 0x83, 2]) = false
    ∧ replyException (port0 1 none) 0 0 (withCrc [1, 0x83, 2]) = true
    ∧ replyException (port0 1 none) 0 0 [1] = false ∧ entWrites (port0 1 none) 0 0 = false := by decide +kernel

/-- "$GPZDA" with and without a right checksum. -/
def sentence (a b : Byte) : List Byte := [36, 71, 80, 90, 68, 65, 42, a, b, 13, 10]

theorem witness_nmea : listens (port0 2 none).mode.mode = true ∧ spMode (port0 2 none) 0 = 2 ∧ working (port0 2 none) 0x75 = true ∧ (sentence 0x34 0x38).getD 0 0 = 36
    ∧ nmeaCheck (((sentence 0x34 0x38).drop 1).takeWhile (· != 13)) = some true
    ∧ nmeaCheck (((sentence 0x34 0x39).drop 1).takeWhile (· != 13)) = some false
    ∧ (sentence 0x34 0x38).length ≤ 82 ∧ entUsed (port0 2 none) 0 0 = true
    ∧ nmeaMatch (port0 2 none) 0 0 (((sentence 0x34 0x38).drop 1).takeWhile (· != 13)) = false
    ∧ (let c := { port0 2 none with cfg := [(cfgKey 0x75 0x100, 0x80000000), (cfgWKey 0x75 0 0x044, 0x80000041),
        (cfgWKey 0x75 0 0x048, 0x47505A44)] }
      (List.range 16).find? (fun e => entUsed c 0 e && nmeaMatch c 0 e (((sentence 0x34 0x38).drop 1).takeWhile (· != 13)))
        = some 0) ∧ spMode (port0 1 none) 0 ≠ 2 := by decide +kernel

/-! ### Witnesses: networks and hosts -/

/-- Both plant networks enabled, PTP on, LAN A of network 0 in a PTP state. -/
def netted (m : Mode) (st : Nat) : Chip :=
  { base m with
    pages := [(0x70, { PageHdr.reset 0x70 with st := .enabled }), (0x71, { PageHdr.reset 0x71 with st := .enabled })]
    cfg := [(cfgKey 0x70 0x040, 0xAC140001), (cfgKey 0x71 0x040, 0xAC150001)]
    lans := [(0, { LanPort.reset with state := st })] }

theorem witness_networks : (lan (netted .run 9) 0 0).up ≠ true ∧ netServes (netted .run 9) 0 = true
    ∧ netServes (netted .run 9) 1 = true ∧ netServes (base .run) 0 = false ∧ netServes (base .run) 1 = false
    ∧ ptpEn (netted .run 9) 0 = true ∧ isSlave (netted .run 9) 0 0 = true ∧ isSlave (netted .run 4) 0 0 = false
    ∧ working (netted .run 9) (netPage 0) = true ∧ portAnswers (netted .run 9) .plantA = true ∧ Port.plantA ≠ .backplane
    ∧ (0#8).toNat = fld (cfg (netted .run 9) (netPage 0) 0x040) 15 8 ∧ 8 ≤ (lan (netted .run 9) 0 0).state
    ∧ (lan (netted .run 4) 0 0).state < 8
    ∧ (BitVec.ofNat 32 (moduleIp (netted .run 9) .plantA)).toNat = moduleIp (netted .run 9) .plantA
    ∧ (base .stop).mode.mode ≠ .reset ∧ State.reset.chip.mode.mode = .reset ∧ (4 : Nat) < 5 ∧ 7 < 8 := by decide

/-- A RAP message of session `n`, SEQ 6 (R569). -/
def rap (op n : Byte) (body : List Byte) : List Byte :=
  [0x52, 0x41, 1, op, n, 0, 0, 0] ++ beBytes 2 body.length ++ [0, 0, 0, 0, 0, 6, 0, 0, 0, 0] ++ body
def rapIn (ph : RapPhase) (bs : List Byte) : RapIn := ⟨.service, 5, 6, bs, ph⟩

/-- Session 0 of class S whose oldest message is this one. -/
def waitingFor (bs : List Byte) (g : Option Staging) : Chip :=
  withSession (base .stop) { sess 0 0 with queue := [⟨bs, 0⟩], staging := g }
def servedBy (op : Byte) (body : List Byte) (g : Option Staging) : Prop :=
  Claims.Served (waitingFor (rap op 0 body) g) (rapIn .serve (rap op 0 body)) op.toNat 0
    { sess 0 0 with queue := [⟨rap op 0 body, 0⟩], staging := g } []

/-- At reset the Boathouse's turn is session 0's. -/
theorem turn_zero (c : Chip) (h : c.hosts.turn = 0) : Claims.Turn c 0 := by
  refine ⟨by decide, by omega, ?_⟩
  intro i hi
  rw [h] at hi
  exact absurd hi (by simp)

theorem witness_served : servedBy 0x03 [] none ∧ servedBy 0x02 [] none ∧ servedBy 0x41 [1, 0, 0, 0] none := by
  refine ⟨⟨rfl, turn_zero _ rfl, by decide, by decide, by decide, by decide, ⟨0, rfl⟩, by decide, by decide⟩,
    ⟨rfl, turn_zero _ rfl, by decide, by decide, by decide, by decide, ⟨0, rfl⟩, by decide, by decide⟩,
    ⟨rfl, turn_zero _ rfl, by decide, by decide, by decide, by decide, ⟨0, rfl⟩, by decide, by decide⟩⟩
theorem witness_served_read : servedBy 0x10 [0xFB, 0, 0, 0, 0, 1, 0, 0] none ∧ beAt ([0xFB, 0, 0, 0, 0, 1, 0, 0] : List Byte) 4 2 = 1 :=
  ⟨⟨rfl, turn_zero _ rfl, by decide, by decide, by decide, by decide, ⟨0, rfl⟩, by decide, by decide⟩, by decide⟩
theorem witness_served_write : servedBy 0x11 ([0, 1, 0, 0] ++ zeros 8) none ∧ beAt ([0, 1, 0, 0] ++ zeros 8) 0 2 = 1 :=
  ⟨⟨rfl, turn_zero _ rfl, by decide, by decide, by decide, by decide, ⟨0, rfl⟩, by decide, by decide⟩, by decide⟩
theorem witness_served_image : servedBy 0x20 [0, 1, 0, 1, 0, 0, 0, 0] none
    ∧ beAt ([0, 1, 0, 1, 0, 0, 0, 0] : List Byte) 1 1 = 1 ∧ beAt ([0, 1, 0, 1, 0, 0, 0, 0] : List Byte) 2 2 = 1 :=
  ⟨⟨rfl, turn_zero _ rfl, by decide, by decide, by decide, by decide, ⟨0, rfl⟩, by decide, by decide⟩, by decide⟩
theorem witness_served_image_write : servedBy 0x21 ([0, 1, 0, 0] ++ zeros 8) none
    ∧ allowanceUsed (waitingFor [] none) (.session 0) = false
    ∧ imageWriteCode { base .stop with cfg := [(cfgKey 0x72 0x048, 0x00010000)] } 0 0 0 = 0 :=
  ⟨⟨rfl, turn_zero _ rfl, by decide, by decide, by decide, by decide, ⟨0, rfl⟩, by decide, by decide⟩, by decide⟩

/-- STAGE_OPEN of an 8-byte program for page 0x08, and a staging of its bytes. -/
def openBody : List Byte := [1, 8, 0, 0, 0, 0, 0, 8, 0, 0, 0, 0]
def staged (got : Nat) (crc : Word) : Staging := ⟨1, 8, 8, crc, zeros got, got, crcRun 0xFFFFFFFF#32 (zeros got)⟩

theorem witness_served_stage : servedBy 0x30 openBody none ∧ beAt openBody 0 1 ≠ 5 ∧ stageLimit (beAt openBody 0 1) (beAt openBody 1 1)
      = some 12582912 ∧ 0 < beAt openBody 4 4 ∧ loadRunning (waitingFor [] none) 8 = false
    ∧ stagingFor (waitingFor [] none) 8 = none ∧ mayStage (waitingFor [] none) 0 1 = true
    ∧ mayStage (withSession (base .stop) (sess 2 0)) 0 1 = false :=
  ⟨⟨rfl, turn_zero _ rfl, by decide, by decide, by decide, by decide, ⟨0, rfl⟩, by decide, by decide⟩, by decide⟩
theorem witness_served_data : servedBy 0x31 ([0, 0, 0, 4] ++ zeros 4) (some (staged 4 0)) ∧ servedBy 0x31 (zeros 8) none
    ∧ (staged 4 0).kind ≠ 5 ∧ beAt ([0, 0, 0, 4] ++ zeros 4) 0 4 = (staged 4 0).got ∧ (staged 4 0).got + 4 ≤ (staged 4 0).length :=
  ⟨⟨rfl, turn_zero _ rfl, by decide, by decide, by decide, rfl, ⟨0, rfl⟩, by decide, by decide⟩,
    ⟨rfl, turn_zero _ rfl, by decide, by decide, by decide, rfl, ⟨0, rfl⟩, by decide, by decide⟩, by decide⟩
theorem served_close (g : Staging) : servedBy 0x32 [] (some g) :=
  ⟨rfl, turn_zero _ rfl, by decide, by decide, rfl, rfl, ⟨0, rfl⟩, by show (3 : Nat) ≠ 4; decide, by simp [sess]⟩
theorem witness_served_close : (staged 8 (crc32c (zeros 8))).got = 8
    ∧ ~~~(staged 8 (crc32c (zeros 8))).run = (staged 8 (crc32c (zeros 8))).crc
    ∧ (staged 7 0).got ≠ (staged 7 0).length := ⟨rfl, by simp only [staged, crc32c], by decide⟩

/-- A session that has answered SEQ 6 already. -/
theorem witness_repeat : { sess 0 0 with last := some (6, []) }.last = some (rapSeq (rap 3 0 []), []) := by decide
theorem witness_arrivals : takesMessages (base .stop) .service = true
    ∧ rapHeaderOk (rap 3 0 []) = true ∧ rapBodyOk 3 [] = true ∧ forPeer (waitingFor [] none) (rapIn .enqueue (rap 3 0 [])) = true
    ∧ rapSession (rap 3 0 []) = 0 ∧ occupancy (sess 0 0) + entriesOf (rap 3 0 []) ≤ (sess 0 0).queueMax
    ∧ ¬occupancy { sess 0 0 with queueMax := 0 } + entriesOf (rap 3 0 []) ≤ { sess 0 0 with queueMax := 0 }.queueMax
    ∧ forPeer (base .stop) (rapIn .enqueue (rap 3 0 [])) = false ∧ knownOp 4 = false
    ∧ rapHeaderOk (rap 3 0 [0]) = true ∧ rapBodyOk 3 [0] = false ∧ takesMessages (base .boot) .service = false := by decide
theorem witness_opens : rapHeaderOk (rap 1 0xFF [1, 0, 0, 0]) = true ∧ rapBodyOk 1 [1, 0, 0, 0] = true
    ∧ freeSessions (base .stop) = 0 :: (List.range 15).map (· + 1) ∧ portClass (base .stop) .service = 0
    ∧ portClass (base .stop) .plantA ≠ 0
    ∧ (let full : Nat → Chip := fun n => { base .stop with
        hosts := { HostSt.reset with sessions := (List.range n).map fun k => (k, sess 0 0) } }
      freeSessions (full 16) = [] ∧ freeSessions (full 15) = [15]) := by decide +kernel

/-- The backplane link trained. -/
def backplane : Chip := { base .stop with hosts := { HostSt.reset with pcieUp := true } }

theorem witness_bar1 : takesMessages backplane .backplane = true ∧ takesMessages (base .stop) .backplane = false
    ∧ backplane.hosts.pcieUp = true ∧ barSession backplane = false
    ∧ forPeer { backplane with hosts := { backplane.hosts with sessions := [(0, { sess 1 0 with port := 4 })] } }
      ⟨.backplane, 0, 0, rap 3 0 [], .enqueue⟩ = true := by decide
theorem witness_timeouts : session (waitingFor [] none) 0 = some { sess 0 0 with queue := [⟨[], 0⟩] }
    ∧ fld (cfg (base .stop) 0x72 0x040) 15 0 ≤ 25 ∧ 0 < fld (cfg (base .stop) 0x72 0x040) 15 0
    ∧ session (base .stop) 0 = none ∧ (1 : Nat) ≠ 0 := by decide

/-! ### Witnesses: loads, resets and BOOT -/

/-- An empty loop set, table set and heat set (R281, R321), with their CRCs. -/
def loopSet0 : List Byte := [71, 49, 76, 83, 1, 0, 0, 0, 1, 0, 0, 0, 1] ++ zeros 15 ++ [61, 182, 109, 20, 0, 0, 0, 0]
def tableSet0 : List Byte := [71, 49, 84, 83, 1, 0, 0, 0, 1, 0, 0, 0, 1] ++ zeros 15 ++ [166, 77, 197, 173, 0, 0, 0, 0]
def heatSet0 : List Byte := [71, 49, 72, 83, 1, 0, 0, 0, 1, 0, 0, 0, 1] ++ zeros 15 ++ [1, 166, 215, 162, 0, 0, 0, 0]

/-- A load of staged bytes on a page under way on every engine and crew. -/
def loading (p : Nat) (bs : List Byte) : Chip :=
  { base .config with
    upd := { UpdSt.reset with staged := [(p, bs)] }
    engines := [(0, { EngSt.reset with result := 0xFF }), (8, { EngSt.reset with result := 0xFF })]
    sel := { SelSt.reset with result := 0xFF }, crewS := { CrewSt.reset with loadResult := 0xFF } }

/-- A check that passes. -/
def passed {ε α : Type} : Except ε α → Bool
  | .ok _ => true
  | .error _ => false
theorem is_ok {ε α : Type} {e : Except ε α} (h : passed e = true) : ∃ x, e = .ok x := by
  cases e with
  | ok x => exact ⟨x, rfl⟩
  | error _ => exact nomatch h
theorem pair_ok {ε α β : Type} {e : Except ε (α × β)} (h : ∃ x, e = .ok x) : ∃ x d, e = .ok (x, d) := by
  obtain ⟨x, rfl⟩ := h
  exact ⟨x.1, x.2, rfl⟩

theorem witness_loop_load : (eng (loading 0x10 loopSet0) 0).result = 0xFF ∧ stagedFor (loading 0x10 loopSet0) (engPage 0) = some loopSet0
    ∧ (∃ x d, checkLoopSet false 0 (periodNs (loading 0x10 loopSet0)) (some loopSet0) = .ok (x, d))
    ∧ checkLoopSet false 0 (periodNs (loading 0x11 [])) (stagedFor (loading 0x11 []) (engPage 0)) = .error (1, 0xFF) :=
  ⟨by decide, by decide, pair_ok (is_ok (by decide +kernel)), rfl⟩
theorem witness_table_load : (eng (loading 0x1A tableSet0) 8).result = 0xFF ∧ stagedFor (loading 0x1A tableSet0) (engPage 8) = some tableSet0
    ∧ (∃ x d, checkLoopSet true 0 (periodNs (loading 0x1A tableSet0)) (some tableSet0) = .ok (x, d))
    ∧ checkLoopSet true 0 (periodNs (loading 0x1A [])) (some []) = .error (2, 0xFF) :=
  ⟨by decide, by decide, pair_ok (is_ok (by decide +kernel)), rfl⟩
theorem witness_heat_load : (loading 0x18 heatSet0).sel.result = 0xFF ∧ stagedFor (loading 0x18 heatSet0) 0x18 = some heatSet0
    ∧ (∃ x, checkHeatSet (some heatSet0) = .ok x) ∧ checkHeatSet none = .error (1, 0xFF)
    ∧ (base .config).sel.result ≠ 0xFF ∧ (eng (base .config) 0).result ≠ 0xFF :=
  ⟨by decide, by decide, is_ok (by decide +kernel), rfl, by decide, by decide⟩

/-- A task record (R170): only the main task is present, at word 0; and the eleven of them. -/
def taskRec (present t : Byte) : List Byte := [present, t] ++ zeros 14
def tasks0 : List Byte :=
  (taskRec 0 0 ++ taskRec 0 1 ++ taskRec 1 2) ++ ((taskRec 0 3 ++ taskRec 0 4 ++ taskRec 0 5)
    ++ ((taskRec 0 6 ++ taskRec 0 7 ++ taskRec 0 8) ++ (taskRec 0 9 ++ taskRec 0 10)))

/-- A program of one word, END, its tasks and one output word (R166 to R171). -/
def program0 : List Byte :=
  [71, 49, 80, 73, 1, 0, 0, 1, 7, 0, 0, 0, 1, 0, 0, 0, 0, 0, 0, 0, 0, 0, 0, 0, 48, 1, 0, 0, 3] ++ zeros 31
    ++ [193, 193, 151, 202, 1, 0, 0, 0, 112, 0, 0, 0, 4, 0, 0, 0, 196, 200, 12, 186, 2, 0, 0, 0, 116, 0, 0, 0, 176, 0, 0, 0, 172, 6, 11, 211, 3, 0, 0, 0, 36, 1, 0, 0, 12, 0, 0, 0, 229, 31, 37, 246] ++ [0, 0, 0, 1] ++ tasks0 ++ zeros 8
    ++ [1, 0, 0, 0]

theorem crc_append (c : BitVec 32) (a b : List Byte) : crcRun c (a ++ b) = crcRun (crcRun c a) b := by
  induction a generalizing c with
  | nil => rfl
  | cons x xs ih => exact ih _
theorem tasks_crc : crcRun 0xFFFFFFFF#32 tasks0 = 0x2CF4F953#32 := by
  rw [tasks0, crc_append _ _ (_ ++ _), crc_append _ _ (_ ++ _), crc_append _ (taskRec 0 6 ++ _ ++ _),
    show crcRun 0xFFFFFFFF#32 (taskRec 0 0 ++ taskRec 0 1 ++ taskRec 1 2) = 0x92C55237#32 by decide +kernel,
    show crcRun 0x92C55237#32 (taskRec 0 3 ++ taskRec 0 4 ++ taskRec 0 5) = 0x91FFF70#32 by decide +kernel,
    show crcRun 0x91FFF70#32 (taskRec 0 6 ++ taskRec 0 7 ++ taskRec 0 8) = 0x6DF3130C#32 by decide +kernel,
    show crcRun 0x6DF3130C#32 (taskRec 0 9 ++ taskRec 0 10) = 0x2CF4F953#32 by decide +kernel]
theorem witness_program_crcs :
    (secTable program0).find? (fun e => (crc32c (slice program0 e.off e.len)).toNat != e.crc) = none := by
  have secs : secTable program0 = [⟨0, 1, 0, 0, 112, 4, 3121400004⟩, ⟨1, 2, 0, 0, 116, 176, 3540715180⟩,
      ⟨2, 3, 0, 0, 292, 12, 4129628133⟩] := by decide +kernel
  have a : (crc32c (slice program0 112 4)).toNat = 3121400004 := by decide +kernel
  have b : (crc32c (slice program0 116 176)).toNat = 3540715180 := by
    rw [show slice program0 116 176 = tasks0 by decide +kernel, crc32c, tasks_crc]; rfl
  have c : (crc32c (slice program0 292 12)).toNat = 4129628133 := by decide +kernel
  rw [secs]; simp [a, b, c]
theorem witness_program_checks : imageFault program0 .safety false = none := by
  unfold imageFault
  rw [show headerFault program0 = none by decide +kernel, show targetFault program0 .safety false = none by decide +kernel,
    show tableFault program0 = none by decide +kernel, witness_program_crcs]
  decide +kernel
theorem load_ok (bs : List Byte) (h : imageFault bs .safety false = none) :
    ∃ p : Program, checkProgram (some bs) .safety false = .ok p := by
  simp only [checkProgram, h]
  exact ⟨_, rfl⟩
theorem witness_program_load : ∃ p : Program, checkProgram (some program0) .safety false = .ok p :=
  load_ok program0 witness_program_checks
theorem witness_program_staged (bs : List Byte) : (crewSt (loading 8 bs) .safety).loadResult = 0xFF
    ∧ stagedFor (loading 8 bs) (crewPage .safety) = some bs ∧ scullOption (loading 8 bs) = false
    ∧ checkProgram (stagedFor (loading 9 bs) (crewPage .safety)) .safety false = .error ⟨1, 0xFF, 0⟩
    ∧ (crewSt (base .config) .safety).loadResult ≠ 0xFF := ⟨rfl, rfl, by show bitOf (0 : Word) 27 = false; decide, rfl, by decide⟩

/-- The signature of an empty backup domain is the CRC of its items, all zero (R627). -/
theorem test_backup_signature : backupSum BackupSt.zero = BackupSt.zero.signature := by
  have items : backupBytes BackupSt.zero = zeros 46 ++ (zeros 46 ++ (zeros 46 ++ zeros 46)) := by decide +kernel
  rw [backupSum, crc32c, items, crc_append, crc_append, crc_append,
    show crcRun 0xFFFFFFFF#32 (zeros 46) = 0x92197085#32 by decide +kernel,
    show crcRun 0x92197085#32 (zeros 46) = 0x13D05617#32 by decide +kernel,
    show crcRun 0x13D05617#32 (zeros 46) = 0x942557E0#32 by decide +kernel,
    show crcRun 0x942557E0#32 (zeros 46) = 0x28DFDFA#32 by decide +kernel]
  decide

/-- The signature at the first power-up. -/
theorem test_reset_signature : backupSum State.reset.chip.backup = State.reset.chip.backup.signature := by
  have items : backupBytes State.reset.chip.backup = zeros 46 ++ (zeros 46 ++ (zeros 46
      ++ (zeros 2 ++ [1] ++ zeros 23 ++ [1, 0, 0, 0, 4, 1] ++ zeros 14))) := by decide +kernel
  rw [backupSum, crc32c, items, crc_append, crc_append, crc_append,
    show crcRun 0xFFFFFFFF#32 (zeros 46) = 0x92197085#32 by decide +kernel,
    show crcRun 0x92197085#32 (zeros 46) = 0x13D05617#32 by decide +kernel,
    show crcRun 0x13D05617#32 (zeros 46) = 0x942557E0#32 by decide +kernel,
    show crcRun 0x942557E0#32 (zeros 2 ++ [1] ++ zeros 23 ++ [1, 0, 0, 0, 4, 1] ++ zeros 14) = 0xF4157F92#32 by
      decide +kernel]
  decide

/-- The module with its reset block as `f` sets it. -/
def reset_ (m : Mode) (f : RstSt → RstSt) : Chip := { base m with rst := f (base m).rst }

theorem witness_resets : (base .run).rst.railsOff = false ∧ (reset_ .run fun x => { x with railsOff := true }).rst.railsOff = true
    ∧ (base .run).backup.buttonStuck = false ∧ (reset_ .run fun x => { x with wdtArmed := true }).rst.wdtArmed = true
    ∧ (base .run).rst.wdtArmed = false ∧ (base .run).mode.mode ≠ .reset ∧ takeWaiting 0 (base .run).rst.waiting = none
    ∧ takeWaiting 0 [⟨1, 3, 0⟩, ⟨0, 4, 0⟩] = some (⟨0, 4, 0⟩, [⟨1, 3, 0⟩]) ∧ takeWaiting 1 [⟨1, 3, 0⟩] = some (⟨1, 3, 0⟩, [])
    ∧ takeWaiting 0 [⟨0, 3, 0⟩] = some (⟨0, 3, 0⟩, []) ∧ takeWaiting 0 [⟨0, 1, 0x34⟩] = some (⟨0, 1, 0x34⟩, [])
    ∧ pageCrew 0x34 = none ∧ resettable (reset_ .run fun x => { x with waiting := [] }) 0x34 = true
    ∧ takeWaiting 0 [⟨0, 2, 1⟩] = some (⟨0, 2, 1⟩, []) ∧ crewHeld (base .run) .process = false
    ∧ resettable (base .run) 4 = false ∧ crewHeld restored .safety = true := by decide
theorem witness_releases : State.reset.chip.rst.asserted.getLsbD 0 = true
    ∧ State.reset.chip.rst.asserted &&& ~~~(1#12 <<< 0) = 0 ∧ State.reset.chip.rst.asserted.getLsbD 4 = false
    ∧ (reset_ .reset fun x => { x with asserted := 0x011 }).rst.asserted.getLsbD 4 = true
    ∧ { base .run with backup := { BackupSt.zero with buttonStuck := true } }.backup.buttonStuck = true := by decide
theorem witness_block_reset : smFind (reset_ .run fun x => { x with blockResets := [(0x34, ⟨1, 0, 0⟩)] }).rst.blockResets 0x34
      = some ⟨1, 0, 0⟩ ∧ smFind (base .run).rst.blockResets 0x34 = none := by decide

/-- The plug of station 100 of a fleet, and what BOOT finds (R616). -/
def plug : List Byte := [65, 80, 1, 2, 100, 0, 0, 0, 77, 0, 0, 0, 85, 21, 215, 187]
def found (recovery : Bool) (p : Option (List Byte)) : BootIn := ⟨false, true, recovery, true, true, p, p, none, 0, true, true⟩
/-- The module as BOOT finds it, its backup without supply and both slots empty. -/
def booted (x : BootIn) : Chip :=
  modPanel (modIdent (bootBackup (bootCopies { base .boot with upd := UpdSt.reset } x) x.backupKept) fun i => { i with keyFault := !x.keyOk }) fun p =>
    { p with shadowOk := p.shadowOk && x.shadowOk }

theorem witness_plug : plugRead1 (some plug) = some ⟨2, 100, 77⟩ ∧ plugRead1 (some (plug.set 0 0)) = none
    ∧ plugRead1 none = none := by decide +kernel
theorem witness_boot : (base .boot).rst.bootFail = false ∧ (bootCopies (base .boot) (found true none)).upd.boot.trial = false ∧ (base .stop).mode.mode ≠ .boot := by
  decide
theorem witness_boot_fails : chooseImage (booted (found false none)) (found false none) false false = none := by
  decide +kernel
theorem chosen {o : Option (Running × Nat)} (h : o.isSome = true) : ∃ (r : Running) (why : Nat), o = some (r, why) := by
  obtain ⟨x, rfl⟩ := Option.isSome_iff_exists.mp h
  exact ⟨x.1, x.2, rfl⟩
theorem witness_boot_recovers : ∃ (r : Running) (why : Nat),
    chooseImage (booted (found true none)) (found true none) false false = some (r, why) := chosen (by decide +kernel)
theorem witness_boot_plugged : (plugRead1 (found true (some plug)).plug1).isSome = true
    ∧ plugRead1 (found true (some plug)).plug1 = plugRead1 (found true (some plug)).plug2 := by decide +kernel
theorem witness_boot_addressed : ∃ (r : Running) (why : Nat),
    chooseImage (booted (found true (some plug))) (found true (some plug)) false true = some (r, why) :=
  chosen (by decide +kernel)
theorem witness_plug_reads : (base .unaddressed).mode.mode = .unaddressed ∧ (base .unaddressed).rst.plugSeen ≠ some ⟨2, 100, 77⟩
    ∧ (reset_ .unaddressed fun x => { x with plugSeen := some ⟨2, 100, 77⟩ }).rst.plugSeen = some ⟨2, 100, 77⟩
    ∧ plugRead (reset_ .stop fun x => { x with plugId := 0x80000000 }) = true ∧ plugRead (base .stop) = false := by decide

/-- A mode with PLLs locked, as one of a pair whose partner is READY. -/
def clocked (c : Chip) (l : BitVec 5) : Chip := { c with boat := { BoatSt.reset with locked := l } }

theorem witness_plls : (clocked (base .stop) 0x1F).boat.locked.getLsbD 4 = true ∧ (base .stop).mode.mode ≠ .boot
    ∧ (clocked (base .boot) 0x1F).boat.locked.getLsbD 0 = true ∧ (base .boot).mode.mode ≠ .reset
    ∧ (base .reset).mode.mode = .reset ∧ paired (clocked (base .run) 0x1F) = false ∧ paired (clocked pairRun 0x1F) = true ∧ (clocked pairRun 0x1F).seat.holds = true
    ∧ partnerReady (clocked pairRun 0x1F) = true
    ∧ (let c := { clocked pairRun 0x1F with mode := (base .stop).mode }
      paired c = true ∧ c.seat.holds = true ∧ partnerReady c = true ∧ c.mode.mode = .stop) ∧ (clocked (base .stop) 0).boat.locked.getLsbD 0 = false := by decide

/-! ### Witnesses: sensors, identity, wake, update and panel -/

/-- Temperature point 0 as sampled three times, its WARN condition held or not. -/
def warm (t : Word) (held : Bool) : Chip :=
  { base .stop with boat := { BoatSt.reset with
    temps := [(0, t)], conds := if held then [(64, true)] else [], outside := [(64, 3)], inside := [(64, 3)] } }

theorem witness_sensors : stayedOut (warm 1000 false) 1 0 = true ∧ sensorHeld (warm 1000 false) 1 0 = false
    ∧ stayedIn (warm 980 true) 1 0 = true ∧ sensorHeld (warm 980 true) 1 0 = true ∧ stayedOut (warm 999 false) 1 0 = false
    ∧ stayedIn (warm 981 true) 1 0 = false ∧ decide (2700 < 2700) = sensorHeld (base .stop) 7 33
    ∧ 500 < (([501] : List Nat)[0]?).getD 0 := by decide

/-- The identity with an owner command under way. -/
def owning (cmd : Nat) : IdSt := { IdSt.reset with busy := some (cmd, 1) }

theorem witness_identity : (owning 4).busy = some (4, 1) ∧ IdSt.reset.busy = none ∧ IdSt.reset.attPending = false
    ∧ { IdSt.reset with attPending := true }.attPending = true ∧ IdSt.reset.keyFault = false := by decide
/-- A certificate whose subject's key is the base point of P-384, compressed (X.690, RFC 5280, SEC 1). -/
def cert0 : List Byte :=
  [48, 129, 178, 48, 129, 152, 160, 3, 2, 1, 2, 2, 1, 1, 48, 10, 6, 8, 42, 134, 72, 206, 61, 4,
   3, 3, 48, 12, 49, 10, 48, 8, 6, 3, 85, 4, 3, 12, 1, 65, 48, 30, 23, 13, 50, 53, 48, 49,
   48, 49, 48, 48, 48, 48, 48, 48, 90, 23, 13, 50, 53, 48, 49, 48, 49, 48, 48, 48, 48, 48, 48, 90,
   48, 12, 49, 10, 48, 8, 6, 3, 85, 4, 3, 12, 1, 65, 48, 70, 48, 16, 6, 7, 42, 134, 72, 206,
   61, 2, 1, 6, 5, 43, 129, 4, 0, 34, 3, 50, 0, 3]
  ++ beBytes 48 p384.gx ++
  [48, 10, 6, 8, 42, 134, 72, 206, 61, 4, 3, 3, 3, 9, 0, 48, 6, 2, 1, 1, 2, 1, 1]

theorem witness_certificates : certWellFormed cert0 = true ∧ certKeyP384 cert0 = true ∧ certWellFormed (cert0.set 105 0x23) = true
    ∧ certKeyP384 (cert0.set 105 0x23) = false ∧ certWellFormed (cert0.take 100) = false := by decide +kernel

/-- The digest of "abc" that FIPS 180-4 gives as its example. -/
theorem test_sha256 : sha256 [97, 98, 99]
    = beBytes 32 0xBA7816BF8F01CFEA414140DE5DAE2223B00361A396177A9CB410FF61F20015AD := by decide +kernel

/-- Queue 59 with a record, after entries it refused. -/
def recorded (refused : Nat) : Chip :=
  { base .stop with wake := { WakeSt.reset with
      queues := [(59, { WakeQueue.empty with recs := [⟨7, 0x401, 0xFFFF, 0, 0, 0, 0⟩], refused := refused })] } }

theorem witness_wake : nextQueue (recorded 0) = some (59, ⟨7, 0x401, 0xFFFF, 0, 0, 0, 0⟩) ∧ nextQueue (base .stop) = none
    ∧ (recorded 0).mode.mode ≠ .reset ∧ (smGet WakeQueue.empty (recorded 2).wake.queues 59).refused ≠ 0
    ∧ exporting { base .stop with wake := { WakeSt.reset with expResult := 0xFF } } = true
    ∧ exporting (base .stop) = false ∧ (smGet WakeQueue.empty (recorded 0).wake.queues 59).recs.length < 1024
    ∧ (58 : Nat) ≠ 59 := by decide
theorem witness_full_queue : 1024 ≤ (List.replicate 1024 (⟨7, 0x401, 0xFFFF, 0, 0, 0, 0⟩ : WakeRec)).length :=
  Nat.le_of_eq List.length_replicate.symm

/-- An update in a state, at a block of its image. -/
def updating (m : Mode) (st : Nat) (f : UpdSt → UpdSt) : Chip := { base m with upd := f { UpdSt.reset with state := st } }

/-- A head whose CRC is right, for one block: 65,536 bytes in all (R661). -/
def head0 : List Byte := [0x47, 0x31, 0x50, 0x55, 1, 0, 0, 0, 0, 0, 0, 0, 0, 0, 0, 0, 1, 0, 0, 0, 0, 0, 2, 0] ++ zeros 228
def crcBytes (w : Word) : List Byte := [w.extractLsb' 0 8, w.extractLsb' 8 8, w.extractLsb' 16 8, w.extractLsb' 24 8]
def headBlock : List Byte := head0 ++ crcBytes (crc32c head0) ++ zeros 65280

theorem zeros_length (n : Nat) : (zeros n).length = n := List.length_replicate
theorem crc_length (w : Word) : (crcBytes w).length = 4 := rfl
theorem head0_length : head0.length = 252 := by
  simp only [head0, List.length_append, zeros_length, List.length_cons, List.length_nil]
theorem headBlock_length : headBlock.length = 65536 := by
  simp only [headBlock, List.length_append, head0_length, crc_length, zeros_length]
theorem crc_reads (w : Word) : leVal (crcBytes w) = w.toNat := by
  simp only [crcBytes, leVal, BitVec.extractLsb'_toNat, Nat.shiftRight_eq_div_pow]
  have := w.isLt
  omega
theorem witness_head : headFits headBlock = true ∧ leAt headBlock 0x14 4 = 131072 := by
  have pre : ∀ o n : Nat, o + n ≤ 252 → slice headBlock o n = slice head0 o n := by
    intro o n h
    have hl := head0_length
    simp only [slice, headBlock, List.append_assoc]
    rw [List.drop_append_of_le_length (by omega), List.take_append_of_le_length (by rw [List.length_drop]; omega)]
  have le : ∀ o n : Nat, o + n ≤ 252 → leAt headBlock o n = leAt head0 o n := by
    intro o n h
    simp only [leAt, pre o n h]
  have crc : leAt headBlock 0xFC 4 = (crc32c (headBlock.take 0xFC)).toNat := by
    have hl := head0_length
    have ht : headBlock.take 0xFC = head0 := by
      rw [headBlock, List.append_assoc, List.take_append_of_le_length (by omega), List.take_of_length_le (by omega)]
    rw [ht, leAt, slice, headBlock, List.append_assoc, List.drop_append_of_le_length (by omega),
      List.drop_of_length_le (by omega), List.nil_append, List.take_append_of_le_length (Nat.le_of_eq (crc_length _).symm),
      List.take_of_length_le (Nat.le_of_eq (crc_length _)), crc_reads]
  refine ⟨?_, by rw [le _ _ (by omega)]; decide +kernel⟩
  simp only [headFits, headCount, crc, le 0 4 (by omega), le 4 2 (by omega), le 0x10 2 (by omega), le 0x14 4 (by omega), beq_self_eq_true]
  rw [headBlock_length]
  decide +kernel

theorem witness_update : (updating .stop 1 fun u => { u with queue := headBlock, length := 131072 }).upd.state = 1
    ∧ 65536 ≤ headBlock.length ∧ headBlock.take 65536 = headBlock ∧ UpdSt.reset.block = 0
    ∧ (updating .stop 2 id).upd.state = 2 ∧ (updating .stop 2 id).upd.queue.length < 65536 := by
  have hl := headBlock_length
  exact ⟨rfl, by omega, List.take_of_length_le (by omega), rfl, rfl, by decide⟩
/-- A block whose CRC is the one in the head's entry. -/
theorem witness_block (bs : List Byte) :
    (crc32c bs).toNat = entryCrc (zeros 0x130 ++ crcBytes (crc32c bs)) 1 := by
  simp only [entryCrc, leAt, slice]
  rw [List.drop_append_of_le_length (Nat.le_of_eq (zeros_length 0x130).symm), List.drop_of_length_le (Nat.le_of_eq (zeros_length 0x130)), List.nil_append,
    List.take_of_length_le (Nat.le_of_eq (crc_length _)), crc_reads]
theorem witness_block_bad : ¬(crc32c (zeros 8)).toNat = entryCrc [] 1 ∧ headFits [] = false
    ∧ ({ UpdSt.reset with block := 1 } : UpdSt).block ≠ 0 := by decide +kernel
theorem witness_verify : verifyFault (updating .stop 2 id) = some (2, 0) := by decide +kernel
/-- Whether the vendor's signature verifies is not known; where it does, an image without blocks to check passes. -/
theorem witness_verified (c : Chip) (h : List Byte) (ok : headOk h = true) (hw : leAt h 6 1 = hwRev) (soc : leAt h 7 1 = socRev)
    (blocks : badBlock (slotOf c c.upd.target) = none) (head : c.upd.head = h) (vendor : vendorOk h = true)
    (owner : c.ident.ownerCert = none) : verifyFault c = none := by
  simp [verifyFault, head, ok, hw, soc, blocks, vendor, ownerOk, owner]
theorem witness_activation : (updating .stop 3 fun u => { u with activateDue := true }).upd.activateDue = true
    ∧ (updating .stop 3 id).upd.state = 3 ∧ (updating .stop 3 id).mode.mode = .stop ∧ (updating .run 3 id).mode.mode ≠ .stop
    ∧ (updating .run 3 id).mode.mode ≠ .standby ∧ (updating .stop 3 id).upd.activateDue = false
    ∧ settingsTaken (updating .activate 3 id) = true ∧ (updating .activate 3 id).mode.mode = .activate
    ∧ (updating .activate 3 fun u => { u with current := some ⟨1, 0, [], []⟩ }).upd.current.isSome = true
    ∧ settingsTaken (updating .activate 3 fun u => { u with current := some ⟨1, 0, [⟨2, 8, 0, 1, 0, 0⟩], []⟩ }) = false := by
  decide +kernel

/-- The panel as `f` sets it. -/
def panelled (f : PnlSt → PnlSt) : Chip := { withPage (base .stop) 0x7B .enabled 0 with panel := f PnlSt.reset }
def upd0 (phases : List (Nat × Bool)) : PnlUpdate := ⟨none, phases, Picture.dark, false⟩

theorem witness_panel : panelServes (panelled id) = true ∧ panelServes (base .boot) = false ∧ enabled (panelled id) 0x7B = true
    ∧ (panelled fun p => { p with first := some (some 0) }).panel.first = some (some 0)
    ∧ (panelled fun p => { p with update := some (upd0 []) }).panel.update = some (upd0 [])
    ∧ (upd0 [(2, false)]).phases = [(2, false)] ∧ (upd0 [(2, false), (3, false)]).phases = [(2, false), (3, false)]
    ∧ (upd0 []).clearing = none ∧ (panelled fun p => { p with testing := true }).panel.testing = true
    ∧ (panelled id).panel.update = none ∧ (panelled id).panel.testing = false ∧ (panelled id).panel.waiting = none
    ∧ (panelled id).panel.first = none := by decide

/-- A memory in its canonical form, and another that reads alike. -/
theorem witness_memory : Claims.memForm (writeBit CrewMem.reset 7 true) ∧ Claims.memForm CrewMem.reset
    ∧ (∀ e ∈ (writeBit CrewMem.reset 7 true).img.bits, e.1 < 0x10000) := by
  unfold Claims.memForm; decide

/-- A step from reset keeps the invariant, on the empty queue and on a command. -/
theorem witness_step : step State.reset = .next State.reset := by rfl

/-! ### One step of the blocks -/

def byService (i : Instr) (c : Chip) : Chip := ran i (withSession c (sess 0 0))

theorem test_start : (byService (.start (.session 0)) (base .stop)).mode.mode = .run
    ∧ (byService (.start (.session 0)) (base .stop)).mode.prev = .stop := by
  decide +kernel
theorem test_start_refused : (byService (.start (.session 0)) (base .safeHalt)).mode.mode = .safeHalt := by
  decide +kernel
theorem test_tick : (ran (.strokeTick 5000000 ⟨0, false, 0, 0, 0, 0⟩) (phase .recovery)).stroke.count = 1
    ∧ (ran (.strokeTick 5000000 ⟨0, false, 0, 0, 0, 0⟩) (phase .recovery)).stroke.t0 = 5000000 := by
  decide +kernel
theorem test_watchdog_trip : (ran .finish { phase .drive with crewS := crewAt false false }).stroke.haltAtStrobe = true := by
  decide +kernel
theorem test_button : (ran .button (base .run)).mode.mode = .reset ∧ (ran .button (base .run)).rst.asserted = 0x10 := by
  decide +kernel
theorem test_pll : (ran (.pllUnlock 2) (clocked (base .stop) 0x1F)).mode.mode = .safeHalt
    ∧ (ran (.pllUnlock 2) (clocked (base .stop) 0x1F)).boat.locked = 0x1B := by
  decide +kernel
theorem test_lease_expiry :
    (ran .leaseExpiry (pairChip .standby fun x => { x with leaseMiss := 5 })).mode.mode = .safeHalt := by
  decide +kernel
theorem test_supply : (digFs (ran (.fsSample 0 1499) (base .run)) 0).state = 2 := by
  decide +kernel
theorem test_can_bus_off : (can (ran (.busOffRecovery 0) (onBus .run 5 0 id)) 0).state = 2 := by
  decide +kernel

end Sys2Proof.Tests
end

section
/-!
PROOFS. The mode commands of MODE_CMD (R33, R34): which refusal each outcome of the two checks gives, the table of the
modes in which each command is legal, and the condition of each command.
-/
namespace Sys2Proof.Machine

/-! ### The two checks of a mode command (R33, R34) -/

/-- The table of R33 lists the codes 1 to 11 and no other. -/
theorem cmdModes_eq_none {cmd : Nat} (h : cmd = 0 ∨ 11 < cmd) : cmdModes cmd = none := by
  match cmd with
  | 0 | _ + 12 => rfl
  | 1 | 2 | 3 | 4 | 5 | 6 | 7 | 8 | 9 | 10 | 11 => omega

theorem modeCmdRefusal_of_noCommand {cmd : Nat} (c : Chip) (h : cmdModes cmd = none) :
    modeCmdRefusal c cmd = some 0x09 := by
  simp only [modeCmdRefusal, h]

theorem modeCmdRefusal_of_illegal {c : Chip} {cmd : Nat} {legal : List Mode} (h : cmdModes cmd = some legal)
    (illegal : c.mode.mode ∉ legal) : modeCmdRefusal c cmd = some 0x0A := by
  simp [modeCmdRefusal, h, illegal]

theorem modeCmdRefusal_of_legal {c : Chip} {cmd : Nat} {legal : List Mode} (h : cmdModes cmd = some legal)
    (isLegal : c.mode.mode ∈ legal) : modeCmdRefusal c cmd = if cmdCondition c cmd then none else some 0x0B := by
  simp [modeCmdRefusal, h, isLegal]

theorem modeCommandCodes_table : Claims.ModeCommandCodes := by
  intro c cmd legal
  have listed (low : 1 ≤ cmd) (high : cmd ≤ 11) : cmdModes cmd = some legal := by
    unfold legal
    clear legal
    match cmd with
    | 1 | 2 | 3 | 4 | 5 | 6 | 7 | 8 | 9 | 10 | 11 => rfl
    | 0 | _ + 12 => omega
  refine ⟨fun h => ?_, fun low high h => ?_, fun low high h => ?_⟩
  · exact modeCmdRefusal_of_noCommand c (cmdModes_eq_none h)
  · exact modeCmdRefusal_of_illegal (listed low high) h
  · exact modeCmdRefusal_of_legal (listed low high) h

/-! ### The condition of each command (R30, R34, R672) -/

theorem Mode.runs_iff {m : Mode} : m.runs = true ↔ m = .run ∨ m = .hold := by
  cases m <;> simp [Mode.runs]

theorem pllLocked_iff {c : Chip} : pllLocked c = true ↔ c.boat.locked = 0x1F :=
  beq_iff_eq

theorem haltGone_iff {c : Chip} :
    haltGone c = true ↔ c.coxSafety.faulty = false ∧ c.coxProcess.faulty = false ∧ c.boat.locked = 0x1F := by
  simp [haltGone, pllLocked_iff, and_assoc]

theorem cmdCondition_stop_of_runs {c : Chip} (h : c.mode.mode.runs = true) :
    cmdCondition c 2 = true ↔ ¬(paired c = true ∧ c.seat.holds = true ∧ standsBy c = true) := by
  simp only [cmdCondition, h, Bool.true_and, Bool.not_eq_true', ← Bool.not_eq_true, Bool.and_eq_true, and_assoc]

theorem cmdCondition_layUp_iff {c : Chip} : cmdCondition c 8 = true ↔ c.underway = false := by
  simp [cmdCondition]

theorem cmdCondition_activate_iff {c : Chip} : cmdCondition c 10 = true ↔ activateReason c = none := by
  simp [cmdCondition]

theorem cmdCondition_handover_iff {c : Chip} :
    cmdCondition c 11 = true ↔ paired c = true ∧ c.seat.holds = true ∧ partnerReady c = true := by
  simp [cmdCondition, and_assoc]

theorem modeCommandConditions : Claims.ModeCommandConditions := by
  intro c
  refine ⟨cmdCondition_layUp_iff, haltGone_iff, cmdCondition_handover_iff, fun running => ?_, ⟨rfl, rfl, rfl, rfl⟩,
    cmdCondition_activate_iff⟩
  exact cmdCondition_stop_of_runs (Mode.runs_iff.mpr running)

/-- Settles O23: the table of R33 decides the first two refusals, the command's condition the third. -/
theorem modeCommandCodes : Obligations.ModeCommandCodes :=
  ⟨modeCommandCodes_table, modeCommandConditions⟩

end Sys2Proof.Machine
end

section
/-!
PROOFS. The register pages: the attention tree of ATTN_GROUPn and ATTN_SUMMARY (R76, R77), and when a cause bit latches
(R55, R56).
-/
namespace Sys2Proof.Machine

/-! ### Words built bit by bit -/

/-- A fold that only sets bits leaves set what was set, and what some element of the list named. -/
theorem bitOf_foldl_setBit {α : Type} (named : α → Bool) (idx : α → Nat) (l : List α) (w : Word) {j : Nat}
    (hj : j < 32) : bitOf (l.foldl (fun w e => if named e then setBit w (idx e) true else w) w) j = true ↔
      bitOf w j = true ∨ ∃ e ∈ l, named e = true ∧ idx e = j := by
  induction l generalizing w with
  | nil => simp
  | cons e l ih =>
    simp only [List.foldl_cons, ih, List.mem_cons, or_and_right, exists_or, exists_eq_left]
    rw [← or_assoc]
    refine or_congr_left ?_
    by_cases h : named e = true
    · by_cases hi : idx e = j
      · simp [h, hi, bitOf_setBit _ _ _ hj]
      · simp [h, hi, Ne.symm hi, bitOf_setBit _ _ _ hj]
    · simp [h]

theorem bitOf_ofNat_b2n (b : Bool) (i : Nat) {j : Nat} (hj : j < 32) :
    bitOf (BitVec.ofNat 32 (b2n b * 2 ^ i)) j = (b && decide (j = i)) := by
  cases b with
  | false => simp [bitOf, b2n]
  | true =>
    rw [b2n, if_pos rfl, Nat.one_mul, Bool.true_and]
    exact getLsbD_ofNat_two_pow i j hj

/-- A word packed of one-bit fields shows at bit `j` the flags whose field is `j`. -/
theorem bitOf_pack_flags (flag : Nat → Bool) (l : List Nat) {j : Nat} (hj : j < 32) :
    bitOf (pack (l.map fun n => (b2n (flag n), n, n))) j = true ↔ j ∈ l ∧ flag j = true := by
  induction l with
  | nil => simp [pack, bitOf]
  | cons n l ih =>
    have field : b2n (flag n) % 2 ^ (n - n + 1) = b2n (flag n) := by cases flag n <;> simp [b2n]
    have join : bitOf (pack ((n :: l).map fun n => (b2n (flag n), n, n))) j
        = (bitOf (pack (l.map fun n => (b2n (flag n), n, n))) j || (flag n && decide (j = n))) := by
      rw [← bitOf_ofNat_b2n _ _ hj, List.map_cons, pack, field]
      exact BitVec.getLsbD_or
    rw [join, Bool.or_eq_true, ih, List.mem_cons]
    by_cases h : j = n
    · subst h; simp
    · simp [h]

/-! ### The attention tree (R76, R77) -/

theorem bitOf_attnGroup (c : Chip) (n : Nat) {b : Nat} (hb : b < 32) :
    bitOf (attnGroup c n) b = true ↔ ∃ e ∈ c.pages, e.1 = 32 * n + b ∧ e.2.cause &&& e.2.mask ≠ 0 := by
  refine (bitOf_foldl_setBit (fun e : Nat × PageHdr => decide (e.1 / 32 = n) && e.2.cause &&& e.2.mask != 0)
    (fun e => e.1 % 32) c.pages 0 hb).trans ?_
  have unset : bitOf 0 b = false := BitVec.getLsbD_zero
  have address (p : Nat) : p / 32 = n ∧ p % 32 = b ↔ p = 32 * n + b := by omega
  simp only [unset, Bool.false_eq_true, false_or, Bool.and_eq_true, decide_eq_true_eq, bne_iff_ne, and_right_comm,
    address]

theorem bitOf_attnSummary (c : Chip) {j : Nat} (hj : j < 32) :
    bitOf (attnSummary c) j = true ↔ j < 4 ∧ attnGroup c j ≠ 0 := by
  unfold attnSummary
  rw [bitOf_pack_flags (fun n => attnGroup c n != 0) _ hj, List.mem_range, bne_iff_ne]

/-- Settles O16: a group's fold sets one bit for each page that asks, and the summary packs one flag for each group. -/
theorem attentionTreeBits : Obligations.AttentionTreeBits := by
  intro c
  refine ⟨fun n b _ hb => bitOf_attnGroup c n hb, fun n hn => ?_, fun n hn => ?_, rfl⟩
  · exact (bitOf_attnSummary c (by omega)).trans (and_iff_right hn)
  · by_cases h : n < 32
    · exact Bool.eq_false_iff.mpr fun set => absurd ((bitOf_attnSummary c h).mp set).1 (by omega)
    · exact BitVec.getLsbD_of_ge _ _ (by omega)

/-! ### A condition and its edge (R56) -/

theorem setCond_of_same {c : Chip} {p b : Nat} {v : Bool} (h : bitOf (hdr c p).raw b = v) : setCond c p b v = c := by
  simp [setCond, h]

theorem setCond_of_rise {c : Chip} {p b : Nat} (h : bitOf (hdr c p).raw b = false) :
    setCond c p b true = setCause (modHdr c p fun x => { x with raw := setBit x.raw b true }) p b true := by
  simp [setCond, h]

theorem setCond_of_fall {c : Chip} {p b : Nat} (h : bitOf (hdr c p).raw b = true) :
    setCond c p b false = modHdr c p fun x => { x with raw := setBit x.raw b false } := by
  simp [setCond, h]

theorem hdr_setCond (c : Chip) (p b : Nat) (v : Bool) :
    hdr (setCond c p b v) p = { hdr c p with
      raw := if bitOf (hdr c p).raw b = v then (hdr c p).raw else setBit (hdr c p).raw b v
      cause := if v = true ∧ bitOf (hdr c p).raw b = false then setBit (hdr c p).cause b true
        else (hdr c p).cause } := by
  cases v <;> cases old : bitOf (hdr c p).raw b
  · simp [setCond_of_same old]
  · simp [setCond_of_fall old, hdr_modHdr]
  · simp [setCond_of_rise old, hdr_modHdr]
  · simp [setCond_of_same old]

theorem hdr_setCond_ne (c : Chip) {p q : Nat} (b : Nat) (v : Bool) (h : q ≠ p) :
    hdr (setCond c p b v) q = hdr c q := by
  cases v <;> cases old : bitOf (hdr c p).raw b
  · rw [setCond_of_same old]
  · rw [setCond_of_fall old, hdr_modHdr_ne c _ h]
  · rw [setCond_of_rise old, hdr_setCause_ne _ _ _ h, hdr_modHdr_ne c _ h]
  · rw [setCond_of_same old]

/-- Settles O17: an event sets its bit at once, a condition by the edge of its raw bit. -/
theorem causesLatchOnTheEdge : Obligations.CausesLatchOnTheEdge := by
  intro c p b v _
  refine ⟨hdr_raise c p b, hdr_setCond c p b v, fun q h => ⟨hdr_raise_ne c b h, hdr_setCond_ne c b v h⟩,
    fun j hj => ?_⟩
  rw [bitOf_setBit _ _ _ hj]
  by_cases h : j = b <;> simp [h]

end Sys2Proof.Machine
end

section
/-!
PROOFS. The logic engine's shared steps: a change of one core, the fetch of the next instruction (R161), and the
retirement of an instruction that the core stands at, from which every `Completes` and `JumpsTo` follows.
-/
namespace Sys2Proof.Machine
open Safety

/-! ### A change of one core -/

theorem listMod_eq_modify {α : Type} (l : List α) (n : Nat) (f : α → α) : listMod l n f = l.modify n f := by
  induction l generalizing n with
  | nil => cases n <;> rfl
  | cons x xs ih =>
    cases n with
    | zero => rfl
    | succ n => exact congrArg (x :: ·) (ih n)

theorem coreAt_modCore (c : Chip) {cr : Crew} {n : Nat} (f : CoreSt → CoreSt) (h : n < (crewSt c cr).cores.length) :
    coreAt (crewSt (modCore c cr n f) cr) n = f (coreAt (crewSt c cr) n) := by
  simp [coreAt, modCore, listMod_eq_modify, h]

theorem modCrew_congr (c : Chip) {cr : Crew} {f g : CrewSt → CrewSt} (h : f (crewSt c cr) = g (crewSt c cr)) :
    modCrew c cr f = modCrew c cr g := by
  cases cr
  · exact congrArg (fun k => { c with crewS := k }) h
  · exact congrArg (fun k => { c with crewP := k }) h

/-- A change of one core depends on what it makes of that core only. -/
theorem modCore_congr (c : Chip) {cr : Crew} {n : Nat} {f g : CoreSt → CoreSt}
    (h : f (coreAt (crewSt c cr) n) = g (coreAt (crewSt c cr) n)) : modCore c cr n f = modCore c cr n g := by
  refine modCrew_congr c (congrArg (fun l => { crewSt c cr with cores := l }) ?_)
  rw [listMod_eq_modify, listMod_eq_modify]
  refine List.ext_getElem? fun m => ?_
  rw [List.getElem?_modify, List.getElem?_modify]
  split
  · next at_n =>
    subst at_n
    cases stands : (crewSt c cr).cores[n]? with
    | none => rfl
    | some s => simpa [coreAt, stands] using h
  · rfl

theorem partAt_modCore (c : Chip) (cr : Crew) (n m : Nat) (f : CoreSt → CoreSt) :
    partAt (crewSt (modCore c cr n f) cr) m = partAt (crewSt c cr) m := by
  simp [modCore, partAt]

@[simp] theorem coxSt_modCore (c : Chip) (x y : Crew) (n : Nat) (f : CoreSt → CoreSt) :
    coxSt (modCore c x n f) y = coxSt c y := coxSt_modCrew c x y _

/-! ### The fetch (R161) -/

theorem fetchFault_of_fetches {c : Chip} {k : Issue} (h : Fetches c k (coreOf c k).pc) : fetchFault c k = c := by
  obtain ⟨w, stands, listed⟩ := h
  simp only [coreOf] at stands
  simp only [fetchFault, stands, listed, if_true]

theorem lt_length_of_fetches {c : Chip} {k : Issue} {pc : Nat} (h : Fetches c k pc) :
    pc < (partAt (crewSt c k.crew) k.core).code.length := by
  obtain ⟨w, stands, -⟩ := h
  exact (List.getElem?_eq_some_iff.mp stands).1

theorem core_lt_of_instrDue {c : Chip} {k : Issue} {w : Word} (h : instrDue c k w = true) :
    k.core < (crewSt c k.crew).cores.length := by
  simp only [instrDue, Bool.and_eq_true, decide_eq_true_eq] at h
  obtain ⟨⟨⟨⟨_, inside⟩, _⟩, _⟩, _⟩ := h
  exact inside

theorem eccStall_of_none {c : Chip} {k : Issue} (h : k.ecc = none) : eccStall c k = c := by
  simp only [eccStall, h]

/-! ### Retirement (R112, R157) -/

/-- An instruction in reach of the core, whose operand faults nothing, retires. -/
theorem runInstr_of_ready {c : Chip} {k : Issue} {op : Nat} {o : Opnd} {r : Retire}
    {body : CrewSt → CoreSt → Except Nat Retire} (ready : Ready c k op o r.clocks)
    (ok : body (crewSt c k.crew) (coreOf c k) = .ok r) : runInstr c k op o body = retire c k r := by
  obtain ⟨due, noBreak, noEcc, fits⟩ := ready
  simp only [coreOf] at ok fits
  simp [runInstr, due, noBreak, ok, noEcc, fits, eccStall, b2n]

/-- What retirement leaves, where COX_TEST does not fire (R249), before the next fetch. -/
theorem retire_of_unarmed {c : Chip} {k : Issue} {r : Retire}
    (unarmed : r.write.isSome = true → (coxSt c k.crew).testArm = false) :
    retire c k r = fetchFault (stepCore c k (r.jump.getD ((coreOf c k).pc + 1)) r.clocks fun _ => r.core) k := by
  cases write : r.write with
  | none => simp only [retire, write]; rfl
  | some a => simp only [retire, write, coxSt_modCore, unarmed (by simp [write])]; rfl

theorem stepCore_congr (c : Chip) {k : Issue} (next clocks : Nat) {f g : CoreSt → CoreSt}
    (h : f (coreOf c k) = g (coreOf c k)) : stepCore c k next clocks f = stepCore c k next clocks g :=
  modCore_congr c <| congrArg (fun s : CoreSt =>
    { s with pc := next, clocks := (coreOf c k).clocks + clocks, passBp := false }) h

/-- The fetch at the next PC leaves the module as it is, where a listed opcode stands there. -/
theorem fetchFault_stepCore {c : Chip} {k : Issue} {next clocks : Nat} {f : CoreSt → CoreSt}
    (inside : k.core < (crewSt c k.crew).cores.length) (fetches : Fetches c k next) :
    fetchFault (stepCore c k next clocks f) k = stepCore c k next clocks f := by
  refine fetchFault_of_fetches ?_
  simpa only [coreOf, stepCore, coreAt_modCore c _ inside, Fetches, partAt_modCore] using fetches

/-! ### From an instruction's body to its claim -/

/-- Executing instruction `i` is running `body` at opcode `op`. -/
def Runs (i : Issue → Opnd → Instr) (k : Issue) (o : Opnd) (op : Nat)
    (body : CrewSt → CoreSt → Except Nat Retire) : Prop :=
  ∀ s : State, exec (i k o) s = answer (fun c => runInstr c k op o body) s

section claims
variable {i : Issue → Opnd → Instr} {k : Issue} {o : Opnd} {op clocks : Nat} {writes : Bool}
  {body : CrewSt → CoreSt → Except Nat Retire} {pre : CrewSt → CoreSt → Prop} {f : CoreSt → CoreSt}

/-- An instruction that the core stands at, whose operand faults nothing and whose next instruction is listed, leaves
the core at that next instruction with its effect, and the rest of the module as it was. -/
theorem exec_of_ok (runs : Runs i k o op body) {s : State} (ready : Ready s.chip k op o clocks) {jump : Option Nat}
    {write : Option (Nat × Nat)}
    (ok : body (crewSt s.chip k.crew) (coreOf s.chip k) = .ok ⟨f (coreOf s.chip k), jump, write, clocks⟩)
    (fetches : Fetches s.chip k (jump.getD ((coreOf s.chip k).pc + 1)))
    (unarmed : write.isSome = true → (coxSt s.chip k.crew).testArm = false) :
    exec (i k o) s = .next (after s (stepCore s.chip k (jump.getD ((coreOf s.chip k).pc + 1)) clocks f)) := by
  rw [runs, answer_eq, runInstr_of_ready ready ok, retire_of_unarmed unarmed,
    fetchFault_stepCore (core_lt_of_instrDue ready.1) fetches]
  exact congrArg (fun c => Host.Outcome.next (after s c)) (stepCore_congr s.chip _ _ rfl)

/-- An instruction that jumps nowhere and writes no memory completes. -/
theorem completes_of_plain (runs : Runs i k o op body)
    (ok : ∀ cs s, pre cs s → body cs s = plain (f s) clocks) : Completes i k o op clocks writes pre f :=
  fun _ ready meets fetches _ => exec_of_ok (jump := none) runs ready (ok _ _ meets) fetches nofun

/-- An instruction that may write one cell of data memory completes. -/
theorem completes_of_write (runs : Runs i k o op body)
    (ok : ∀ cs s, pre cs s → ∃ write, body cs s = .ok ⟨f s, none, write, clocks⟩) :
    Completes i k o op clocks true pre f := fun _ ready meets fetches unarmed =>
  have ⟨_, ok⟩ := ok _ _ meets
  exec_of_ok (jump := none) runs ready ok fetches fun _ => unarmed rfl

/-- A jump that is taken goes on at its target; where an instruction can be fetched there, it lies in the program. -/
theorem jumpsTo_of_ok {target : CoreSt → Nat} (runs : Runs i k o op body)
    (ok : ∀ cs s, pre cs s → target s < (partAt cs k.core).code.length →
      body cs s = .ok ⟨f s, some (target s), none, clocks⟩) : JumpsTo i k o op clocks pre target f :=
  fun s ready meets fetches => exec_of_ok (jump := some (target (coreOf s.chip k))) runs ready
    (ok _ _ meets (lt_length_of_fetches fetches)) fetches nofun

end claims

end Sys2Proof.Machine
end

section
/-!
PROOFS. The logic instructions (chapter 4): the operand forms that the statements name (R134 to R137), then each family
of instructions by its shared operation, from its loads and branches to jumps, calls and END.
-/
namespace Sys2Proof.Machine
open Safety

section families
variable {i : Issue → Opnd → Instr} {k : Issue} {o : Opnd} {op clocks : Nat}

/-! ### Operand forms (R134 to R137) -/

theorem checkForm_imm (n : Nat) (imm : o.cls = 2) (fits : o.val.toNat < 2 ^ n) : checkForm [2] n o = .ok () := by
  simp [checkForm, operandClean, imm, fits]

theorem checkForm_address {limit : Nat} {index : Word} (names : Names limit index o) :
    checkForm [1, 3] 22 o = .ok () := by
  obtain ⟨cls | cls, -⟩ := names <;> simp [checkForm, operandClean, cls]

theorem checkForm_load {limit : Nat} {index : Word} (form : o.cls = 2 ∨ Names limit index o) :
    checkForm [1, 2, 3] 22 o = .ok () := by
  obtain imm | ⟨cls | cls, -⟩ := form
  · simp [checkForm, operandClean, imm, o.val.isLt]
  · simp [checkForm, operandClean, cls]
  · simp [checkForm, operandClean, cls]

theorem loadOperand_of_form {s : CoreSt} (form : o.cls = 2 ∨ Names wordLimit s.wa o) :
    loadOperand s o = .ok (wordOf s o) := by
  obtain imm | ⟨cls, within⟩ := form
  · simp [loadOperand, wordOf, immSigned, imm]
  · have notImm : o.cls ≠ 2 := by rintro imm; simp [imm] at cls
    simp only [loadOperand, wordOf, if_neg notImm, within, Except.map]

theorem checked_ok {classes : List Nat} {n : Nat} {f : Except Nat Retire} (form : checkForm classes n o = .ok ()) :
    checked classes n o f = f := by
  simp only [checked, form]

/-! ### Bit logic (R138 to R141) -/

/-- A load or combining instruction completes; `g` combines BA with the operand bit as it stands. -/
theorem completes_bitLoad {inv : Bool} {f g : Bool → Bool → Bool} (runs : Runs i k o op (bitLoad o inv f))
    (combines : ∀ b x, f b (x != inv) = g b x) :
    Completes i k o op (1 + indexClock o) false (fun _ s => Names bitLimit s.wa o)
      fun s => { s with ba := g s.ba (readBit s.mem (ea bitLimit s.wa o)) } :=
  completes_of_plain runs fun _ s names => by
    simp only [bitLoad, checked_ok (checkForm_address names), names.2, combines]

/-- An assignment completes: it writes `f` of BA where `writes` holds of BA. -/
theorem completes_bitStore {writes f : Bool → Bool} (runs : Runs i k o op (bitStore o writes f)) :
    Completes i k o op (1 + indexClock o) true (fun _ s => Names bitLimit s.wa o)
      fun s => if writes s.ba then { s with mem := writeBit s.mem (ea bitLimit s.wa o) (f s.ba) } else s :=
  completes_of_write runs fun _ s names => by
    simp only [bitStore, checked_ok (checkForm_address names), names.2]
    cases writes s.ba
    · exact ⟨none, rfl⟩
    · exact ⟨some _, rfl⟩

theorem completes_bitSet {f : CoreSt → CoreSt} (runs : Runs i k ⟨0, 0⟩ op (bitSet ⟨0, 0⟩ f)) :
    Completes i k ⟨0, 0⟩ op 1 false anyCore f :=
  completes_of_plain runs fun _ _ _ => rfl

theorem completes_branchOpen {b : BranchKind} (runs : Runs i k ⟨0, 0⟩ op (branchOpen ⟨0, 0⟩ b)) :
    Completes i k ⟨0, 0⟩ op 1 false (fun _ s => s.branch.length < 32)
      fun s => { s with branch := (s.ba, b) :: s.branch } :=
  completes_of_plain runs fun _ _ room => (checked_ok rfl).trans (if_neg (Nat.not_le.mpr room))

/-- CLB joins BA with the entry that was opened last. -/
theorem completes_clb (x : Bool) (b : BranchKind) (r : List (Bool × BranchKind)) :
    Completes .clb k ⟨0, 0⟩ 0x23 1 false (fun _ s => s.branch = (x, b) :: r)
      fun s => { s with ba := branchJoin b x s.ba, branch := r } :=
  completes_of_plain (fun _ => rfl) fun _ s top => by
    simp only [branchClose, top]
    exact checked_ok rfl

theorem completes_edge {f : Bool → Bool → Bool} (runs : Runs i k o op (edge o f)) (imm : o.cls = 2)
    (fits : o.val.toNat < 65536) :
    Completes i k o op 1 true anyCore fun s => { s with
      ba := f s.ba (smGet false s.mem.edges o.val.toNat)
      mem := { s.mem with edges := smSet false s.mem.edges o.val.toNat s.ba } } :=
  completes_of_write runs fun _ _ _ => ⟨_, checked_ok (checkForm_imm 16 imm fits)⟩

theorem bitLoadsComplete : Claims.BitLoadsComplete := by
  intro k o
  refine ⟨?_, ?_, ?_, ?_, ?_, ?_, ?_, ?_⟩
  · exact completes_bitLoad (g := fun _ x => x) (fun _ => rfl) (by decide)
  · exact completes_bitLoad (g := fun _ x => !x) (fun _ => rfl) (by decide)
  · exact completes_bitLoad (g := fun b x => b && x) (fun _ => rfl) (by decide)
  · exact completes_bitLoad (g := fun b x => b && !x) (fun _ => rfl) (by decide)
  · exact completes_bitLoad (g := fun b x => b || x) (fun _ => rfl) (by decide)
  · exact completes_bitLoad (g := fun b x => b || !x) (fun _ => rfl) (by decide)
  · exact completes_bitLoad (g := fun b x => b ^^ x) (fun _ => rfl) (by decide)
  · exact completes_bitLoad (g := fun b x => b ^^ !x) (fun _ => rfl) (by decide)

theorem nopCompletes (k : Issue) : Completes .nop k ⟨0, 0⟩ 0x00 1 false anyCore fun s => s :=
  completes_of_plain (fun _ => rfl) fun _ _ _ => checked_ok rfl

theorem bitSetsComplete : Claims.BitSetsComplete := by
  intro k
  refine ⟨?inv, ?btrue, ?bfalse, ?ldov, nopCompletes k⟩
  all_goals exact completes_bitSet fun _ => rfl

theorem branchesComplete : Claims.BranchesComplete := by
  intro k
  refine ⟨?opa, ?opo, ?opx, fun x r => ⟨completes_clb x .and r, completes_clb x .or r,
    completes_clb x .xor r⟩⟩
  all_goals exact completes_branchOpen fun _ => rfl

theorem bitStoresComplete : Claims.BitStoresComplete := by
  intro k o
  refine ⟨?_, ?_, ?_, ?_, fun imm fits => ⟨?_, ?_⟩⟩
  · exact completes_bitStore (writes := fun _ => true) (f := fun b => b) fun _ => rfl
  · exact completes_bitStore (writes := fun _ => true) (f := fun b => !b) fun _ => rfl
  · exact completes_bitStore (writes := fun b => b) (f := fun _ => true) fun _ => rfl
  · exact completes_bitStore (writes := fun b => b) (f := fun _ => false) fun _ => rfl
  · exact completes_edge (f := fun b e => b && !e) (fun _ => rfl) imm fits
  · exact completes_edge (f := fun b e => !b && e) (fun _ => rfl) imm fits

/-! ### The rows of TON, TOF and TP (R145) -/

section rows
variable (now pt : Word) {t : Timer}

theorem tonStep_off (t : Timer) : tonStep now false pt t = ⟨false, t.start, false, false, pt, false⟩ := by
  simp [tonStep]

theorem tonStep_rising (rising : t.inp = false) :
    tonStep now true pt t = ⟨true, now, decide (pt = 0), decide (pt = 0), pt, !decide (pt = 0)⟩ := by
  by_cases expired : pt = 0#32 <;> simp [tonStep, elapsed, rising, expired]

theorem tonStep_running (on : t.inp = true) (running : t.done = false) :
    tonStep now true pt t = ⟨true, t.start, decide (pt ≤ now - t.start), decide (pt ≤ now - t.start), pt,
      !decide (pt ≤ now - t.start)⟩ := by
  by_cases expired : pt ≤ now - t.start <;> simp [tonStep, elapsed, on, running, expired]

theorem tonStep_done (on : t.inp = true) (done : t.done = true) :
    tonStep now true pt t = ⟨true, t.start, true, true, pt, t.running⟩ := by
  simp [tonStep, on, done]

theorem tofStep_on (t : Timer) : tofStep now true pt t = ⟨true, t.start, true, false, pt, false⟩ := by
  simp [tofStep]

theorem tofStep_falling (falling : t.inp = true) (q : t.q = true) :
    tofStep now false pt t = ⟨false, now, !decide (pt = 0), decide (pt = 0) || t.done, pt, !decide (pt = 0)⟩ := by
  by_cases expired : pt = 0#32 <;> simp [tofStep, elapsed, falling, q, expired]

theorem tofStep_running (off : t.inp = false) (q : t.q = true) :
    tofStep now false pt t = ⟨false, t.start, !decide (pt ≤ now - t.start), decide (pt ≤ now - t.start) || t.done, pt,
      !decide (pt ≤ now - t.start)⟩ := by
  by_cases expired : pt ≤ now - t.start <;> simp [tofStep, elapsed, off, q, expired]

theorem tofStep_idle (off : t.inp = false) (q : t.q = false) :
    tofStep now false pt t = ⟨false, t.start, false, t.done, pt, t.running⟩ := by
  simp [tofStep, off, q]

theorem tpStep_rising (rising : t.inp = false) (q : t.q = false) (done : t.done = false) :
    tpStep now true pt t = ⟨true, now, !decide (pt = 0), decide (pt = 0), pt, !decide (pt = 0)⟩ := by
  by_cases expired : pt = 0#32 <;> simp [tpStep, elapsed, rising, q, done, expired]

/-- A pulse lasts until its time is up; DONE then stays until the input has fallen. -/
theorem tpStep_pulse (i : Bool) (q : t.q = true) :
    tpStep now i pt t = ⟨i, t.start, !decide (pt ≤ now - t.start), i && (decide (pt ≤ now - t.start) || t.done), pt,
      (i || !t.done) && !decide (pt ≤ now - t.start)⟩ := by
  by_cases expired : pt ≤ now - t.start
  · cases i <;> simp [tpStep, elapsed, q, expired]
  · cases i <;> cases done : t.done <;> simp [tpStep, elapsed, q, done, expired]

theorem tpStep_off (q : t.q = false) :
    tpStep now false pt t = ⟨false, t.start, false, false, pt, !t.done && t.running⟩ := by
  cases done : t.done <;> simp [tpStep, q, done]

end rows

theorem tonStep_pt (now pt : Word) (i : Bool) (t : Timer) : (tonStep now i pt t).pt = pt := by
  simp only [tonStep, apply_ite Timer.pt, ite_self]

theorem tofStep_pt (now pt : Word) (i : Bool) (t : Timer) : (tofStep now i pt t).pt = pt := by
  simp only [tofStep, apply_ite Timer.pt, ite_self]

theorem tpStep_pt (now pt : Word) (i : Bool) (t : Timer) : (tpStep now i pt t).pt = pt := by
  simp only [tpStep, apply_ite Timer.pt, ite_self]

theorem timerEt_idle {now : Word} {t : Timer} (done : t.done = false) (idle : t.running = false) :
    timerEt now t = 0 := by
  simp [timerEt, done, idle]

theorem timerRowsHold : Claims.TimerRowsHold := by
  intro now pt t et
  refine ⟨?tonOff, ?tonRising, ?tonRunning, ?tonDone, ?tofOn, ?tofFalling, ?tofRunning, ?tofIdle, ?tpRising, ?tpPulse,
    ?tpOff, ?stores⟩
  case tonOff => simp [tonStep_off, timerEt_idle]
  case tonRising => intro rising; simp [tonStep_rising now pt rising]
  case tonRunning => intro on running; simp [tonStep_running now pt on running, et]
  case tonDone => intro on done; simp [tonStep_done now pt on done]
  case tofOn => simp [tofStep_on, timerEt_idle]
  case tofFalling => intro falling q; simp [tofStep_falling now pt falling q]
  case tofRunning => intro off q; simp [tofStep_running now pt off q, et]
  case tofIdle => intro off q; simp [tofStep_idle now pt off q]
  case tpRising => intro rising q done; simp [tpStep_rising now pt rising q done]
  case tpPulse => intro i q; simp [tpStep_pulse now pt i q, et]
  case tpOff => intro q; simp [tpStep_off now pt q]
  case stores => exact fun i => ⟨rfl, rfl, rfl, tonStep_pt now pt i t, tofStep_pt now pt i t, tpStep_pt now pt i t⟩

/-! ### Timers (R143 to R145) -/

theorem completes_timerRun {f : Word → Bool → Word → Timer → Timer} (runs : Runs i k o op (timerRun o f))
    (now : Word) (imm : o.cls = 2) (fits : o.val.toNat < 4096) :
    Completes i k o op 4 true (fun cs _ => now = timeNow cs o.val.toNat) fun s =>
      let t := f now s.ba (preset s.wa) (smGet Timer.reset s.mem.timers o.val.toNat)
      { s with ba := t.q, mem := setTimer s.mem o.val.toNat t } :=
  completes_of_write runs fun cs s due => by
    subst due
    exact ⟨_, checked_ok (checkForm_imm 12 imm fits)⟩

theorem completes_trst (imm : o.cls = 2) (fits : o.val.toNat < 4096) :
    Completes .trst k o 0x3B 2 true anyCore fun s =>
      let pt := (smGet Timer.reset s.mem.timers o.val.toNat).pt
      if s.ba then { s with mem := setTimer s.mem o.val.toNat { Timer.reset with pt := pt } } else s :=
  completes_of_write (fun _ => rfl) fun _ s _ => by
    simp only [timerReset, checked_ok (checkForm_imm 12 imm fits)]
    cases s.ba
    · exact ⟨none, rfl⟩
    · exact ⟨some _, rfl⟩

theorem completes_tet (now : Word) (imm : o.cls = 2) (fits : o.val.toNat < 4096) :
    Completes .tet k o 0x3C 2 false (fun cs _ => now = timeNow cs o.val.toNat) fun s =>
      { s with wa := timerEt now (smGet Timer.reset s.mem.timers o.val.toNat) } :=
  completes_of_plain (fun _ => rfl) fun cs s due => by
    subst due
    exact checked_ok (checkForm_imm 12 imm fits)

theorem timersComplete : Claims.TimersComplete := by
  intro k o now imm fits
  refine ⟨?ton, ?tof, ?tp, ?trst, ?tet⟩
  case ton => exact completes_timerRun (f := tonStep) (fun _ => rfl) now imm fits
  case tof => exact completes_timerRun (f := tofStep) (fun _ => rfl) now imm fits
  case tp => exact completes_timerRun (f := tpStep) (fun _ => rfl) now imm fits
  case trst => exact completes_trst imm fits
  case tet => exact completes_tet now imm fits

/-! ### Counters (R147) -/

theorem completes_counterRun {f : CoreSt → Counter → Counter × Bool} (runs : Runs i k o op (counterRun o clocks f))
    (imm : o.cls = 2) (fits : o.val.toNat < 4096) :
    Completes i k o op clocks true anyCore fun s =>
      let r := f s (smGet Counter.reset s.mem.counters o.val.toNat)
      { s with ba := r.2, mem := setCounter s.mem o.val.toNat r.1 } :=
  completes_of_write runs fun _ _ _ => ⟨_, checked_ok (checkForm_imm 12 imm fits)⟩

/-- CRST and CLD complete; where they write, BA is 1 and stays so. -/
theorem completes_counterSet {v : CoreSt → Word} (runs : Runs i k o op (counterSet o v)) (imm : o.cls = 2)
    (fits : o.val.toNat < 4096) :
    Completes i k o op 2 true anyCore fun s =>
      let r := smGet Counter.reset s.mem.counters o.val.toNat
      if s.ba then { s with ba := true, mem := setCounter s.mem o.val.toNat { r with cv := v s } } else s :=
  completes_of_write runs fun _ s _ => by
    simp only [counterSet, checked_ok (checkForm_imm 12 imm fits)]
    cases ba : s.ba
    · exact ⟨none, rfl⟩
    · exact ⟨some _, rfl⟩

/-! ### Words (R148 to R152) -/

theorem completes_wordLoad {f : CoreSt → Word → CoreSt} (runs : Runs i k o op (wordLoad o f)) :
    Completes i k o op (1 + indexClock o) false (fun _ s => o.cls = 2 ∨ Names wordLimit s.wa o)
      fun s => f s (wordOf s o) :=
  completes_of_plain runs fun _ _ form => by
    simp only [wordLoad, checked_ok (checkForm_load form), loadOperand_of_form form]

theorem completes_tw :
    Completes .tw k o 0x52 (1 + indexClock o) true (fun _ s => Names wordLimit s.wb o)
      fun s => { s with mem := writeWord s.mem (ea wordLimit s.wb o) s.wa } :=
  completes_of_write (fun _ => rfl) fun _ _ names => by
    simp only [wordStore, checked_ok (checkForm_address names), names.2]
    exact ⟨_, rfl⟩

/-- An instruction without an operand completes with `g`, which its operation equals on the cores that `pre` names. -/
theorem completes_wordOp {f g : CoreSt → CoreSt} {pre : CrewSt → CoreSt → Prop}
    (runs : Runs i k ⟨0, 0⟩ op (wordOp ⟨0, 0⟩ clocks f)) (effect : ∀ cs s, pre cs s → f s = g s) :
    Completes i k ⟨0, 0⟩ op clocks false pre g :=
  completes_of_plain runs fun cs s meets => by
    rw [← effect cs s meets]
    exact checked_ok rfl

theorem completes_wordShift {f : Word → Nat → Word} (n : Fin 32)
    (runs : Runs i k ⟨2, BitVec.ofNat 22 n⟩ op (wordShift ⟨2, BitVec.ofNat 22 n⟩ f)) :
    Completes i k ⟨2, BitVec.ofNat 22 n⟩ op 1 false anyCore fun s => { s with wa := f s.wa n.val } := by
  have amount : (BitVec.ofNat 22 n).toNat = n.val := Nat.mod_eq_of_lt (by omega)
  refine completes_of_plain runs fun _ s _ => ?_
  rw [wordShift, checked_ok (checkForm_imm 5 rfl (by simp only [amount]; omega)), amount]

theorem completes_compare {p : Int → Int → Bool} {q : Word → Word → Bool}
    (runs : Runs i k ⟨0, 0⟩ op (compare ⟨0, 0⟩ p)) (compares : ∀ b a : Word, p b.toInt a.toInt = q b a) :
    Completes i k ⟨0, 0⟩ op 1 false anyCore fun s => { s with ba := q s.wb s.wa } :=
  completes_of_plain runs fun _ s _ => by
    rw [← compares]
    exact checked_ok rfl

theorem wordMovesComplete : Claims.WordMovesComplete := by
  intro k o
  refine ⟨?ldw, ?ldwb, completes_tw, fun imm fits => ?ldhi, ?swap⟩
  case ldw => exact completes_wordLoad (f := fun s w => { s with wa := w }) fun _ => rfl
  case ldwb => exact completes_wordLoad (f := fun s w => { s with wb := w }) fun _ => rfl
  case ldhi => exact completes_of_plain (fun _ => rfl) fun _ _ _ => checked_ok (checkForm_imm 16 imm fits)
  case swap =>
    rintro rfl
    exact completes_wordOp (fun _ => rfl) fun _ _ _ => rfl

/-! ### The corners of the arithmetic (R149, R150) -/

theorem overflows_eq (x : Int) : overflows x = decide (x < -2147483648 ∨ 2147483647 < x) :=
  (Bool.decide_or ..).symm

theorem setResult_narrow (s : CoreSt) (x : Int) : setResult s (narrow x) =
    { s with wa := BitVec.ofInt 32 x, ov := s.ov || decide (x < -2147483648 ∨ 2147483647 < x) } := by
  rw [← overflows_eq]
  rfl

theorem absWord_of_ne {a : Word} (h : a ≠ 0x80000000) : absWord a = (BitVec.ofNat 32 a.toInt.natAbs, false) := by
  have notMin : a ≠ wMin := h
  rw [absWord, if_neg notMin]
  split
  · next negative =>
    rw [← BitVec.ofInt_natCast, Int.ofNat_natAbs_of_nonpos (Int.le_of_lt negative), BitVec.ofInt_neg, BitVec.ofInt_toInt]
  · next nonneg =>
    rw [← BitVec.ofInt_natCast, Int.natAbs_of_nonneg (Int.not_lt.mp nonneg), BitVec.ofInt_toInt]

theorem divWord_of_fits {b a : Word} (nonzero : a ≠ 0) (noCorner : ¬(b = 0x80000000 ∧ a = -1)) :
    divWord b a = (BitVec.ofInt 32 (b.toInt.tdiv a.toInt), false) :=
  (if_neg nonzero).trans (if_neg noCorner)

theorem divWord_corner {b a : Word} (corner : b = 0x80000000 ∧ a = -1) : divWord b a = (0x7FFFFFFF, true) := by
  rw [corner.1, corner.2]
  rfl

theorem modWord_of_ne {b a : Word} (nonzero : a ≠ 0) :
    modWord b a = (BitVec.ofInt 32 (b.toInt.tmod a.toInt), false) := if_neg nonzero

theorem arithmeticCompletes : Claims.ArithmeticCompletes := by
  intro k
  refine ⟨?add, ?sub, ?mul, ?neg, ?abs, ?absMin, ?div, ?divCorner, ?divZero, ?mod, ?modZero⟩
  case add | sub | mul | neg => exact completes_wordOp (fun _ => rfl) fun _ s _ => setResult_narrow s _
  case abs => exact completes_wordOp (fun _ => rfl) fun _ s fits => congrArg (setResult s) (absWord_of_ne fits)
  case absMin => exact completes_wordOp (fun _ => rfl) fun _ s least => congrArg (setResult s) (if_pos least)
  case div =>
    exact completes_wordOp (fun _ => rfl) fun _ s fits => congrArg (setResult s) (divWord_of_fits fits.1 fits.2)
  case divCorner =>
    exact completes_wordOp (fun _ => rfl) fun _ s corner => congrArg (setResult s) (divWord_corner corner)
  case divZero => exact completes_wordOp (fun _ => rfl) fun _ s zero => congrArg (setResult s) (if_pos zero)
  case mod => exact completes_wordOp (fun _ => rfl) fun _ s nonzero => congrArg (setResult s) (modWord_of_ne nonzero)
  case modZero => exact completes_wordOp (fun _ => rfl) fun _ s zero => congrArg (setResult s) (if_pos zero)

theorem wordLogicCompletes : Claims.WordLogicCompletes := by
  intro k n
  refine ⟨?aw, ?ow, ?xw, ?shl, ?shr, ?sar, ?eq, ?ne, ?gt, ?ge, ?lt, ?le⟩
  case aw | ow | xw => exact completes_wordOp (fun _ => rfl) fun _ _ _ => rfl
  case shl => exact completes_wordShift (f := fun w n => w <<< n) n fun _ => rfl
  case shr => exact completes_wordShift (f := fun w n => w >>> n) n fun _ => rfl
  case sar => exact completes_wordShift (f := fun w n => w.sshiftRight n) n fun _ => rfl
  case eq =>
    exact completes_compare (q := fun b a => b == a) (fun _ => rfl) fun _ _ => decide_eq_decide.mpr BitVec.toInt_inj
  case ne =>
    refine completes_compare (q := fun b a => b != a) (fun _ => rfl) fun b a => ?_
    simp only [ne_eq, decide_not, BitVec.toInt_inj]
    rfl
  case gt => exact completes_compare (q := fun b a => decide (b.toInt > a.toInt)) (fun _ => rfl) fun _ _ => rfl
  case ge => exact completes_compare (q := fun b a => decide (b.toInt ≥ a.toInt)) (fun _ => rfl) fun _ _ => rfl
  case lt => exact completes_compare (q := fun b a => decide (b.toInt < a.toInt)) (fun _ => rfl) fun _ _ => rfl
  case le => exact completes_compare (q := fun b a => decide (b.toInt ≤ a.toInt)) (fun _ => rfl) fun _ _ => rfl

/-! ### Jumps, calls and returns (R153 to R155) -/

/-- A jump whose target lies in the program faults nothing (R161), taken or not. -/
theorem jump_of_target {p : Bool → Bool} {cs : CrewSt} (s : CoreSt) (imm : o.cls = 2) (fits : o.val.toNat < 1048576)
    (inside : o.val.toNat < (partAt cs k.core).code.length) :
    jump k.core o p cs s = if p s.ba then .ok ⟨s, some o.val.toNat, none, 2⟩ else plain s 1 := by
  simp [jump, checked_ok (checkForm_imm 20 imm fits), targetOk, inside]

/-- A call whose target lies in the program faults only where it is taken on a full call stack (R154, R161). -/
theorem call_of_target {p : Bool → Bool} {cs : CrewSt} {s : CoreSt} (imm : o.cls = 2) (fits : o.val.toNat < 1048576)
    (inside : o.val.toNat < (partAt cs k.core).code.length) :
    call k.core o p cs s = if p s.ba then
      if 16 ≤ s.calls.length then .error 9
      else .ok ⟨{ s with calls := (s.pc + 1) :: s.calls }, some o.val.toNat, none, 3⟩
    else plain s 1 := by
  cases taken : p s.ba <;> simp [call, checked_ok (checkForm_imm 20 imm fits), targetOk, inside, taken]

theorem flowCompletes : Claims.FlowCompletes := by
  intro k o imm fits
  refine ⟨?jmp, ?jbt, ?jbtNot, ?jbf, ?jbfNot, ?call, ?callt, ?calltNot, ?ret⟩
  case jmp => exact jumpsTo_of_ok (fun _ => rfl) fun _ s _ inside => jump_of_target s imm fits inside
  case jbt | jbf =>
    exact jumpsTo_of_ok (fun _ => rfl) fun _ s on inside => by simp [jump_of_target s imm fits inside, on.1]
  case jbtNot | jbfNot =>
    exact completes_of_plain (fun _ => rfl) fun _ s on => by simp [jump_of_target s imm fits on.2, on.1]
  case call =>
    exact jumpsTo_of_ok (fun _ => rfl) fun _ s room inside => by simp [call_of_target imm fits inside, room]
  case callt =>
    refine jumpsTo_of_ok (fun _ => rfl) fun _ s meets inside => ?_
    obtain ⟨on, room⟩ := meets
    simp [call_of_target imm fits inside, on.1, room]
  case calltNot =>
    exact completes_of_plain (fun _ => rfl) fun _ s on => by simp [call_of_target imm fits on.2, on.1]
  case ret =>
    refine jumpsTo_of_ok (fun _ => rfl) fun _ s inCall _ => ?_
    cases calls : s.calls with
    | nil => exact absurd calls inCall
    | cons a r => simp only [ret, calls]; exact checked_ok rfl

end families

/-! ### END (R156, R177, R178, R182) -/

theorem endFault_ok {s : CoreSt} (branch : s.branch = []) (calls : s.calls = []) : endFault ⟨0, 0⟩ s = .ok () := by
  simp [endFault, checkForm, operandClean, branch, calls]

theorem endInstr_of_ready {c : Chip} {k : Issue} (ready : Ready c k 0x01 ⟨0, 0⟩ 1) (branch : (coreOf c k).branch = [])
    (calls : (coreOf c k).calls = []) : endInstr c k ⟨0, 0⟩ = endRetires c k := by
  obtain ⟨due, noBreak, noEcc, fits⟩ := ready
  have noFault := endFault_ok branch calls
  simp only [coreOf] at noFault fits
  simp only [endInstr, due, noBreak, noFault, eccStall_of_none noEcc, noEcc]
  exact if_pos fits

/-- Entering a task whose first instruction is listed, or none, faults nothing (R161). -/
theorem fetchFirst_of_fetches {c : Chip} {k : Issue} (h : (coreOf c k).task = none ∨ Fetches c k (coreOf c k).pc) :
    fetchFirst k.crew k.core c = c := by
  simp only [fetchFirst]
  obtain none_ | fetches := h
  · rw [coreOf] at none_
    simp [none_]
  · split
    · exact fetchFault_of_fetches (k := ⟨k.crew, k.core, none⟩) fetches
    · rfl

/-- The CRAB_RUN record of a core's END in crew `cs`, once the task has left module `c` (R182). -/
def recordCrab (cs : CrewSt) (k : Issue) (c : Chip) : Chip :=
  if (coreAt cs k.core).task.getD 0 = 1 && !replaying c then
    emit c (crewPage k.crew) 0x34 1 (BitVec.ofNat 32 cs.driveNo) (BitVec.ofNat 32 cs.crabStations)
      (BitVec.ofNat 32 cs.crabIslands) c.stroke.count
  else c

@[simp] theorem replaying_modCrew (c : Chip) (cr : Crew) (f : CrewSt → CrewSt) :
    replaying (modCrew c cr f) = replaying c := by
  simp [replaying]

theorem endCompletes : Claims.EndCompletes := by
  intro k s ready branch calls t part c d next
  have entered : endTask s.chip k = recordCrab (crewSt s.chip k.crew) k c :=
    congrArg (recordCrab (crewSt s.chip k.crew) k) (modCrew_congr s.chip rfl)
  have quiet : replaying c = replaying s.chip := replaying_modCrew ..
  have count : c.stroke = s.chip.stroke := modCrew_stroke ..
  have recorded : recordCrab (crewSt s.chip k.crew) k c = d := by
    rw [recordCrab, quiet, count]
    exact ite_congr (by simp [t, coreOf]) (fun _ => rfl) fun _ => rfl
  have runs : exec (.endTask k ⟨0, 0⟩) s = .next (after s (endInstr s.chip k ⟨0, 0⟩)) := rfl
  rw [runs, endInstr_of_ready ready branch calls, endRetires, entered, recorded,
    fetchFirst_of_fetches next]

/-! ### The obligations -/

/-- Settles O9: loads, sets, branches and stores, each by its shared operation. -/
theorem bitInstructionsComplete : Obligations.BitInstructionsComplete :=
  ⟨bitLoadsComplete, bitSetsComplete, branchesComplete, bitStoresComplete⟩

/-- Settles O10: a timer instruction retires with its step's record, and the steps keep the rows of R145. -/
theorem timerInstructionsComplete : Obligations.TimerInstructionsComplete := ⟨timersComplete, timerRowsHold⟩

/-- Settles O11: each counter instruction is its shared operation with a 12-bit counter number. -/
theorem countersComplete : Obligations.CountersComplete := by
  intro k o imm fits
  refine ⟨?ctu, ?ctd, ?crst, ?cld, ?lcv⟩
  case ctu => exact completes_counterRun (f := ctuStep) (fun _ => rfl) imm fits
  case ctd => exact completes_counterRun (f := ctdStep) (fun _ => rfl) imm fits
  case crst => exact completes_counterSet (v := fun _ => 0) (fun _ => rfl) imm fits
  case cld => exact completes_counterSet (v := fun s => s.wa) (fun _ => rfl) imm fits
  case lcv => exact completes_of_plain (fun _ => rfl) fun _ _ _ => checked_ok (checkForm_imm 12 imm fits)

/-- Settles O12: moves, arithmetic with its corners, and logic. -/
theorem wordInstructionsComplete : Obligations.WordInstructionsComplete :=
  ⟨wordMovesComplete, arithmeticCompletes, wordLogicCompletes⟩

/-- Settles O13: jumps and calls, END by the task that it leaves and enters, and NOP. -/
theorem flowInstructionsComplete : Obligations.FlowInstructionsComplete :=
  ⟨flowCompletes, endCompletes, nopCompletes⟩

end Sys2Proof.Machine
end

section
/-!
PROOFS. The loop engines' arithmetic: the limits of a loop's output (R261), rounding and saturation (R254, R255), and
the residue of a section (R259).
-/
namespace Sys2Proof.Machine

/-! ### Limits (R261) -/

section limits
variable (lo hi x : Int)

/-- R261 applies lo first and hi second. -/
theorem limitOut_u : (limitOut lo hi x).u = min hi (max lo x) := by
  simp only [limitOut]
  omega

theorem limitOut_clampLo : (limitOut lo hi x).clampLo = true ↔ x < lo ∨ hi < lo := by
  simp [limitOut]

theorem limitOut_clampHi : (limitOut lo hi x).clampHi = true ↔ hi < x ∨ hi < lo := by
  simp only [limitOut, Bool.or_eq_true, decide_eq_true_eq]
  omega

end limits

/-- Settles O33: the output is the value clamped by max and min, and each report is one of the two comparisons. -/
theorem outputsStayInLimits : Obligations.OutputsStayInLimits := by
  intro lo hi x r
  have u : r.u = min hi (max lo x) := limitOut_u lo hi x
  have low : r.clampLo = true ↔ x < lo ∨ hi < lo := limitOut_clampLo lo hi x
  have high : r.clampHi = true ↔ hi < x ∨ hi < lo := limitOut_clampHi lo hi x
  rw [u, low, high]
  refine ⟨fun ordered => ?inOrder, fun crossed => ?crossed⟩
  case inOrder => refine ⟨?_, ?_, ?_, ?_, ?_, ?_, ?_⟩ <;> omega
  case crossed => exact ⟨by omega, .inr crossed, .inr crossed⟩

/-! ### Rounding and saturation (R254, R255) -/

/-- What rounding drops is at most half a step, and a tie goes up (R254). -/
theorem roundQ15_dropped (acc : Int) :
    -16384 ≤ acc - roundQ15 acc * 32768 ∧ acc - roundQ15 acc * 32768 < 16384 := by
  rw [roundQ15]
  omega

theorem satQ15_mem (x : Int) : -32768 ≤ satQ15 x ∧ satQ15 x ≤ 32767 := by
  rw [satQ15, clampInt]
  omega

theorem satQ15_eq_end {x : Int} (h : satQ15 x ≠ x) : satQ15 x = -32768 ∨ satQ15 x = 32767 := by
  rw [satQ15, clampInt] at *
  omega

@[simp] theorem satAt_val (w : Nat) (x : Int) : (satAt w x).val = satQ15 x := rfl

theorem satAt_hit_eq_none {w : Nat} {x : Int} : (satAt w x).hit = none ↔ satQ15 x = x := by
  simp [satAt]

theorem satAt_hit_eq_some {w : Nat} {x : Int} (h : (satAt w x).hit ≠ none) : (satAt w x).hit = some w :=
  if_neg (mt satAt_hit_eq_none.mpr h)

/-! ### A section's sum and its residue (R258, R259) -/

/-- The sum that a section rounds: its shifted terms and, with EF, the residue of the sample before (R258, R259). -/
def sectionSum (sec : Section) (m : SecSt) (x : Int) : Int :=
  (sec.b0 * x + sec.b1 * m.x1 + sec.b2 * m.x2 - sec.a1 * m.y1 - sec.a2 * m.y2) * 2 ^ sec.shift
    + (if sec.ef then m.r else (0 : Int))

section residue
variable (k : Nat) (sec : Section) (m : SecSt) (x : Int)

theorem sectionStep_out : (sectionStep k sec m x).2 = satAt k (roundQ15 (sectionSum sec m x)) := by
  cases ef : sec.ef <;> simp [sectionStep, sectionSum, ef]

/-- The residue is what the rounding dropped, kept with EF and where nothing saturated (R259). -/
theorem sectionStep_residue : (sectionStep k sec m x).1.r =
    if sec.ef = true ∧ (sectionStep k sec m x).2.hit = none then
      sectionSum sec m x - (sectionStep k sec m x).2.val * 32768
    else 0 := by
  rw [sectionStep_out]
  cases ef : sec.ef
  · simp [sectionStep, ef]
  · cases hit : (satAt k (roundQ15 (sectionSum sec m x))).hit <;> simp_all [sectionStep, sectionSum]

variable {k sec m x}

theorem sectionStep_val_of_noHit (h : (sectionStep k sec m x).2.hit = none) :
    (sectionStep k sec m x).2.val = roundQ15 (sectionSum sec m x) := by
  rw [sectionStep_out] at *
  exact satAt_hit_eq_none.mp h

theorem sectionStep_residue_of_noEf (ef : sec.ef = false) : (sectionStep k sec m x).1.r = 0 := by
  simp [sectionStep_residue, ef]

theorem sectionStep_residue_of_hit (h : (sectionStep k sec m x).2.hit ≠ none) :
    (sectionStep k sec m x).1.r = 0 := by
  simp [sectionStep_residue, h]

theorem sectionStep_residue_of_ef (ef : sec.ef = true) (h : (sectionStep k sec m x).2.hit = none) :
    (sectionStep k sec m x).1.r = sectionSum sec m x - (sectionStep k sec m x).2.val * 32768 := by
  simp [sectionStep_residue, ef, h]

/-- With EF and no saturation the bound is that of the rounding; otherwise the residue is 0. -/
theorem sectionStep_residue_mem :
    -16384 ≤ (sectionStep k sec m x).1.r ∧ (sectionStep k sec m x).1.r < 16384 := by
  by_cases h : (sectionStep k sec m x).2.hit = none
  · cases ef : sec.ef
    · simp [sectionStep_residue_of_noEf ef]
    · rw [sectionStep_residue_of_ef ef h, sectionStep_val_of_noHit h]
      exact roundQ15_dropped _
  · simp [sectionStep_residue_of_hit h]

end residue

/-- Settles O34: the section's output is its saturated rounded sum, and its residue goes by EF and by saturation. -/
theorem residuesStaySmall : Obligations.ResiduesStaySmall := by
  intro k sec m x
  refine ⟨roundQ15_dropped, ?_⟩
  intro r acc
  have out : r.2 = satAt k (roundQ15 acc) := sectionStep_out k sec m x
  have range : -32768 ≤ r.2.val ∧ r.2.val ≤ 32767 := by
    rw [out]
    exact satQ15_mem _
  have saturated (h : r.2.hit ≠ none) : r.2.hit = some k ∧ r.1.r = 0 ∧ (r.2.val = -32768 ∨ r.2.val = 32767) := by
    have residue : r.1.r = 0 := sectionStep_residue_of_hit h
    rw [out] at h ⊢
    exact ⟨satAt_hit_eq_some h, residue, satQ15_eq_end (mt satAt_hit_eq_none.mpr h)⟩
  exact ⟨range.1, range.2, rfl, rfl, rfl, rfl, sectionStep_val_of_noHit, saturated, sectionStep_residue_of_ef,
    sectionStep_residue_of_noEf, sectionStep_residue_mem⟩

end Sys2Proof.Machine
end

section
/-!
PROOFS. The machine: one step, a queue of commands, and the invariant of the attention tree and the waiting commands.
-/
namespace Sys2Proof.Machine
open Safety

/-- Every command is the answer of a change of the module: the one fact about `exec` that holds of all its arms. -/
theorem exec_eq_answer (i : Instr) : ∃ f : Chip → Chip, ∀ s : State, exec i s = answer f s := by
  unfold exec
  cases i
  all_goals exact ⟨_, fun _ => rfl⟩

/-- Settles O1, by the definition of a step. -/
theorem stepRunsFrontCommand : Obligations.StepRunsFrontCommand := fun _ _ _ => rfl

/-- Settles O2, by the definition of a step. -/
theorem emptyQueueIdles : Obligations.EmptyQueueIdles := fun _ => rfl

/-- Settles O3: `answer` leaves the queue alone. -/
theorem everyCommandAnswers : Obligations.EveryCommandAnswers := exec_eq_answer

/-- A step acts on the module alone: the commands behind the front one stay, and have no part in its effect. -/
theorem step_cons (i : Instr) : ∃ f : Chip → Chip, ∀ (c : Chip) (rest : List Instr),
    step ⟨c, i :: rest⟩ = .next ⟨f c, rest⟩ :=
  have ⟨f, answers⟩ := exec_eq_answer i
  ⟨fun c => attnUpdate (f c), fun c rest => answers ⟨c, rest⟩⟩

theorem run_succ_of_step {s t : State} (h : step s = .next t) (n : Nat) : core.run (n + 1) s = core.run n t := by
  have stepped : core.step s = .next t := h
  simp only [Host.Core.run, stepped]

/-- Settles O4: by induction on the queue, each step taking its front command. -/
theorem queueServedInOrder : Obligations.QueueServedInOrder := by
  intro xs ys
  induction xs with
  | nil => exact fun c => ⟨c, rfl, rfl⟩
  | cons i xs ih =>
    intro c
    obtain ⟨f, front⟩ := step_cons i
    obtain ⟨d, alone, followed⟩ := ih (f c)
    exact ⟨d, (run_succ_of_step (front c xs) _).trans alone, (run_succ_of_step (front c (xs ++ ys)) _).trans followed⟩

/-- Settles O5: an idle step changes nothing; any other settles the tree and takes one command off the queue. -/
theorem stepKeepsInv : Obligations.StepKeepsInv := by
  rintro ⟨c, pending⟩ t ⟨tree, wf⟩ stepped
  cases pending with
  | nil =>
    cases stepped
    exact ⟨tree, wf⟩
  | cons i rest =>
    obtain ⟨f, answers⟩ := exec_eq_answer i
    cases (answers ⟨c, rest⟩).symm.trans stepped
    exact ⟨attnUpdate_ok _, fun j waits => wf j (List.mem_cons_of_mem i waits)⟩

/-- Settles O6: no page asks for attention, and no command waits. -/
theorem resetHasInv : Obligations.ResetHasInv := ⟨rfl, nofun⟩

end Sys2Proof.Machine
end

section
/-!
PROOFS. A core's data memory (R131, R132): its canonical form, and that this form is unique.
-/
namespace Sys2Proof.Machine

/-! ### A canonical sparse memory is determined by its reads -/

section unique
variable {α : Type} [DecidableEq α] {d : α}

omit [DecidableEq α] in
theorem smGet_of_unlisted {m : SMap α} {i : Nat} (h : ∀ e ∈ m, e.1 ≠ i) : smGet d m i = d := by
  induction m with
  | nil => rfl
  | cons e m ih =>
    obtain ⟨first, others⟩ := List.forall_mem_cons.mp h
    rw [smGet, if_neg first.symm, ih others]

/-- The lowest listed index is the first at which a canonical memory differs from an empty one, so two that read alike
list the same first entry. -/
theorem eq_of_smWf_of_smGet {m k : SMap α} (hm : smWf d m = true) (hk : smWf d k = true)
    (alike : ∀ i, smGet d m i = smGet d k i) : m = k := by
  have first_listed {i : Nat} {v : α} {l : SMap α} : smGet d ((i, v) :: l) i = v := if_pos rfl
  have below {i j : Nat} {v : α} {l : SMap α} (rising : ∀ e ∈ l, j < e.1) (h : i < j) :
      smGet d ((j, v) :: l) i = d :=
    smGet_of_unlisted <| List.forall_mem_cons.mpr ⟨Nat.ne_of_gt h, fun e he => Nat.ne_of_gt (Nat.lt_trans h (rising e he))⟩
  induction m generalizing k with
  | nil =>
    cases k with
    | nil => rfl
    | cons y k =>
      obtain ⟨listed, -, -⟩ := smWf_cons.mp hk
      exact absurd (first_listed.symm.trans (alike y.1).symm) listed
  | cons x m ih =>
    obtain ⟨i, v⟩ := x
    obtain ⟨v_listed, m_rises, m_wf⟩ := smWf_cons.mp hm
    cases k with
    | nil => exact absurd (first_listed.symm.trans (alike i)) v_listed
    | cons y k =>
      obtain ⟨j, w⟩ := y
      obtain ⟨w_listed, k_rises, k_wf⟩ := smWf_cons.mp hk
      obtain lt | rfl | gt := Nat.lt_trichotomy i j
      · exact absurd (first_listed.symm.trans ((alike i).trans (below k_rises lt))) v_listed
      · obtain rfl : v = w := first_listed.symm.trans ((alike i).trans first_listed)
        refine congrArg _ (ih m_wf k_wf fun n => ?_)
        by_cases at_first : n = i
        · subst at_first
          rw [smGet_of_unlisted fun e he => Nat.ne_of_gt (m_rises e he),
            smGet_of_unlisted fun e he => Nat.ne_of_gt (k_rises e he)]
        · simpa only [smGet, if_neg at_first] using alike n
      · exact absurd (first_listed.symm.trans ((alike j).symm.trans (below m_rises gt))) w_listed

end unique

/-! ### The form of a data memory -/

theorem memForm_writeBit {m : CrewMem} (h : Claims.memForm m) (a : Nat) (v : Bool) :
    Claims.memForm (writeBit m a v) := by
  obtain ⟨bits, words, markers, priv, edges⟩ := h
  unfold writeBit
  split
  · exact ⟨smWf_smSet bits a v, words, markers, priv, edges⟩
  · exact ⟨bits, words, smWf_smSet markers _ v, priv, edges⟩

theorem memForm_writeWord {m : CrewMem} (h : Claims.memForm m) (a : Nat) (w : Word) :
    Claims.memForm (writeWord m a w) := by
  obtain ⟨bits, words, markers, priv, edges⟩ := h
  unfold writeWord
  split
  · exact ⟨bits, smWf_smSet words a w, markers, priv, edges⟩
  · exact ⟨bits, words, markers, smWf_smSet priv a w, edges⟩

theorem readBit_image (m : CrewMem) {i : Nat} (h : i < 0x10000) : readBit m i = smGet false m.img.bits i := if_pos h

/-- Bit images that read alike are equal: inside the image by the reads, beyond it neither lists anything. -/
theorem bits_eq_of_readBit {m k : CrewMem} (hm : Claims.memForm m) (hk : Claims.memForm k)
    (alike : ∀ i : Nat, i < 0x20000 → readBit m i = readBit k i) (m_inside : ∀ e ∈ m.img.bits, e.1 < 0x10000)
    (k_inside : ∀ e ∈ k.img.bits, e.1 < 0x10000) : m.img.bits = k.img.bits := by
  refine eq_of_smWf_of_smGet hm.1 hk.1 fun i => ?_
  by_cases inside : i < 0x10000
  · rw [← readBit_image m inside, ← readBit_image k inside, alike i (by omega)]
  · rw [smGet_of_unlisted fun e he => Nat.ne_of_lt (Nat.lt_of_lt_of_le (m_inside e he) (by omega)),
      smGet_of_unlisted fun e he => Nat.ne_of_lt (Nat.lt_of_lt_of_le (k_inside e he) (by omega))]

theorem memoryReadsBack : Claims.MemoryReadsBack := by
  intro m a b v w
  obtain ⟨words, edgesB, timersB, countersB⟩ := writeBit_frame m a v
  obtain ⟨bits, edgesW, timersW, countersW⟩ := writeWord_frame m a w
  exact ⟨readBit_writeBit m a b v, readWord_writeWord m a b w, words b, bits b, timersB, countersB, edgesB, timersW,
    countersW, edgesW⟩

theorem memoryKeepsForm : Claims.MemoryKeepsForm := fun _ _ a v w =>
  ⟨fun h => ⟨memForm_writeBit h a v, memForm_writeWord h a w⟩, ⟨rfl, rfl, rfl, rfl, rfl⟩, bits_eq_of_readBit⟩

/-- Settles O8: reads after writes, and the canonical form with its uniqueness. -/
theorem dataMemoryHolds : Obligations.DataMemoryHolds := ⟨memoryReadsBack, memoryKeepsForm⟩

end Sys2Proof.Machine
end

section
/-!
PROOFS. Register writes (R51 to R67): the order of their checks, what an accepted write does, and what a refused one
leaves.
-/
namespace Sys2Proof.Machine
open Safety

/-! ### The checks of a write (R61) -/

/-- Once the address, the width and the allowance pass, the register there judges the write. -/
theorem writeRefusal_of_reg {c : Chip} {r : Requester} {addr : Nat} {g : Reg} (v : Word)
    (known : occupied c (pageOf addr) (offsetOf addr) = true) (aligned : offsetOf addr % 4 = 0)
    (allowed : allowanceUsed c r = false) (stands : regAt c (pageOf addr) (offsetOf addr) = some g) :
    writeRefusal c r addr true v =
      if ¬(g.acc.lets (writerClass c r) = true ∧
        narrowField (pageOf addr) (offsetOf addr) (writerClass c r) v = false) then some 0x04
      else if ¬owns c (pageOf addr) (writerClass c r) = true then some 0x05
      else if ¬(hdr c (pageOf addr)).st ≠ .isolated then some 0x06
      else if ¬((hdr c (pageOf addr)).st ≠ .draining ∨ (offsetOf addr = 0x008 ∧ bitOf v 4 = true)) then some 0x07
      else if ¬v &&& g.resv = 0 then some 0x08
      else lateRefusal c (writerClass c r) (pageOf addr) (offsetOf addr) v := by
  simp [writeRefusal, known, aligned, allowed, stands, Decidable.imp_iff_not_or]

theorem writeChecksInOrder_ladder : Claims.WriteChecksInOrder := by
  intro c r addr full v p off cls st c1 c2 c3 answer_
  refine ⟨fun h1 => ?_, fun h1 h2 => ?_, fun h1 h2 h3 => ?_, fun h1 h2 h3 noReg => ?_, fun h1 h2 h3 g stands => ?_⟩
  · have unknown : occupied c (pageOf addr) (offsetOf addr - offsetOf addr % 4) = false := Bool.eq_false_iff.mpr h1
    simp [answer_, writeRefusal, unknown]
  all_goals have known : occupied c (pageOf addr) (offsetOf addr - offsetOf addr % 4) = true := h1
  · have partly : offsetOf addr % 4 = 0 → full = false := by simpa [c2] using h2
    by_cases aligned : offsetOf addr % 4 = 0
    · simp [answer_, writeRefusal, known, partly aligned]
    · simp [answer_, writeRefusal, known, aligned]
  all_goals
    obtain ⟨aligned, rfl⟩ : offsetOf addr % 4 = 0 ∧ full = true := h2
    rw [aligned, Nat.sub_zero] at known
  · have used : allowanceUsed c r = true := eq_true_of_ne_false h3
    simp [answer_, writeRefusal, known, aligned, used]
  · have allowed : allowanceUsed c r = false := h3
    have nowhere : regAt c (pageOf addr) (offsetOf addr) = none := noReg
    simp [answer_, writeRefusal, known, aligned, allowed, nowhere]
  · intro c4 c5 c6 c7 c8
    have judged : answer_ = if ¬c4 then some 0x04 else if ¬c5 then some 0x05 else if ¬c6 then some 0x06
        else if ¬c7 then some 0x07 else if ¬c8 then some 0x08 else lateRefusal c cls p off v :=
      writeRefusal_of_reg v known aligned h3 stands
    refine ⟨fun h4 => ?_, fun h4 h5 => ?_, fun h4 h5 h6 => ?_, fun h4 h5 h6 h7 => ?_, fun h4 h5 h6 h7 h8 => ?_,
      fun h4 h5 h6 h7 h8 => ?_⟩
    all_goals simp only [not_true_eq_false, not_false_eq_true, if_true, if_false, *]

theorem classesMayWrite : Claims.ClassesMayWrite :=
  ⟨fun _ => ⟨rfl, rfl⟩, ⟨rfl, rfl, rfl⟩, ⟨rfl, rfl, rfl⟩, fun _ _ => ⟨rfl, rfl, rfl⟩⟩

/-- Settles O18: the ladder of checks, and who may write. -/
theorem writeChecksInOrder : Obligations.WriteChecksInOrder := ⟨writeChecksInOrder_ladder, classesMayWrite⟩
/-! ### An accepted write (R52, R66, R586) -/

theorem writeReg_of_accepts {c : Chip} {r : Requester} {p off : Nat} {v : Word} (hp : p < 128) (ho : off < 4096)
    (h : Accepts c r p off v) : writeReg c r p off v =
      if off < 0x040 then writeHeader (granted c r p) p off (writerClass c r) v
      else writeBlock (granted c r p) r p off (writerClass c r) v := by
  obtain ⟨reached, passed⟩ := h
  simp only [writeReg, regWrite, reached, passed, writeAccepted, pageOf_regAddr hp ho, offsetOf_regAddr ho,
    writerClass_countWrite, Bool.not_true, Bool.false_eq_true, if_false, granted]

theorem writeReg_header {c : Chip} {r : Requester} {p off : Nat} {v : Word} (hp : p < 128) (ho : off < 0x040)
    (h : Accepts c r p off v) : writeReg c r p off v = writeHeader (granted c r p) p off (writerClass c r) v :=
  (writeReg_of_accepts hp (by omega) h).trans (if_pos ho)

theorem writeReg_block {c : Chip} {r : Requester} {p off : Nat} {v : Word} (hp : p < 128) (low : 0x040 ≤ off)
    (ho : off < 4096) (h : Accepts c r p off v) :
    writeReg c r p off v = writeBlock (granted c r p) r p off (writerClass c r) v :=
  (writeReg_of_accepts hp ho h).trans (if_neg (by omega))

/-- Settles O19: BLK_SEQ counts in `granted`, and the offset decides between header and block. -/
theorem acceptedWriteTakesEffect : Obligations.AcceptedWriteTakesEffect := fun c r p _ _ hp ho accepts =>
  ⟨by rw [hdr_granted], writeReg_of_accepts hp ho accepts⟩

/-! ### A refused write (R62 to R64) -/

/-- The refusal registers hold the code, the page and the offset (R64, R80). -/
def keepRefusal (c : Chip) (r : Requester) (w : Word) : Chip :=
  match r with
  | .session _ => c
  | .bar0 => { c with attn := { c.attn with refusalHost := w } }
  | .boathouse => { c with attn := { c.attn with refusalBh := w } }

theorem writeRefused_of_plain {c : Chip} {r : Requester} {p off code : Nat} {v : Word} (hp : p < 128)
    (ho : off < 4096) (allowed : code ≠ 3) (notCmd : ¬(p = 4 ∧ off = 0x044)) :
    writeRefused c r (regAddr p off) code v
      = keepRefusal (raise c (if populated p then p else 0) 31) r (pack [(code, 31, 24), (p, 23, 16), (off, 11, 0)]) := by
  have page : regAddr p off / 4096 % 2 ^ (23 - 16 + 1) = p % 2 ^ (23 - 16 + 1) := by
    simp only [regAddr, pageBase]; omega
  have offset : regAddr p off % 2 ^ (11 - 0 + 1) = off % 2 ^ (11 - 0 + 1) := by
    simp only [regAddr, pageBase]; omega
  have word : pack [(code, 31, 24), (regAddr p off / 4096, 23, 16), (regAddr p off, 11, 0)]
      = pack [(code, 31, 24), (p, 23, 16), (off, 11, 0)] := by simp only [pack, page, offset]
  have noCmd : (p = 0x04 && offsetOf (regAddr p off) = 0x044 && code = 0x0B && v = 0x0A) = false := by
    rw [offsetOf_regAddr ho]
    simpa [← and_assoc] using fun at_cmd offset_cmd => absurd ⟨at_cmd, offset_cmd⟩ notCmd
  unfold writeRefused
  simp only [pageOf_regAddr hp ho, noCmd, word, Bool.false_eq_true, if_false]
  cases r with
  | session n =>
    dsimp only
    split
    · exact absurd rfl allowed
    · rfl
  | bar0 => simp only [keepRefusal]
  | boathouse => simp only [keepRefusal]

/-- A refused write but a session's over its allowance and but MODE_CMD: the write counts, then it is reported. -/
theorem writeReg_of_refused {c : Chip} {r : Requester} {p off code : Nat} {v : Word} (hp : p < 128) (ho : off < 4096)
    (reached : reaches c r = true) (refused : writeRefusal c r (regAddr p off) true v = some code)
    (allowed : code ≠ 3) (notCmd : ¬(p = 4 ∧ off = 0x044)) :
    writeReg c r p off v = keepRefusal (raise (countWrite c r (some code)) (if populated p then p else 0) 31) r
      (pack [(code, 31, 24), (p, 23, 16), (off, 11, 0)]) := by
  rw [← writeRefused_of_plain hp ho allowed notCmd (v := v)]
  simp only [writeReg, regWrite, reached, refused, Bool.not_true, Bool.false_eq_true, if_false]

/-- Settles O20: the count of a session's writes, the cause bit and the refusal register are all that change. -/
theorem refusedWriteLeavesRegisters : Obligations.RefusedWriteLeavesRegisters := by
  intro c r p off code v hp ho reached refused allowed notCmd d q
  have left : d = _ := writeReg_of_refused hp ho reached refused allowed notCmd
  have hdr_left (n : Nat) : hdr d n = hdr (raise (countWrite c r (some code)) q 31) n := by
    rw [left]
    cases r <;> rfl
  refine ⟨?_, fun n other => ?_, ?_, ?_, ?_⟩
  · rw [hdr_left, hdr_raise, hdr_countWrite]
  · rw [hdr_left, hdr_raise_ne _ _ other, hdr_countWrite]
  · rintro rfl
    rw [left, keepRefusal]
  · rintro rfl
    rw [left, keepRefusal]
  · rw [left]
    cases r <;> simp [keepRefusal]

end Sys2Proof.Machine
end

section
/-!
PROOFS. The gain tables (R316, R317) and the leader of a heat (R304, R305).
-/
namespace Sys2Proof.Machine

/-! ### The gain of a table (R316, R317) -/

/-- A rounded weighted mean of two values, the weights of 256 parts, lies between them. -/
theorem roundedMean_mem {a b f : Int} (h : a ≤ b) (low : 0 ≤ f) (high : f < 256) :
    a ≤ (a * (256 - f) + b * f + 128) / 256 ∧ (a * (256 - f) + b * f + 128) / 256 ≤ b := by
  have shape : a * (256 - f) + b * f = 256 * a + (b - a) * f := by
    rw [Int.mul_sub, Int.sub_mul]
    omega
  have upper : (b - a) * f ≤ (b - a) * 256 := Int.mul_le_mul_of_nonneg_left (by omega) (by omega)
  have lower : 0 ≤ (b - a) * f := Int.mul_nonneg (by omega) low
  omega

theorem roundedMean_swap (a b f : Int) : a * (256 - f) + b * f = b * (256 - (256 - f)) + a * (256 - f) := by
  rw [Int.sub_sub_self, Int.add_comm]

/-- The table's index and weight for an error in the Q15 range. -/
theorem tableGain_eq (g : List Int) {e : Int} (low : -32768 ≤ e) :
    tableGain g e = (g.getD ((e + 32768) / 256).toNat 0 * (256 - (e + 32768) % 256)
      + g.getD (min (((e + 32768) / 256).toNat + 1) 255) 0 * ((e + 32768) % 256) + 128) / 256 := by
  have index : (e + 32768).toNat / 256 = ((e + 32768) / 256).toNat := by omega
  have weight : ((((e + 32768).toNat % 256 : Nat)) : Int) = (e + 32768) % 256 := by omega
  simp only [tableGain, index, weight]

/-- Settles O35: the interpolation is a rounded mean of the two points, which past the last step are one point. -/
theorem gainsLieBetweenPoints : Obligations.GainsLieBetweenPoints := by
  intro g e low high i a b
  have mean : tableGain g e = (a * (256 - (e + 32768) % 256) + b * ((e + 32768) % 256) + 128) / 256 :=
    tableGain_eq g low
  generalize weight : (e + 32768) % 256 = f at mean
  have f_low : 0 ≤ f := by omega
  have f_high : f < 256 := by omega
  have at_point (h : f = 0) : tableGain g e = a := by rw [mean, h]; omega
  refine ⟨fun h => mean ▸ roundedMean_mem h f_low f_high, fun h => ?_, at_point,
    fun last => ?_⟩
  · obtain pos | rfl := Int.lt_or_eq_of_le f_low
    · rw [mean, roundedMean_swap]
      exact roundedMean_mem h (by omega) (by omega)
    · rw [at_point rfl]
      exact ⟨h, Int.le_refl _⟩
  · have at_last : i = 255 := by omega
    have same : b = a := by simp only [a, b, at_last]; rfl
    rw [mean, same, ← Int.mul_add, Int.sub_add_cancel, ← at_last]
    omega

/-! ### The lowest candidate (R304) -/

theorem lowest_eq_none_iff {l : List (Nat × Int)} : lowest l = none ↔ l = [] := by
  cases l with
  | nil => simp [lowest]
  | cons x xs =>
    rw [lowest]
    split
    · simp
    · split <;> simp

/-- One candidate goes before another: it is lower, or as low in a lane of no higher number (R304). -/
def goesBefore (x y : Nat × Int) : Prop := x.2 < y.2 ∨ (x.2 = y.2 ∧ x.1 ≤ y.1)

theorem lowest_mem {l : List (Nat × Int)} {x : Nat × Int} (h : lowest l = some x) : x ∈ l := by
  induction l generalizing x with
  | nil => cases h
  | cons z zs ih =>
    rw [lowest] at h
    split at h
    · cases h
      exact List.mem_cons_self
    · next y found =>
      split at h
      · cases h
        exact List.mem_cons_of_mem _ (ih found)
      · cases h
        exact List.mem_cons_self

theorem lowest_goesBefore {l : List (Nat × Int)} {x : Nat × Int} (rising : (l.map (·.1)).Pairwise (· < ·))
    (h : lowest l = some x) : ∀ y ∈ l, goesBefore x y := by
  induction l generalizing x with
  | nil => cases h
  | cons z zs ih =>
    rw [List.map_cons, List.pairwise_cons, List.forall_mem_map] at rising
    obtain ⟨first, rising⟩ := rising
    have self (y : Nat × Int) : goesBefore y y := .inr ⟨rfl, Nat.le_refl _⟩
    rw [lowest] at h
    rw [List.forall_mem_cons]
    split at h
    · next none_ =>
      cases h
      simp [lowest_eq_none_iff.mp none_, self]
    · next y found =>
      have best := ih rising found
      have after := first y (lowest_mem found)
      split at h
      · next lower =>
        cases h
        exact ⟨.inl lower, best⟩
      · next notLower =>
        cases h
        refine ⟨self _, fun w hw => ?_⟩
        have := best w hw
        have := first w hw
        unfold goesBefore at *
        omega

theorem lowest_le {l : List (Nat × Int)} {x : Nat × Int} (rising : (l.map (·.1)).Pairwise (· < ·))
    (h : lowest l = some x) : ∀ y ∈ l, x.2 ≤ y.2 := fun y hy =>
  (lowest_goesBefore rising h y hy).elim Int.le_of_lt fun tie => Int.le_of_eq tie.1

/-! ### The leader (R304, R305) -/

/-- Entries that are told apart by a field are one where the field is the same. -/
theorem eq_of_nodup_map {α β : Type} {f : α → β} {l : List α} (distinct : (l.map f).Nodup) {x y : α} (hx : x ∈ l) (hy : y ∈ l)
    (same : f x = f y) : x = y := by
  induction l with
  | nil => exact absurd hx List.not_mem_nil
  | cons z zs ih =>
    obtain ⟨apart, distinct⟩ := List.nodup_cons.mp distinct
    obtain first | later := List.mem_cons.mp hx <;> obtain first' | later' := List.mem_cons.mp hy
    · exact first.trans first'.symm
    · exact absurd (first ▸ same ▸ List.mem_map_of_mem later') apart
    · exact absurd (first' ▸ same ▸ List.mem_map_of_mem later) apart
    · exact ih distinct later later'

/-- The old leader, where it lives. -/
def oldLeader (live : List (Nat × Int)) (old : Option Nat) : Option (Nat × Int) :=
  old.bind fun k => live.find? (fun x => x.1 == k)

theorem oldLeader_mem {live : List (Nat × Int)} {old : Option Nat} {k : Nat × Int} (h : oldLeader live old = some k) :
    k ∈ live ∧ old = some k.1 := by
  obtain ⟨n, rfl, found⟩ := Option.bind_eq_some_iff.mp h
  exact ⟨List.mem_of_find?_eq_some found, congrArg some (by simpa using List.find?_some found : k.1 = n).symm⟩

theorem oldLeader_eq_none {live : List (Nat × Int)} {old : Option Nat} (h : oldLeader live old = none) :
    ∀ y ∈ live, old ≠ some y.1 := by
  rintro y hy rfl
  have := List.find?_eq_none.mp h y hy
  simp at this

/-- With an old leader `cur` the choice is either to stay, no candidate being lower by more than HYST, or the lowest
candidate, which is. -/
theorem chooseLeader_of_oldLeader {live : List (Nat × Int)} {old : Option Nat} {cur : Nat × Int} {hyst : Int}
    (nonneg : 0 ≤ hyst) (rising : (live.map (·.1)).Pairwise (· < ·)) (held : oldLeader live old = some cur) :
    (chooseLeader live old hyst = some cur ∧ ∀ y ∈ live, cur.2 - hyst ≤ y.2)
      ∨ ∃ m ∈ live, chooseLeader live old hyst = some m ∧ m.2 < cur.2 - hyst ∧ ∀ y ∈ live, m.2 ≤ y.2 := by
  have distinct {y : Nat × Int} (hy : y ∈ live) (same : y.1 = cur.1) : y = cur :=
    eq_of_nodup_map (rising.imp Nat.ne_of_lt) hy (oldLeader_mem held).1 same
  have other {y : Nat × Int} (hy : y ∈ live) : y = cur ∨ y ∈ live.filter fun x => x.1 != cur.1 := by
    by_cases same : y.1 = cur.1
    · exact .inl (distinct hy same)
    · exact .inr (by simp [hy, same])
  unfold oldLeader at held
  simp only [chooseLeader, held]
  cases best : lowest (live.filter fun x => x.1 != cur.1) with
  | none =>
    refine .inl ⟨rfl, fun y hy => ?_⟩
    obtain rfl | hy := other hy
    · omega
    · simp [lowest_eq_none_iff.mp best] at hy
  | some m =>
    have m_live : m ∈ live := (List.mem_filter.mp (lowest_mem best)).1
    have m_lowest := lowest_le (rising.sublist ((List.filter_sublist).map _)) best
    by_cases lower : m.2 < cur.2 - hyst
    · refine .inr ⟨m, m_live, if_pos lower, lower, fun y hy => ?_⟩
      obtain rfl | hy := other hy
      · omega
      · exact m_lowest y hy
    · refine .inl ⟨if_neg lower, fun y hy => ?_⟩
      obtain rfl | hy := other hy
      · omega
      · have := m_lowest y hy
        omega

/-- Settles O37: the old leader against the lowest of the others, or the lowest of all. -/
theorem leaderStaysNearTheLowest : Obligations.LeaderStaysNearTheLowest := by
  intro live old hyst nonneg rising
  cases held : oldLeader live old with
  | none =>
    have choice : chooseLeader live old hyst = lowest live := by
      unfold oldLeader at held
      simp only [chooseLeader, held]
    have gone := oldLeader_eq_none held
    rw [choice]
    refine ⟨lowest_eq_none_iff, fun x found => ⟨lowest_mem found, fun y hy => ?_, fun _ => lowest_goesBefore rising found,
      fun k hk is_old => absurd is_old (gone k hk), fun k hk is_old => absurd is_old (gone k hk)⟩⟩
    have := lowest_le rising found y hy
    omega
  | some cur =>
    obtain ⟨cur_live, rfl⟩ := oldLeader_mem held
    have is_cur {k : Nat × Int} (hk : k ∈ live) (same : some cur.1 = some k.1) : k = cur :=
      eq_of_nodup_map (rising.imp Nat.ne_of_lt) hk cur_live (Option.some.inj same).symm
    obtain ⟨choice, near⟩ | ⟨m, m_live, choice, lower, m_lowest⟩ := chooseLeader_of_oldLeader nonneg rising held
    all_goals
      rw [choice]
      refine ⟨by simpa using List.ne_nil_of_mem cur_live, ?_⟩
      rintro x ⟨⟩
    · refine ⟨cur_live, fun y hy => ?_, fun gone => absurd rfl (gone cur cur_live), fun k hk same _ => (is_cur hk same).symm,
        fun k hk same y hy far => ?_⟩
      · have := near y hy
        omega
      · cases is_cur hk same
        exact absurd (near y hy) (by omega)
    · refine ⟨m_live, fun y hy => ?_, fun gone => absurd rfl (gone cur cur_live), fun k hk same stay => ?_,
        fun k hk same y hy far => ?_⟩
      · have := m_lowest y hy
        omega
      · cases is_cur hk same
        exact absurd (stay m m_live) (by omega)
      · cases is_cur hk same
        rintro rfl
        omega

end Sys2Proof.Machine
end

section
/-!
PROOFS. What causes and records leave of the backup domain: the last fault and the signature may change, nothing else
does (R627, R688).
-/
namespace Sys2Proof.Machine

/-- Two states of the backup domain that differ in the last fault and the signature at most. -/
def SameBackup (a b : BackupSt) : Prop := { a with lastFault := b.lastFault, signature := b.signature } = b

theorem SameBackup.rfl {a : BackupSt} : SameBackup a a := by rw [SameBackup]

theorem SameBackup.trans {a b c : BackupSt} (ab : SameBackup a b) (bc : SameBackup b c) : SameBackup a c := by
  unfold SameBackup at *
  rw [← bc, ← ab]

theorem SameBackup.lockout {a b : BackupSt} (h : SameBackup a b) : b.lockout = a.lockout :=
  (congrArg BackupSt.lockout h).symm

section kept
variable {a : BackupSt} {c : Chip}

theorem sameBackup_setCause (same : SameBackup a c.backup) (p b : Nat) (e : Bool) :
    SameBackup a (setCause c p b e).backup := by
  refine same.trans ?_
  unfold setCause
  dsimp only
  split
  · rw [modBackup, modHdr_backup]; rfl
  · rw [modHdr_backup]; exact .rfl

theorem sameBackup_raise (same : SameBackup a c.backup) (p b : Nat) : SameBackup a (raise c p b).backup :=
  sameBackup_setCause same ..

theorem sameBackup_setCond (same : SameBackup a c.backup) (p b : Nat) (v : Bool) :
    SameBackup a (setCond c p b v).backup := by
  have raw_changed : SameBackup a (modHdr c p fun h => { h with raw := setBit h.raw b v }).backup := by
    rwa [modHdr_backup]
  unfold setCond
  dsimp only
  split
  · exact same
  · split
    · exact sameBackup_setCause raw_changed p b true
    · exact raw_changed

theorem sameBackup_queueRefused (same : SameBackup a c.backup) (q : Nat) : SameBackup a (queueRefused c q).backup :=
  sameBackup_raise (c := { c with qOverflow := smMod 0 c.qOverflow q (· + 1) }) same ..

theorem sameBackup_emit (same : SameBackup a c.backup) (p low source : Nat) (p0 p1 p2 p3 : Word) :
    SameBackup a (emit c p low source p0 p1 p2 p3).backup := by
  have timed : SameBackup a (eventTime c).2.backup := by
    unfold eventTime
    split <;> exact same
  unfold emit emitAt
  dsimp only
  split
  · exact timed
  · refine sameBackup_raise (sameBackup_queueRefused ?_ _) _ _
    exact timed

end kept

end Sys2Proof.Machine
end

section
/-!
PROOFS. The safety groups (R346 to R351) and the outputs' switch commands (R332 to R336, R342).
-/
namespace Sys2Proof.Machine

/-! ### One group -/

theorem group_modGroup (c : Chip) (g : Nat) (f : GroupSt → GroupSt) : group (modGroup c g f) g = f (group c g) := by
  simp [group, modGroup]

theorem group_modGroup_ne (c : Chip) {g h : Nat} (f : GroupSt → GroupSt) (other : h ≠ g) :
    group (modGroup c g f) h = group c h := by
  simp [group, modGroup, other]

theorem group_congr {c d : Chip} (h : c.safety = d.safety) (g : Nat) : group c g = group d g := by
  rw [group, group, h]

/-- What a change of state makes of the group itself. -/
def GroupSt.enter (st : Nat) (s : GroupSt) : GroupSt :=
  { s with state := st, proofSeen := if st = 1 then 0#8 else s.proofSeen, quietFrom := none }

theorem groupTo_safety (c : Chip) (g st : Nat) (moves : (group c g).state ≠ st) :
    (groupTo c g st).safety = (modGroup c g (GroupSt.enter st)).safety := by
  unfold groupTo
  dsimp only
  rw [if_neg moves, emit_safety]
  split
  · rw [raise_safety, lockoutCond, setCond_safety]; rfl
  · split
    · rw [raise_safety, lockoutCond, setCond_safety]; rfl
    · rw [lockoutCond, setCond_safety]; rfl

theorem group_groupTo_ne (c : Chip) {g h : Nat} (st : Nat) (other : h ≠ g) : group (groupTo c g st) h = group c h := by
  by_cases moves : (group c g).state = st
  · rw [groupTo, if_pos moves]
  · rw [group_congr (groupTo_safety c g st moves), group_modGroup_ne c _ other]

theorem group_groupTo (c : Chip) (g st : Nat) : (group (groupTo c g st) g).state = st
    ∧ (group (groupTo c g st) g).demand = (group c g).demand := by
  by_cases moves : (group c g).state = st
  · rw [groupTo, if_pos moves]
    exact ⟨moves, rfl⟩
  · rw [group_congr (groupTo_safety c g st moves), group_modGroup]
    exact ⟨rfl, rfl⟩

/-- Entering LOCKED_OUT sets the group's bit of the lockout set (R351). -/
theorem lockout_groupTo_lockedOut (c : Chip) {g : Nat} (hg : g < 32) (moves : (group c g).state ≠ 4) :
    bitOf (groupTo c g 4).backup.lockout g = true := by
  unfold groupTo lockoutCond
  dsimp only
  rw [if_neg moves, if_pos rfl, (sameBackup_emit (sameBackup_raise (sameBackup_setCond .rfl ..) ..) ..).lockout]
  exact (bitOf_setBit _ _ _ hg).trans (if_pos rfl)

/-! ### One group at one TF (R349, R350) -/

/-- The group with its demand of this TF. -/
def demanded (c : Chip) (g : Nat) : Chip :=
  modGroup c g fun s => { s with
    demand := groupDemand c g
    quietFrom := if groupDemand c g ≠ 0 then none else s.quietFrom.orElse fun _ => some c.stroke.t0 }

theorem group_demanded_state (c : Chip) (g : Nat) : (group (demanded c g) g).state = (group c g).state := by
  rw [demanded, group_modGroup]

theorem group_demanded_demand (c : Chip) (g : Nat) : (group (demanded c g) g).demand = groupDemand c g := by
  rw [demanded, group_modGroup]

@[simp] theorem groupEnabled_demanded (c : Chip) (g h : Nat) :
    groupEnabled (demanded c g) h = groupEnabled c h := rfl
@[simp] theorem groupUses_demanded (c : Chip) (g h cause which : Nat) :
    groupUses (demanded c g) h cause which = groupUses c h cause which := rfl
@[simp] theorem grpCfg_demanded (c : Chip) (g k h : Nat) : grpCfg (demanded c g) k h = grpCfg c k h := rfl
@[simp] theorem proofPairs_demanded (c : Chip) (g h : Nat) : proofPairs (demanded c g) h = proofPairs c h := rfl
@[simp] theorem demanded_firstTf (c : Chip) (g : Nat) : (demanded c g).safety.firstTf = c.safety.firstTf := rfl
@[simp] theorem demanded_mode (c : Chip) (g : Nat) : (demanded c g).mode = c.mode := rfl
@[simp] theorem demanded_stroke (c : Chip) (g : Nat) : (demanded c g).stroke = c.stroke := rfl
@[simp] theorem demanded_caughtDemand (c : Chip) (g : Nat) :
    (demanded c g).safety.caughtDemand = c.safety.caughtDemand := rfl

/-- A new demand is no cause of a lockout. -/
@[simp] theorem groupClean_demanded (c : Chip) (g : Nat) : groupClean (demanded c g) g = groupClean c g := by
  have cause : (group (demanded c g) g).cause = (group c g).cause := by rw [demanded, group_modGroup]
  have which : (group (demanded c g) g).which = (group c g).which := by rw [demanded, group_modGroup]
  simp only [groupClean, causeGone, cause, which]
  rfl

theorem foldl_isNone_iff {α : Type} {f : Option α → α → Option α} (some_ : ∀ b x, f b x ≠ none) (l : List α) :
    l.foldl f none = none ↔ l = [] := by
  rcases List.eq_nil_or_concat l with rfl | ⟨m, x, rfl⟩
  · simp
  · simp [some_]

section rows
variable {c : Chip} {faults : List (Nat × Nat)} {rst : Bool} {g : Nat}

theorem evalGroup_of_disabled (off : groupEnabled c g = false) (held : (group c g).state ≠ 4) :
    evalGroup faults rst g c = groupTo (demanded c g) g 0 := by
  unfold evalGroup
  dsimp only
  rw [← demanded]
  simp [off, held]

theorem evalGroup_of_faulted (active : groupEnabled c g = true ∨ (group c g).state = 4)
    (faulted : ∃ f ∈ faults, groupUses c g f.1 f.2 = true) : ∃ f : Nat × Nat, evalGroup faults rst g c =
      let d := modGroup (demanded c g) g fun s => { s with cause := f.1, which := f.2 }
      if (group c g).state = 4 then
        modBackup d fun b => { b with lockCause := smSet (0, 0) b.lockCause g f }
      else groupTo d g 4 := by
  unfold evalGroup
  dsimp only
  rw [← demanded, if_neg (by simpa [Decidable.imp_iff_not_or] using active)]
  split
  · next f _ => exact ⟨f, rfl⟩
  · next none_ =>
    have unused := (foldl_isNone_iff (by intro b x; cases b <;> simp; split <;> simp) _).mp none_
    obtain ⟨f, listed, used⟩ := faulted
    exact absurd used (List.filter_eq_nil_iff.mp unused f listed)

/-- Faults of other groups' blocks are none of the group's. -/
theorem evalGroup_of_unfaulted (unfaulted : ¬∃ f ∈ faults, groupUses c g f.1 f.2 = true) :
    evalGroup faults rst g c = evalGroup [] rst g c := by
  have unused : (faults.filter fun f => groupUses c g f.1 f.2) = [] :=
    List.filter_eq_nil_iff.mpr fun f listed used => unfaulted ⟨f, listed, used⟩
  unfold evalGroup
  dsimp only
  rw [← demanded]
  simp only [groupUses_demanded, unused, List.filter_nil]

theorem evalGroup_inhibited (on : groupEnabled c g = true) (st : (group c g).state = 0) :
    evalGroup [] rst g c = if c.safety.firstTf then groupTo (demanded c g) g 1 else demanded c g := by
  unfold evalGroup
  dsimp only
  rw [← demanded]
  cases first : c.safety.firstTf <;> simp [on, st, first]

theorem evalGroup_armed (on : groupEnabled c g = true) (st : (group c g).state = 2) :
    evalGroup [] rst g c = if groupDemand c g = 0 then demanded c g else groupTo (demanded c g) g 3 := by
  unfold evalGroup
  dsimp only
  rw [← demanded]
  simp [on, st]

theorem evalGroup_lockedOut (st : (group c g).state = 4) : evalGroup [] rst g c =
    if rst && groupClean c g then groupTo (demanded c g) g (if c.mode.mode.runs then 1 else 0)
    else demanded c g := by
  unfold evalGroup
  dsimp only
  rw [← demanded]
  cases rst <;> cases clean : groupClean c g <;> simp [st, clean]
  rfl

theorem evalGroup_tripped (on : groupEnabled c g = true) (st : (group c g).state = 3) : evalGroup [] rst g c =
    let d := demanded c g
    if groupDemand c g != 0 then d
    else if bitOf (grpCfg d 0 g) 30 then (if rst then groupTo d g 2 else d)
    else if fld (grpCfg d 0 g) 7 0 * 100000000 ≤ d.stroke.t0 - (group d g).quietFrom.getD d.stroke.t0 then
      groupTo d g 2
    else d := by
  unfold evalGroup
  dsimp only
  rw [← demanded]
  simp only [groupEnabled_demanded, on, Bool.not_true, Bool.false_and, Bool.false_eq_true, if_false, List.filter_nil,
    List.foldl_nil, st]

/-- The proofs seen, with those of this TF. -/
def proofsNow (c : Chip) (g : Nat) : BitVec 8 :=
  (proofPairs c g).foldl (fun m n =>
    if c.safety.caughtDemand.getLsbD n then m ||| BitVec.ofNat 8 (2 ^ n) else m) (group c g).proofSeen

theorem evalGroup_awaiting (on : groupEnabled c g = true) (st : (group c g).state = 1) : evalGroup [] rst g c =
    let d := modGroup (demanded c g) g fun s => { s with proofSeen := proofsNow c g }
    if !(groupDemand c g != 0) && (proofPairs d g).all (fun n => (proofsNow c g).getLsbD n) then groupTo d g 2 else d := by
  unfold evalGroup
  dsimp only
  rw [← demanded]
  simp only [groupEnabled_demanded, on, Bool.not_true, Bool.false_and, Bool.false_eq_true, if_false, List.filter_nil,
    List.foldl_nil, st, demanded_caughtDemand, proofPairs_demanded, proofsNow]
  rfl

/-! ### What the rows leave of the group -/

theorem state_groupTo (c : Chip) (g st : Nat) : (group (groupTo c g st) g).state = st := (group_groupTo c g st).1

theorem state_next_disabled (off : groupEnabled c g = false) (held : (group c g).state ≠ 4) :
    (group (evalGroup faults rst g c) g).state = 0 := by
  rw [evalGroup_of_disabled off held, state_groupTo]

theorem state_next_faulted (active : groupEnabled c g = true)
    (faulted : ∃ f ∈ faults, groupUses c g f.1 f.2 = true) : (group (evalGroup faults rst g c) g).state = 4 := by
  obtain ⟨f, eq⟩ := evalGroup_of_faulted (rst := rst) (.inl active) faulted
  rw [eq]
  dsimp only
  split
  · next held =>
    rw [group_congr (d := modGroup (demanded c g) g _) (modBackup_safety _ _), group_modGroup]
    exact (group_demanded_state c g).trans held
  · exact state_groupTo _ g 4

theorem lockout_next_faulted (hg : g < 32) (active : groupEnabled c g = true) (held : (group c g).state ≠ 4)
    (faulted : ∃ f ∈ faults, groupUses c g f.1 f.2 = true) :
    bitOf (evalGroup faults rst g c).backup.lockout g = true := by
  obtain ⟨f, eq⟩ := evalGroup_of_faulted (rst := rst) (.inl active) faulted
  rw [eq]
  dsimp only
  rw [if_neg held]
  refine lockout_groupTo_lockedOut _ hg ?_
  rw [group_modGroup]
  exact fun is => held ((group_demanded_state c g).symm.trans is)

theorem state_next_inhibited (on : groupEnabled c g = true) (st : (group c g).state = 0) :
    (group (evalGroup [] rst g c) g).state = if c.safety.firstTf then 1 else 0 := by
  rw [evalGroup_inhibited on st]
  split
  · exact state_groupTo _ g 1
  · exact (group_demanded_state c g).trans st

theorem state_next_awaiting (on : groupEnabled c g = true) (st : (group c g).state = 1) :
    (group (evalGroup [] rst g c) g).state =
      if groupDemand c g = 0 ∧ (proofPairs c g).all (fun n => (proofsNow c g).getLsbD n) = true then 2 else 1 := by
  rw [evalGroup_awaiting on st]
  dsimp only
  have same (f : GroupSt → GroupSt) : proofPairs (modGroup (demanded c g) g f) g = proofPairs c g := rfl
  rw [same]
  by_cases moves : groupDemand c g = 0 ∧ (proofPairs c g).all (fun n => (proofsNow c g).getLsbD n) = true
  · rw [if_pos moves, if_pos (by simpa using moves), state_groupTo]
  · rw [if_neg moves, if_neg (by simpa using moves), group_modGroup]
    exact (group_demanded_state c g).trans st

theorem state_next_armed (on : groupEnabled c g = true) (st : (group c g).state = 2) :
    (group (evalGroup [] rst g c) g).state = if groupDemand c g = 0 then 2 else 3 := by
  rw [evalGroup_armed on st]
  split
  · exact (group_demanded_state c g).trans st
  · exact state_groupTo _ g 3

theorem state_next_tripped_demand (on : groupEnabled c g = true) (st : (group c g).state = 3)
    (demand : groupDemand c g ≠ 0) : (group (evalGroup [] rst g c) g).state = 3 := by
  rw [evalGroup_tripped on st, if_pos (by simpa using demand)]
  exact (group_demanded_state c g).trans st

theorem state_next_tripped_manual (on : groupEnabled c g = true) (st : (group c g).state = 3)
    (quiet : groupDemand c g = 0) (manual : bitOf (grpCfg c 0 g) 30 = true) :
    (group (evalGroup [] rst g c) g).state = if rst then 2 else 3 := by
  rw [evalGroup_tripped on st]
  dsimp only
  rw [if_neg (by simpa using quiet), if_pos (by simpa using manual)]
  split
  · exact state_groupTo _ g 2
  · exact (group_demanded_state c g).trans st

theorem state_next_tripped (on : groupEnabled c g = true) (st : (group c g).state = 3) :
    (group (evalGroup [] rst g c) g).state = 2 ∨ (group (evalGroup [] rst g c) g).state = 3 := by
  have held : (group (demanded c g) g).state = 3 := (group_demanded_state c g).trans st
  have moved : (group (groupTo (demanded c g) g 2) g).state = 2 := state_groupTo _ g 2
  rw [evalGroup_tripped on st]
  dsimp only
  split
  · exact .inr held
  · split
    · split
      · exact .inl moved
      · exact .inr held
    · split
      · exact .inl moved
      · exact .inr held

theorem state_next_lockedOut (st : (group c g).state = 4) : (group (evalGroup [] rst g c) g).state =
    if rst && groupClean c g then (if c.mode.mode.runs then 1 else 0) else 4 := by
  rw [evalGroup_lockedOut st]
  split
  · exact state_groupTo _ g _
  · exact (group_demanded_state c g).trans st

/-- A set bit stays, and each caught pair's bit sets. -/
theorem getLsbD_foldl_or (caught : Nat → Bool) (l : List Nat) (m : BitVec 8) {n : Nat} (hn : n < 8) :
    (l.foldl (fun m k => if caught k then m ||| BitVec.ofNat 8 (2 ^ k) else m) m).getLsbD n
      = (m.getLsbD n || decide (n ∈ l) && caught n) := by
  induction l generalizing m with
  | nil => simp
  | cons k l ih =>
    have bit : (BitVec.ofNat 8 (2 ^ k)).getLsbD n = decide (n = k) := by
      rw [BitVec.getLsbD_ofNat, Nat.testBit_two_pow]
      simp [hn, eq_comm]
    have first : (if caught k then m ||| BitVec.ofNat 8 (2 ^ k) else m).getLsbD n
        = (m.getLsbD n || decide (n = k) && caught k) := by
      cases caught k
      · simp
      · rw [if_pos rfl, BitVec.getLsbD_or, bit, Bool.and_true]
    rw [List.foldl_cons, ih, first]
    by_cases same : n = k
    · subst same
      cases caught n <;> simp
    · simp [same]

theorem getLsbD_proofsNow {n : Nat} (listed : n ∈ proofPairs c g) :
    (proofsNow c g).getLsbD n = ((group c g).proofSeen.getLsbD n || c.safety.caughtDemand.getLsbD n) := by
  have hn : n < 8 := by
    simp only [proofPairs, groupPairs, List.mem_filter, List.mem_range] at listed
    obtain ⟨⟨hn, -⟩, -⟩ := listed
    exact hn
  rw [proofsNow, getLsbD_foldl_or (fun n => c.safety.caughtDemand.getLsbD n) _ _ hn]
  simp [listed]

theorem proofsNow_all : (proofPairs c g).all (fun n => (proofsNow c g).getLsbD n)
    = (proofPairs c g).all fun n => (group c g).proofSeen.getLsbD n || c.safety.caughtDemand.getLsbD n := by
  rw [Bool.eq_iff_iff, List.all_eq_true, List.all_eq_true]
  exact forall₂_congr fun n listed => by rw [getLsbD_proofsNow listed]

/-- What every row keeps: the other groups, and the demand just read. -/
def KeepsOthers (c : Chip) (g : Nat) (d : Chip) : Prop :=
  (∀ h : Nat, h ≠ g → group d h = group c h) ∧ (group d g).demand = groupDemand c g

theorem keepsOthers_groupTo {d : Chip} (h : KeepsOthers c g d) (st : Nat) : KeepsOthers c g (groupTo d g st) :=
  ⟨fun n other => (group_groupTo_ne d st other).trans (h.1 n other), (group_groupTo d g st).2.trans h.2⟩

theorem keepsOthers_demanded : KeepsOthers c g (demanded c g) :=
  ⟨fun _ other => group_modGroup_ne c _ other, group_demanded_demand c g⟩

theorem keepsOthers_modGroup {d : Chip} (h : KeepsOthers c g d) {f : GroupSt → GroupSt}
    (demand : ∀ s, (f s).demand = s.demand) : KeepsOthers c g (modGroup d g f) :=
  ⟨fun n other => (group_modGroup_ne d _ other).trans (h.1 n other), by rw [group_modGroup, demand]; exact h.2⟩

theorem evalGroup_keepsOthers : KeepsOthers c g (evalGroup faults rst g c) := by
  have read : KeepsOthers c g (demanded c g) := keepsOthers_demanded
  unfold evalGroup
  dsimp only
  rw [← demanded]
  split
  · exact keepsOthers_groupTo read 0
  · split
    · split
      · exact keepsOthers_modGroup read fun _ => rfl
      · refine keepsOthers_groupTo (keepsOthers_modGroup read ?_) 4
        exact fun _ => rfl
    · split
      · split
        · exact keepsOthers_groupTo read 3
        · exact read
      · split
        · exact read
        · split
          · split
            · exact keepsOthers_groupTo read 2
            · exact read
          · split
            · exact keepsOthers_groupTo read 2
            · exact read
      · split
        · exact keepsOthers_groupTo read _
        · exact read
      · split
        · refine keepsOthers_groupTo (keepsOthers_modGroup read ?_) 2
          exact fun _ => rfl
        · exact keepsOthers_modGroup read fun _ => rfl
      · split
        · exact keepsOthers_groupTo read 1
        · exact read

end rows

/-- Settles O39: each row of the table is a row of `evalGroup`, and `groupTo` takes the group there. -/
theorem groupsChangeByTheTable : Obligations.GroupsChangeByTheTable := by
  intro c faults rst g d st next faulted on demand
  have unfaulted (h : ¬faulted) : next = (group (evalGroup [] rst g c) g).state :=
    congrArg (fun d => (group d g).state) (evalGroup_of_unfaulted h)
  refine ⟨evalGroup_keepsOthers.1, evalGroup_keepsOthers.2, state_next_disabled, fun hit active => ?_,
    fun hit active held => ?_, fun h at_0 => ?_, fun h at_1 dem => ?_, fun h at_1 noDem => ?_, fun h at_2 => ?_,
    fun h at_3 dem => ?_, fun h at_3 noDem manual => ?_, fun h at_3 noDem auto => ?_, fun none_ at_4 => ?_⟩
  · exact state_next_faulted active hit
  · exact lockout_next_faulted g.isLt active held hit
  · exact (unfaulted h.2).trans (state_next_inhibited h.1 at_0)
  · rw [unfaulted h.2, state_next_awaiting h.1 at_1, if_neg fun moves => dem moves.1]
  · rw [unfaulted h.2, state_next_awaiting h.1 at_1, proofsNow_all]
    simp only [Classical.not_not.mp noDem, true_and]
  · exact (unfaulted h.2).trans (state_next_armed h.1 at_2)
  · exact (unfaulted h.2).trans (state_next_tripped_demand h.1 at_3 dem)
  · exact (unfaulted h.2).trans (state_next_tripped_manual h.1 at_3 (Classical.not_not.mp noDem) manual)
  · rw [unfaulted h.2]
    exact state_next_tripped h.1 at_3
  · exact (unfaulted none_).trans (state_next_lockedOut at_4)

/-! ### The switch commands of an output (R332, R335, R342) -/

theorem safeOut_modOut (c : Chip) (o : Nat) (f : SafeOut → SafeOut) : safeOut (modOut c o f) o = f (safeOut c o) := by
  simp [safeOut, modOut]

/-- What energises an output. -/
def energises (c : Chip) (o : Nat) : Bool :=
  bitOf (outCfg c o) 31 && working c 0x20 && smGet false c.latch.bits (fld (outCfg c o) 15 0)
    && ((List.range 32).find? fun g => groupEnabled c g && (groupOuts c g).contains o).any
      (fun g => (group c g).state == 2)
    && c.mode.mode.runs && !c.stroke.safeLatchS && !c.stroke.haltAtStrobe

theorem safeOut_outCommand (c : Chip) (o : Nat) : safeOut (outCommand c o) o =
    { safeOut c o with nextHigh := energises c o, nextLow := energises c o && !(safeOut c o).lowOpen } := by
  rw [outCommand, safeOut_modOut, energises]
  cases (List.range 32).find? fun g => groupEnabled c g && (groupOuts c g).contains o <;> rfl

/-- Settles O40: the high-side command is the conjunction of what energises the output, the low-side one follows it. -/
theorem outputsNeedAnArmedGroup : Obligations.OutputsNeedAnArmedGroup := by
  intro c o n
  have commands : n = _ := safeOut_outCommand c o
  rw [commands]
  refine ⟨fun on => ?_, fun on => by simpa using on⟩
  simp only [energises, Bool.and_eq_true, Bool.not_eq_true', Option.any_eq_true, beq_iff_eq] at on
  obtain ⟨⟨⟨⟨⟨⟨used, works⟩, latched⟩, g, owner, armed⟩, runs⟩, latch⟩, halt⟩ := on
  obtain ⟨enabled, has⟩ : groupEnabled c g = true ∧ o ∈ groupOuts c g := by simpa using List.find?_some owner
  exact ⟨used, latched, works, runs, latch, halt, g, List.mem_range.mp (List.mem_of_find?_eq_some owner), enabled, has,
    armed⟩

end Sys2Proof.Machine
end

section
/-!
PROOFS. What a Zwistra connection accepts (R363 to R365).
-/
namespace Sys2Proof.Machine

theorem zwConn_modZw (c : Chip) (k : Nat) (f : ZwConn → ZwConn) : zwConn (modZw c k f) k = f (zwConn c k) := by
  simp [zwConn, modZw]

theorem zwConn_congr {c d : Chip} (h : c.zw = d.zw) (k : Nat) : zwConn c k = zwConn d k := by
  rw [zwConn, zwConn, h]

theorem detect_zw (c : Chip) (cause which : Nat) : (detect c cause which).zw = c.zw := rfl

theorem zwConds_zw (c : Chip) : (zwConds c).zw = c.zw := by
  rw [zwConds, setCond_zw, setCond_zw]

theorem zwTo_zw (c : Chip) (k st : Nat) : (zwTo c k st).zw = (modZw c k fun z => { z with state := st }).zw := by
  unfold zwTo
  dsimp only
  split
  · rfl
  · rw [emit_zw]

theorem zwConn_zwAccept (c : Chip) (k : Nat) (a : List Byte) (single : Bool) (skew : Nat) :
    zwConn (zwAccept c k a single skew) k =
      let z := zwConn c k
      let run := if single then 0 else min 16 (z.equalRun + 1)
      { z with
        state := 2
        single := single
        singles := if single then satInc 255 z.singles else z.singles
        valid := (zwDataOf a).valid
        equalRun := run
        lastSkew := if single then z.lastSkew else skewMicros skew
        seq := BitVec.ofNat 32 (beAt a 8 4)
        epoch := BitVec.ofNat 32 (beAt a 4 4)
        seen := true
        dropped := z.dropped.filter fun d => newerSeq (BitVec.ofNat 32 d.2) (BitVec.ofNat 32 (beAt a 8 4))
        window := none
        data := if z.fault then none else some (zwDataOf a)
        fault := z.fault && !(z.fault && decide (16 ≤ run)) } := by
  unfold zwAccept
  dsimp only
  rw [zwConn_congr (zwConds_zw _), zwConn_congr (zwTo_zw _ _ _), zwConn_modZw, zwConn_modZw]

theorem zwConn_zwMismatch (c : Chip) (k : Nat) (a b : List Byte) (skew : Nat) :
    zwConn (zwMismatch c k a b skew) k =
      { zwConn c k with
        window := none, fault := true, equalRun := 0, mismatches := satInc 255 (zwConn c k).mismatches, data := none
        lastSkew := skewMicros skew } := by
  unfold zwMismatch
  dsimp only
  rw [zwConn_congr (emit_zw ..), zwConn_congr (detect_zw ..), zwConn_congr (zwConds_zw _), zwConn_congr (raise_zw ..),
    zwConn_modZw]

/-- A cause that is set stays set while conditions change. -/
theorem bitOf_cause_setCond {c : Chip} {p b j : Nat} {v : Bool} (hj : j < 32)
    (h : bitOf (hdr c p).cause j = true) : bitOf (hdr (setCond c p b v) p).cause j = true := by
  rw [hdr_setCond]
  dsimp only
  split
  · rw [bitOf_setBit _ _ _ hj]
    split
    · rfl
    · exact h
  · exact h

theorem bitOf_cause_zwMismatch (c : Chip) (k : Nat) (a b : List Byte) (skew : Nat) :
    bitOf (hdr (zwMismatch c k a b skew) 0x21).cause 1 = true := by
  unfold zwMismatch
  dsimp only
  rw [hdr_emit _ _ _ _ _ _ _ _ (by decide) (by decide)]
  exact bitOf_cause_setCond (by decide) (bitOf_cause_setCond (by decide) (bitOf_cause_raise _ _ (by decide)))

theorem zwMismatch_detected (c : Chip) (k : Nat) (a b : List Byte) (skew : Nat) :
    (6, k) ∈ (zwMismatch c k a b skew).safety.detected := by
  unfold zwMismatch
  dsimp only
  rw [emit_safety]
  exact List.mem_append_right _ (List.mem_singleton.mpr rfl)

/-- Settles O42: the fields of the connection, the fault detected and the cause. -/
theorem zwistraAcceptances : Obligations.ZwistraAcceptances := by
  intro c k a b single skew z n bad m
  have accepted : n = _ := zwConn_zwAccept c k a single skew
  have differed : m = _ := zwConn_zwMismatch c k a b skew
  rw [accepted, differed]
  refine ⟨rfl, rfl, rfl, rfl, rfl, rfl, rfl, ?_, fun fault => if_pos fault, fun sound => if_neg (by simp [z, sound]), rfl, rfl,
    rfl, rfl, rfl, rfl, rfl, zwMismatch_detected c k a b skew, bitOf_cause_zwMismatch c k a b skew⟩
  change _ ↔ (zwConn c k).fault = true ∧ (single = true ∨ (zwConn c k).equalRun + 1 < 16)
  dsimp only
  cases (zwConn c k).fault
  · simp
  · cases single
    · simp; omega
    · simp

end Sys2Proof.Machine
end

section
/-!
PROOFS. The epochs of a pair (R384, R385).
-/
namespace Sys2Proof.Machine

theorem epochFloor_lt (c : Chip) : epochFloor c < 2 ^ 32 := by
  simp only [epochFloor, Nat.max_lt]
  exact ⟨BitVec.isLt _, BitVec.isLt _, BitVec.isLt _⟩

theorem le_epochFloor (c : Chip) : c.backup.epoch.toNat ≤ epochFloor c ∧ c.backup.partnerEpoch.toNat ≤ epochFloor c
    ∧ c.seat.beaconEpoch.toNat ≤ epochFloor c := by
  simp only [epochFloor]
  omega

theorem exhausted_iff (c : Chip) : exhausted c = true ↔
    c.backup.epoch = 0xFFFFFFFF ∨ c.backup.partnerEpoch = 0xFFFFFFFF ∨ c.seat.beaconEpoch = 0xFFFFFFFF := by
  have top (e : Word) : e = 0xFFFFFFFF ↔ 0xFFFFFFFF ≤ e.toNat := by
    rw [← BitVec.toNat_inj]
    have := e.isLt
    have all_ones : (0xFFFFFFFF : Word).toNat = 0xFFFFFFFF := rfl
    omega
  rw [exhausted, decide_eq_true_eq, epochFloor, top, top, top]
  omega

theorem writeEpoch_toNat {c : Chip} (room : exhausted c = false) :
    (writeEpoch c).backup.epoch.toNat = epochFloor c + 1 := by
  have below : epochFloor c < 0xFFFFFFFF := by simpa [exhausted] using room
  show (BitVec.ofNat 32 (epochFloor c + 1)).toNat = _
  rw [BitVec.toNat_ofNat, Nat.mod_eq_of_lt (by omega)]

/-- Settles O46: the epoch written is one above the highest known. -/
theorem epochsGrow : Obligations.EpochsGrow := by
  intro c
  refine ⟨exhausted_iff c, fun room => ?_⟩
  have written := writeEpoch_toNat room
  obtain ⟨own, partner, beacon⟩ := le_epochFloor c
  simp only [BitVec.lt_def, BitVec.le_def, written]
  refine ⟨by omega, by omega, by omega, fun x x_own x_partner x_beacon => ?_⟩
  simp only [epochFloor]
  omega

end Sys2Proof.Machine
end

section
/-!
PROOFS. The fields of a packed register word (R4).
-/
namespace Sys2Proof.Machine

theorem testBit_fld (w : Word) (hi lo j : Nat) : (fld w hi lo).testBit j = (decide (j < hi - lo + 1) && bitOf w (lo + j)) := by
  rw [fld, Nat.testBit_mod_two_pow, Nat.testBit_div_two_pow, Nat.add_comm j lo, bitOf, BitVec.getLsbD]

theorem bitOf_pack_cons (v hi lo : Nat) (fs : List (Nat × Nat × Nat)) {i : Nat} (hi32 : i < 32) :
    bitOf (pack ((v, hi, lo) :: fs)) i =
      (bitOf (pack fs) i || (decide (lo ≤ i) && (decide (i - lo < hi - lo + 1) && v.testBit (i - lo)))) := by
  rw [pack, bitOf, BitVec.getLsbD_or, BitVec.getLsbD_ofNat, Nat.testBit_mul_two_pow, Nat.testBit_mod_two_pow]
  simp [hi32, bitOf]

/-- Two fields of a word have no bit in common. -/
def fieldsApart (hi lo hi' lo' : Nat) : Prop := hi < lo' ∨ hi' < lo

/-- A field lies in the word, its low bit no higher than its high one. -/
def isField (hi lo : Nat) : Prop := lo ≤ hi ∧ hi < 32

theorem fld_pack_skip {v hi lo hi' lo' : Nat} (fs : List (Nat × Nat × Nat)) (field : isField hi lo) (other : isField hi' lo')
    (apart : fieldsApart hi lo hi' lo') : fld (pack ((v, hi', lo') :: fs)) hi lo = fld (pack fs) hi lo := by
  unfold isField fieldsApart at *
  refine Nat.eq_of_testBit_eq fun j => ?_
  rw [testBit_fld, testBit_fld]
  by_cases inside : j < hi - lo + 1
  · have outside : ¬(lo' ≤ lo + j ∧ lo + j - lo' < hi' - lo' + 1) := by omega
    rw [bitOf_pack_cons _ _ _ _ (by omega)]
    simp only [Classical.not_and_iff_not_or_not] at outside
    obtain low | high := outside
    · simp [low]
    · simp [high]
  · simp [inside]

theorem bitOf_pack_of_apart {fs : List (Nat × Nat × Nat)} {i : Nat} (hi32 : i < 32)
    (apart : ∀ f ∈ fs, i < f.2.2 ∨ (f.2.2 ≤ f.2.1 ∧ f.2.1 < i)) : bitOf (pack fs) i = false := by
  induction fs with
  | nil => simp [pack, bitOf]
  | cons f fs ih =>
    obtain ⟨v, hi, lo⟩ := f
    obtain ⟨first, others⟩ := List.forall_mem_cons.mp apart
    rw [bitOf_pack_cons _ _ _ _ hi32, ih others]
    obtain low | ⟨order, high⟩ := first
    · simp [show ¬lo ≤ i from Nat.not_le.mpr low]
    · have : ¬i - lo < hi - lo + 1 := by dsimp only at order high; omega
      simp [this]

theorem fld_pack_take {v hi lo : Nat} {fs : List (Nat × Nat × Nat)} (field : isField hi lo) (fits : v < 2 ^ (hi - lo + 1))
    (apart : ∀ f ∈ fs, f.2.2 ≤ f.2.1 ∧ fieldsApart hi lo f.2.1 f.2.2) : fld (pack ((v, hi, lo) :: fs)) hi lo = v := by
  unfold isField fieldsApart at *
  refine Nat.eq_of_testBit_eq fun j => ?_
  rw [testBit_fld]
  by_cases inside : j < hi - lo + 1
  · have none_ : bitOf (pack fs) (lo + j) = false :=
      bitOf_pack_of_apart (by omega) fun f hf => by have := apart f hf; omega
    rw [bitOf_pack_cons _ _ _ _ (by omega), none_]
    simp [inside]
  · rw [Nat.testBit_lt_two_pow (Nat.lt_of_lt_of_le fits (Nat.pow_le_pow_right (by omega) (by omega)))]
    simp [inside]

end Sys2Proof.Machine
end

section
/-!
PROOFS. The writes of the common header and the drain of a page (R47, R48, R51, R57, R58, R71, R73).
-/
namespace Sys2Proof.Machine
open Safety

/-- Commands that leave the same module leave the same state. -/
theorem next_after_congr {s : State} {c d : Chip} (h : c = d) :
    (.next (after s c) : Host.Outcome State Fault Refusal) = .next (after s d) := by rw [h]

@[simp] theorem bitOf_pack_nil (i : Nat) : bitOf (pack []) i = false := by simp [pack, bitOf]

/-- BLK_CTRL without SOFT_RESET (R71): ENABLE acts where it differs from the state. -/
theorem writeCtrl_of_noReset {c : Chip} {p cls : Nat} {v : Word} (noReset : bitOf v 4 = false) :
    writeCtrl c p cls v =
      let d := modHdr c p fun h => { h with drainTimeout := fld v 15 8 }
      if (hdr c p).st = .disabled ∧ bitOf v 0 = true then blockEnable d p
      else if (hdr c p).st = .enabled ∧ bitOf v 0 = false then blockDisable d p
      else d := by
  simp only [writeCtrl, noReset, Bool.false_eq_true, if_false, hdr_modHdr]
  cases (hdr c p).st <;> cases bitOf v 0 <;> rfl

theorem bitOf_ctrl (drain : BitVec 8) : bitOf (pack [(drain.toNat, 15, 8)]) 0 = false
    ∧ bitOf (pack [(drain.toNat, 15, 8)]) 4 = false ∧ bitOf (pack [(drain.toNat, 15, 8), (1, 0, 0)]) 0 = true
    ∧ bitOf (pack [(drain.toNat, 15, 8), (1, 0, 0)]) 4 = false
    ∧ bitOf (pack [(drain.toNat, 15, 8), (1, 4, 4)]) 4 = true := by
  simp [bitOf_pack_cons]

theorem fld_ctrl (drain : BitVec 8) : fld (pack [(drain.toNat, 15, 8)]) 15 8 = drain.toNat
    ∧ fld (pack [(drain.toNat, 15, 8), (1, 0, 0)]) 15 8 = drain.toNat :=
  ⟨fld_pack_take ⟨by decide, by decide⟩ drain.isLt (by simp),
    fld_pack_take ⟨by decide, by decide⟩ drain.isLt (by simp [fieldsApart])⟩

theorem headerWritesTakeEffect : Claims.HeaderWritesTakeEffect := by
  intro s r p drain v g st ctl
  obtain ⟨off, noReset, on, noReset', reset⟩ := bitOf_ctrl drain
  obtain ⟨limit, limit'⟩ := fld_ctrl drain
  have state : (hdr g p).st = st := by rw [hdr_granted]
  have waits : ctl.mode.mode.strokes = s.chip.mode.mode.strokes := by rw [modHdr_mode, granted_mode]
  have write {off : Nat} {v : Word} (h : off < 0x040) (ok : Accepts s.chip r p off v) :
      writeReg s.chip r p off v = writeHeader g p off (writerClass s.chip r) v := writeReg_header p.isLt h ok
  refine ⟨fun ok disabled => ?_, fun ok enabled => ?_, fun ok enabled => ?_, fun ok disabled => ?_, fun ok => ?_,
    fun ok => ?_, fun ok => ?_⟩
  all_goals
    unfold exec
    refine next_after_congr ((write (by decide) ok).trans ?_)
  · simp only [writeHeader, writeCtrl_of_noReset noReset', limit', state, disabled, on, and_self, if_true]
    rw [← waits]
    rfl
  · simp only [writeHeader, writeCtrl_of_noReset noReset, limit, state, enabled, off, and_self, if_true]
    rfl
  · simp only [writeHeader, writeCtrl_of_noReset noReset', limit', state, enabled, on]
    simp [ctl]
  · simp only [writeHeader, writeCtrl_of_noReset noReset, limit, state, disabled, off]
    simp [ctl]
  · simp only [writeHeader, writeCtrl, reset, if_true]
  · rfl
  · simp only [writeHeader, testSet, modHdr_stroke, g, granted_stroke]

theorem drainsComplete : Claims.DrainsComplete := by
  intro s p c
  refine ⟨fun draining idle empty => ?_, fun draining spent work => ?_, fun other => ⟨?_, ?_⟩, fun r addr full v => rfl⟩
  all_goals
    unfold exec
    refine next_after_congr ?_
  · have notBusy : busy c p = false := by simp [busy, idle, empty]
    simp only [drainEnd, c, draining, notBusy]
    rfl
  · have isBusy : busy c p = true := by
      obtain some_ | some_ := work
      · simp [busy, some_]
      · simp [busy, some_]
    have due : (decide ((hdr c p).st = .draining) && decide ((hdr c p).drainLeft = 0) && busy c p) = true := by
      simp [draining, spent, isBusy]
    exact if_pos due
  · simp [drainEnd, c, other]
  · simp [drainAbort, c, other]

/-- Settles O21: each accepted write by its offset, and the two ends of a drain. -/
theorem headerCommandsComplete : Obligations.HeaderCommandsComplete := ⟨headerWritesTakeEffect, drainsComplete⟩

end Sys2Proof.Machine
end

section
/-!
PROOFS. The mode commands (R30, R33, R35, R185, R186, R417) and the commissioning writes (R174 to R214, R285 to R330).
-/
namespace Sys2Proof.Machine
open Safety

/-! ### The register a page's write reaches -/

theorem writeBlock_crew (c : Chip) (r : Requester) (cr : Crew) (off cls : Nat) (v : Word) :
    writeBlock c r (crewPage cr) off cls v = writeCrew c cr off v := by cases cr <;> rfl

theorem pageCrew_engPage {e : Nat} (h : e < 10) : pageCrew (engPage e) = none := by
  unfold pageCrew engPage
  split <;> (rw [if_neg (by omega), if_neg (by omega)])

theorem engineOf_engPage {e : Nat} (h : e < 10) : engineOf (engPage e) = some e := by
  unfold engineOf engPage
  split
  · rw [if_pos (by omega)]; congr 1; omega
  · rw [if_neg (by omega), if_pos (by omega)]; congr 1; omega

theorem engPage_lt {e : Nat} (h : e < 10) : engPage e < 128 := by
  unfold engPage
  split <;> omega

theorem crewPage_lt (cr : Crew) : crewPage cr < 128 := by cases cr <;> decide

theorem writeBlock_engine (c : Chip) (r : Requester) {e : Nat} (h : e < 10) (off cls : Nat) (v : Word) :
    writeBlock c r (engPage e) off cls v = writeEngine c e off v := by
  simp only [writeBlock, pageCrew_engPage h, engineOf_engPage h]

/-! ### MODE_CMD -/

theorem writeBlock_modeCmd (c : Chip) (r : Requester) (cls : Nat) {n : Nat} (h : n < 256) :
    writeBlock c r 4 0x044 cls (BitVec.ofNat 32 n) = modeCmdRun c n := by
  have field : fld (BitVec.ofNat 32 n) 7 0 = n := by
    simp only [fld, BitVec.toNat_ofNat]; omega
  show modeCmdRun c (fld (BitVec.ofNat 32 n) 7 0) = _
  rw [field]

theorem checkConfig_commits (c : Chip) : checkConfig c true =
    if configBad c then setBounds (setCond c 4 0 true)
    else configRows (storeSettings (setBounds (setCond c 4 0 false))) := by
  unfold checkConfig configCond
  cases configBad c <;> simp only [Bool.false_eq_true, if_false, if_true]

theorem modeCommandsTakeEffect : Claims.ModeCommandsTakeEffect := by
  intro s r cmd ok
  have write {n : Nat} (h : n < 256) (accepts : ok n) :
      writeReg s.chip r 4 0x044 (BitVec.ofNat 32 n) = modeCmdRun (granted s.chip r 4) n :=
    (writeReg_block (by decide) (by decide) (by decide) accepts).trans (writeBlock_modeCmd _ _ _ h)
  refine ⟨fun h => ?_, fun h => ?_, fun h => ?_, fun h => ?_, fun h => ?_, fun h => ?_, fun h => ?_, fun h => ?_,
    fun h => ?_, fun h => ?_, fun h => ?_⟩
  all_goals
    unfold exec
    refine next_after_congr ((write (by decide) h).trans ?_)
    simp only [modeCmdRun]
  · rfl
  · rw [← congrArg ModeSt.mode (granted_mode s.chip r 4)]
  · rfl
  · rw [checkConfig_commits]
  · rfl
  · rfl
  · rfl
  · rfl
  · rfl
  · rfl
  · rfl

/-- Settles O22: MODE_CMD's effect by its code. -/
theorem modeCommandsComplete : Obligations.ModeCommandsComplete := modeCommandsTakeEffect

/-! ### Crew pages -/

theorem fld_low (hi n : Nat) (fits : n < 2 ^ (hi + 1)) (small : n < 2 ^ 32) : fld (BitVec.ofNat 32 n) hi 0 = n := by
  simp only [fld, BitVec.toNat_ofNat, Nat.mod_eq_of_lt small, Nat.pow_zero, Nat.div_one, Nat.sub_zero]
  exact Nat.mod_eq_of_lt fits

/-- APPLY with its COUNT (R189, R212). -/
theorem trimCmd_fields (n : Fin 32) :
    bitOf (pack [(1, 8, 8), (n.val, 4, 0)]) 8 = true ∧ fld (pack [(1, 8, 8), (n.val, 4, 0)]) 4 0 = n.val := by
  refine ⟨by simp [bitOf_pack_cons], ?_⟩
  rw [fld_pack_skip _ ⟨by decide, by decide⟩ ⟨by decide, by decide⟩ (.inl (by decide))]
  exact fld_pack_take ⟨by decide, by decide⟩ n.isLt (by simp)

/-- COX_TEST with ARM and CORE (R249). -/
theorem testCmd_fields (n : Fin 4) :
    bitOf (pack [(n.val, 2, 1), (1, 0, 0)]) 0 = true ∧ fld (pack [(n.val, 2, 1), (1, 0, 0)]) 2 1 = n.val
      ∧ bitOf (pack [(n.val, 2, 1)]) 0 = false ∧ fld (pack [(n.val, 2, 1)]) 2 1 = n.val :=
  ⟨by simp [bitOf_pack_cons], fld_pack_take ⟨by decide, by decide⟩ n.isLt (by simp [fieldsApart]),
    by simp [bitOf_pack_cons], fld_pack_take ⟨by decide, by decide⟩ n.isLt (by simp)⟩

theorem writeCrew_trim (c : Chip) (cr : Crew) {v : Word} (applies : bitOf v 8 = true) : writeCrew c cr 0x124 v =
    let d := storeReg c (crewPage cr) 0x124 v
    modCtl d cr fun t => { t with trimPending := [trimBatch d (crewPage cr) (fld v 4 0)] } := by
  simp [writeCrew, applies]

theorem writeCrew_test (c : Chip) (cr : Crew) (v : Word) : writeCrew c cr 0x068 v =
    modCox c cr fun k => { k with testArm := bitOf v 0, testCore := fld v 2 1 } := by
  simp [writeCrew]

theorem writeCrew_breakpoint (c : Chip) (cr : Crew) {n : Nat} (h : n < 8) (v : Word) :
    writeCrew c cr (0x140 + 4 * n) v = modCtl c cr fun t => { t with bps := smSet 0 t.bps n v } := by
  have index : (0x140 + 4 * n - 0x140) / 4 = n := by omega
  unfold writeCrew
  dsimp only
  rw [if_neg (by omega), if_neg (by omega), if_neg (by omega), if_neg (by omega), if_pos (by omega), index]

theorem writeForce_eq (c : Chip) (cr : Crew) (off : Nat) (v : Word) : writeForce c cr off v =
    let sel := forceSel c (crewPage cr)
    let old := force c cr sel
    let new := forceAfter old off v
    let d := forceCond (modCtl c cr fun t => { t with forces := smSet Force.reset t.forces sel new }) cr
    if (old.on = true ∨ new.on = true) ∧ new ≠ old then
      emit d (crewPage cr) 0x32 sel new.entry new.value 0 c.stroke.count
    else d := by
  have same (d : Chip) : (forceCond d cr).stroke = d.stroke := setCond_stroke ..
  unfold writeForce
  simp only [same, modCtl_stroke, Bool.and_eq_true, Bool.or_eq_true, bne_iff_ne]

theorem crewWritesTakeEffect : Claims.CrewWritesTakeEffect := by
  intro s r cr v p g sel old forced
  have write {off : Nat} {v : Word} (low : 0x040 ≤ off) (high : off < 4096) (ok : Accepts s.chip r p off v) :
      writeReg s.chip r p off v = writeCrew g cr off v :=
    (writeReg_block (crewPage_lt cr) low high ok).trans (writeBlock_crew ..)
  have force_ {off : Nat} {v : Word} (new : Force) (after_ : forceAfter old off v = new) :
      writeForce g cr off v = forced new := by
    rw [writeForce_eq]
    simp only [granted_stroke, g, ← after_, forced]
    rfl
  refine ⟨fun ok => ?_, fun ok => ?_, fun n ok => ?_, fun ok => ?_, fun ok => ?_, fun n process ok => ?_, fun n ok => ?_,
    fun n ok => ?_⟩
  case refine_6 =>
    subst process
    unfold exec
    exact next_after_congr ((write (by omega) (by omega) ok).trans (writeCrew_breakpoint g .process n.isLt v))
  all_goals
    unfold exec
    refine next_after_congr ((write (by decide) (by decide) ok).trans ?_)
  · rfl
  · rfl
  · obtain ⟨apply_, count⟩ := trimCmd_fields n
    rw [writeCrew_trim _ _ apply_, count]
  · exact force_ _ rfl
  · exact force_ _ rfl
  · obtain ⟨arm, core, -, -⟩ := testCmd_fields n
    rw [writeCrew_test, arm, core]
  · obtain ⟨-, -, arm, core⟩ := testCmd_fields n
    rw [writeCrew_test, arm, core]

/-! ### Engine and heat selector pages -/

/-- APPLY with the loop of a tune (R288). -/
theorem tuneCmd_fields (i : Fin 64) :
    bitOf (pack [(1, 16, 16), (i.val, 5, 0)]) 16 = true ∧ fld (pack [(1, 16, 16), (i.val, 5, 0)]) 5 0 = i.val := by
  refine ⟨by simp [bitOf_pack_cons], ?_⟩
  rw [fld_pack_skip _ ⟨by decide, by decide⟩ ⟨by decide, by decide⟩ (.inl (by decide))]
  exact fld_pack_take ⟨by decide, by decide⟩ i.isLt (by simp)

/-- APPLY with the loop, the index and the value of a table point (R330). -/
theorem pointCmd_fields (j : Fin 16) (ix val : Nat) :
    bitOf (pack [(1, 31, 31), (j.val, 27, 24), (ix, 23, 16), (val, 15, 0)]) 31 = true
      ∧ fld (pack [(1, 31, 31), (j.val, 27, 24), (ix, 23, 16), (val, 15, 0)]) 27 24 = j.val := by
  refine ⟨by simp [bitOf_pack_cons], ?_⟩
  rw [fld_pack_skip _ ⟨by decide, by decide⟩ ⟨by decide, by decide⟩ (.inl (by decide))]
  exact fld_pack_take ⟨by decide, by decide⟩ j.isLt (by simp [fieldsApart])

theorem writeEngine_load (c : Chip) (e : Nat) : writeEngine c e 0x04C 1 =
    modEng c e fun x => { x with cmd := 1, result := 0xFF, failNo := 0xFF } := rfl

theorem writeEngine_discard (c : Chip) (e : Nat) : writeEngine c e 0x04C 2 =
    modUpd (modEng c e fun x => { x with cmd := 2 }) fun u => { u with staged := smDel u.staged (engPage e) } := rfl

theorem writeEngine_tune (c : Chip) {e : Nat} (he : e < 8) {v : Word} (applies : bitOf v 16 = true) :
    writeEngine c e 0x06C v =
      let d := storeReg c (engPage e) 0x06C v
      modEng d e fun g => { g with
        tune := some ⟨fld v 5 0, cfg d (engPage e) 0x060, cfg d (engPage e) 0x064, cfg d (engPage e) 0x068⟩ } := by
  simp [writeEngine, he, applies]

theorem writeEngine_point (c : Chip) {e : Nat} (he : 8 ≤ e) {v : Word} (applies : bitOf v 31 = true) :
    writeEngine c e 0x060 v = modEng (storeReg c (engPage e) 0x060 v) e fun g => { g with
      tune := some ⟨fld v 27 24, v &&& 0x0FFFFFFF, 0, 0⟩ } := by
  simp [writeEngine, he, applies]

theorem modLoop_stroke (c : Chip) (e j : Nat) (f : LoopSt → LoopSt) : (modLoop c e j f).stroke = c.stroke := rfl

theorem writeEngine_mode (c : Chip) (e k : Nat) (v : Word) : writeEngine c e (0x800 + 4 * k) v =
    let st := loopSt c e k
    let d := modLoop c e k fun x => { x with req := fld v 1 0 }
    if st.req = fld v 1 0 then d
    else emit d (engPage e) 0x43 k (BitVec.ofNat 32 st.req) (BitVec.ofNat 32 (fld v 1 0)) (loopOutWord st)
      c.stroke.count := by
  have index : (0x800 + 4 * k - 0x800) / 4 = k := by omega
  unfold writeEngine
  dsimp only
  rw [if_neg (by omega), if_pos (by omega), index]
  simp only [writeLoopMode, modLoop_stroke]

theorem writeBlock_heatMode (c : Chip) (r : Requester) (cls k : Nat) (v : Word) :
    writeBlock c r 0x18 (0x800 + 4 * k) cls v =
      if (heatBlock c k).isSome then modHeat c k fun x => { x with req := fld v 1 0 } else c := by
  have index : (0x800 + 4 * k - 0x800) / 4 = k := by omega
  show (if 0x800 + 4 * k = 0x04C then writeHsLoad c v else _) = _
  rw [if_neg (by omega), index]

theorem engineWritesTakeEffect : Claims.EngineWritesTakeEffect := by
  intro s r e t h j i v p q g load drop mode
  have write {n off : Nat} {v : Word} (he : n < 10) (low : 0x040 ≤ off) (high : off < 4096)
      (ok : Accepts s.chip r (engPage n) off v) :
      writeReg s.chip r (engPage n) off v = writeEngine (g (engPage n)) n off v :=
    (writeReg_block (engPage_lt he) low high ok).trans (writeBlock_engine _ _ he ..)
  have heat_ {off : Nat} {v : Word} (low : 0x040 ≤ off) (high : off < 4096) (ok : Accepts s.chip r 0x18 off v) :
      writeReg s.chip r 0x18 off v = writeBlock (g 0x18) r 0x18 off (writerClass s.chip r) v :=
    writeReg_block (by decide) low high ok
  have mode_ (n k : Nat) : writeEngine (g (engPage n)) n (0x800 + 4 * k) v = mode n k := by
    rw [writeEngine_mode]
    simp only [mode, g, granted_stroke]
  refine ⟨fun ok => ?_, fun ok => ?_, fun ok => ?_, fun ok => ?_, fun ok => ?_, fun ok => ?_, fun ok => ?_,
    fun ix val ok => ?_, fun ok => ?_, fun ok => ?_, fun ok => ?_⟩
  all_goals
    unfold exec
    refine next_after_congr ?_
  · exact (write (by omega) (by decide) (by decide) ok).trans (writeEngine_load ..)
  · exact (write (by omega) (by decide) (by decide) ok).trans (writeEngine_load ..)
  · exact (write (by omega) (by decide) (by decide) ok).trans (writeEngine_discard ..)
  · exact (write (by omega) (by decide) (by decide) ok).trans (writeEngine_discard ..)
  · exact (heat_ (by decide) (by decide) ok).trans rfl
  · exact (heat_ (by decide) (by decide) ok).trans rfl
  · obtain ⟨applies, loop⟩ := tuneCmd_fields i
    refine (write (by omega) (by decide) (by decide) ok).trans ((writeEngine_tune _ e.isLt applies).trans ?_)
    rw [loop]
  · obtain ⟨applies, loop⟩ := pointCmd_fields j ix.toNat val.toNat
    refine (write (by omega) (by decide) (by decide) ok).trans ((writeEngine_point _ (by omega) applies).trans ?_)
    rw [loop]
  · exact (write (by omega) (by omega) (by omega) ok).trans (mode_ e i)
  · exact (write (by omega) (by omega) (by omega) ok).trans (mode_ (t + 8) j)
  · exact (heat_ (by omega) (by omega) ok).trans (writeBlock_heatMode ..)

/-- Settles O25: the register of each accepted write, and the effect of its fields. -/
theorem commissioningWritesComplete : Obligations.CommissioningWritesComplete :=
  ⟨crewWritesTakeEffect, engineWritesTakeEffect⟩

end Sys2Proof.Machine
end

section
/-!
PROOFS. The command registers of the other pages: stroke, sessions, sensors, pair and CAN (R122, R126, R424, R548 to
R555, R582, R587, R640), the Boathouse's services (R638, R639, R651 to R657, R683, R697) and RST_CMD (R605, R612, R621).
-/
namespace Sys2Proof.Machine
open Safety

/-! ### CAN pages -/

theorem writeBlock_canCmd (c : Chip) (r : Requester) (cls : Nat) {p : Nat} (low : 0x60 ≤ p) (high : p ≤ 0x6F) (v : Word) :
    writeBlock c r p 0x044 cls v = writeCanCmd c (p - 0x60) v := by
  have noCrew : pageCrew p = none := by rw [pageCrew, if_neg (by omega), if_neg (by omega)]
  have noEngine : engineOf p = none := by rw [engineOf, if_neg (by omega), if_neg (by omega)]
  simp only [writeBlock, noCrew, noEngine]
  rw [if_neg (by omega), if_neg (by omega), if_neg (by omega), if_neg (by omega), if_neg (by omega),
    if_pos ⟨low, high, trivial⟩]

theorem writeBlock_clash (c : Chip) (r : Requester) (cls : Nat) {p : Nat} (low : 0x60 ≤ p) (high : p ≤ 0x6F) {v : Word}
    (clears : bitOf v 29 = true) : writeBlock c r p 0x098 cls v = setClash c (p - 0x60) (selected c p) false := by
  have noCrew : pageCrew p = none := by rw [pageCrew, if_neg (by omega), if_neg (by omega)]
  have noEngine : engineOf p = none := by rw [engineOf, if_neg (by omega), if_neg (by omega)]
  simp only [writeBlock, noCrew, noEngine, clears, if_true]
  rw [if_neg (by omega), if_neg (by omega), if_neg (by omega), if_neg (by omega), if_neg (by omega), if_neg (by omega),
    if_pos ⟨low, high, trivial⟩]

/-! ### Sessions -/

theorem writeBlock_allow (c : Chip) (r : Requester) (cls : Nat) {off : Nat} (low : 0x100 ≤ off) (v : Word) :
    writeBlock c r 0x72 off cls v =
      modSession c ((off - 0x100) / 16) fun x => { x with queueMax := fld v 23 16, writesMax := fld v 15 0 } := by
  have notClose : off ≠ 0x050 := by omega
  simp [writeBlock, pageCrew, engineOf, low, notClose]

/-- HS_CLOSE with its session (R582). -/
theorem closeCmd_fields (n : Fin 16) :
    bitOf (pack [(1, 4, 4), (n.val, 3, 0)]) 4 = true ∧ fld (pack [(1, 4, 4), (n.val, 3, 0)]) 3 0 = n.val := by
  refine ⟨by simp [bitOf_pack_cons], ?_⟩
  rw [fld_pack_skip _ ⟨by decide, by decide⟩ ⟨by decide, by decide⟩ (.inl (by decide))]
  exact fld_pack_take ⟨by decide, by decide⟩ n.isLt (by simp)

theorem writeBlock_close (c : Chip) (r : Requester) (cls : Nat) {v : Word} (closes : bitOf v 4 = true) :
    writeBlock c r 0x72 0x050 cls v = updAbandon (closeSession (storeReg c 0x72 0x050 v) (fld v 3 0) 1) := by
  show (if bitOf v 4 then endSession (storeReg c 0x72 0x050 v) (fld v 3 0) 1 else _) = _
  rw [closes]
  rfl

theorem peakCmd_bit (pct : Nat) : bitOf (pack [(1, 8, 8), (pct, 7, 0)]) 8 = true := by simp [bitOf_pack_cons]

theorem writeBlock_peak (c : Chip) (r : Requester) (cls : Nat) {v : Word} (clears : bitOf v 8 = true) :
    writeBlock c r 2 0x060 cls v = loadHigh (modStroke (storeReg c 2 0x060 v) fun k => { k with
      loadSafety := { k.loadSafety with peak := 0 }, loadProcess := { k.loadProcess with peak := 0 } }) := by
  show loadHigh (if bitOf v 8 then _ else _) = _
  rw [clears]
  rfl

theorem blockCommandsTakeEffect : Claims.BlockCommandsTakeEffect := by
  intro s r n v pct g can
  have write {p off : Nat} {v : Word} (hp : p < 128) (low : 0x040 ≤ off) (high : off < 4096)
      (ok : Accepts s.chip r p off v) :
      writeReg s.chip r p off v = writeBlock (g p) r p off (writerClass s.chip r) v := writeReg_block hp low high ok
  have page : canPage n < 128 := by unfold canPage; omega
  have pageLow : 0x60 ≤ canPage n := by unfold canPage; omega
  have pageHigh : canPage n ≤ 0x6F := by unfold canPage; omega
  have index : canPage n - 0x60 = n := by unfold canPage; omega
  refine ⟨fun ok => ?_, fun ok => ?_, fun ok => ?_, fun ok => ?_, fun ok => ?_, fun ok => ?_, fun ok => ?_, fun ok => ?_,
    fun ok => ?_, fun ok => ?_⟩
  all_goals
    unfold exec
    refine next_after_congr ?_
  · exact write (by decide) (by decide) (by decide) ok
  · exact (write (by decide) (by decide) (by decide) ok).trans (writeBlock_peak _ _ _ (peakCmd_bit _))
  · exact write (by decide) (by decide) (by decide) ok
  · refine (write (by decide) (by omega) (by omega) ok).trans ?_
    rw [writeBlock_allow _ _ _ (by omega)]
    congr 1
    omega
  · obtain ⟨closes, session⟩ := closeCmd_fields n
    refine (write (by decide) (by decide) (by decide) ok).trans ?_
    rw [writeBlock_close _ _ _ closes, session]
  · exact write (by decide) (by decide) (by decide) ok
  · refine (write page (by decide) (by decide) ok).trans ?_
    rw [writeBlock_canCmd _ _ _ pageLow pageHigh, index]
    rfl
  · refine (write page (by decide) (by decide) ok).trans ?_
    rw [writeBlock_canCmd _ _ _ pageLow pageHigh, index]
    rfl
  · refine (write page (by decide) (by decide) ok).trans ?_
    rw [writeBlock_canCmd _ _ _ pageLow pageHigh, index]
    rfl
  · refine (write page (by decide) (by decide) ok).trans ?_
    rw [writeBlock_clash _ _ _ pageLow pageHigh (by decide), index]

/-! ### The Boathouse's services -/

theorem writeBlock_own (c : Chip) (r : Requester) (cls : Nat) (v : Word) {n : Nat} (command : fld v 31 24 = n) :
    writeBlock c r 0x7C 0x04C cls v =
      modIdent (setCfg c 0x7C 0x04C v) fun i => { i with busy := some (n, fld v 10 0) } := by
  rw [← command]
  rfl

theorem ownCmd_field (n : Nat) (fits : n < 256) (fs : List (Nat × Nat × Nat))
    (apart : ∀ f ∈ fs, f.2.2 ≤ f.2.1 ∧ fieldsApart 31 24 f.2.1 f.2.2) : fld (pack ((n, 31, 24) :: fs)) 31 24 = n :=
  fld_pack_take ⟨by decide, by decide⟩ fits apart

theorem serviceCommandsTakeEffect : Claims.ServiceCommandsTakeEffect := by
  intro s r len g own wr pnl
  have write {p off : Nat} {v : Word} (hp : p < 128) (low : 0x040 ≤ off) (high : off < 4096)
      (ok : Accepts s.chip r p off v) :
      writeReg s.chip r p off v = writeBlock (g p) r p off (writerClass s.chip r) v := writeReg_block hp low high ok
  refine ⟨fun ok => ?_, fun ok => ?_, fun ok => ?_, fun ok => ?_, fun ok => ?_, fun ok => ?_, fun ok => ?_, fun ok => ?_,
    fun ok => ?_, fun ok => ?_, fun ok => ?_⟩
  all_goals
    unfold exec
    refine next_after_congr ((write (by decide) (by decide) (by decide) ok).trans ?_)
  · exact writeBlock_own _ _ _ _ (ownCmd_field 1 (by decide) _ (by simp [fieldsApart]))
  · exact writeBlock_own _ _ _ _ (ownCmd_field 2 (by decide) _ (by simp))
  · exact writeBlock_own _ _ _ _ (ownCmd_field 3 (by decide) _ (by simp))
  · exact writeBlock_own _ _ _ _ (ownCmd_field 4 (by decide) _ (by simp))
  · rfl
  · rfl
  · have stored : (wr fun w => { w with cmd := 1 }).wake = { s.chip.wake with cmd := 1 } :=
      congrArg (fun w : WakeSt => { w with cmd := 1 }) (granted_wake s.chip r 0x78)
    have run : writeBlock (g 0x78) r 0x78 0x04C (writerClass s.chip r) 1
        = snap (wr fun w => { w with cmd := 1 }) (reqNo r) := rfl
    rw [run, snap, stored]
  · have cfg_ (off : Nat) : cfg (g 0x78) 0x78 off = cfg s.chip 0x78 off := by simp only [cfg, g, granted_cfg]
    rw [← cfg_, ← cfg_]
    rfl
  · rfl
  · rfl
  · rfl

/-! ### RST_CMD -/

/-- REACH and TARGET of a RST_CMD value (R612, R621); nothing else of it is kept. -/
theorem rstCmd_fields (reach : Fin 8) (target : Fin 128) :
    let v := pack [(reach.val, 10, 8), (target.val, 6, 0)]
    fld v 10 8 = reach ∧ fld v 6 0 = target ∧ bitOf v 16 = false ∧ v &&& (fm 10 8 ||| fm 6 0) = v := by
  refine ⟨fld_pack_take ⟨by decide, by decide⟩ reach.isLt (by simp [fieldsApart]), ?_, by simp [bitOf_pack_cons], ?_⟩
  · rw [fld_pack_skip _ ⟨by decide, by decide⟩ ⟨by decide, by decide⟩ (.inl (by decide))]
    exact fld_pack_take ⟨by decide, by decide⟩ target.isLt (by simp)
  · revert reach target
    decide

theorem rstCmdRun_reset (c : Chip) (cls : Nat) {reach : Nat} (low : 0 < reach) (high : reach < 8) {target : Nat}
    (fits : target < 128) : rstCmdRun c cls (pack [(reach, 10, 8), (target, 6, 0)]) = modRst c fun x => { x with
      cmd := pack [(reach, 10, 8), (target, 6, 0)], waiting := x.waiting ++ [⟨cls, reach, target⟩] } := by
  obtain ⟨reaches, aims, noClear, kept⟩ := rstCmd_fields ⟨reach, high⟩ ⟨target, fits⟩
  dsimp only at reaches aims noClear kept
  simp [rstCmdRun, reaches, aims, noClear, kept, Nat.ne_of_gt low]

/-- CLEAR_COUNTS alone: no reset waits (R624). -/
theorem rstCmdRun_clear (c : Chip) (cls : Nat) : rstCmdRun c cls 0x00010000 =
    modRst (emit (raise (modBackup c fun b => { b with counts := [], total := 0 }) 1 6) 1 0x06 0xFFFF
      (BitVec.ofNat 32 c.backup.total) 0 0 c.stroke.count) fun x => { x with cmd := 0 } := by
  have clears : bitOf 0x00010000 16 = true := by decide
  have noReach : fld 0x00010000 10 8 = 0 := by decide
  have nothing : (0x00010000 : Word) &&& (fm 10 8 ||| fm 6 0) = 0 := by decide
  simp only [rstCmdRun, clears, noReach, nothing, if_true, modBackup_stroke]

theorem resetCommandsTakeEffect : Claims.ResetCommandsTakeEffect := by
  intro s r p cr g cls wait total cleared
  have write {v : Word} (ok : Accepts s.chip r 1 0x040 v) : writeReg s.chip r 1 0x040 v = rstCmdRun g cls v :=
    writeReg_block (by decide) (by decide) (by decide) ok
  refine ⟨fun ok => ?_, fun ok => ?_, fun ok => ?_, fun ok => ?_, fun ok => ?_⟩
  all_goals
    unfold exec
    refine next_after_congr ((write ok).trans ?_)
  · rw [rstCmdRun_clear, congrArg StrokeSt.count (granted_stroke s.chip r 1),
      congrArg BackupSt.total (granted_backup s.chip r 1)]
  · exact rstCmdRun_reset g cls (by decide) (by decide) p.isLt
  · exact rstCmdRun_reset g cls (by decide) (by decide) (by cases cr <;> decide)
  · exact rstCmdRun_reset g cls (reach := 3) (target := 0) (by decide) (by decide) (by decide)
  · exact rstCmdRun_reset g cls (reach := 4) (target := 0) (by decide) (by decide) (by decide)

/-- Settles O26: the register of each accepted command, and the effect of its fields. -/
theorem blockCommandsComplete : Obligations.BlockCommandsComplete :=
  ⟨blockCommandsTakeEffect, serviceCommandsTakeEffect, resetCommandsTakeEffect⟩

end Sys2Proof.Machine
end


section
/-!
PROOFS. Execution faults (R160, R161): an instruction whose operand or stack faults, by the check that refuses it, and
what the fault leaves of the core, the crew and its page.
-/
namespace Sys2Proof.Machine
open Safety

section faults
variable {i : Issue → Opnd → Instr} {k : Issue} {o : Opnd} {op code : Nat}
  {body : CrewSt → CoreSt → Except Nat Retire} {pre : CrewSt → CoreSt → Prop}

/-- An instruction whose body answers a fault stops the core at that fault. -/
theorem faults_of_error (runs : Runs i k o op body) (fails : ∀ cs s, pre cs s → body cs s = .error code) :
    Faults i k o op pre code := by
  intro s due noBreak noEcc meets
  have fault := fails _ _ meets
  rw [coreOf] at fault
  rw [runs, answer_eq]
  simp [runInstr, due, noBreak, fault, eccStall_of_none noEcc]

/-- An operand that its form refuses faults every instruction that checks the form first. -/
theorem checked_error {classes : List Nat} {n : Nat} (f : Except Nat Retire)
    (form : checkForm classes n o = .error code) : checked classes n o f = .error code := by
  simp only [checked, form]

theorem checkForm_class (n : Nat) {classes : List Nat} (unlisted : o.cls.toNat ∉ classes) :
    checkForm classes n o = .error 2 := by
  simp [checkForm, unlisted, faultClass]

theorem checkForm_none (n : Nat) (used : o.cls ≠ 0) : checkForm [0] n o = .error 2 :=
  checkForm_class n (by simpa [← BitVec.toNat_inj] using used)

theorem checkForm_value (n : Nat) (none_ : o.cls = 0) (used : o.val ≠ 0) : checkForm [0] n o = .error 3 := by
  have nonzero : ¬o.val = 0#22 := used
  simp [checkForm, operandClean, none_, nonzero, faultReserved]

theorem checkForm_wide {n : Nat} (imm : o.cls = 2) (wide : 2 ^ n ≤ o.val.toNat) : checkForm [2] n o = .error 3 := by
  simp [checkForm, operandClean, imm, Nat.not_lt.mpr wide, faultReserved]

theorem checkForm_ofAddress (cls : o.cls = 1 ∨ o.cls = 3) :
    checkForm [1, 3] 22 o = .ok () ∧ checkForm [1, 2, 3] 22 o = .ok () := by
  obtain cls | cls := cls <;> simp [checkForm, operandClean, cls]

theorem endInstr_of_fault {c : Chip} (due : instrDue c k (instrWord 0x01 o) = true) (noBreak : breakpointAt c k = none)
    (noEcc : k.ecc = none) (fault : endFault o (coreOf c k) = .error code) :
    endInstr c k o = faultAt c k code (instrWord 0x01 o) := by
  rw [coreOf] at fault
  simp [endInstr, due, noBreak, fault, eccStall_of_none noEcc]

/-- END with an open branch or call faults. -/
theorem endTask_faults (fails : ∀ cs s, pre cs s → endFault o s = .error code) : Faults .endTask k o 0x01 pre code := by
  intro s due noBreak noEcc meets
  unfold exec
  exact next_after_congr (endInstr_of_fault due noBreak noEcc (fails _ _ meets))

/-- Settles O14: each operand by the form that refuses it, each address, target and stack by its own check. -/
theorem instructionsFault : Obligations.InstructionsFault := by
  intro k o none_ far beyond
  have plainForm : checkForm [0] 22 none_ = .ok () := rfl
  refine ⟨?cls, ?val, ?wide, ⟨?bld, ?st, ?ldw⟩, ?target, ?opo, ?clb, ?openBranch, ?calls, ?ret, ?openCall⟩
  case cls =>
    intro used
    refine ⟨?_, ?_, ?_⟩
    all_goals exact faults_of_error (fun _ => rfl) fun _ _ _ => checked_error _ (checkForm_none 22 used)
  case val =>
    intro noneCls used
    exact faults_of_error (fun _ => rfl) fun _ _ _ => checked_error _ (checkForm_value 22 noneCls used)
  case wide =>
    intro imm beyond12
    refine ⟨?_, ?_⟩
    all_goals exact faults_of_error (fun _ => rfl) fun _ _ _ => checked_error _ (checkForm_wide imm beyond12)
  case bld =>
    refine faults_of_error (fun _ => rfl) fun _ _ outside => ?_
    simp only [bitLoad, checked_ok (checkForm_ofAddress outside.2).1, outside.1]
  case st =>
    refine faults_of_error (fun _ => rfl) fun _ _ outside => ?_
    simp only [bitStore, checked_ok (checkForm_ofAddress outside.2).1, outside.1]
  case ldw =>
    refine faults_of_error (fun _ => rfl) fun _ _ outside => ?_
    obtain ⟨outside, cls⟩ := outside
    have notImm : o.cls ≠ 2 := by rintro imm; simp [imm] at cls
    simp only [wordLoad, checked_ok (checkForm_ofAddress cls).2, loadOperand, if_neg notImm, outside, Except.map]
  case target =>
    intro imm fits
    have form := checkForm_imm 20 imm fits
    refine ⟨?_, ?_⟩
    · exact faults_of_error (fun _ => rfl) fun _ _ outside => by
        simp [jump, checked_ok form, targetOk, Nat.not_lt.mpr outside, faultTarget]
    · exact faults_of_error (fun _ => rfl) fun _ _ outside => by
        simp [call, checked_ok form, targetOk, Nat.not_lt.mpr outside, faultTarget]
  case opo => exact faults_of_error (fun _ => rfl) fun _ _ full => (checked_ok plainForm).trans (if_pos full)
  case clb =>
    refine faults_of_error (fun _ => rfl) fun _ _ empty => ?_
    simp only [branchClose, empty]
    exact checked_ok plainForm
  case openBranch => exact endTask_faults fun _ _ opened => by simp [endFault, plainForm, opened]
  case calls =>
    intro imm fits
    exact faults_of_error (fun _ => rfl) fun _ _ ⟨inside, full⟩ => by
      simp [call_of_target imm fits inside, full]
  case ret =>
    refine faults_of_error (fun _ => rfl) fun _ _ empty => ?_
    simp only [ret, empty]
    exact checked_ok plainForm
  case openCall => exact endTask_faults fun _ _ ⟨closed, inCall⟩ => by simp [endFault, plainForm, closed, inCall]

end faults

/-! ### What a fault leaves -/

theorem not_executing_of_faulted {c : Chip} {cr : Crew} {n : Nat} (inside : n < (crewSt c cr).cores.length)
    (faulted : (coreAt (crewSt c cr) n).faulted = true) : executing c cr = false := by
  have any : (crewSt c cr).cores.any (·.faulted) = true :=
    List.any_eq_true.mpr ⟨_, List.getElem_mem inside, by simpa [coreAt, inside] using faulted⟩
  simp [executing, any]

/-- What a fault marks before it is recorded: the core, the cox's registers and the page. -/
def faultMarked (c : Chip) (k : Issue) (code : Nat) (w : Word) : Chip :=
  let d := modCore c k.crew k.core fun s => { s with faulted := true }
  raise (modCox d k.crew fun x => { x with
    faultStat := pack [(code, 31, 28), (k.core, 27, 26), ((coreOf c k).task.getD 0xF, 23, 20), ((coreOf c k).pc, 19, 0)]
    faultWord := w, faultStroke := d.stroke.count }) (crewPage k.crew) 3

theorem faultAt_eq (c : Chip) (k : Issue) (code : Nat) (w : Word) :
    faultAt c k code w = if replaying (faultMarked c k code w) then faultMarked c k code w
      else emit (faultMarked c k code w) (crewPage k.crew) 0x21 ((coreOf c k).task.getD 0xF) (BitVec.ofNat 32 code)
        (BitVec.ofNat 32 (coreOf c k).pc) w (faultMarked c k code w).stroke.count := by
  unfold faultAt faultMarked coreOf
  rfl

theorem coreOf_faultMarked {c : Chip} {k : Issue} (inside : k.core < (crewSt c k.crew).cores.length) (code : Nat)
    (w : Word) : coreOf (faultMarked c k code w) k = { coreOf c k with faulted := true } := by
  simp [coreOf, faultMarked, coreAt_modCore c _ inside]

theorem length_cores_faultMarked (c : Chip) (k : Issue) (code : Nat) (w : Word) :
    (crewSt (faultMarked c k code w) k.crew).cores.length = (crewSt c k.crew).cores.length := by
  simp [faultMarked, modCore, listMod_eq_modify]

theorem crewPage_notHost (cr : Crew) : crewPage cr ≠ 0x74 ∧ crewPage cr ≠ 0x78 := by cases cr <;> decide

/-- What a fault reports, before its record is written (R161, R248). -/
theorem faultMarked_reports (c : Chip) (k : Issue) (code : Nat) (w : Word) :
    let d := faultMarked c k code w
    (coxSt d k.crew).faultStat = pack [(code, 31, 28), (k.core, 27, 26), ((coreOf c k).task.getD 0xF, 23, 20),
        ((coreOf c k).pc, 19, 0)]
      ∧ (coxSt d k.crew).faultWord = w ∧ (coxSt d k.crew).faultStroke = c.stroke.count
      ∧ bitOf (hdr d (crewPage k.crew)).cause 3 = true
      ∧ d.mode = c.mode ∧ d.stroke = c.stroke ∧ d.latch = c.latch ∧ d.cfg = c.cfg :=
  ⟨by simp [faultMarked], by simp [faultMarked], by simp [faultMarked, modCore],
    bitOf_cause_raise _ _ (by decide), by simp [faultMarked, modCore], by simp [faultMarked, modCore],
    by simp [faultMarked, modCore], by simp [faultMarked, modCore]⟩

/-- Settles O15: the core is marked, then the cox's registers and the page; a record changes neither. -/
theorem faultLeavesCore : Obligations.FaultLeavesCore := by
  intro c k code w inside d
  have same : crewSt d k.crew = crewSt (faultMarked c k code w) k.crew := by
    simp only [d, faultAt_eq]
    split <;> simp
  have core : coreOf d k = { coreOf c k with faulted := true } := by
    rw [coreOf, same]
    exact coreOf_faultMarked inside code w
  have stops : executing d k.crew = false := by
    refine not_executing_of_faulted (n := k.core) ?_ (congrArg CoreSt.faulted core)
    rwa [same, length_cores_faultMarked]
  refine ⟨core, stops, ?_⟩
  have reports := faultMarked_reports c k code w
  obtain ⟨notHost, notWake⟩ := crewPage_notHost k.crew
  simp only [d, faultAt_eq]
  split
  · exact reports
  · simpa [hdr_emit _ _ _ _ _ _ _ _ notHost notWake] using reports

end Sys2Proof.Machine
end

section
/-!
PROOFS. Synchronisation (R111, R124), and the registers whose low word latches the high one (R124, R208, R655).
-/
namespace Sys2Proof.Machine
open Safety

/-! ### Conditions and their causes -/

/-- A condition's raw bit is what was set last (R54). -/
theorem bitOf_raw_setCond (c : Chip) (p : Nat) {b : Nat} (v : Bool) (h : b < 32) :
    bitOf (hdr (setCond c p b v) p).raw b = v := by
  rw [hdr_setCond]
  dsimp only
  split
  · assumption
  · rw [bitOf_setBit _ _ _ h, if_pos rfl]

/-! ### SYNC_STATE -/

theorem syncTo_of_ne {c : Chip} {x : SyncState} (h : x ≠ c.stroke.sync) : syncTo c x =
    setCond (modStroke c fun k => { k with sync := x, within := 0, beyond := 0 }) 2 3 (x == .holdover) :=
  if_neg h.symm

theorem syncTo_of_eq {c : Chip} {x : SyncState} (h : c.stroke.sync = x) : syncTo c x = c := if_pos h

theorem syncTo_sync (c : Chip) (x : SyncState) : (syncTo c x).stroke.sync = x := by
  by_cases h : x = c.stroke.sync
  · rw [syncTo_of_eq h.symm, h]
  · rw [syncTo_of_ne h, setCond_stroke, modStroke_stroke]

theorem syncTo_active (c : Chip) (x : SyncState) : (syncTo c x).stroke.active = c.stroke.active := by
  by_cases h : x = c.stroke.sync
  · rw [syncTo_of_eq h.symm]
  · rw [syncTo_of_ne h, setCond_stroke, modStroke_stroke]

/-- Alignment follows the reference only from FREE and HOLDOVER. -/
theorem syncFollow_of_following {c : Chip} (on : syncMode c ≠ 0)
    (following : c.stroke.sync = .acquiring ∨ c.stroke.sync = .locked) : syncFollow c = c := by
  obtain h | h := following <;> simp [syncFollow, on, h]

theorem syncFollow_of_reference {c : Chip} (on : syncMode c ≠ 0)
    (idle : ¬(c.stroke.sync = .acquiring ∨ c.stroke.sync = .locked)) (present : refPresent c = true) :
    syncFollow c = syncTo c .acquiring := by
  cases h : c.stroke.sync <;> simp_all [syncFollow]

theorem syncFollow_off {c : Chip} (off : syncMode c = 0) :
    syncFollow c = modStroke (syncTo c .free) fun k => { k with offset := 0 } := by
  simp [syncFollow, off]

theorem syncMode_syncTo (c : Chip) (x : SyncState) : syncMode (syncTo c x) = syncMode c :=
  congrArg (fun w => fld w 14 13) (syncTo_active c x)

theorem refPresent_of_noPtp {c : Chip} (dropped : syncMode c = 2 → c.stroke.refPresent = false)
    (noPtp : syncMode c = 1 → ptpSelected c = none) : refPresent c = false := by
  unfold refPresent
  split
  · next h => simp [noPtp h]
  · next h => exact dropped h
  · rfl

/-- The module once the PPS reference is known to be gone: only under PPS is that kept. -/
def dropPps (c : Chip) : Chip := if syncMode c = 2 then modStroke c fun k => { k with refPresent := false } else c

theorem syncMode_dropPps (c : Chip) : syncMode (dropPps c) = syncMode c := by
  unfold dropPps
  split <;> rfl

theorem sync_dropPps (c : Chip) : (dropPps c).stroke.sync = c.stroke.sync := by
  unfold dropPps
  split <;> rfl

theorem refPresent_dropPps {c : Chip} (noPtp : syncMode c = 1 → ptpSelected c = none) :
    refPresent (dropPps c) = false := by
  refine refPresent_of_noPtp (fun pps => ?_) fun ptp => ?_
  · rw [syncMode_dropPps] at pps
    simp [dropPps, pps]
  · rw [syncMode_dropPps] at ptp
    have same : dropPps c = c := if_neg (by omega)
    rw [same]
    exact noPtp ptp

theorem syncLost_of_following {c : Chip} (following : c.stroke.sync = .acquiring ∨ c.stroke.sync = .locked)
    (noPtp : syncMode c = 1 → ptpSelected c = none) : syncLost c = syncTo (dropPps c) .holdover := by
  have absent := refPresent_dropPps noPtp
  have now : (((dropPps c).stroke.sync == .acquiring || (dropPps c).stroke.sync == .locked)
      && !refPresent (dropPps c)) = true := by
    rw [sync_dropPps, absent]
    obtain h | h := following <;> rw [h] <;> rfl
  exact if_pos now

theorem syncLost_of_idle {c : Chip} (idle : ¬(c.stroke.sync = .acquiring ∨ c.stroke.sync = .locked)) :
    syncLost c = dropPps c := by
  have now : (((dropPps c).stroke.sync == .acquiring || (dropPps c).stroke.sync == .locked)
      && !refPresent (dropPps c)) = false := by
    rw [sync_dropPps]
    revert idle
    cases c.stroke.sync <;> simp
  exact if_neg (ne_true_of_eq_false now)

/-- The presence of the reference, kept by an edge, turns no alignment off or on by itself. -/
theorem ppsEdge_of_following {c : Chip} (on : syncMode c ≠ 0)
    (following : c.stroke.sync = .acquiring ∨ c.stroke.sync = .locked) : syncFollow (ppsEdge c) =
    modStroke c fun k => { k with refPresent := true } := by
  have stays : syncFollow (modStroke c fun k => { k with refPresent := true }) = _ :=
    syncFollow_of_following on following
  rw [ppsEdge, stays, stays]

theorem ppsEdge_of_idle {c : Chip} (pps : syncMode c = 2)
    (idle : ¬(c.stroke.sync = .acquiring ∨ c.stroke.sync = .locked)) : syncFollow (ppsEdge c) =
    syncTo (modStroke c fun k => { k with refPresent := true }) .acquiring := by
  have mode : syncMode (modStroke c fun k => { k with refPresent := true }) = 2 := pps
  have present : refPresent (modStroke c fun k => { k with refPresent := true }) = true := by
    simp [refPresent, mode]
  have heeds : syncMode (modStroke c fun k => { k with refPresent := true }) ≠ 0 := by rw [mode]; decide
  have follows := syncFollow_of_reference heeds idle present
  have on := (syncMode_syncTo (modStroke c fun k => { k with refPresent := true }) .acquiring).trans mode
  rw [ppsEdge, follows, syncFollow_of_following (by rw [on]; decide) (.inl (syncTo_sync ..))]

/-- With alignment off, following the reference once more changes nothing. -/
theorem syncFollow_off_idem {c : Chip} (off : syncMode c = 0) : syncFollow (syncFollow c) = syncFollow c := by
  have still : syncMode (modStroke (syncTo c .free) fun k => { k with offset := 0 }) = 0 :=
    (syncMode_syncTo c .free).trans off
  have free : (modStroke (syncTo c .free) fun k => { k with offset := 0 }).stroke.sync = .free := syncTo_sync c .free
  rw [syncFollow_off off, syncFollow_off still, syncTo_of_eq free]
  rfl

theorem ppsEdge_off {c : Chip} (off : syncMode c = 0) : syncFollow (ppsEdge c) =
    modStroke (syncTo (modStroke c fun k => { k with refPresent := true }) .free) fun k => { k with offset := 0 } := by
  have mode : syncMode (modStroke c fun k => { k with refPresent := true }) = 0 := off
  rw [ppsEdge, syncFollow_off_idem mode, syncFollow_off mode]

theorem syncLock_of_near {c : Chip} (acquiring : c.stroke.sync = .acquiring) (near : 16 ≤ c.stroke.within) :
    syncLock c = syncTo c .locked := by simp [syncLock, acquiring, near]

theorem syncLock_stays {c : Chip} (stay : c.stroke.sync ≠ .acquiring ∨ c.stroke.within < 16) : syncLock c = c :=
  if_neg (by simpa [Decidable.imp_iff_not_or] using stay)

theorem syncUnlock_of_far {c : Chip} (locked : c.stroke.sync = .locked) (far : 4 ≤ c.stroke.beyond) :
    syncUnlock c = syncTo c .acquiring := by simp [syncUnlock, locked, far]

theorem syncUnlock_stays {c : Chip} (stay : c.stroke.sync ≠ .locked ∨ c.stroke.beyond < 4) : syncUnlock c = c :=
  if_neg (by simpa [Decidable.imp_iff_not_or] using stay)

theorem syncTo_changes {c : Chip} {x : SyncState} (ne : x ≠ c.stroke.sync) :
    (syncTo c x).stroke = { c.stroke with sync := x, within := 0, beyond := 0 }
      ∧ bitOf (hdr (syncTo c x) 2).raw 3 = (x == .holdover) := by
  rw [syncTo_of_ne ne]
  exact ⟨(setCond_stroke ..).trans (modStroke_stroke ..), bitOf_raw_setCond _ _ _ (by decide)⟩

theorem syncCommandsTakeEffect : Claims.SyncCommandsComplete := by
  intro s c pps gone following
  refine ⟨fun on idle => ?_, fun on moving => ?_, fun off => ?_, fun acquiring near => ?_, fun stay => ?_,
    fun locked far => ?_, fun stay => ?_, fun moving noPtp => ?_, fun idle => ?_, fun _ ne => syncTo_changes ne⟩
  all_goals
    unfold exec
    refine next_after_congr ?_
  · exact ppsEdge_of_idle on idle
  · exact ppsEdge_of_following (by rw [on]; decide) moving
  · exact ppsEdge_off off
  · exact syncLock_of_near acquiring near
  · exact syncLock_stays stay
  · exact syncUnlock_of_far locked far
  · exact syncUnlock_stays stay
  · exact syncLost_of_following moving noPtp
  · exact syncLost_of_idle idle

theorem offsetsAreMeasured : Claims.OffsetsAreMeasured := by
  intro c x following k
  have measured : k = { c.stroke with
      offset := wOfInt x
      within := if x.natAbs ≤ 1000 then c.stroke.within + 1 else 0
      beyond := if 10000 < x.natAbs then c.stroke.beyond + 1 else 0 } := by
    have on : (!(c.stroke.sync == .acquiring || c.stroke.sync == .locked)) = false := by
      obtain h | h := following <;> simp [h]
    simp only [k, syncMeasure, on]
    rfl
  rw [measured]
  refine ⟨rfl, fun near => ?_, fun off => if_neg (by omega), fun far => if_pos (by omega), fun near => if_neg (by omega)⟩
  exact ⟨if_pos (by omega), if_neg (by omega)⟩

/-- Settles O29: each command by its guard, and a stroke's offset by the runs that it lengthens. -/
theorem syncCommandsComplete : Obligations.SyncCommandsComplete := ⟨syncCommandsTakeEffect, offsetsAreMeasured⟩

/-! ### Low words (R124, R208, R655) -/

/-- A read of a block register that the requester reaches. -/
theorem readReg_block {c : Chip} {r : Requester} {p off : Nat} (reached : reaches c r = true)
    (listed : occupied c p off = true) (hp : p < 128) (low : 0x040 ≤ off) (high : off < 4096) :
    readReg c r p off = (readBlock c r p off).2 := by
  simp only [readReg, regRead, pageOf_regAddr hp high, offsetOf_regAddr high, reached, listed]
  exact congrArg Prod.snd (if_neg (Nat.not_lt.mpr low))

theorem occupied_of_readOnly {c : Chip} {p off : Nat} (page : populated p = true) (aligned : off % 4 = 0)
    (low : 0x040 ≤ off) (shown : roOff p off = true) : occupied c p off = true := by
  simp [occupied, page, aligned, shown, Nat.not_lt.mpr low]

theorem readBlock_window (c : Chip) (r : Requester) {off : Nat} (low : 0x800 ≤ off) :
    readBlock c r 0x78 off = readWindow c (reqNo r) off := by
  have noWindow : windowOf 0x78 off = false := by simp [windowOf]
  have noCrew : pageCrew 0x78 = none := rfl
  have noEngine : engineOf 0x78 = none := rfl
  simp only [readBlock, noCrew, noEngine, noWindow]
  exact if_pos low

theorem readBlock_driveNo (c : Chip) (r : Requester) (cr : Crew) :
    readBlock c r (crewPage cr) 0x118
      = (lowHalf (crewSt c cr).driveNo, latchHigh c r (driveLatch cr) (highHalf (crewSt c cr).driveNo)) := by
  cases cr <;> rfl

theorem readWindow_first (c : Chip) (r k : Nat) : (readWindow c r (0x800 + 32 * k)).2 =
    modCtx c r fun x => { x with latches := smPut x.latches k (windowEntry c r k) } := by
  have index : (0x800 + 32 * k - 0x800) / 32 = k := by omega
  have first : (0x800 + 32 * k) % 32 / 4 = 0 := by omega
  simp only [readWindow, index, first, if_true]

/-- Settles O30: each low word by the read of its page, and the high word by what that read latched. -/
theorem lowWordReadsLatch : Obligations.LowWordReadsLatch := by
  intro s r cr k reached c time
  have read {p off : Nat} (hp : p < 128) (page : populated p = true) (aligned : off % 4 = 0) (low : 0x040 ≤ off)
      (high : off < 4096) (shown : roOff p off = true) : readReg c r p off = (readBlock c r p off).2 :=
    readReg_block reached (occupied_of_readOnly page aligned low shown) hp low high
  refine ⟨?stroke, ?drive, ?window, fun d latched => ?high⟩
  case high => simp [highWord, latched, smGet_smPut]
  all_goals
    unfold exec
    refine next_after_congr ?_
  case stroke => exact read (by decide) (by decide) (by decide) (by decide) (by decide) (by decide)
  case drive =>
    refine (read (crewPage_lt cr) ?_ (by decide) (by decide) (by decide) ?_).trans ?_
    · cases cr <;> decide
    · cases cr <;> decide
    · rw [readBlock_driveNo]
      rfl
  case window =>
    refine (read (p := 0x78) (off := 0x800 + 32 * k) (by decide) (by decide) (by omega) (by omega) (by omega) ?_).trans ?_
    · simp [roOff]
      omega
    · rw [readBlock_window _ _ (by omega), readWindow_first]

end Sys2Proof.Machine
end

section
/-!
PROOFS. The stroke watchdog (R113, R116, R162), and what the stop and the commit of a crew leave unchanged.
-/
namespace Sys2Proof.Machine
open Safety

/-! ### A crew that stops -/

@[simp] theorem haltCond_mode (c : Chip) (cr : Crew) : (haltCond c cr).mode = c.mode := by
  cases cr <;> simp [haltCond]

@[simp] theorem haltCond_stroke (c : Chip) (cr : Crew) : (haltCond c cr).stroke = c.stroke := by
  cases cr <;> simp [haltCond]

@[simp] theorem crewSt_haltCond (c : Chip) (cr x : Crew) : crewSt (haltCond c cr) x = crewSt c x := by
  cases cr <;> simp [haltCond]

@[simp] theorem crewSt_returnTrims (c : Chip) (cr x : Crew) : crewSt (returnTrims c cr) x = crewSt c x := by
  simp [returnTrims]

/-- Stopping a crew leaves the other crew's state alone. -/
theorem crewSt_stopCrew_ne (c : Chip) {cr x : Crew} (h : cr ≠ x) : crewSt (stopCrew c cr) x = crewSt c x := by
  simp only [stopCrew, crewSt_haltCond, apply_ite (crewSt · x), crewSt_returnTrims, crewSt_modCtl, ite_self]
  rw [crewSt_modCrew_ne _ _ h, modCores, crewSt_modCrew_ne _ _ h]

theorem crewSt_stopCrew (c : Chip) (cr : Crew) : crewSt (stopCrew c cr) cr =
    { crewSt c cr with cores := (crewSt c cr).cores.map idleCore, run := .idle, caught := false } := by
  simp only [stopCrew, crewSt_haltCond, apply_ite (crewSt · cr), crewSt_returnTrims, crewSt_modCtl, ite_self,
    crewSt_modCrew, modCores]

theorem stopCrews_idle (c : Chip) : (stopCrews c).crewS.run = .idle ∧ (stopCrews c).crewP.run = .idle := by
  have safety := crewSt_stopCrew_ne (stopCrew c .safety) (cr := .process) (x := .safety) (by decide)
  have process := crewSt_stopCrew (stopCrew c .safety) .process
  rw [crewSt_stopCrew] at safety
  exact ⟨congrArg CrewSt.run safety, congrArg CrewSt.run process⟩

/-! ### A crew that commits -/

theorem crewCommit_stroke (c : Chip) (cr : Crew) : (crewCommit c cr).stroke = c.stroke := by
  cases cr <;> simp [crewCommit, commitView, modCores]

theorem trips_iff (c : Chip) : trips c = true ↔ overran c .safety = true ∨ atFault c .process = true
    ∨ (overran c .process = true ∧ (bitOf c.stroke.active 12 = false ∨ 2 ≤ c.stroke.skipRun)) := by
  simp [trips, or_assoc]

theorem trip_latches (c : Chip) : (trip c).stroke.safeLatch = true ∧ (trip c).stroke.safeLatchS = true
    ∧ (trip c).stroke.haltAtStrobe = true := by
  simp [trip]

theorem commitOrSkip_stroke (c : Chip) : (commitOrSkip c).stroke.skipRun = if endedDrive c .process then 0
    else if overran c .process then c.stroke.skipRun + 1 else c.stroke.skipRun := by
  simp only [commitOrSkip, apply_ite Chip.stroke, raise_stroke, modStroke_stroke, crewCommit_stroke, ite_self]

/-- Settles O28: the trip by its three causes, and the skip by what commits. -/
theorem watchdogTripsOrSkips : Obligations.WatchdogTripsOrSkips := by
  intro c
  have idle := stopCrews_idle c
  obtain ⟨latch, latchS, halts⟩ := trip_latches c
  refine ⟨trips_iff c, ⟨latch, latchS, halts, bitOf_cause_raise _ _ (by decide), ?_, ?_⟩, commitOrSkip_stroke c,
    fun skips => ?_⟩
  · simp [trip, idle]
  · simp [trip, idle]
  · simp only [commitOrSkip, skips, if_true]
    exact bitOf_cause_raise _ _ (by decide)

end Sys2Proof.Machine
end

section
/-!
PROOFS. The module at its first power-up (R29, R47 to R53).
-/
namespace Sys2Proof.Machine
open Safety

theorem hdr_reset (p : Nat) : hdr State.reset.chip p = PageHdr.reset p := rfl

/-- Settles O7: the reset state holds no header, register or session of its own, so each reads its reset value. -/
theorem resetValues : Obligations.ResetValues := by
  unfold Obligations.ResetValues
  intro c
  refine ⟨rfl, rfl, rfl, fun p => ?_, rfl, rfl, rfl, ?_, ?_, ?_, ?_, ?_, rfl, rfl, fun cr => ?_, fun _ => rfl, rfl,
    fun _ => rfl, rfl, rfl, rfl, rfl, rfl⟩
  · simp [c, hdr_reset, PageHdr.reset]
  · decide
  · decide
  · decide
  · decide
  · decide
  · cases cr <;> exact ⟨rfl, rfl⟩

end Sys2Proof.Machine
end

section
/-!
PROOFS. What the operations that report leave unchanged. `bare` is the module without what a cause, a condition, a record
and a frame sent may change; `inner` is it without the states of the field blocks too. An operation that keeps `bare` or
`inner` keeps every field that stays in it: `congrArg Chip.mode (bare_emit ..)`.
-/
namespace Sys2Proof.Machine
open Safety

/-- The backup domain without the last fault, which any cause may change, and its signature. -/
def quiet (b : BackupSt) : BackupSt := { b with lastFault := none, signature := 0 }

/-- The module without its page headers, attention, records, frames and free values. -/
def bare (c : Chip) : Chip :=
  { c with fresh := 0, now := none, pages := [], attn := AttnSt.reset, backup := quiet c.backup, qOverflow := []
           wake := WakeSt.reset, sent := [] }

/-- The module without the states of its field blocks and the lockouts of its safety groups besides. -/
def inner (c : Chip) : Chip :=
  { bare c with backup := { (bare c).backup with lockout := 0, lockCause := [] }, engOut := [], safety := SafetySt.reset
                zw := [], dig := DigSt.reset, islands := [], isl := IslSt.reset, links := [], cans := [], lans := []
                badFrames := [], serial := [] }

theorem inner_of_bare {c d : Chip} (h : bare c = bare d) : inner c = inner d := by simp only [inner, h]

theorem quiet_of_same {a b : BackupSt} (h : SameBackup a b) : quiet b = quiet a := by
  unfold SameBackup at h
  rw [← h]
  rfl

/-! ### Reports -/

@[simp] theorem bare_attnUpdate (c : Chip) : bare (attnUpdate c) = bare c := by simp [bare]

@[simp] theorem bare_modHdr (c : Chip) (p : Nat) (f : PageHdr → PageHdr) : bare (modHdr c p f) = bare c := by simp [bare]

@[simp] theorem bare_raise (c : Chip) (p b : Nat) : bare (raise c p b) = bare c := by
  simp [bare, quiet_of_same (sameBackup_raise .rfl p b)]

@[simp] theorem bare_setCond (c : Chip) (p b : Nat) (v : Bool) : bare (setCond c p b v) = bare c := by
  simp [bare, quiet_of_same (sameBackup_setCond .rfl p b v)]

@[simp] theorem bare_emit (c : Chip) (p low source : Nat) (p0 p1 p2 p3 : Word) :
    bare (emit c p low source p0 p1 p2 p3) = bare c := by
  simp [bare, quiet_of_same (sameBackup_emit .rfl p low source p0 p1 p2 p3)]

@[simp] theorem inner_attnUpdate (c : Chip) : inner (attnUpdate c) = inner c := inner_of_bare (bare_attnUpdate c)

@[simp] theorem inner_modHdr (c : Chip) (p : Nat) (f : PageHdr → PageHdr) : inner (modHdr c p f) = inner c :=
  inner_of_bare (bare_modHdr ..)

@[simp] theorem inner_raise (c : Chip) (p b : Nat) : inner (raise c p b) = inner c := inner_of_bare (bare_raise ..)

@[simp] theorem inner_setCond (c : Chip) (p b : Nat) (v : Bool) : inner (setCond c p b v) = inner c :=
  inner_of_bare (bare_setCond ..)

@[simp] theorem inner_emit (c : Chip) (p low source : Nat) (p0 p1 p2 p3 : Word) :
    inner (emit c p low source p0 p1 p2 p3) = inner c := inner_of_bare (bare_emit ..)

/-! ### Frames and free values -/

@[simp] theorem bare_send (c : Chip) (line : Line) (bytes : List Byte) : bare (send c line bytes) = bare c := by
  obtain ⟨fs, n, sent⟩ := send_changes c line bytes
  rw [sent]
  rfl

@[simp] theorem bare_freshNat (c : Chip) : bare (freshNat c).2 = bare c := rfl

@[simp] theorem bare_freshTime (c : Chip) : bare (freshTime c).2 = bare c := rfl

@[simp] theorem bare_recordLane (c : Chip) : bare (recordLane c).2 = bare c := by
  unfold recordLane
  split
  · rfl
  · split <;> rfl

@[simp] theorem bare_sendRecord (c : Chip) (type : Nat) (stroke : Word) (payload : List Byte) :
    bare (sendRecord c type stroke payload) = bare c := by
  unfold sendRecord
  split
  · simp
  · rfl

@[simp] theorem inner_sendRecord (c : Chip) (type : Nat) (stroke : Word) (payload : List Byte) :
    inner (sendRecord c type stroke payload) = inner c := inner_of_bare (bare_sendRecord ..)

@[simp] theorem bare_sendOutput (c : Chip) (o : OutStates) : bare (sendOutput c o) = bare c := by
  unfold sendOutput
  split
  · rfl
  · exact bare_sendRecord ..

/-- The OUTPUT record that follows a change of the paired outputs changes nothing else. -/
@[simp] theorem bare_loopOutput (before c : Chip) : bare (loopOutput before c) = bare c := by
  unfold loopOutput
  split
  · rfl
  · exact bare_sendOutput ..

/-! ### Folds -/

/-- What each step of a fold keeps, the fold keeps. -/
theorem kept_foldl {α β : Type} (g : Chip → β) {f : Chip → α → Chip} (kept : ∀ c a, g (f c a) = g c) (l : List α)
    (c : Chip) : g (l.foldl f c) = g c := by
  induction l generalizing c with
  | nil => rfl
  | cons a l ih => rw [List.foldl_cons, ih, kept]

theorem kept_forN {β : Type} (g : Chip → β) {f : Nat → Chip → Chip} (kept : ∀ i c, g (f i c) = g c) (n : Nat)
    (c : Chip) : g (forN n f c) = g c := kept_foldl g (fun c i => kept i c) (List.range n) c

theorem inner_foldl {α : Type} {f : Chip → α → Chip} (kept : ∀ c a, inner (f c a) = inner c) (l : List α) (c : Chip) :
    inner (l.foldl f c) = inner c := kept_foldl inner kept l c

theorem inner_forN {f : Nat → Chip → Chip} (kept : ∀ i c, inner (f i c) = inner c) (n : Nat) (c : Chip) :
    inner (forN n f c) = inner c := kept_forN inner kept n c

/-! ### Field blocks -/

@[simp] theorem inner_modOut (c : Chip) (o : Nat) (f : SafeOut → SafeOut) : inner (modOut c o f) = inner c := rfl

@[simp] theorem inner_modZw (c : Chip) (k : Nat) (f : ZwConn → ZwConn) : inner (modZw c k f) = inner c := rfl

@[simp] theorem inner_modDig (c : Chip) (ch : Nat) (f : DigCh → DigCh) : inner (modDig c ch f) = inner c := rfl

@[simp] theorem inner_modBuf (c : Chip) (i : Nat) (f : IslBuf → IslBuf) : inner (modBuf c i f) = inner c := rfl

@[simp] theorem inner_modIsland (c : Chip) (i : Nat) (f : Island → Island) : inner (modIsland c i f) = inner c := rfl

@[simp] theorem inner_modLink (c : Chip) (l : Nat) (f : LinkSt → LinkSt) : inner (modLink c l f) = inner c := rfl

@[simp] theorem inner_modCan (c : Chip) (n : Nat) (f : CanSt → CanSt) : inner (modCan c n f) = inner c := rfl

@[simp] theorem inner_sendDown (c : Chip) (i : Nat) (k : DownKind) : inner (sendDown c i k) = inner c := by
  unfold sendDown
  split <;> rfl

@[simp] theorem bare_roundFree (c : Chip) (n : Int) (d : Nat) : bare (roundFree c n d).2 = bare c := by
  unfold roundFree
  split <;> rfl

@[simp] theorem inner_trimOut (c : Chip) (i : Nat) (cmd : Int) : inner (trimOut c i cmd).2 = inner c :=
  inner_of_bare (bare_roundFree ..)

@[simp] theorem inner_sendCommand (c : Chip) (i : Nat) (nA : Int) : inner (sendCommand c i nA) = inner c := by
  simp only [sendCommand, inner_sendDown, inner_trimOut]

@[simp] theorem inner_writeSink (c : Chip) (b : Binding) (u : Int) : inner (writeSink c b u) = inner c := by
  unfold writeSink
  split
  · rfl
  · unfold loopCommand
    split <;> simp
  · rfl
  · rfl

end Sys2Proof.Machine
end

section
/-!
PROOFS. The decisions of a heat and the time-outs of its lanes (R301 to R307, R312, R314).
-/
namespace Sys2Proof.Machine
open Safety

/-! ### The heat after a decision -/

theorem chooseLeader_eq_none_iff (live : List (Nat × Int)) (old : Option Nat) (hyst : Int) :
    chooseLeader live old hyst = none ↔ live = [] := by
  unfold chooseLeader
  split
  · exact lowest_eq_none_iff
  · next cur held =>
    have notEmpty : live ≠ [] := List.ne_nil_of_mem (oldLeader_mem held).1
    refine ⟨fun none_ => ?_, fun empty => absurd empty notEmpty⟩
    split at none_
    · simp at none_
    · split at none_ <;> simp at none_

section decided
variable (c : Chip) (b : HeatBlock) (old : HeatSt) (late : Bool)

/-- MANUAL is asked for, by REQ or by MAN_BIT (R306). -/
def asksManual : Prop := old.req = 2 ∨ (b.manUsed = true ∧ workBit c b.manBit = true)

theorem heatWant_off {c : Chip} {b : HeatBlock} {old : HeatSt} (off : old.req = 0) : heatWant c b old = 0 := by
  simp [heatWant, off]

theorem heatWant_manual {c : Chip} {b : HeatBlock} {old : HeatSt} (on : old.req ≠ 0) (manual : asksManual c b old) :
    heatWant c b old = 2 := by
  unfold asksManual at manual
  simp [heatWant, on, manual]

theorem heatWant_auto {c : Chip} {b : HeatBlock} {old : HeatSt} (on : old.req ≠ 0) (auto : ¬asksManual c b old) :
    heatWant c b old = 1 := by
  unfold asksManual at auto
  simp [heatWant, on, auto]

/-- The heat once the arrivals have been taken in and warm-up is known (R303, R307). -/
def warmed : HeatSt := warmUp c b (takeArrivals c old) (heatWant c b old) late

theorem warmed_keeps : ∃ arrived warm, warmed c b old late =
    { takeArrivals c old with arrived := arrived, warm := warm } := by
  unfold warmed warmUp
  split <;> exact ⟨_, _, rfl⟩

/-- The mode of a decision: what is asked for, or warm-up instead of AUTO (R306, R307). -/
theorem decided_mode : (decided c b old late).mode =
    if heatWant c b old = 1 ∧ (decided c b old late).warm = true then 3 else heatWant c b old := by
  have same : (decided c b old late).mode =
      if heatWant c b old = 1 && (decided c b old late).warm then 3 else heatWant c b old := rfl
  rw [same]
  simp

theorem decided_keeps : (decided c b old late).req = old.req ∧ (decided c b old late).started = true
    ∧ (decided c b old late).lanes = (takeArrivals c old).lanes
    ∧ (decided c b old late).deciding = (takeArrivals c old).deciding := by
  obtain ⟨arrived, warm, same⟩ := warmed_keeps c b old late
  have req : (warmed c b old late).req = old.req := by rw [same]; rfl
  have lanes : (warmed c b old late).lanes = (takeArrivals c old).lanes := by rw [same]
  have deciding : (warmed c b old late).deciding = (takeArrivals c old).deciding := by rw [same]
  exact ⟨req, rfl, lanes, deciding⟩

/-- The output of a decision in its mode, from the heat before it and the lane picked (R304, R306). -/
def heatOut (hs : HeatSt) (mode : Nat) (pick : Option (Nat × Int)) : Int :=
  match mode with
  | 1 => match pick with
    | some x => x.2
    | none => b.safe
  | 2 => if b.man.kind = 0 then hs.out else (scaleIn b.man (workWord c b.man.index)).val
  | _ => b.safe

/-- The leader and the output of a decision, by its mode (R304, R307). -/
theorem decided_auto (auto : (decided c b old late).mode = 1) :
    let live := liveLanes c b (decided c b old late) (·.last)
    let pick := chooseLeader live (if old.mode = 1 then old.leader else none) b.hyst
    (decided c b old late).leader = pick.map (·.1) ∧ (decided c b old late).out = (pick.map (·.2)).getD b.safe
      ∧ ((decided c b old late).noLeader = true ↔ live = []) := by
  intro live pick
  have leader : (decided c b old late).leader =
      (if (decided c b old late).mode = 1 then pick else none).map (·.1) := rfl
  have out : (decided c b old late).out = heatOut c b (warmed c b old late) (decided c b old late).mode
      (if (decided c b old late).mode = 1 then pick else none) := rfl
  have noLeader : (decided c b old late).noLeader = (decide ((decided c b old late).mode = 1)
      && (if (decided c b old late).mode = 1 then pick else none).isNone) := rfl
  rw [leader, out, noLeader, auto, if_pos rfl]
  refine ⟨rfl, ?_, ?_⟩
  · cases pick <;> rfl
  · simp [pick, chooseLeader_eq_none_iff]

theorem heatOut_of_ne {c : Chip} {b : HeatBlock} {hs : HeatSt} {mode : Nat} (other : mode ≠ 1)
    (pick : Option (Nat × Int)) : heatOut c b hs mode pick = if mode = 2 then
      (if b.man.kind = 0 then hs.out else (scaleIn b.man (workWord c b.man.index)).val) else b.safe := by
  unfold heatOut
  split
  · contradiction
  · rfl
  · next notManual => exact (if_neg notManual).symm

theorem decided_notAuto (other : (decided c b old late).mode ≠ 1) :
    (decided c b old late).leader = none ∧ (decided c b old late).noLeader = false
      ∧ (decided c b old late).out = (if (decided c b old late).mode = 2 then
        (if b.man.kind = 0 then old.out else (scaleIn b.man (workWord c b.man.index)).val) else b.safe) := by
  obtain ⟨pick, leader, noLeader, out⟩ : ∃ pick : Option (Nat × Int),
      (decided c b old late).leader = (if (decided c b old late).mode = 1 then pick else none).map (·.1)
      ∧ (decided c b old late).noLeader = (decide ((decided c b old late).mode = 1)
        && (if (decided c b old late).mode = 1 then pick else none).isNone)
      ∧ (decided c b old late).out = heatOut c b (warmed c b old late) (decided c b old late).mode
        (if (decided c b old late).mode = 1 then pick else none) := ⟨_, rfl, rfl, rfl⟩
  obtain ⟨arrived, warm, same⟩ := warmed_keeps c b old late
  have before : (warmed c b old late).out = old.out := by rw [same]; rfl
  rw [leader, noLeader, out, if_neg other, heatOut_of_ne other, before]
  exact ⟨rfl, by simp [other], rfl⟩

/-- Warm-up begins only on the way from OFF to AUTO (R307). -/
theorem decided_notWarm (started : old.mode ≠ 0) (cold : old.warm = false) : (decided c b old late).warm = false := by
  have mode : (takeArrivals c old).mode ≠ 0 := started
  have warm : (takeArrivals c old).warm = false := cold
  have same : (decided c b old late).warm = (warmed c b old late).warm := rfl
  simp [same, warmed, warmUp, mode, warm]

end decided

/-! ### Reports of a decision -/

theorem heat_modHeat (c : Chip) (h : Nat) (f : HeatSt → HeatSt) : heat (modHeat c h f) h = f (heat c h) := by
  simp [heat, modHeat]

/-- A heat apart from how its changes of leader are recorded (R328). -/
def SameHeat (a b : HeatSt) : Prop :=
  a = { b with leads := a.leads, lastRecord := a.lastRecord, unrecorded := a.unrecorded }

theorem SameHeat.fields {a b : HeatSt} (h : SameHeat a b) : ∃ leads unrecorded lastRecord,
    a = { b with leads := leads, unrecorded := unrecorded, lastRecord := lastRecord } := ⟨_, _, _, h⟩

theorem SameHeat.trans {a b c : HeatSt} (x : SameHeat a b) (y : SameHeat b c) : SameHeat a c := by
  unfold SameHeat at *
  rw [x, y]

@[simp] theorem heat_raise (c : Chip) (p b h : Nat) : heat (raise c p b) h = heat c h := by simp [heat]

@[simp] theorem heat_emit (c : Chip) (p low source : Nat) (p0 p1 p2 p3 : Word) (h : Nat) :
    heat (emit c p low source p0 p1 p2 p3) h = heat c h := by simp [heat]

theorem leaderRecord_heat (c : Chip) (h : Nat) (old new : Option Nat) (out : Int) :
    SameHeat (heat (leaderRecord c h old new out) h) (heat c h) := by
  unfold leaderRecord
  split
  · rfl
  · dsimp only
    split
    · simp [SameHeat, heat_modHeat]
    · split <;> simp [SameHeat, heat_modHeat]

theorem leaderRecord_decisions (c : Chip) (h : Nat) (old new : Option Nat) (out : Int) :
    (leaderRecord c h old new out).sel.decisions = c.sel.decisions := by
  unfold leaderRecord
  split
  · rfl
  · dsimp only
    split
    · simp [modHeat]
    · split <;> simp [modHeat]

theorem sel_of_inner {c d : Chip} (h : inner c = inner d) : c.sel = d.sel :=
  (congrArg Chip.sel h : (inner c).sel = (inner d).sel)

@[simp] theorem inner_noLeaderRecord (c : Chip) (h : Nat) (old new : HeatSt) :
    inner (noLeaderRecord c h old new) = inner c := by
  unfold noLeaderRecord noLeaderCond
  dsimp only
  split <;> simp

@[simp] theorem inner_laneTimeoutCond (c : Chip) : inner (laneTimeoutCond c) = inner c := inner_setCond ..

theorem heat_of_sel {c d : Chip} (same : c.sel = d.sel) (h : Nat) : heat c h = heat d h :=
  congrArg (fun g : SelSt => smGet HeatSt.reset g.heats h) same

/-- One more decision has ended. -/
def counted (c : Chip) : Chip := { c with sel := { c.sel with decisions := c.sel.decisions + 1 } }

theorem heat_counted (c : Chip) (h : Nat) : heat (counted c) h = heat c h := rfl

/-- A decision that is due leaves the heat as decided, apart from the records of its leaders, and counts. -/
theorem heatDecision_of_due {c : Chip} {h : Nat} {b : HeatBlock} (late : Bool) (listed : heatBlock c h = some b)
    (runs : c.mode.mode.runs = true) (works : working c 0x18 = true) (due : (heat c h).deciding ≠ none) :
    SameHeat (heat (heatDecision c h late) h) (decided c b (heat c h) late)
      ∧ (heatDecision c h late).sel.decisions = c.sel.decisions + 1 := by
  have some_ : (heat c h).deciding.isNone = false := by
    simpa [Option.isNone_eq_false_iff, Option.isSome_iff_ne_none] using due
  have steps : heatDecision c h late =
      let d := writeSink (counted (modHeat c h fun _ => decided c b (heat c h) late)) b.out (decided c b (heat c h) late).out
      laneTimeoutCond (noLeaderRecord (leaderRecord d h (heat c h).leader (decided c b (heat c h) late).leader
        (decided c b (heat c h) late).out) h (heat c h) (decided c b (heat c h) late)) := by
    simp only [heatDecision, listed, runs, works, some_]
    rfl
  rw [steps]
  dsimp only
  have outer (d : Chip) (o n : HeatSt) : (laneTimeoutCond (noLeaderRecord d h o n)).sel = d.sel := sel_of_inner (by simp)
  have written (d : Chip) (u : Int) : (writeSink d b.out u).sel = d.sel := sel_of_inner (by simp)
  rw [heat_of_sel (outer ..), outer, leaderRecord_decisions, written]
  refine ⟨(leaderRecord_heat ..).trans ?_, rfl⟩
  rw [heat_of_sel (written ..), heat_counted, heat_modHeat]
  rfl

/-! ### The claims -/

theorem heatDecision_of_idle {c : Chip} {h : Nat} (late : Bool) (idle : heatBlock c h = none
    ∨ c.mode.mode.runs = false ∨ working c 0x18 = false ∨ (heat c h).deciding = none) : heatDecision c h late = c := by
  unfold heatDecision
  split
  · rfl
  · next b listed =>
    refine if_pos ?_
    simp only [listed, reduceCtorEq, false_or] at idle
    obtain stops | closed | idle := idle
    · simp [stops]
    · simp [closed]
    · simp [idle]

/-- Nothing sent where no output changed. -/
theorem loopOutput_same (c : Chip) : loopOutput c c = c := if_pos rfl

theorem decisionsComplete : Claims.DecisionsComplete := by
  intro s h late b c old manual again
  refine ⟨fun listed runs works due => ?_, fun idle => ?_⟩
  · obtain ⟨same, decisions⟩ := heatDecision_of_due late listed runs works due
    have sel : (after s (loopOutput c (heatDecision c h late))).chip.sel = (heatDecision c h late).sel :=
      sel_of_inner (by simp [inner_of_bare (bare_loopOutput ..)])
    refine ⟨after s (loopOutput c (heatDecision c h late)), by unfold exec; rfl, ?_⟩
    rw [← heat_of_sel sel] at same
    rw [← sel] at decisions
    obtain ⟨req, started, lanes, deciding⟩ := decided_keeps c b old late
    have mode := decided_mode c b old late
    obtain ⟨leads, unrecorded, lastRecord, same⟩ := same.fields
    intro n
    rw [show n = _ from same]
    refine ⟨req, started, lanes, deciding, fun off => ?_, fun on man => ?_, fun on auto => ?_, fun other => ?_,
      fun safe => ?_, fun man => ?_, fun on auto begun cold => ?_, fun auto => ?_, decisions⟩
    · exact mode.trans (by simp [heatWant_off off])
    · exact mode.trans (by simp [heatWant_manual on man])
    · rw [heatWant_auto on auto] at mode
      have warms : ((decided c b old late).mode = 1 ∨ (decided c b old late).mode = 3)
          ∧ ((decided c b old late).mode = 3 ↔ (decided c b old late).warm = true) := by
        rw [mode]
        cases (decided c b old late).warm <;> simp
      exact warms
    · obtain ⟨leader, noLeader, -⟩ := decided_notAuto c b old late other
      exact ⟨leader, noLeader⟩
    · have notAuto : (decided c b old late).mode ≠ 1 ∧ (decided c b old late).mode ≠ 2 := by
        obtain h | h : (decided c b old late).mode = 0 ∨ (decided c b old late).mode = 3 := safe <;> omega
      obtain ⟨-, -, out⟩ := decided_notAuto c b old late notAuto.1
      exact out.trans (if_neg notAuto.2)
    · have isMan : (decided c b old late).mode = 2 := man
      obtain ⟨-, -, out⟩ := decided_notAuto c b old late (by omega)
      exact out.trans (if_pos isMan)
    · rw [heatWant_auto on auto, decided_notWarm c b old late begun cold] at mode
      exact mode.trans (by simp)
    · exact decided_auto c b old late auto
  · unfold exec
    refine next_after_congr ?_
    show loopOutput s.chip (heatDecision s.chip h late) = s.chip
    rw [heatDecision_of_idle late idle, loopOutput_same]

theorem newest_isSome (n : LaneSt) : n.newest.isSome = true ↔ n.last.isSome ∨ n.taken.isSome ∨ n.waiting.isSome := by
  unfold LaneSt.newest
  cases n.waiting <;> cases n.taken <;> simp

theorem laneTimeoutsComplete : Claims.LaneTimeoutsComplete := by
  intro s h k b c
  refine ⟨fun listed => ?_, fun none_ => ?_, fun n a out => by simp [laneLive, out]⟩
  · unfold exec
    refine next_after_congr ?_
    show laneTimeout c h k = _
    simp only [laneTimeout, listed, newest_isSome]
  · unfold exec
    refine next_after_congr ?_
    show laneTimeout c h k = c
    simp only [laneTimeout, none_]

/-- Settles O36: the decided heat by its mode, its reports by what they leave, and the time-outs. -/
theorem heatCommandsComplete : Obligations.HeatCommandsComplete := ⟨decisionsComplete, laneTimeoutsComplete⟩

end Sys2Proof.Machine
end

section
/-!
PROOFS. The safety channels, the discrepancies of pairs, the switches and the reset input (R338 to R356).
-/
namespace Sys2Proof.Machine
open Safety

/-! ### Channels, stages and switches -/

theorem stageTest_failed (c : Chip) {k : Nat} (listed : k < 16) : stageTest c k false =
    let failed := modChan c k fun x => { x with stageFault := true, passes := 0 }
    if (safeCh c k).stageFault then failed else detect failed 2 (k / 2) := by
  simp [stageTest, Nat.not_le.mpr listed]

theorem safeCh_modChan (c : Chip) (k : Nat) (f : SafeCh → SafeCh) : safeCh (modChan c k f) k = f (safeCh c k) := by
  simp [safeCh, modChan]

theorem safeCh_modPair (c : Chip) (n : Nat) (f : PairFault → PairFault) (k : Nat) :
    safeCh (modPair c n f) k = safeCh c k := rfl

/-- A stage test that passes counts, up to ten, and clears the fault at the tenth (R341). -/
theorem safeCh_stageTest_passed (c : Chip) {k : Nat} (listed : k < 16) : safeCh (stageTest c k true) k =
    { safeCh c k with
      passes := satInc 10 (safeCh c k).passes
      stageFault := (safeCh c k).stageFault && decide ((safeCh c k).passes + 1 < 10) } := by
  simp only [stageTest, if_neg (Nat.not_le.mpr listed), if_true]
  split
  · rw [safeCh_modPair, safeCh_modChan]
  · rw [safeCh_modChan]

theorem discrepancy_of_differing {c : Chip} {n : Nat} (listed : n < 8) (differs : pairAgrees c n = false) :
    discrepancy c n = detect (modPair c n fun p => { p with present := true, both := false }) 1 n :=
  if_neg (by simp [differs, listed])

theorem discrepancy_of_agreeing {c : Chip} {n : Nat} (agrees : pairAgrees c n = true) : discrepancy c n = c :=
  if_pos (by simp [agrees])

theorem switchFault_eq (c : Chip) {o : Nat} (listed : o < 8) : switchFault c o =
    if (safeOut c o).stuck then c else detect (modOut c o fun x => { x with stuck := true }) 3 o := by
  simp [switchFault, Nat.not_le.mpr listed]

theorem switchTest_closed {c : Chip} {o : Nat} (high : (safeOut c o).high = true) (low : (safeOut c o).low = true) :
    switchTest c o false = switchFault c o := if_pos (by simp [high, low])

theorem switchTest_other {c : Chip} {o : Nat} {level : Bool}
    (other : level = true ∨ (safeOut c o).high = false ∨ (safeOut c o).low = false) : switchTest c o level = c :=
  if_neg (by obtain rfl | h | h := other <;> simp [*])

theorem switchStuck_of_off {c : Chip} {o : Nat} (high : (safeOut c o).high = false) (low : (safeOut c o).low = false) :
    switchStuck c o = switchFault c o := if_neg (by simp [high, low])

theorem switchStuck_of_on {c : Chip} {o : Nat} (on : (safeOut c o).high = true ∨ (safeOut c o).low = true) :
    switchStuck c o = c := if_pos (by simpa using on)

theorem safeCh_attnUpdate (c : Chip) (k : Nat) : safeCh (attnUpdate c) k = safeCh c k := by simp [safeCh]

theorem safetyInputsComplete : Claims.SafetyInputsComplete := by
  intro s k n o level c failed staged stuck
  refine ⟨?filter, fun differs => ?_, fun agrees => ?_, ?test, ?fault, ?passed, fun high low => ?_, fun other => ?_,
    fun high low => ?_, fun on => ?_⟩
  case passed =>
    have passed : safeCh (after s (stageTest c k true)).chip k = _ :=
      (safeCh_attnUpdate _ _).trans (safeCh_stageTest_passed c k.isLt)
    refine ⟨after s (stageTest c k true), by unfold exec; rfl, ?_, ?_⟩
    · exact congrArg SafeCh.passes passed
    · exact congrArg SafeCh.stageFault passed
  all_goals
    unfold exec
    refine next_after_congr ?_
  case filter => exact if_neg (by omega)
  case test => exact stageTest_failed c k.isLt
  case fault => exact stageTest_failed c k.isLt
  · exact discrepancy_of_differing n.isLt differs
  · exact discrepancy_of_agreeing agrees
  · exact (switchTest_closed high low).trans (switchFault_eq c o.isLt)
  · exact switchTest_other other
  · exact (switchStuck_of_off high low).trans (switchFault_eq c o.isLt)
  · exact switchStuck_of_on on

/-! ### Discrepancies (R340, R348) -/

theorem pairFault_modPair (c : Chip) (n : Nat) (f : PairFault → PairFault) :
    pairFault (modPair c n f) n = f (pairFault c n) := by simp [pairFault, modPair]

theorem pairFault_modPair_ne (c : Chip) {n m : Nat} (f : PairFault → PairFault) (other : m ≠ n) :
    pairFault (modPair c n f) m = pairFault c m := by simp [pairFault, modPair, other]

theorem pairAgrees_modPair (c : Chip) (n m : Nat) (f : PairFault → PairFault) :
    pairAgrees (modPair c n f) m = pairAgrees c m := rfl

/-- The pair of channels once a demand of both has been noted (R348). -/
def noteDemand (c : Chip) (n : Nat) : Chip :=
  if chanDemand c (2 * n) && chanDemand c (2 * n + 1) then modPair c n fun p => { p with both := p.present } else c

theorem pairRecheck_eq (c : Chip) (n : Nat) : pairRecheck c n =
    if (pairFault (noteDemand c n) n).present && (pairFault (noteDemand c n) n).both && pairAgrees (noteDemand c n) n then
      modPair (noteDemand c n) n fun p => { p with present := false, both := false }
    else noteDemand c n := rfl

theorem pairFault_noteDemand (c : Chip) (n : Nat) : pairFault (noteDemand c n) n = { pairFault c n with
    both := if chanDemand c (2 * n) && chanDemand c (2 * n + 1) then (pairFault c n).present else (pairFault c n).both } := by
  unfold noteDemand
  split
  · exact pairFault_modPair ..
  · rfl

theorem pairAgrees_noteDemand (c : Chip) (n m : Nat) : pairAgrees (noteDemand c n) m = pairAgrees c m := by
  unfold noteDemand
  split <;> rfl

theorem present_pairRecheck (c : Chip) (n : Nat) : (pairFault (pairRecheck c n) n).present =
    ((pairFault c n).present && !((pairFault (noteDemand c n) n).both && pairAgrees c n)) := by
  have same : (pairFault (noteDemand c n) n).present = (pairFault c n).present := by rw [pairFault_noteDemand]
  rw [pairRecheck_eq, pairAgrees_noteDemand]
  split
  · next goes =>
    obtain ⟨⟨-, both⟩, agrees⟩ : (_ ∧ _) ∧ _ := by simpa using goes
    simp [pairFault_modPair, both, agrees]
  · next stays =>
    rw [same] at stays ⊢
    cases present : (pairFault c n).present
    · rfl
    · have stays : ((pairFault (noteDemand c n) n).both && pairAgrees c n) = false := by simpa [present] using stays
      rw [stays]
      rfl

theorem discrepancyGoesOnAgreement : Claims.DiscrepancyGoesOnAgreement := by
  intro c n m both d
  refine ⟨?_, fun other => ?_⟩
  · have demand : both ↔ (chanDemand c (2 * n) && chanDemand c (2 * n + 1)) = true := by simp [both]
    rw [present_pairRecheck, pairFault_noteDemand, demand]
    cases (pairFault c n).present
    · simp
    · cases chanDemand c (2 * n) && chanDemand c (2 * n + 1) <;> simp [Decidable.imp_iff_not_or]
  · have noted : pairFault (noteDemand c n) m = pairFault c m := by
      unfold noteDemand
      split
      · exact pairFault_modPair_ne c _ other
      · rfl
    simp only [d, pairRecheck_eq]
    split
    · rw [pairFault_modPair_ne _ _ other, noted]
    · exact noted

/-! ### The reset input -/

theorem resetRelease_of_open {c : Chip} (opened : c.safety.rstIn.closed = false) (ms : Nat) : resetRelease c ms = c :=
  if_pos (by simp [opened])

section held
variable {c : Chip} {ms : Nat} (closed : c.safety.rstIn.closed = true)
include closed

theorem resetRelease_of_stuck (ends : c.safety.rstIn.stuck = true ∨ 5000 < ms) :
    resetRelease c ms = modReset c fun x => { x with closed := false } := by
  have ends' : (c.safety.rstIn.stuck || decide (5000 < ms)) = true := by simpa using ends
  simp [resetRelease, closed, ends']

theorem resetRelease_of_short (free : c.safety.rstIn.stuck = false) (short : ms < 500) : resetRelease c ms =
    emit (raise (modReset (modReset c fun x => { x with closed := false }) fun x => { x with
      short := satInc 255 x.short }) 0x20 6) 0x20 0x61 0xFFFF 1 (BitVec.ofNat 32 ms) 0 0 := by
  have inTime : ¬5000 < ms := by omega
  simp only [resetRelease, closed, free, inTime, short]
  rfl

theorem resetRelease_of_valid (free : c.safety.rstIn.stuck = false) (long : 500 ≤ ms) (inTime : ms ≤ 5000) :
    let counted := modReset (modReset c fun x => { x with closed := false }) fun x => { x with valid := satInc 255 x.valid }
    resetRelease c ms = if c.mode.mode.strokes then modReset counted fun x => { x with waiting := x.waiting ++ [ms] }
      else emit counted 0x20 0x61 0xFFFF 3 (BitVec.ofNat 32 ms) 0 0 := by
  have notLong : ¬5000 < ms := by omega
  have notShort : ¬ms < 500 := by omega
  simp only [resetRelease, closed, free, notLong, notShort]
  rfl

end held

theorem resetStuck_of_held {c : Chip} (closed : c.safety.rstIn.closed = true) (free : c.safety.rstIn.stuck = false) :
    resetStuck c = emit (setCond (modReset c fun x => { x with stuck := true, stucks := satInc 255 x.stucks }) 0x20 5 true)
      0x20 0x61 0xFFFF 2 5001 0 0 := if_neg (by simp [closed, free])

theorem resetStuck_of_idle {c : Chip} (idle : c.safety.rstIn.closed = false ∨ c.safety.rstIn.stuck = true) :
    resetStuck c = c := if_pos (by simpa using idle)

theorem resetInputCommandsComplete : Claims.ResetInputCommandsComplete := by
  intro s ms c r opened
  refine ⟨?_, fun closed free long inTime => ?_, fun closed free short => ?_, fun closed ends => ?_, fun opens => ?_,
    fun closed free => ?_, fun idle => ?_, fun stuck => ?_, fun free => ?_⟩
  all_goals
    unfold exec
    refine next_after_congr ?_
  · rfl
  · exact resetRelease_of_valid closed free long inTime
  · exact resetRelease_of_short closed free short
  · exact resetRelease_of_stuck closed ends
  · exact resetRelease_of_open opens ms
  · exact resetStuck_of_held closed free
  · exact resetStuck_of_idle idle
  · exact if_neg (by simpa using stuck)
  · exact if_pos (by simpa using free)

/-- Settles O38: each command by its guard, and the fault of a pair by the demand that it notes. -/
theorem safetyCommandsComplete : Obligations.SafetyCommandsComplete :=
  ⟨safetyInputsComplete, discrepancyGoesOnAgreement, resetInputCommandsComplete⟩

end Sys2Proof.Machine
end

section
/-!
PROOFS. Zwistra: the checks on a copy, the skew window and the watchdog (R361 to R367).
-/
namespace Sys2Proof.Machine
open Safety

/-! ### The checks on a copy (R361) -/

/-- A sequence number that the connection has seen, or dropped with its window (R361). -/
def zwOld (c : Chip) (k : Nat) (bs : List Byte) : Prop :=
  (beAt bs 8 4 = (zwConn c k).epoch.toNat ∧ (zwConn c k).seen = true
      ∧ newerSeq (BitVec.ofNat 32 (beAt bs 0xC 4)) (zwConn c k).seq = false)
    ∨ (beAt bs 8 4, (BitVec.ofNat 32 (beAt bs 0xC 4)).toNat) ∈ (zwConn c k).dropped

theorem zwOld_iff (c : Chip) (k : Nat) (bs : List Byte) :
    ((decide (beAt bs 8 4 = (zwConn c k).epoch.toNat) && (zwConn c k).seen
        && !newerSeq (BitVec.ofNat 32 (beAt bs 0xC 4)) (zwConn c k).seq
      || (zwConn c k).dropped.contains (beAt bs 8 4, (BitVec.ofNat 32 (beAt bs 0xC 4)).toNat)) = true)
      ↔ zwOld c k bs := by
  simp [zwOld, and_assoc]

/-- A copy older than MAX_AGE, where both sides are synchronised (R361). -/
def zwAged (c : Chip) (k : Nat) (bs : List Byte) (now : Nat) : Prop :=
  fld (zwCfg c k 2) 15 0 ≠ 0 ∧ (beAt bs 7 1).testBit 1 = true ∧ c.stroke.sync = .locked
    ∧ beAt bs 0x10 8 + fld (zwCfg c k 2) 15 0 * 1000000 < now

theorem zwAged_iff (c : Chip) (k : Nat) (bs : List Byte) (now : Nat) :
    ((decide (fld (zwCfg c k 2) 15 0 ≠ 0) && (beAt bs 7 1).testBit 1 && c.stroke.sync == .locked
      && decide (beAt bs 0x10 8 + fld (zwCfg c k 2) 15 0 * 1000000 < now)) = true) ↔ zwAged c k bs now := by
  simp [zwAged, and_assoc]

section copy
variable {c : Chip} {netA : Bool} {bs : List Byte} {k now : Nat}

theorem zwCopy_off (off : enabled c 0x21 = false) : zwCopy c netA bs now = c := by simp [zwCopy, off]

theorem zwCopy_misshapen (on : enabled c 0x21 = true) (bad : zwShapeOk netA bs = false) :
    zwCopy c netA bs now = zwDiscard c none 1 := by simp [zwCopy, on, bad]

theorem zwCopy_unmatched (on : enabled c 0x21 = true) (shape : zwShapeOk netA bs = true) (none_ : zwMatch c bs = none) :
    zwCopy c netA bs now = zwDiscard c none 1 := by simp [zwCopy, on, shape, none_]

section matched
variable (on : enabled c 0x21 = true) (shape : zwShapeOk netA bs = true) (found : zwMatch c bs = some k)
include on shape found

theorem zwCopy_badCrc (bad : ¬(zwCrc (zwCfg c k 1) (zwPdu bs)).toNat = beAt bs 0x38 4) :
    zwCopy c netA bs now = zwDiscard c (some k) 1 := by simp [zwCopy, on, shape, found, bad]

section crc
variable (crc : (zwCrc (zwCfg c k 1) (zwPdu bs)).toNat = beAt bs 0x38 4)
include crc

theorem zwCopy_fenced (fenced : beAt bs 8 4 < (zwConn c k).epoch.toNat) :
    zwCopy c netA bs now = zwDiscard c (some k) 2 := by simp [zwCopy, on, shape, found, crc, fenced]

variable (current : (zwConn c k).epoch.toNat ≤ beAt bs 8 4)
include current

theorem zwCopy_old (old : zwOld c k bs) : zwCopy c netA bs now = c := by
  have notFenced : ¬beAt bs 8 4 < (zwConn c k).epoch.toNat := by omega
  simp only [zwCopy, on, shape, found, crc, notFenced, Bool.not_true, Bool.false_eq_true, ne_eq, not_true, if_false]
  exact if_pos ((zwOld_iff c k bs).mpr old)

theorem zwCopy_aged (fresh_ : ¬zwOld c k bs) (aged : zwAged c k bs now) :
    zwCopy c netA bs now = zwDiscard c (some k) 4 := by
  have notFenced : ¬beAt bs 8 4 < (zwConn c k).epoch.toNat := by omega
  simp only [zwCopy, on, shape, found, crc, notFenced, Bool.not_true, Bool.false_eq_true, ne_eq, not_true, if_false]
  exact (if_neg (mt (zwOld_iff c k bs).mp fresh_)).trans (if_pos ((zwAged_iff c k bs now).mpr aged))

theorem zwCopy_passes (fresh_ : ¬zwOld c k bs) (inTime : ¬zwAged c k bs now) :
    zwCopy c netA bs now = zwWindow c k netA bs now := by
  have notFenced : ¬beAt bs 8 4 < (zwConn c k).epoch.toNat := by omega
  simp only [zwCopy, on, shape, found, crc, notFenced, Bool.not_true, Bool.false_eq_true, ne_eq, not_true, if_false]
  exact (if_neg (mt (zwOld_iff c k bs).mp fresh_)).trans (if_neg (mt (zwAged_iff c k bs now).mp inTime))

end crc

end matched

end copy

/-! ### The epoch that a copy shows (R390) -/

/-- What a copy leaves, once its time of arrival is known. -/
theorem zwReceive_eq (c : Chip) (netA : Bool) (bs : List Byte) : zwReceive c netA bs =
    let d := zwCopy { c with fresh := c.fresh + 1 } netA bs (c.stroke.t0 + Config.freeNat c.fresh)
    if (enabled c 0x21 && zwShapeOk netA bs && (zwOwn c bs).isSome) = true then
      newerEpoch d 2 (BitVec.ofNat 32 (beAt bs 8 4)) else d := rfl

theorem zwReceive_notShown {c : Chip} {netA : Bool} {bs : List Byte} {e : Chip}
    (other : enabled c 0x21 = false ∨ zwShapeOk netA bs = false)
    (copied : zwCopy { c with fresh := c.fresh + 1 } netA bs (c.stroke.t0 + Config.freeNat c.fresh) = e) :
    zwReceive c netA bs = e := by
  rw [zwReceive_eq, copied]
  exact if_neg (by obtain h | h := other <;> simp [h])

theorem zwReceive_shown {c : Chip} {netA : Bool} {bs : List Byte} {e : Chip} (on : enabled c 0x21 = true)
    (shape : zwShapeOk netA bs = true)
    (copied : zwCopy { c with fresh := c.fresh + 1 } netA bs (c.stroke.t0 + Config.freeNat c.fresh) = e) :
    zwReceive c netA bs = if (zwOwn c bs).isSome then newerEpoch e 2 (BitVec.ofNat 32 (beAt bs 8 4)) else e := by
  rw [zwReceive_eq, copied, on, shape]
  rfl

theorem zwistraChecksInOrder : Claims.ZwistraChecksInOrder := by
  intro s netA bs k c now d z seq epoch here crcOk old aged i leaves
  have leave {x : Chip} (h : zwReceive c netA bs =
      if (zwOwn c bs).isSome then newerEpoch x 2 (BitVec.ofNat 32 (beAt bs 8 4)) else x) : exec i s = .next (leaves x) := by
    simp only [i]
    unfold exec
    exact next_after_congr h
  refine ⟨fun off => ?_, fun on bad => ?_, fun on shape none_ => ?_, fun at_ bad => ?_, fun at_ crc fenced => ?_,
    fun at_ crc current old => ?_, fun at_ crc current new aged => ?_, fun at_ crc current new inTime => ?_⟩
  · simp only [i]
    unfold exec
    exact next_after_congr (zwReceive_notShown (.inl off) (zwCopy_off (c := d) off))
  · simp only [i]
    unfold exec
    exact next_after_congr (zwReceive_notShown (.inr bad) (zwCopy_misshapen (c := d) on bad))
  · exact leave (zwReceive_shown on shape (zwCopy_unmatched (c := d) on shape none_))
  · obtain ⟨on, shape, found⟩ := at_
    exact leave (zwReceive_shown on shape (zwCopy_badCrc (c := d) on shape found bad))
  · obtain ⟨on, shape, found⟩ := at_
    exact leave (zwReceive_shown on shape (zwCopy_fenced (c := d) on shape found crc fenced))
  · obtain ⟨on, shape, found⟩ := at_
    exact leave (zwReceive_shown on shape (zwCopy_old (c := d) on shape found crc current old))
  · obtain ⟨on, shape, found⟩ := at_
    exact leave (zwReceive_shown on shape (zwCopy_aged (c := d) on shape found crc current new aged))
  · obtain ⟨on, shape, found⟩ := at_
    exact leave (zwReceive_shown on shape (zwCopy_passes (c := d) on shape found crc current new inTime))

/-! ### Windows and watchdogs (R363, R364, R367) -/

section window
variable {c : Chip} {k now t : Nat} {net netA : Bool} {p bs : List Byte}

theorem zwWindowClose_open (opened : (zwConn c k).window = some (net, p, t)) : zwWindowClose c k =
    if bitOf (zwCfg c k 0) 29 then modZw c k fun z => { z with
      window := none, dropped := zwKey p :: z.dropped, singles := satInc 255 z.singles }
    else zwAccept c k p true 0 := by simp only [zwWindowClose, opened]

theorem zwWindowClose_shut (shut : (zwConn c k).window = none) : zwWindowClose c k = c := by simp only [zwWindowClose, shut]

theorem zwWindow_shut (shut : (zwConn c k).window = none) : zwWindow c k netA bs now =
    modZw c k fun z => { z with window := some (netA, zwPdu bs, now) } := by simp only [zwWindow, shut]

theorem zwWindow_same (opened : (zwConn c k).window = some (net, p, t)) (same : zwKey p = zwKey (zwPdu bs)) :
    zwWindow c k netA bs now = if net = netA then c
      else if p = zwPdu bs then zwAccept c k (zwPdu bs) false (now - t)
      else zwMismatch c k p (zwPdu bs) (now - t) := by simp only [zwWindow, opened, same, if_true]

theorem zwWindow_other (opened : (zwConn c k).window = some (net, p, t)) (other : zwKey p ≠ zwKey (zwPdu bs)) :
    zwWindow c k netA bs now = if (zwKey p).1 < (zwKey (zwPdu bs)).1 ∨ ((zwKey p).1 = (zwKey (zwPdu bs)).1
      ∧ newerSeq (BitVec.ofNat 32 (zwKey (zwPdu bs)).2) (BitVec.ofNat 32 (zwKey p).2) = true) then
        modZw (zwWindowClose c k) k fun z => { z with window := some (netA, zwPdu bs, now) } else c := by
  simp [zwWindow, opened, other]

theorem zwWatchdog_expired (runs : zwState c k = 2) (gets : zwSends c k = false) :
    zwWatchdog c k = zwConds (zwTo c k 3) := if_pos (by simp [runs, gets])

theorem zwWatchdog_idle (idle : zwState c k ≠ 2 ∨ zwSends c k = true) : zwWatchdog c k = c :=
  if_neg (by simpa [Decidable.imp_iff_not_or] using idle)

theorem zwKey_eq_iff (p q : List Byte) : zwKey p = zwKey q ↔ beAt p 4 4 = beAt q 4 4 ∧ beAt p 8 4 = beAt q 8 4 := by
  simp only [zwKey, Prod.mk.injEq]

end window

theorem zwistraWindowsComplete : Claims.ZwistraWindowsComplete := by
  intro s k net netA p bs t now c pdu same newer isOpen
  refine ⟨fun opened two => ?_, fun opened one => ?_, fun shut => ?_, fun runs gets => ?_, fun idle => ?_,
    fun shut => zwWindow_shut shut, fun opened key ne eq => ?_, fun opened key ne differ => ?_, fun opened key eq => ?_,
    fun opened key new => ?_, fun opened key old => ?_⟩
  · unfold exec
    exact next_after_congr ((zwWindowClose_open opened).trans (if_pos two))
  · unfold exec
    exact next_after_congr ((zwWindowClose_open opened).trans (if_neg (by simp [one])))
  · unfold exec
    exact next_after_congr (zwWindowClose_shut shut)
  · unfold exec
    exact next_after_congr (zwWatchdog_expired runs gets)
  · unfold exec
    exact next_after_congr (zwWatchdog_idle idle)
  · rw [zwWindow_same opened ((zwKey_eq_iff ..).mpr key), if_neg ne, if_pos eq]
  · rw [zwWindow_same opened ((zwKey_eq_iff ..).mpr key), if_neg ne, if_neg differ]
  · rw [zwWindow_same opened ((zwKey_eq_iff ..).mpr key), if_pos eq]
  · rw [zwWindow_other opened (mt (zwKey_eq_iff ..).mp key)]
    exact if_pos new
  · rw [zwWindow_other opened (mt (zwKey_eq_iff ..).mp key)]
    exact if_neg old

/-- Settles O41: each check by its branch, and the window by the key of the copy that it holds. -/
theorem zwistraCommandsComplete : Obligations.ZwistraCommandsComplete :=
  ⟨zwistraChecksInOrder, zwistraWindowsComplete⟩

end Sys2Proof.Machine
end

section
/-!
PROOFS. What a change of mode leaves unchanged (R30). The field blocks first: what they do on a change of mode keeps
`inner`. Then the loops, the heats, the crews and the seat: `rooted` is the module without them too.
-/
namespace Sys2Proof.Machine
open Safety

/-! ### Zwistra connections, safety groups, CAN controllers -/

@[simp] theorem inner_zwTo (c : Chip) (k st : Nat) : inner (zwTo c k st) = inner c := by
  unfold zwTo
  dsimp only
  split <;> simp

@[simp] theorem inner_zwConds (c : Chip) : inner (zwConds c) = inner c := by simp [zwConds]

@[simp] theorem inner_zwWaiting (c : Chip) : inner (zwWaiting c) = inner c := by
  unfold zwWaiting
  rw [inner_zwConds]
  exact inner_forN (fun k c => by split <;> simp) 256 c

@[simp] theorem inner_modGroup (c : Chip) (g : Nat) (f : GroupSt → GroupSt) : inner (modGroup c g f) = inner c := rfl

/-- The lockouts of the groups are no part of `inner`. -/
theorem inner_modLockout (c : Chip) (l : BackupSt → Word) (m : BackupSt → SMap (Nat × Nat)) :
    inner (modBackup c fun b => { b with lockout := l b, lockCause := m b }) = inner c := rfl

@[simp] theorem inner_groupTo (c : Chip) (g st : Nat) : inner (groupTo c g st) = inner c := by
  unfold groupTo
  dsimp only
  split
  · rfl
  · simp only [lockoutCond, apply_ite inner, inner_emit, inner_raise, inner_setCond, ite_self]
    exact (inner_modLockout _ _ _).trans (inner_modGroup ..)

theorem inner_setSafety (c : Chip) (x : SafetySt) : inner { c with safety := x } = inner c := rfl

@[simp] theorem inner_inhibitGroups (c : Chip) : inner (inhibitGroups c) = inner c := by
  have groups : inner (forN 32 (fun g c => if (group c g).state ∈ [1, 2, 3] then groupTo c g 0 else c) c) = inner c :=
    inner_forN (fun g c => by split <;> simp) 32 c
  exact (inner_setSafety _ _).trans groups

@[simp] theorem inner_canConds (c : Chip) (n : Nat) : inner (canConds c n) = inner c := by simp [canConds]

@[simp] theorem inner_canTo (c : Chip) (n st : Nat) : inner (canTo c n st) = inner c := by
  unfold canTo
  dsimp only
  split <;> simp

@[simp] theorem inner_canSleepTo (c : Chip) (n st id : Nat) : inner (canSleepTo c n st id) = inner c := by
  unfold canSleepTo
  dsimp only
  split
  · rfl
  · simp only [apply_ite inner, inner_emit, inner_raise, inner_canTo, ite_self]

@[simp] theorem inner_modObj (c : Chip) (n o : Nat) (f : ObjSt → ObjSt) : inner (modObj c n o f) = inner c := rfl

@[simp] theorem inner_setAlone (c : Chip) (n : Nat) (v : Bool) : inner (setAlone c n v) = inner c := by
  simp only [setAlone, apply_ite inner, inner_canConds, inner_emit, inner_modCan, ite_self]

@[simp] theorem inner_ackClear (c : Chip) (n : Nat) : inner (ackClear c n) = inner c := by simp [ackClear]

@[simp] theorem inner_canRestrict (c : Chip) (n : Nat) : inner (canRestrict c n) = inner c := by
  unfold canRestrict
  split
  · rfl
  · split <;> simp

@[simp] theorem inner_canAuto (c : Chip) (n : Nat) : inner (canAuto c n) = inner c := by
  unfold canAuto
  split <;> simp

@[simp] theorem inner_canSync (n : Nat) (c : Chip) : inner (canSync n c) = inner c := by
  unfold canSync
  dsimp only
  simp only [apply_ite inner, inner_canTo, inner_modCan, inner_canSleepTo, inner_canRestrict, inner_canAuto, ite_self]

@[simp] theorem inner_canSyncAll (c : Chip) : inner (canSyncAll c) = inner c := inner_forN inner_canSync 16 c

@[simp] theorem inner_canTakeSeat (c : Chip) : inner (canTakeSeat c) = inner c := by
  refine inner_forN (fun n c => ?_) 16 c
  have cleared (l : List Nat) (d : Chip) : inner (l.foldl (fun c o => modObj c n o fun s =>
      { s with pending := none, tx := none, next := none }) d) = inner d := inner_foldl (fun d o => inner_modObj d n o _) l d
  split
  · rfl
  · dsimp only
    split
    · rw [inner_canTo, cleared]
    · exact cleared ..

/-! ### Outputs -/

@[simp] theorem inner_openSafety (c : Chip) : inner (openSafety c) = inner c := inner_forN (fun o d => inner_modOut d o _) 8 c

theorem inner_setDig (c : Chip) (d : DigSt) : inner { c with dig := d } = inner c := rfl

@[simp] theorem inner_noteEdges (before c : Chip) : inner (noteEdges before c) = inner c := inner_setDig c _

@[simp] theorem inner_outputsOff (c : Chip) : inner (outputsOff c) = inner c := by
  have channels (d : Chip) : inner (forN 48 (fun ch c => modDig c ch fun s => { s with commit := false }) d) = inner d :=
    inner_forN (fun ch d => inner_modDig d ch _) 48 d
  have switches (d : Chip) : inner (forN 8 (fun o c => modOut c o fun s => { s with high := false, low := false }) d)
      = inner d := inner_forN (fun o d => inner_modOut d o _) 8 d
  simp only [outputsOff, inner_noteEdges, switches, inner_openSafety, channels]

@[simp] theorem inner_digCommit (c : Chip) (ch : Nat) (v : Bool) : inner (digCommit c ch v) = inner c := by
  have cooled (d : Chip) (b : Bool) : inner (if b then ((freshNat d).1 % 2 == 1, (freshNat d).2) else (true, d)).2 = inner d := by
    split <;> rfl
  unfold digCommit
  dsimp only
  split
  · rw [inner_modDig]
  · rw [inner_modDig]
    exact cooled c _

@[simp] theorem bare_stageCurrent (c : Chip) (ch : Nat) : bare (stageCurrent c ch).2 = bare c := by
  unfold stageCurrent
  split <;> rfl

@[simp] theorem inner_recordFlags (ch : Nat) (c : Chip) : inner (recordFlags ch c) = inner c := by
  have ended (l : Nat → Chip → Chip) (kept : ∀ b d, inner (l b d) = inner d) (d : Chip) : inner (forN 7 l d) = inner d :=
    inner_forN kept 7 d
  unfold recordFlags
  dsimp only
  split
  · rfl
  · rw [inner_forN]
    · split
      · rw [inner_emit, inner_of_bare (bare_stageCurrent ..), inner_modDig]
      · rfl
    · intro b d
      split <;> simp

@[simp] theorem inner_groupConds (c : Chip) (g : Nat) : inner (groupConds c g) = inner c := by simp [groupConds]

@[simp] theorem inner_digRefresh (c : Chip) (g : Nat) : inner (digRefresh c g) = inner c := by
  rw [digRefresh, inner_groupConds]
  exact inner_forN (fun i c => inner_recordFlags (12 * g + i) c) 12 c

@[simp] theorem inner_applyPaired (c : Chip) : inner (applyPaired c) = inner c := by
  unfold applyPaired
  dsimp only
  split
  · rfl
  · rw [inner_forN (fun g c => inner_digRefresh c g), inner_noteEdges, inner_forN, inner_forN]
    · intro g d
      exact inner_foldl (fun d ch => by split <;> simp) _ d
    · intro o d
      split
      · exact inner_modOut ..
      · rfl

@[simp] theorem inner_resetFlush (c : Chip) : inner (resetFlush c) = inner c :=
  inner_foldl (fun d _ => inner_emit d ..) _ (modReset c fun r => { r with waiting := [], caught := none })

@[simp] theorem inner_modStn (c : Chip) (l a : Nat) (f : StnSt → StnSt) : inner (modStn c l a f) = inner c := rfl

@[simp] theorem inner_linkConds (c : Chip) (l : Nat) : inner (linkConds c l) = inner c := by simp [linkConds]

@[simp] theorem inner_stnsAbsent (c : Chip) (l : Nat) : inner (stnsAbsent c l) = inner c := by
  rw [stnsAbsent, inner_linkConds]
  exact inner_foldl (fun d a => inner_modStn d l a _) _ c

/-! ### Loops, heats and crews -/

/-- The module without its field blocks, its loops, heats and crews and what they have put out. -/
def deck (c : Chip) : Chip :=
  { inner c with engines := [], sel := SelSt.reset, crewS := CrewSt.reset, crewP := CrewSt.reset
                 ctlS := CrewCtl.reset, ctlP := CrewCtl.reset, latch := Img.reset, committedS := Img.reset
                 committedP := Img.reset }

theorem deck_of_inner {c d : Chip} (h : inner c = inner d) : deck c = deck d := by simp only [deck, h]

theorem deck_foldl {α : Type} {f : Chip → α → Chip} (kept : ∀ c a, deck (f c a) = deck c) (l : List α) (c : Chip) :
    deck (l.foldl f c) = deck c := kept_foldl deck kept l c

theorem deck_forN {f : Nat → Chip → Chip} (kept : ∀ i c, deck (f i c) = deck c) (n : Nat) (c : Chip) :
    deck (forN n f c) = deck c := kept_forN deck kept n c

@[simp] theorem deck_modCrew (c : Chip) (cr : Crew) (f : CrewSt → CrewSt) : deck (modCrew c cr f) = deck c := by
  cases cr <;> rfl

@[simp] theorem deck_modCtl (c : Chip) (cr : Crew) (f : CrewCtl → CrewCtl) : deck (modCtl c cr f) = deck c := by
  cases cr <;> rfl

@[simp] theorem deck_modEng (c : Chip) (e : Nat) (f : EngSt → EngSt) : deck (modEng c e f) = deck c := rfl

@[simp] theorem deck_modLoop (c : Chip) (e j : Nat) (f : LoopSt → LoopSt) : deck (modLoop c e j f) = deck c := rfl

@[simp] theorem deck_modHeat (c : Chip) (h : Nat) (f : HeatSt → HeatSt) : deck (modHeat c h f) = deck c := rfl

@[simp] theorem deck_setCond (c : Chip) (p b : Nat) (v : Bool) : deck (setCond c p b v) = deck c :=
  deck_of_inner (inner_setCond ..)

@[simp] theorem deck_haltCond (c : Chip) (cr : Crew) : deck (haltCond c cr) = deck c := by
  cases cr
  · rfl
  · exact deck_setCond ..

@[simp] theorem deck_returnTrims (c : Chip) (cr : Crew) : deck (returnTrims c cr) = deck c := deck_modCtl ..

@[simp] theorem deck_stopCrew (c : Chip) (cr : Crew) : deck (stopCrew c cr) = deck c := by
  simp only [stopCrew, deck_haltCond, apply_ite deck, deck_returnTrims, deck_modCtl, deck_modCrew, modCores, ite_self]

@[simp] theorem deck_stopCrews (c : Chip) : deck (stopCrews c) = deck c := by simp [stopCrews]

@[simp] theorem deck_startCrew (c : Chip) (cr : Crew) : deck (startCrew c cr) = deck c := by
  simp only [startCrew, apply_ite deck, deck_modCtl, deck_modCrew, deck_stopCrew, ite_self]

@[simp] theorem deck_resumeCrew (c : Chip) (cr : Crew) : deck (resumeCrew c cr) = deck c := by
  simp only [resumeCrew, apply_ite deck, deck_modCtl, deck_modCrew, deck_stopCrew, ite_self]

@[simp] theorem deck_crewTakesOver (c : Chip) (cr : Crew) : deck (crewTakesOver c cr) = deck c := by
  simp only [crewTakesOver, deck_resumeCrew, deck_modCrew]

@[simp] theorem deck_restoreClean (c : Chip) (cr : Crew) : deck (restoreClean c cr) = deck c := by
  have mem (d : Chip) : deck (restoreMem d cr) = deck d := by
    unfold restoreMem
    split <;> simp [modCores]
  unfold restoreClean restoreCtl
  split <;> simp [mem]

@[simp] theorem deck_paddleRestore (c : Chip) : deck (paddleRestore c) = deck c := by
  simp only [paddleRestore, apply_ite deck, deck_stopCrew, deck_restoreClean, ite_self]

theorem deck_setSel (c : Chip) (x : SelSt) : deck { c with sel := x } = deck c := rfl

@[simp] theorem deck_stopSampling (c : Chip) : deck (stopSampling c) = deck c := by
  have latches : deck (forN 10 (fun e c => dropLatches c e) c) = deck c := deck_forN (fun e d => deck_modEng d e _) 10 c
  exact (deck_setSel _ _).trans latches

@[simp] theorem deck_startLoops (c : Chip) (e : Nat) : deck (startLoops c e) = deck c := by
  unfold startLoops
  split
  · rfl
  · exact deck_foldl (fun d b => deck_modLoop d e _ _) _ c

@[simp] theorem deck_noLeaderChanges (old : SMap HeatSt) (c : Chip) : deck (noLeaderChanges old c) = deck c := by
  unfold noLeaderChanges noLeaderCond
  rw [deck_setCond]
  exact deck_foldl (fun d x => deck_of_inner (inner_noLeaderRecord ..)) old c

@[simp] theorem deck_laneTimeoutCond (c : Chip) : deck (laneTimeoutCond c) = deck c := deck_setCond ..

@[simp] theorem deck_startHeats (c : Chip) : deck (startHeats c) = deck c := by
  rw [startHeats, deck_laneTimeoutCond, deck_noLeaderChanges]
  exact deck_foldl (fun d b => deck_modHeat d _ _) _ c

theorem deck_startAll (c : Chip) : deck (startHeats (forN 10 (fun e c => startLoops c e) c)) = deck c := by
  rw [deck_startHeats]
  exact deck_forN (fun e d => deck_startLoops d e) 10 c

@[simp] theorem deck_loopsTakeOver (c : Chip) : deck (loopsTakeOver c) = deck c := by
  unfold loopsTakeOver
  dsimp only
  rw [deck_laneTimeoutCond, deck_noLeaderChanges, deck_forN, deck_foldl, deck_foldl, deck_startAll]
  · intro d x
    split
    · exact deck_modLoop ..
    · rfl
  · intro d b
    split
    · exact deck_modHeat ..
    · rfl
  · exact fun e d => deck_setCond ..

@[simp] theorem deck_switchesTakeOver (c : Chip) : deck (switchesTakeOver c) = deck c :=
  deck_of_inner (inner_forN (fun o d => inner_modOut d o _) 8 c)

@[simp] theorem inner_sinkDigital (c : Chip) (ch : Nat) (on : Bool) : inner (sinkDigital c ch on) = inner c := by
  unfold sinkDigital
  split
  · rfl
  · rw [inner_digRefresh, inner_noteEdges, inner_digCommit]

@[simp] theorem inner_resumeSink (c : Chip) (b : Binding) (u : Int) : inner (resumeSink c b u) = inner c := by
  unfold resumeSink
  split
  · split
    · exact inner_modBuf ..
    · rfl
  · exact inner_writeSink ..

@[simp] theorem inner_sinksTakeOver (c : Chip) : inner (sinksTakeOver c) = inner c := by
  have loops (d : Chip) (x : Nat × LoopBlock) : inner (resumeLoopSink d x) = inner d := by
    unfold resumeLoopSink
    dsimp only
    split
    · exact inner_sinkDigital ..
    · exact inner_resumeSink ..
  unfold sinksTakeOver
  dsimp only
  rw [inner_foldl, inner_foldl loops]
  intro d b
  split
  · rfl
  · exact inner_resumeSink ..

/-! ### The mode -/

theorem mode_of_deck {c d : Chip} (h : deck c = deck d) : c.mode = d.mode :=
  (congrArg Chip.mode h : (deck c).mode = (deck d).mode)

theorem mode_of_inner {c d : Chip} (h : inner c = inner d) : c.mode = d.mode := mode_of_deck (deck_of_inner h)

@[simp] theorem canSyncAll_mode (c : Chip) : (canSyncAll c).mode = c.mode := mode_of_inner (inner_canSyncAll c)

/-- The pair's conditions change nothing but what was last reported of HEALTH. -/
theorem inner_pairConds (c : Chip) :
    inner (pairConds c) = inner (modPairCnt c fun p => { p with lastHealth := health c }) := by
  simp only [pairConds, inner_setCond, readyChange, apply_ite inner, inner_emit, ite_self]

@[simp] theorem pairConds_mode (c : Chip) : (pairConds c).mode = c.mode :=
  (mode_of_inner (inner_pairConds c)).trans (modPairCnt_mode ..)

@[simp] theorem leaveStandby_mode (c : Chip) : (leaveStandby c).mode = c.mode := by
  unfold leaveStandby
  dsimp only
  rw [modMirror_mode]
  split
  · exact mode_of_deck (deck_paddleRestore c)
  · rfl

@[simp] theorem stopSampling_mode (c : Chip) : (stopSampling c).mode = c.mode := mode_of_deck (deck_stopSampling c)

theorem changeMode_mode {c : Chip} {m : Mode} (row : Nat) (other : c.mode.mode ≠ m) :
    (changeMode c m row).mode = { c.mode with mode := m, prev := c.mode.mode, seq := c.mode.seq + 1 } := by
  simp only [changeMode, if_neg other, emit_mode, apply_ite Chip.mode, setCond_mode, ite_self]

@[simp] theorem takeSeat_mode (c : Chip) (cause : Nat) (ckpt : Word) : (takeSeat c cause ckpt).mode = c.mode := by
  have gap : (takeoverGap c cause).2.mode = c.mode := by
    unfold takeoverGap
    split <;> rfl
  simp [takeSeat, gap]

/-- The seat of a module that starts, which a module of a pair takes unless it holds it (R386). -/
def seated (c : Chip) : Chip :=
  if paired c && !c.seat.holds then canTakeSeat (takeSeat (writeEpoch c) 3 0) else c

theorem deck_runFromStop (c : Chip) : deck (runFromStop c) = deck (seated c) := by
  have crews : deck (startHeats (forN 10 (fun e c => startLoops c e) (startCrew (startCrew (seated c) .safety) .process)))
      = deck (seated c) := by simp only [deck_startAll, deck_startCrew]
  exact (deck_of_inner (inner_setSafety _ _)).trans crews

@[simp] theorem runFromStop_mode (c : Chip) : (runFromStop c).mode = c.mode := by
  refine (mode_of_deck (deck_runFromStop c)).trans ?_
  unfold seated
  split
  · exact (mode_of_inner (inner_canTakeSeat _)).trans (takeSeat_mode ..)
  · rfl

/-- A module in TAKEOVER with its crews, loops and switches taken over, before it takes the seat (R416). -/
def takenOver (c : Chip) : Chip :=
  let c := modPairCnt (modMirror c fun m => { m with
      streaming := c.seat.byHandover, streamed := [], rx := [], changedAt := [], tfLines := [] })
    fun p => { p with acked := none, keptBase := none }
  let c := crewTakesOver (crewTakesOver c .safety) .process
  let c := { c with latch := latchOf c .process (latchOf c .safety c.latch)
                    stroke := { c.stroke with
                      safeLatch := !enabled c 9, safeLatchS := !enabled c 8, haltAtStrobe := false } }
  switchesTakeOver (loopsTakeOver (commitView (commitView c .safety) .process))

theorem inner_runFromTakeover (c : Chip) : inner (runFromTakeover c) = inner (takeSeat (takenOver c)
    (if (takenOver c).seat.byHandover then 2 else 1) ((takenOver c).mirror.lastComplete.getD 0)) :=
  (inner_sinksTakeOver _).trans (inner_canTakeSeat _)

theorem deck_commitView (c : Chip) (cr : Crew) : deck (commitView c cr) = deck c := by cases cr <;> rfl

theorem deck_setLatch (c : Chip) (x : Img) (k : StrokeSt) :
    deck { c with latch := x, stroke := k } = { deck c with stroke := k } := rfl

/-- The mirror and the counts of the pair as a module in TAKEOVER leaves them before it takes the seat. -/
def linkRestarted (c : Chip) : Chip :=
  modPairCnt (modMirror c fun m => { m with
      streaming := c.seat.byHandover, streamed := [], rx := [], changedAt := [], tfLines := [] })
    fun p => { p with acked := none, keptBase := none }

theorem deck_passOn (d : Chip) (x : Img) (k : StrokeSt) : deck (switchesTakeOver (loopsTakeOver (commitView (commitView
    { d with latch := x, stroke := k } .safety) .process))) = { deck d with stroke := k } := by
  rw [deck_switchesTakeOver, deck_loopsTakeOver, deck_commitView, deck_commitView, deck_setLatch]

theorem deck_setStroke (c : Chip) (k : StrokeSt) : deck { c with stroke := k } = { deck c with stroke := k } := rfl

theorem deck_takenOver (c : Chip) : ∃ k, deck (takenOver c) = deck { linkRestarted c with stroke := k } := by
  have crews : deck (crewTakesOver (crewTakesOver (linkRestarted c) .safety) .process) = deck (linkRestarted c) := by
    rw [deck_crewTakesOver, deck_crewTakesOver]
  simp only [deck_setStroke, ← crews]
  exact ⟨_, deck_passOn _ _ _⟩

@[simp] theorem takenOver_mode (c : Chip) : (takenOver c).mode = c.mode := by
  obtain ⟨k, same⟩ := deck_takenOver c
  rw [mode_of_deck same, linkRestarted, modPairCnt, modMirror]

@[simp] theorem runFromTakeover_mode (c : Chip) : (runFromTakeover c).mode = c.mode :=
  (mode_of_inner (inner_runFromTakeover c)).trans ((takeSeat_mode ..).trans (takenOver_mode c))

@[simp] theorem leaveSeat_mode (c : Chip) : (leaveSeat c).mode = c.mode := modSeat_mode ..

@[simp] theorem sendRecord_mode (c : Chip) (type : Nat) (stroke : Word) (payload : List Byte) :
    (sendRecord c type stroke payload).mode = c.mode := mode_of_inner (inner_sendRecord ..)

@[simp] theorem sendSyncReq_mode (c : Chip) : (sendSyncReq c).mode = c.mode := by
  simp only [sendSyncReq, sendRecord_mode, modMirror_mode]

@[simp] theorem enterStandby_mode (c : Chip) (handed : Bool) (old : Mode) : (enterStandby c handed old).mode = c.mode := by
  simp only [enterStandby, apply_ite Chip.mode, sendSyncReq_mode, modMirror_mode, modSeat_mode, ite_self]

@[simp] theorem closeAll_mode (c : Chip) (why : Nat) : (closeAll c why).mode = c.mode := by
  refine kept_forN Chip.mode (fun s d => ?_) 16 c
  unfold closeSession
  split
  · rfl
  · simp only [emit_mode, raise_mode, apply_ite Chip.mode, modHosts_mode, ite_self]

@[simp] theorem stopCrews_mode (c : Chip) : (stopCrews c).mode = c.mode := mode_of_deck (deck_stopCrews c)

@[simp] theorem zwWaiting_mode (c : Chip) : (zwWaiting c).mode = c.mode := mode_of_inner (inner_zwWaiting c)

@[simp] theorem zwConds_mode (c : Chip) : (zwConds c).mode = c.mode := mode_of_inner (inner_zwConds c)

@[simp] theorem inhibitGroups_mode (c : Chip) : (inhibitGroups c).mode = c.mode := mode_of_inner (inner_inhibitGroups c)

@[simp] theorem openSafety_mode (c : Chip) : (openSafety c).mode = c.mode := mode_of_inner (inner_openSafety c)

@[simp] theorem applyPaired_mode (c : Chip) : (applyPaired c).mode = c.mode := mode_of_inner (inner_applyPaired c)

@[simp] theorem resetFlush_mode (c : Chip) : (resetFlush c).mode = c.mode := mode_of_inner (inner_resetFlush c)

@[simp] theorem outputsOff_mode (c : Chip) : (outputsOff c).mode = c.mode := mode_of_inner (inner_outputsOff c)

theorem allStnsAbsent_mode (c : Chip) : (forN 32 (fun l c => stnsAbsent c l) c).mode = c.mode :=
  mode_of_inner (inner_forN (fun l d => inner_stnsAbsent d l) 32 c)

theorem modeEntry_mode (c : Chip) (old m : Mode) (row : Nat) : (modeEntry c old m row).mode = c.mode := by
  unfold modeEntry
  rw [canSyncAll_mode]
  cases m
  case run => cases old <;> simp only [zwWaiting_mode, zwConds_mode, runFromStop_mode, runFromTakeover_mode]
  case config => simp only [allStnsAbsent_mode, zwWaiting_mode, inhibitGroups_mode, stopCrews_mode, openSafety_mode,
    leaveSeat_mode]
  all_goals simp only [zwWaiting_mode, inhibitGroups_mode, stopCrews_mode, openSafety_mode, leaveSeat_mode,
    modSeat_mode, applyPaired_mode, enterStandby_mode, closeAll_mode, resetFlush_mode, outputsOff_mode]

/-- The module as a change of mode finds it: a standby ends its reception, loops that stop sampling drop their latches. -/
def modeLeft (c : Chip) (m : Mode) : Chip :=
  let d := if c.mode.mode == .standby && m != .takeover then leaveStandby c else c
  if c.mode.mode.runs && !m.runs then stopSampling d else d

theorem enterMode_of_ne {c : Chip} {m : Mode} (row : Nat) (other : c.mode.mode ≠ m) :
    enterMode c m row = pairConds (modeEntry (changeMode (modeLeft c m) m row) c.mode.mode m row) := if_neg other

theorem enterMode_of_eq {c : Chip} {m : Mode} (row : Nat) (same : c.mode.mode = m) : enterMode c m row = c := if_pos same

@[simp] theorem modeLeft_mode (c : Chip) (m : Mode) : (modeLeft c m).mode = c.mode := by
  simp only [modeLeft, apply_ite Chip.mode, stopSampling_mode, leaveStandby_mode, ite_self]

/-- A change to another mode (R31): MODE and PREV, and one more in SEQ. -/
theorem enterMode_mode {c : Chip} {m : Mode} (row : Nat) (other : c.mode.mode ≠ m) :
    (enterMode c m row).mode = { c.mode with mode := m, prev := c.mode.mode, seq := c.mode.seq + 1 } := by
  have left : (modeLeft c m).mode.mode ≠ m := by rwa [modeLeft_mode]
  rw [enterMode_of_ne row other, pairConds_mode, modeEntry_mode, changeMode_mode row left, modeLeft_mode]

end Sys2Proof.Machine
end

section
/-!
PROOFS. The causes and conditions that no change of mode touches (R54, R55): `heads` is the bits of the common headers of
the pages below 0x10 and of the pair's page, but for those that a change of mode sets: 0x04 bit 0, 0x09 bit 19 and the
pair's conditions with the taking of the seat.
-/
namespace Sys2Proof.Machine
open Safety

/-- A cause of a central page that no change of mode sets. -/
def watched (p b : Nat) : Bool :=
  decide (b < 32) && ((decide (p < 0x10) && !(p == 9 && b == 19) && !(p == 4 && b == 0))
    || (p == 0x28 && !([0, 1, 2, 3, 8, 11].contains b)))

/-- The cause and condition bits that no change of mode sets. -/
def heads (c : Chip) (p b : Nat) : Bool × Bool :=
  if watched p b then (bitOf (hdr c p).cause b, bitOf (hdr c p).raw b) else (false, false)

theorem cause_of_heads {c d : Chip} (h : heads c = heads d) {p b : Nat} (w : watched p b = true) :
    bitOf (hdr c p).cause b = bitOf (hdr d p).cause b := by
  have := congrFun (congrFun h p) b
  simp only [heads, w, if_true, Prod.mk.injEq] at this
  exact this.1

theorem raw_of_heads {c d : Chip} (h : heads c = heads d) {p b : Nat} (w : watched p b = true) :
    bitOf (hdr c p).raw b = bitOf (hdr d p).raw b := by
  have := congrFun (congrFun h p) b
  simp only [heads, w, if_true, Prod.mk.injEq] at this
  exact this.2

theorem heads_of_pages {c d : Chip} (h : c.pages = d.pages) : heads c = heads d := by
  funext p b
  simp only [heads, hdr, h]

theorem heads_of_watched {c d : Chip} (same : ∀ p b, watched p b = true →
    bitOf (hdr c p).cause b = bitOf (hdr d p).cause b ∧ bitOf (hdr c p).raw b = bitOf (hdr d p).raw b) :
    heads c = heads d := by
  funext p b
  unfold heads
  split
  · next w =>
    obtain ⟨cause, raw⟩ := same p b w
    rw [cause, raw]
  · rfl

theorem lt_of_watched {p b : Nat} (w : watched p b = true) : b < 32 := by
  simp only [watched, Bool.and_eq_true, decide_eq_true_eq] at w
  exact w.1

theorem heads_setCond (c : Chip) {p b : Nat} (v : Bool) (other : watched p b = false) :
    heads (setCond c p b v) = heads c := by
  refine heads_of_watched fun q j w => ?_
  by_cases page : q = p
  · subst page
    have bit : j ≠ b := by rintro rfl; simp [w] at other
    rw [hdr_setCond]
    dsimp only
    constructor
    · split
      · rw [bitOf_setBit _ _ _ (lt_of_watched w), if_neg bit]
      · rfl
    · split
      · rfl
      · rw [bitOf_setBit _ _ _ (lt_of_watched w), if_neg bit]
  · rw [hdr_setCond_ne _ _ _ page]
    exact ⟨rfl, rfl⟩

theorem heads_raise (c : Chip) {p b : Nat} (other : watched p b = false) : heads (raise c p b) = heads c := by
  refine heads_of_watched fun q j w => ?_
  by_cases page : q = p
  · subst page
    have bit : j ≠ b := by rintro rfl; simp [w] at other
    rw [hdr_raise]
    dsimp only
    rw [bitOf_setBit _ _ _ (lt_of_watched w), if_neg bit]
    exact ⟨rfl, rfl⟩
  · rw [hdr_raise_ne _ _ page]
    exact ⟨rfl, rfl⟩

theorem not_watched {p b : Nat} (outer : 0x10 ≤ p) (notPair : p ≠ 0x28) : watched p b = false := by
  simp [watched, notPair]
  omega

@[simp] theorem heads_emit (c : Chip) (p low source : Nat) (p0 p1 p2 p3 : Word) :
    heads (emit c p low source p0 p1 p2 p3) = heads c := by
  refine heads_of_watched fun q j w => ?_
  have notHost : q ≠ 0x74 := by rintro rfl; simp [watched] at w
  have notWake : q ≠ 0x78 := by rintro rfl; simp [watched] at w
  rw [hdr_emit _ _ _ _ _ _ _ _ notHost notWake]
  exact ⟨rfl, rfl⟩

/-- What each step over a list's members keeps, the fold keeps. -/
theorem kept_foldl_mem {α β : Type} (g : Chip → β) {f : Chip → α → Chip} (l : List α)
    (kept : ∀ a ∈ l, ∀ c, g (f c a) = g c) (c : Chip) : g (l.foldl f c) = g c := by
  induction l generalizing c with
  | nil => rfl
  | cons a l ih =>
    rw [List.foldl_cons, ih (fun b mem => kept b (List.mem_cons_of_mem _ mem)), kept a List.mem_cons_self]

theorem kept_forN_lt {β : Type} (g : Chip → β) {f : Nat → Chip → Chip} {n : Nat} (kept : ∀ i < n, ∀ c, g (f i c) = g c)
    (c : Chip) : g (forN n f c) = g c := kept_foldl_mem g _ (fun i mem => kept i (List.mem_range.mp mem)) c

theorem heads_foldl {α : Type} {f : Chip → α → Chip} (kept : ∀ c a, heads (f c a) = heads c) (l : List α) (c : Chip) :
    heads (l.foldl f c) = heads c := kept_foldl heads kept l c

theorem heads_forN {f : Nat → Chip → Chip} (kept : ∀ i c, heads (f i c) = heads c) (n : Nat) (c : Chip) :
    heads (forN n f c) = heads c := kept_forN heads kept n c

/-! ### Operations that touch no header -/

@[simp] theorem heads_modOut (c : Chip) (o : Nat) (f : SafeOut → SafeOut) : heads (modOut c o f) = heads c := rfl

@[simp] theorem heads_modGroup (c : Chip) (g : Nat) (f : GroupSt → GroupSt) : heads (modGroup c g f) = heads c := rfl

@[simp] theorem heads_modZw (c : Chip) (k : Nat) (f : ZwConn → ZwConn) : heads (modZw c k f) = heads c := rfl

@[simp] theorem heads_modDig (c : Chip) (ch : Nat) (f : DigCh → DigCh) : heads (modDig c ch f) = heads c := rfl

@[simp] theorem heads_modBuf (c : Chip) (i : Nat) (f : IslBuf → IslBuf) : heads (modBuf c i f) = heads c := rfl

@[simp] theorem heads_modCan (c : Chip) (n : Nat) (f : CanSt → CanSt) : heads (modCan c n f) = heads c := rfl

@[simp] theorem heads_modObj (c : Chip) (n o : Nat) (f : ObjSt → ObjSt) : heads (modObj c n o f) = heads c := rfl

@[simp] theorem heads_modStn (c : Chip) (l a : Nat) (f : StnSt → StnSt) : heads (modStn c l a f) = heads c := rfl

@[simp] theorem heads_modSeat (c : Chip) (f : SeatSt → SeatSt) : heads (modSeat c f) = heads c := rfl

@[simp] theorem heads_modMirror (c : Chip) (f : MirrorSt → MirrorSt) : heads (modMirror c f) = heads c := rfl

@[simp] theorem heads_modPairCnt (c : Chip) (f : PairCnt → PairCnt) : heads (modPairCnt c f) = heads c := rfl

@[simp] theorem heads_modBackup (c : Chip) (f : BackupSt → BackupSt) : heads (modBackup c f) = heads c := rfl

@[simp] theorem heads_modEng (c : Chip) (e : Nat) (f : EngSt → EngSt) : heads (modEng c e f) = heads c := rfl

@[simp] theorem heads_modLoop (c : Chip) (e j : Nat) (f : LoopSt → LoopSt) : heads (modLoop c e j f) = heads c := rfl

@[simp] theorem heads_modHeat (c : Chip) (h : Nat) (f : HeatSt → HeatSt) : heads (modHeat c h f) = heads c := rfl

@[simp] theorem heads_modCrew (c : Chip) (cr : Crew) (f : CrewSt → CrewSt) : heads (modCrew c cr f) = heads c :=
  heads_of_pages (modCrew_pages ..)

@[simp] theorem heads_modCtl (c : Chip) (cr : Crew) (f : CrewCtl → CrewCtl) : heads (modCtl c cr f) = heads c :=
  heads_of_pages (modCtl_pages ..)

theorem heads_setDig (c : Chip) (x : DigSt) : heads { c with dig := x } = heads c := rfl

theorem heads_setSafety (c : Chip) (x : SafetySt) : heads { c with safety := x } = heads c := rfl

theorem heads_setSel (c : Chip) (x : SelSt) : heads { c with sel := x } = heads c := rfl

theorem heads_setSent (c : Chip) (x : List Frame) (n : Nat) : heads { c with sent := x, fresh := n } = heads c := rfl

theorem heads_setLatch (c : Chip) (x : Img) (k : StrokeSt) : heads { c with latch := x, stroke := k } = heads c := rfl

@[simp] theorem heads_freshNat (c : Chip) : heads (freshNat c).2 = heads c := rfl

@[simp] theorem heads_send (c : Chip) (line : Line) (bytes : List Byte) : heads (send c line bytes) = heads c := by
  obtain ⟨fs, n, sent⟩ := send_changes c line bytes
  rw [sent, heads_setSent]

@[simp] theorem heads_sendRecord (c : Chip) (type : Nat) (stroke : Word) (payload : List Byte) :
    heads (sendRecord c type stroke payload) = heads c := by
  have lane : heads (recordLane c).2 = heads c := by
    unfold recordLane
    split
    · rfl
    · split
      · rfl
      · exact heads_freshNat c
  unfold sendRecord
  split
  · exact (heads_send ..).trans lane
  · rfl

/-! ### Field blocks -/

@[simp] theorem heads_zwTo (c : Chip) (k st : Nat) : heads (zwTo c k st) = heads c := by
  simp only [zwTo, apply_ite heads, heads_emit, heads_modZw, ite_self]

@[simp] theorem heads_zwConds (c : Chip) : heads (zwConds c) = heads c := by
  unfold zwConds
  rw [heads_setCond _ _ (by decide), heads_setCond _ _ (by decide)]

@[simp] theorem heads_zwWaiting (c : Chip) : heads (zwWaiting c) = heads c := by
  unfold zwWaiting
  rw [heads_zwConds]
  exact heads_forN (fun k c => by split <;> simp) 256 c

@[simp] theorem heads_groupTo (c : Chip) (g st : Nat) : heads (groupTo c g st) = heads c := by
  have lock (d : Chip) : heads (lockoutCond d) = heads d := heads_setCond _ _ (by decide)
  have caused (d : Chip) (b : Nat) : heads (raise d 0x20 b) = heads d := heads_raise _ (not_watched (by decide) (by decide))
  simp only [groupTo, apply_ite heads, heads_emit, caused, lock, ite_self, heads_modBackup, heads_modGroup]

@[simp] theorem heads_inhibitGroups (c : Chip) : heads (inhibitGroups c) = heads c :=
  (heads_setSafety _ _).trans (heads_forN (fun g c => by split <;> simp) 32 c)

theorem not_watched_canPage (n b : Nat) : watched (canPage n) b = false :=
  not_watched (by unfold canPage; omega) (by unfold canPage; omega)

@[simp] theorem heads_canConds (c : Chip) (n : Nat) : heads (canConds c n) = heads c := by
  unfold canConds
  simp only [heads_setCond _ _ (not_watched_canPage n _)]

@[simp] theorem heads_canTo (c : Chip) (n st : Nat) : heads (canTo c n st) = heads c := by
  simp only [canTo, apply_ite heads, heads_canConds, heads_emit, heads_modCan, ite_self]

@[simp] theorem heads_canSleepTo (c : Chip) (n st id : Nat) : heads (canSleepTo c n st id) = heads c := by
  simp only [canSleepTo, apply_ite heads, heads_emit, heads_raise _ (not_watched_canPage n _), heads_canTo, ite_self]

@[simp] theorem heads_setAlone (c : Chip) (n : Nat) (v : Bool) : heads (setAlone c n v) = heads c := by
  simp only [setAlone, apply_ite heads, heads_canConds, heads_emit, heads_modCan, ite_self]

@[simp] theorem heads_ackClear (c : Chip) (n : Nat) : heads (ackClear c n) = heads c := by simp [ackClear]

@[simp] theorem heads_canRestrict (c : Chip) (n : Nat) : heads (canRestrict c n) = heads c := by
  unfold canRestrict
  split
  · rfl
  · split <;> simp

@[simp] theorem heads_canAuto (c : Chip) (n : Nat) : heads (canAuto c n) = heads c := by
  unfold canAuto
  split <;> simp

@[simp] theorem heads_canSync (n : Nat) (c : Chip) : heads (canSync n c) = heads c := by
  simp only [canSync, apply_ite heads, heads_canTo, heads_modCan, heads_canSleepTo, heads_canRestrict, heads_canAuto,
    ite_self]

@[simp] theorem heads_canSyncAll (c : Chip) : heads (canSyncAll c) = heads c := heads_forN heads_canSync 16 c

@[simp] theorem heads_canTakeSeat (c : Chip) : heads (canTakeSeat c) = heads c := by
  refine heads_forN (fun n c => ?_) 16 c
  have cleared (l : List Nat) (d : Chip) : heads (l.foldl (fun c o => modObj c n o fun s =>
      { s with pending := none, tx := none, next := none }) d) = heads d := heads_foldl (fun d o => heads_modObj d n o _) l d
  split
  · rfl
  · dsimp only
    split
    · rw [heads_canTo, cleared]
    · exact cleared ..

@[simp] theorem heads_openSafety (c : Chip) : heads (openSafety c) = heads c := heads_forN (fun o d => heads_modOut d o _) 8 c

@[simp] theorem heads_noteEdges (before c : Chip) : heads (noteEdges before c) = heads c := heads_setDig c _

@[simp] theorem heads_outputsOff (c : Chip) : heads (outputsOff c) = heads c := by
  have channels (d : Chip) : heads (forN 48 (fun ch c => modDig c ch fun s => { s with commit := false }) d) = heads d :=
    heads_forN (fun ch d => heads_modDig d ch _) 48 d
  have switches (d : Chip) : heads (forN 8 (fun o c => modOut c o fun s => { s with high := false, low := false }) d)
      = heads d := heads_forN (fun o d => heads_modOut d o _) 8 d
  simp only [outputsOff, heads_noteEdges, switches, heads_openSafety, channels]

@[simp] theorem heads_digCommit (c : Chip) (ch : Nat) (v : Bool) : heads (digCommit c ch v) = heads c := by
  have cooled (d : Chip) (b : Bool) : heads (if b then ((freshNat d).1 % 2 == 1, (freshNat d).2) else (true, d)).2 = heads d := by
    split <;> rfl
  unfold digCommit
  dsimp only
  split
  · rw [heads_modDig]
  · rw [heads_modDig]
    exact cooled c _

theorem not_watched_digPage (g b : Nat) : watched (0x30 + g) b = false := not_watched (by omega) (by omega)

@[simp] theorem heads_recordFlags (ch : Nat) (c : Chip) : heads (recordFlags ch c) = heads c := by
  have current (d : Chip) : heads (stageCurrent d ch).2 = heads d := by
    unfold stageCurrent
    split <;> rfl
  unfold recordFlags
  dsimp only
  split
  · rfl
  · rw [heads_forN]
    · split
      · rw [heads_emit, current, heads_modDig]
      · exact heads_modDig ..
    · intro b d
      split <;> simp

@[simp] theorem heads_groupConds (c : Chip) (g : Nat) : heads (groupConds c g) = heads c := by
  unfold groupConds
  simp only [heads_setCond _ _ (not_watched_digPage g _)]

@[simp] theorem heads_digRefresh (c : Chip) (g : Nat) : heads (digRefresh c g) = heads c := by
  rw [digRefresh, heads_groupConds]
  exact heads_forN (fun i c => heads_recordFlags (12 * g + i) c) 12 c

@[simp] theorem heads_applyPaired (c : Chip) : heads (applyPaired c) = heads c := by
  unfold applyPaired
  dsimp only
  split
  · rfl
  · rw [heads_forN (fun g c => heads_digRefresh c g), heads_noteEdges, heads_forN, heads_forN]
    · intro g d
      exact heads_foldl (fun d ch => by split <;> simp) _ d
    · intro o d
      split
      · exact heads_modOut ..
      · rfl

@[simp] theorem heads_resetFlush (c : Chip) : heads (resetFlush c) = heads c :=
  (heads_foldl (fun d _ => heads_emit d ..) _ (modReset c fun r => { r with waiting := [], caught := none })).trans
    (heads_setSafety _ _)

@[simp] theorem heads_stnsAbsent (c : Chip) (l : Nat) : heads (stnsAbsent c l) = heads c := by
  have page (b : Nat) : watched (linkPage l) b = false := not_watched (by unfold linkPage; omega) (by unfold linkPage; omega)
  have conds (d : Chip) : heads (linkConds d l) = heads d := by
    unfold linkConds
    simp only [heads_setCond _ _ (page _)]
  rw [stnsAbsent, conds]
  exact heads_foldl (fun d a => heads_modStn d l a _) _ c

/-! ### Loops, heats, crews -/

@[simp] theorem heads_stopCrew (c : Chip) (cr : Crew) : heads (stopCrew c cr) = heads c := by
  have halted (d : Chip) : heads (haltCond d cr) = heads d := by
    cases cr
    · rfl
    · exact heads_setCond _ _ (by decide)
  simp only [stopCrew, halted, apply_ite heads, returnTrims, heads_modCtl, heads_modCrew, modCores, ite_self]

@[simp] theorem heads_stopCrews (c : Chip) : heads (stopCrews c) = heads c := by simp [stopCrews]

@[simp] theorem heads_startCrew (c : Chip) (cr : Crew) : heads (startCrew c cr) = heads c := by
  simp only [startCrew, apply_ite heads, heads_modCtl, heads_modCrew, heads_stopCrew, ite_self]

@[simp] theorem heads_crewTakesOver (c : Chip) (cr : Crew) : heads (crewTakesOver c cr) = heads c := by
  simp only [crewTakesOver, resumeCrew, apply_ite heads, heads_modCtl, heads_modCrew, heads_stopCrew, ite_self]

@[simp] theorem heads_paddleRestore (c : Chip) : heads (paddleRestore c) = heads c := by
  have clean (d : Chip) (cr : Crew) : heads (restoreClean d cr) = heads d := by
    have mem : heads (restoreMem d cr) = heads d := by
      unfold restoreMem
      split <;> simp [modCores]
    unfold restoreClean restoreCtl
    split <;> simp [mem]
  simp only [paddleRestore, apply_ite heads, heads_stopCrew, clean, ite_self]

@[simp] theorem heads_stopSampling (c : Chip) : heads (stopSampling c) = heads c :=
  (heads_setSel _ _).trans (heads_forN (fun e d => heads_modEng d e _) 10 c)

theorem heads_laneTimeoutCond (c : Chip) : heads (laneTimeoutCond c) = heads c := heads_setCond _ _ (by decide)

theorem heads_noLeaderChanges (old : SMap HeatSt) (c : Chip) : heads (noLeaderChanges old c) = heads c := by
  have cond (d : Chip) : heads (noLeaderCond d) = heads d := heads_setCond _ _ (by decide)
  rw [noLeaderChanges, cond]
  refine heads_foldl (fun d x => ?_) old c
  simp only [noLeaderRecord, apply_ite heads, heads_emit, cond, ite_self]

@[simp] theorem heads_startHeats (c : Chip) : heads (startHeats c) = heads c := by
  rw [startHeats, heads_laneTimeoutCond, heads_noLeaderChanges]
  exact heads_foldl (fun d b => heads_modHeat d _ _) _ c

@[simp] theorem heads_startLoops (c : Chip) (e : Nat) : heads (startLoops c e) = heads c := by
  unfold startLoops
  split
  · rfl
  · exact heads_foldl (fun d b => heads_modLoop d e _ _) _ c

theorem heads_startAll (c : Chip) : heads (startHeats (forN 10 (fun e c => startLoops c e) c)) = heads c := by
  rw [heads_startHeats]
  exact heads_forN (fun e d => heads_startLoops d e) 10 c

@[simp] theorem heads_loopsTakeOver (c : Chip) : heads (loopsTakeOver c) = heads c := by
  unfold loopsTakeOver
  dsimp only
  rw [heads_laneTimeoutCond, heads_noLeaderChanges, kept_forN_lt heads, heads_foldl, heads_foldl, heads_startAll]
  · intro d x
    split
    · exact heads_modLoop ..
    · rfl
  · intro d b
    split
    · exact heads_modHeat ..
    · rfl
  · intro e lt d
    have page (b : Nat) : watched (engPage e) b = false :=
      not_watched (by unfold engPage; split <;> omega) (by unfold engPage; split <;> omega)
    exact heads_setCond _ _ (page 1)

theorem heads_sendCommand (c : Chip) (i : Nat) (nA : Int) : heads (sendCommand c i nA) = heads c := by
  have trimmed (x : Int) : heads (trimOut c i x).2 = heads c := by
    unfold trimOut roundFree
    dsimp only
    split <;> rfl
  have down (d : Chip) (k : DownKind) : heads (sendDown d i k) = heads d := by
    unfold sendDown
    split <;> rfl
  simp only [sendCommand, down, trimmed]

@[simp] theorem heads_sinksTakeOver (c : Chip) : heads (sinksTakeOver c) = heads c := by
  have written (d : Chip) (b : Binding) (u : Int) : heads (writeSink d b u) = heads d := by
    unfold writeSink
    split
    · rfl
    · unfold loopCommand
      split
      · rfl
      · rw [heads_sendCommand, heads_modBuf]
    · rfl
    · rfl
  have resumed (d : Chip) (b : Binding) (u : Int) : heads (resumeSink d b u) = heads d := by
    unfold resumeSink
    split
    · split
      · exact heads_modBuf ..
      · rfl
    · exact written ..
  have digital (d : Chip) (ch : Nat) (on : Bool) : heads (sinkDigital d ch on) = heads d := by
    unfold sinkDigital
    split
    · rfl
    · rw [heads_digRefresh, heads_noteEdges, heads_digCommit]
  have loops (d : Chip) (x : Nat × LoopBlock) : heads (resumeLoopSink d x) = heads d := by
    unfold resumeLoopSink
    dsimp only
    split
    · exact digital ..
    · exact resumed ..
  unfold sinksTakeOver
  dsimp only
  rw [heads_foldl, heads_foldl loops]
  intro d b
  split
  · rfl
  · exact resumed ..

/-! ### The change of mode -/

theorem heads_takeSeat (c : Chip) (cause : Nat) (ckpt : Word) : heads (takeSeat c cause ckpt) = heads c := by
  have gap : heads (takeoverGap c cause).2 = heads c := by
    unfold takeoverGap
    split <;> rfl
  simp only [takeSeat, heads_emit, heads_raise _ (show watched 0x28 3 = false by decide), heads_modPairCnt, heads_modSeat, gap]

@[simp] theorem heads_runFromStop (c : Chip) : heads (runFromStop c) = heads c := by
  have seat : heads (seated c) = heads c := by
    simp only [seated, apply_ite heads, heads_canTakeSeat, heads_takeSeat, writeEpoch, heads_modBackup, ite_self]
  have crews : heads (startHeats (forN 10 (fun e c => startLoops c e) (startCrew (startCrew (seated c) .safety) .process)))
      = heads c := by rw [heads_startAll, heads_startCrew, heads_startCrew, seat]
  exact (heads_setSafety _ _).trans crews

theorem heads_commitView (c : Chip) (cr : Crew) : heads (commitView c cr) = heads c := by cases cr <;> rfl

theorem heads_passOn (d : Chip) (x : Img) (k : StrokeSt) : heads (switchesTakeOver (loopsTakeOver (commitView (commitView
    { d with latch := x, stroke := k } .safety) .process))) = heads d := by
  have switches (e : Chip) : heads (switchesTakeOver e) = heads e := heads_forN (fun o d => heads_modOut d o _) 8 e
  rw [switches, heads_loopsTakeOver, heads_commitView, heads_commitView, heads_setLatch]

@[simp] theorem heads_runFromTakeover (c : Chip) : heads (runFromTakeover c) = heads c := by
  have crews : heads (crewTakesOver (crewTakesOver (linkRestarted c) .safety) .process) = heads c := by
    rw [heads_crewTakesOver, heads_crewTakesOver, linkRestarted, heads_modPairCnt, heads_modMirror]
  have taken : heads (takenOver c) = heads c := (heads_passOn ..).trans crews
  exact (heads_sinksTakeOver _).trans ((heads_canTakeSeat _).trans ((heads_takeSeat ..).trans taken))

@[simp] theorem heads_enterStandby (c : Chip) (handed : Bool) (old : Mode) : heads (enterStandby c handed old) = heads c := by
  simp only [enterStandby, sendSyncReq, apply_ite heads, heads_sendRecord, heads_modMirror, heads_modSeat, ite_self]

@[simp] theorem heads_closeAll (c : Chip) (why : Nat) : heads (closeAll c why) = heads c := by
  refine heads_forN (fun s d => ?_) 16 c
  have hosts (e : Chip) (f : HostSt → HostSt) : heads (modHosts e f) = heads e := rfl
  have late (e : Chip) (w : WakeSt) (k : StrokeSt) : heads { e with wake := w, stroke := k } = heads e := rfl
  unfold closeSession
  split
  · rfl
  · simp only [heads_emit, heads_raise _ (show watched 0x72 0 = false by decide), apply_ite heads, hosts, late, ite_self]

theorem heads_modeEntry (c : Chip) (old m : Mode) (row : Nat) : heads (modeEntry c old m row) = heads c := by
  have absent (d : Chip) : heads (forN 32 (fun l c => stnsAbsent c l) d) = heads d :=
    heads_forN (fun l d => heads_stnsAbsent d l) 32 d
  unfold modeEntry
  rw [heads_canSyncAll]
  cases m
  case run => cases old <;> simp only [heads_zwWaiting, heads_zwConds, heads_runFromStop, heads_runFromTakeover]
  case config => simp only [absent, heads_zwWaiting, heads_inhibitGroups, heads_stopCrews, heads_openSafety,
    leaveSeat, heads_modSeat]
  all_goals simp only [heads_zwWaiting, heads_inhibitGroups, heads_stopCrews, heads_openSafety, leaveSeat,
    heads_modSeat, heads_applyPaired, heads_enterStandby, heads_closeAll, heads_resetFlush, heads_outputsOff]

@[simp] theorem heads_pairConds (c : Chip) : heads (pairConds c) = heads c := by
  have cond (d : Chip) {b : Nat} (v : Bool) (own : watched 0x28 b = false) : heads (setCond d 0x28 b v) = heads d :=
    heads_setCond _ _ own
  simp only [pairConds, cond _ _ (show watched 0x28 0 = false by decide), cond _ _ (show watched 0x28 1 = false by decide),
    cond _ _ (show watched 0x28 2 = false by decide), cond _ _ (show watched 0x28 8 = false by decide),
    cond _ _ (show watched 0x28 11 = false by decide), readyChange, apply_ite heads, heads_emit, heads_modPairCnt, ite_self]

theorem heads_changeMode (c : Chip) (m : Mode) (row : Nat) : heads (changeMode c m row) = heads c := by
  have set_ (x : ModeSt) (k : StrokeSt) (a : AttnSt) : heads { c with mode := x, stroke := k, attn := a } = heads c := rfl
  simp only [changeMode, apply_ite heads, heads_emit, heads_setCond _ _ (show watched 4 0 = false by decide), set_, ite_self]

/-- A change of mode leaves the causes and conditions of other operations alone. -/
@[simp] theorem heads_enterMode (c : Chip) (m : Mode) (row : Nat) : heads (enterMode c m row) = heads c := by
  by_cases other : c.mode.mode = m
  · rw [enterMode_of_eq row other]
  · have left : heads (modeLeft c m) = heads c := by
      simp only [modeLeft, leaveStandby, apply_ite heads, heads_stopSampling, heads_modMirror, heads_paddleRestore, ite_self]
    rw [enterMode_of_ne row other, heads_pairConds, heads_modeEntry, heads_changeMode, left]

end Sys2Proof.Machine
end

section
/-!
PROOFS. Newer epochs (R390), and the lease of a standby (R391, R392, R409).
-/
namespace Sys2Proof.Machine
open Safety

/-! ### A newer epoch -/

theorem seat_of_deck {c d : Chip} (h : deck c = deck d) : c.seat = d.seat :=
  (congrArg Chip.seat h : (deck c).seat = (deck d).seat)

theorem seat_of_inner {c d : Chip} (h : inner c = inner d) : c.seat = d.seat := seat_of_deck (deck_of_inner h)

@[simp] theorem pairConds_seat (c : Chip) : (pairConds c).seat = c.seat :=
  (seat_of_inner (inner_pairConds c)).trans (modPairCnt_seat ..)

@[simp] theorem canSyncAll_seat (c : Chip) : (canSyncAll c).seat = c.seat := seat_of_inner (inner_canSyncAll c)

@[simp] theorem sendSyncReq_seat (c : Chip) : (sendSyncReq c).seat = c.seat :=
  (seat_of_inner (inner_sendRecord ..)).trans (modMirror_seat ..)

/-- Entering STANDBY changes nothing of who holds the seat. -/
theorem enterStandby_holds (c : Chip) (handed : Bool) (old : Mode) :
    (enterStandby c handed old).seat.holds = c.seat.holds := by
  simp only [enterStandby, apply_ite Chip.seat, sendSyncReq_seat, modMirror_seat, modSeat_seat, ite_self]

/-- A module that enters STANDBY has left the seat (R390). -/
theorem modeEntry_standby_holds (c : Chip) (old : Mode) (row : Nat) :
    (modeEntry c old .standby row).seat.holds = false := by
  have outputs (d : Chip) : (openSafety (applyPaired d)).seat = d.seat :=
    seat_of_inner ((inner_openSafety _).trans (inner_applyPaired d))
  have crews (d : Chip) : (stopCrews d).seat = d.seat := seat_of_deck (deck_stopCrews d)
  unfold modeEntry
  rw [canSyncAll_seat]
  dsimp only
  rw [outputs, enterStandby_holds, crews]
  rfl

theorem enterMode_standby_holds {c : Chip} (row : Nat) (other : c.mode.mode ≠ .standby) :
    (enterMode c .standby row).seat.holds = false := by
  rw [enterMode_of_ne row other, pairConds_seat, modeEntry_standby_holds]

/-- What a newer epoch raises before the seat goes: the cause and the record (R390). -/
def epochSeen (c : Chip) (src : Nat) (e : Word) : Chip :=
  emit (raise c 0x28 5) 0x28 0x72 src (raise c 0x28 5).backup.epoch e 0 (raise c 0x28 5).stroke.count

theorem newerEpoch_of_seen {c : Chip} (src : Nat) {e : Word} (none_ : c.seat.takeEpoch = none) (pairs : paired c = true)
    (holds : c.seat.holds = true) (newer : c.backup.epoch < e)
    (lets : (c.mode.mode.runs || c.mode.mode == .stop || c.mode.mode == .safeHalt) = true) : newerEpoch c src e =
    if c.mode.mode == .safeHalt then canSyncAll (pairConds (leaveSeat (epochSeen c src e)))
    else enterMode (epochSeen c src e) .standby 18 := by
  have notOld : ¬e ≤ c.backup.epoch := by
    rw [BitVec.lt_def] at newer
    rw [BitVec.le_def]
    omega
  simp only [newerEpoch, none_, pairs, holds, lets, notOld]
  rfl

theorem newerEpoch_of_other {c : Chip} (src : Nat) {e : Word}
    (other : ¬(paired c = true ∧ c.seat.holds = true ∧ c.backup.epoch < e)
      ∨ (c.mode.mode.runs || c.mode.mode == .stop || c.mode.mode == .safeHalt) = false) : newerEpoch c src e = c := by
  refine if_pos ?_
  have old_or (pairs : paired c = true) (holds : c.seat.holds = true) (old : ¬c.backup.epoch < e) : e ≤ c.backup.epoch := by
    rw [BitVec.lt_def] at old
    rw [BitVec.le_def]
    omega
  simp only [Bool.or_eq_true, Bool.not_eq_true', decide_eq_true_eq]
  obtain other | other := other
  · by_cases pairs : paired c = true
    · by_cases holds : c.seat.holds = true
      · exact .inl (.inl (.inr (old_or pairs holds fun newer => other ⟨pairs, holds, newer⟩)))
      · exact .inl (.inl (.inl (by simp [holds])))
    · exact .inl (.inl (.inl (by simp [pairs])))
  · exact .inr other

theorem cause_epochSeen (c : Chip) (src : Nat) (e : Word) : bitOf (hdr (epochSeen c src e) 0x28).cause 5 = true := by
  rw [epochSeen, hdr_emit _ _ _ _ _ _ _ _ (by decide) (by decide)]
  exact bitOf_cause_raise _ _ (by decide)

theorem epochSeen_mode (c : Chip) (src : Nat) (e : Word) : (epochSeen c src e).mode = c.mode := by simp [epochSeen]

/-- Settles O47: the two rows of R390 by the mode, the cause by what a change of mode leaves. -/
theorem newerEpochsTakeTheSeat : Obligations.NewerEpochsTakeTheSeat := by
  intro c src e none_ d seen drives
  have kept : watched 0x28 5 = true := by decide
  refine ⟨fun see drive => ?_, fun see halted => ?_, fun other => ?_⟩
  · obtain ⟨pairs, holds, newer⟩ := see
    have lets : (c.mode.mode.runs || c.mode.mode == .stop || c.mode.mode == .safeHalt) = true := by
      obtain h | h | h := drive <;> rw [h] <;> rfl
    have notHalted : (c.mode.mode == .safeHalt) = false := by
      obtain h | h | h := drive <;> rw [h] <;> rfl
    have leaves : d = enterMode (epochSeen c src e) .standby 18 :=
      (newerEpoch_of_seen src none_ pairs holds newer lets).trans (by rw [notHalted]; rfl)
    have other : (epochSeen c src e).mode.mode ≠ .standby := by
      rw [epochSeen_mode]
      obtain h | h | h := drive <;> rw [h] <;> decide
    have mode := enterMode_mode 18 other
    rw [epochSeen_mode] at mode
    rw [leaves, mode, cause_of_heads (heads_enterMode ..) kept]
    exact ⟨rfl, rfl, enterMode_standby_holds 18 other, cause_epochSeen ..⟩
  · obtain ⟨pairs, holds, newer⟩ := see
    have leaves : d = canSyncAll (pairConds (leaveSeat (epochSeen c src e))) :=
      (newerEpoch_of_seen src none_ pairs holds newer (by rw [halted]; rfl)).trans (by rw [halted]; rfl)
    have same : heads (canSyncAll (pairConds (leaveSeat (epochSeen c src e)))) = heads (epochSeen c src e) := by
      rw [heads_canSyncAll, heads_pairConds, leaveSeat, heads_modSeat]
    rw [leaves, cause_of_heads same kept, canSyncAll_mode, pairConds_mode, leaveSeat_mode, epochSeen_mode, canSyncAll_seat,
      pairConds_seat]
    exact ⟨rfl, rfl, cause_epochSeen ..⟩
  · refine newerEpoch_of_other src (other.imp_right fun h => ?_)
    revert h
    simp only [drives]
    cases c.mode.mode <;> simp [Mode.runs]

/-! ### The lease -/

/-- The mode and the stroke as a change of mode leaves them (R31). -/
def modeChanged (c : Chip) (m : Mode) : Chip :=
  { c with
    mode := { c.mode with mode := m, prev := c.mode.mode, seq := c.mode.seq + 1 }
    stroke := { c.stroke with
      skipRun := if m.runs then c.stroke.skipRun else 0
      phase := if m.strokes then c.stroke.phase else .catch_
      capturing := m.strokes && c.stroke.capturing
      haltAtStrobe := m.strokes && c.stroke.haltAtStrobe } }

theorem inner_setAttn (c : Chip) (a : AttnSt) : inner { c with attn := a } = inner c := rfl

theorem inner_changeMode {c : Chip} {m : Mode} (row : Nat) (other : c.mode.mode ≠ m) :
    inner (changeMode c m row) = inner (modeChanged c m) := by
  simp only [changeMode, if_neg other, inner_emit, apply_ite inner, inner_setCond, ite_self]
  exact inner_setAttn (modeChanged c m) _

/-- A change between modes that neither sample otherwise nor end a reception finds the module as it is. -/
theorem modeLeft_eq {c : Chip} {m : Mode} (stays : c.mode.mode ≠ .standby ∨ m = .takeover)
    (samples : c.mode.mode.runs = false ∨ m.runs = true) : modeLeft c m = c := by
  have noReception : (c.mode.mode == .standby && m != .takeover) = false := by
    obtain h | h := stays <;> simp [h]
  have noSampling : (c.mode.mode.runs && !m.runs) = false := by
    obtain h | h := samples <;> simp [h]
  simp only [modeLeft, noReception, noSampling]
  rfl

theorem inner_modSeat (c : Chip) (f : SeatSt → SeatSt) : inner (modSeat c f) = modSeat (inner c) f := rfl

theorem inner_modPairCnt (c : Chip) (f : PairCnt → PairCnt) : inner (modPairCnt c f) = modPairCnt (inner c) f := rfl

/-- The standby enters TAKEOVER: nothing but the mode, the stroke and the seat's due step change. -/
theorem inner_enterTakeover {c : Chip} (row : Nat) (standby : c.mode.mode = .standby) : ∃ h,
    inner (enterMode c .takeover row) = inner (modPairCnt (modSeat (modeChanged c .takeover) fun s =>
      { s with takeDue := false }) fun p => { p with lastHealth := h }) := by
  have other : c.mode.mode ≠ .takeover := by rw [standby]; decide
  have left : modeLeft c .takeover = c := modeLeft_eq (.inr rfl) (.inl (by rw [standby]; rfl))
  have entry : inner (modeEntry (changeMode c .takeover row) c.mode.mode .takeover row) =
      modSeat (inner (modeChanged c .takeover)) fun s => { s with takeDue := false } := by
    unfold modeEntry
    dsimp only
    rw [inner_canSyncAll, inner_modSeat, inner_changeMode row other]
  exact ⟨health (modeEntry (changeMode c .takeover row) c.mode.mode .takeover row), by
    rw [enterMode_of_ne row other, left, inner_pairConds, inner_modPairCnt, entry, inner_modPairCnt, inner_modSeat]⟩

/-- All of the module that tells whether a standby holds a checkpoint. -/
def ckptView (c : Chip) : Chip :=
  { Chip.reset with rst := c.rst, upd := c.upd, cfg := c.cfg, mirror := c.mirror
                    seat := { SeatSt.reset with partner := c.seat.partner } }

theorem holdsCkpt_ckptView (c : Chip) : holdsCkpt (ckptView c) = holdsCkpt c := rfl

theorem holdsCkpt_enterTakeover {c : Chip} (row : Nat) (standby : c.mode.mode = .standby) :
    holdsCkpt (enterMode c .takeover row) = holdsCkpt c := by
  obtain ⟨h, same⟩ := inner_enterTakeover row standby
  have view : ckptView (inner (enterMode c .takeover row)) = ckptView (inner c) := by rw [same]; rfl
  have inner_view (d : Chip) : ckptView (inner d) = ckptView d := rfl
  rw [← holdsCkpt_ckptView, ← inner_view, view, inner_view, holdsCkpt_ckptView]

theorem leaseExpiry_of_expired {c : Chip} (standby : c.mode.mode = .standby) (expired : leaseStrokes c + 1 ≤ c.seat.leaseMiss) :
    leaseExpiry c = enterTakeover c 24 := by
  have late : ¬c.seat.leaseMiss < leaseStrokes c + 1 := by omega
  simp [leaseExpiry, standby, late]

theorem leaseExpiry_of_running {c : Chip} (other : c.mode.mode ≠ .standby ∨ c.seat.leaseMiss < leaseStrokes c + 1) :
    leaseExpiry c = c := if_pos (by simpa using other)

/-- TAKEOVER is entered with a checkpoint, or left for SAFE_HALT at once without one (R391). -/
theorem enterTakeover_mode {c : Chip} (row : Nat) (standby : c.mode.mode = .standby) :
    (holdsCkpt c = true → (enterTakeover c row).mode.mode = .takeover ∧ (enterTakeover c row).mode.prev = .standby)
      ∧ (holdsCkpt c = false → (enterTakeover c row).mode.mode = .safeHalt ∧ (enterTakeover c row).mode.prev = .takeover
        ∧ bitOf (hdr (enterTakeover c row) 0x28).cause 10 = true) := by
  have entered := enterMode_mode row (show c.mode.mode ≠ .takeover by rw [standby]; decide)
  have holds := holdsCkpt_enterTakeover row standby
  refine ⟨fun held => ?_, fun none_ => ?_⟩
  · have taken : enterTakeover c row = enterMode c .takeover row := if_pos (holds.trans held)
    rw [taken, entered, standby]
    exact ⟨rfl, rfl⟩
  · have fails : enterTakeover c row = enterMode (raise (enterMode c .takeover row) 0x28 10) .safeHalt 29 :=
      if_neg (by rw [holds, none_]; decide)
    have other : (raise (enterMode c .takeover row) 0x28 10).mode.mode ≠ .safeHalt := by
      rw [raise_mode, entered]
      exact (by decide : Mode.takeover ≠ .safeHalt)
    rw [fails, enterMode_mode 29 other, raise_mode, entered, cause_of_heads (heads_enterMode ..) (by decide)]
    exact ⟨rfl, rfl, bitOf_cause_raise _ _ (by decide)⟩

section lease
variable {c : Chip}

theorem leaseJudgment_of_heard (standby : c.mode.mode = .standby) (at_ : c.stroke.phase = .catch_)
    (heard : c.seat.leaseHeard = true) : leaseJudgment c = { c with seat := { c.seat with
      leaseHeard := false, leaseSeen := true, leaseMiss := 0, waited := c.seat.waited + 1, quiet := c.seat.quiet + 1 } } := by
  simp [leaseJudgment, standby, at_, heard, modSeat]

theorem leaseJudgment_of_silence (standby : c.mode.mode = .standby) (at_ : c.stroke.phase = .catch_)
    (silent : c.seat.leaseHeard = false) : leaseJudgment c = { c with seat := { c.seat with
      leaseMiss := if c.seat.leaseSeen then satInc 255 c.seat.leaseMiss else 0, waited := c.seat.waited + 1, quiet := 0 } } := by
  simp [leaseJudgment, standby, at_, silent, modSeat]

theorem leaseJudgment_of_other (other : ¬(c.mode.mode = .standby ∧ c.stroke.phase = .catch_)) : leaseJudgment c = c :=
  if_pos (by simpa [Decidable.imp_iff_not_or] using other)

theorem pairedStageRelease_of_quiet (standby : c.mode.mode = .standby) (quiet : leaseStrokes c + 1 ≤ c.seat.quiet)
    (driven : c.seat.outDriven = true) : pairedStageRelease c =
      applyPaired { c with seat := { c.seat with outDriven := false, outPending := none } } :=
  if_neg (by simp [standby, driven]; omega)

theorem pairedStageRelease_of_other (other : c.mode.mode ≠ .standby ∨ c.seat.quiet < leaseStrokes c + 1
    ∨ c.seat.outDriven = false) : pairedStageRelease c = c := if_pos (by simpa [or_assoc] using other)

end lease

/-- Settles O44: each command by its guard, the expiry by the modes that it enters. -/
theorem leaseCommandsComplete : Obligations.LeaseCommandsComplete := by
  intro s c x limit judged
  refine ⟨fun due heard => ?_, fun due silent seen => ?_, fun due silent unseen => ?_, fun idle => ?_,
    fun standby expired => ?_, fun running => ?_, fun standby quiet driven => ?_, fun idle => ?_, fun due => ?_,
    fun idle => ?_⟩
  case refine_5 =>
    obtain ⟨held, none_⟩ := enterTakeover_mode 24 standby
    refine ⟨after s (enterTakeover c 24), ?_, ?_⟩
    · unfold exec
      exact next_after_congr (leaseExpiry_of_expired standby expired)
    · rw [after_chip, hdr_attnUpdate, attnUpdate_mode]
      exact ⟨held, none_⟩
  all_goals
    unfold exec
    refine next_after_congr ?_
  · exact leaseJudgment_of_heard due.1 due.2 heard
  · exact (leaseJudgment_of_silence due.1 due.2 silent).trans (by rw [if_pos seen])
  · exact (leaseJudgment_of_silence due.1 due.2 silent).trans (by rw [if_neg (ne_true_of_eq_false unseen)])
  · exact leaseJudgment_of_other idle
  · exact leaseExpiry_of_running running
  · exact pairedStageRelease_of_quiet standby quiet driven
  · exact pairedStageRelease_of_other idle
  · exact if_pos due
  · exact if_neg (ne_true_of_eq_false idle)

end Sys2Proof.Machine
end

section
/-!
PROOFS. The mirror, the paddle and the takeover (R406, R415, R416, R421, R422, R429).
-/
namespace Sys2Proof.Machine
open Safety

/-! ### Checkpoints and paddle strokes -/

section mirror
variable {c : Chip} {ck : Ckpt} {rest : List Ckpt}

theorem checkpointApply_of_free (standby : c.mode.mode = .standby) (free : c.mirror.replay = none)
    (oldest : c.mirror.done = ck :: rest) :
    checkpointApply c = applyCkpt (modMirror c fun m => { m with done := rest }) ck := by
  simp [checkpointApply, oldest, standby, free]

theorem checkpointApply_of_other (other : ¬(c.mode.mode = .standby ∧ c.mirror.replay = none) ∨ c.mirror.done = []) :
    checkpointApply c = c := by
  unfold checkpointApply
  split
  · rfl
  · next oldest =>
    refine if_pos ?_
    obtain held | empty := other
    · simpa [Decidable.imp_iff_not_or, Option.isSome_iff_ne_none] using held
    · simp [empty] at oldest

theorem paddleReplay_of_due (standby : c.mode.mode = .standby) (free : c.mirror.replay = none)
    (phase : c.stroke.phase = .recovery) (captured : c.stroke.capturing = false) (oldest : c.mirror.done = ck :: rest)
    (recorded : ck.paddle = true) : paddleReplay c = replayCrew (replayCrew (modMirror c fun m =>
      { m with replay := some ck, done := rest }) .safety ck 0) .process ck 1 := by
  simp [paddleReplay, oldest, standby, free, phase, captured, recorded]

theorem paddleReplay_of_other (other : ¬(c.mode.mode = .standby ∧ c.mirror.replay = none) ∨ c.stroke.phase ≠ .recovery
    ∨ c.stroke.capturing = true ∨ c.mirror.done = [] ∨ (c.mirror.done = ck :: rest ∧ ck.paddle = false)) :
    paddleReplay c = c := by
  unfold paddleReplay
  split
  · rfl
  · next oldest =>
    refine if_pos ?_
    simp only [oldest, List.cons.injEq, reduceCtorEq, false_or] at other
    obtain held | phase | capturing | ⟨⟨rfl, -⟩, plain⟩ := other
    · have held : ¬c.mode.mode = .standby ∨ ¬c.mirror.replay = none := Classical.not_and_iff_not_or_not.mp held
      obtain held | held := held
      · simp [held]
      · simp [Option.isSome_iff_ne_none.mpr held]
    · simp [phase]
    · simp [capturing]
    · simp [plain]

/-- A replay that ends, whatever it shows (R422). -/
def replayClosed (c : Chip) (ck : Ckpt) : Chip :=
  modMirror (paddleRestore c) fun m => { m with replay := none, done := ck :: m.done, runs := satInc 0xFFFF m.runs }

section replay
variable (running : c.mirror.replay = some ck)
include running

theorem paddleReplayEnd_of_fault (faulted : (c.crewS.cores.any (·.faulted) || c.crewP.cores.any (·.faulted)) = true) :
    paddleReplayEnd c = checkpointApply (paddleFail (replayClosed c ck) 6 ck.stroke 0) := by
  simp only [paddleReplayEnd, running, faulted, if_true, paddleAbandon]
  rfl

theorem paddleReplayEnd_of_open (sound : (c.crewS.cores.any (·.faulted) || c.crewP.cores.any (·.faulted)) = false)
    (opened : replayEnded c = false) : paddleReplayEnd c = c := by
  simp [paddleReplayEnd, running, sound, opened]

theorem paddleReplayEnd_of_same (sound : (c.crewS.cores.any (·.faulted) || c.crewP.cores.any (·.faulted)) = false)
    (ended : replayEnded c = true) (same : paddleDiff c ck = none) : paddleReplayEnd c = checkpointApply
      (pairConds (modMirror (replayClosed c ck) fun m => { m with result := 1, paddleOk := true })) := by
  simp only [paddleReplayEnd, running, sound, ended, same]
  rfl

theorem paddleReplayEnd_of_diff {n : Nat} {w : Word}
    (sound : (c.crewS.cores.any (·.faulted) || c.crewP.cores.any (·.faulted)) = false)
    (ended : replayEnded c = true) (differs : paddleDiff c ck = some (n, w)) :
    paddleReplayEnd c = checkpointApply (paddleFail (replayClosed c ck) n ck.stroke w) := by
  simp only [paddleReplayEnd, running, sound, ended, differs]
  rfl

end replay

theorem paddleReplayEnd_of_none (none_ : c.mirror.replay = none) : paddleReplayEnd c = c := by
  simp only [paddleReplayEnd, none_]

end mirror

theorem mirror_of_deck {c d : Chip} (h : deck c = deck d) : c.mirror = d.mirror :=
  (congrArg Chip.mirror h : (deck c).mirror = (deck d).mirror)

@[simp] theorem pairConds_mirror (c : Chip) : (pairConds c).mirror = c.mirror :=
  (mirror_of_deck (deck_of_inner (inner_pairConds c))).trans (modPairCnt_mirror ..)

theorem paddleFail_mirror (c : Chip) (n : Nat) (st w : Word) : (paddleFail c n st w).mirror = { c.mirror with
    fails := satInc 255 c.mirror.fails, result := n, paddleOk := false, whole := false, succession := 0 } := by
  simp [paddleFail]

theorem cause_paddleFail (c : Chip) (n : Nat) (st w : Word) : bitOf (hdr (paddleFail c n st w) 0x28).cause 7 = true := by
  unfold paddleFail
  rw [cause_of_heads (heads_pairConds _) (by decide)]
  exact bitOf_cause_raise _ _ (by decide)

theorem mirrorCommandsTakeEffect : Claims.MirrorCommandsComplete := by
  intro s ck rest c taken free ended faulted
  refine ⟨fun at_ oldest => ?_, fun other => ?_, fun at_ phase captured oldest recorded => ?_, fun other => ?_,
    fun running sound closes same => ?_, fun n w running sound closes differs => ?_, fun running faults => ?_,
    fun idle => ?_, fun n st w => ?_⟩
  case refine_9 =>
    intro d
    rw [paddleFail_mirror]
    exact ⟨rfl, rfl, rfl, rfl, cause_paddleFail ..⟩
  all_goals
    unfold exec
    refine next_after_congr ?_
  · exact checkpointApply_of_free at_.1 at_.2 oldest
  · exact checkpointApply_of_other other
  · exact paddleReplay_of_due at_.1 at_.2 phase captured oldest recorded
  · exact paddleReplay_of_other other
  · exact paddleReplayEnd_of_same running (eq_false_of_ne_true sound) closes same
  · exact paddleReplayEnd_of_diff running (eq_false_of_ne_true sound) closes differs
  · exact paddleReplayEnd_of_fault running faults
  · obtain none_ | ⟨sound, opened⟩ := idle
    · exact paddleReplayEnd_of_none none_
    · cases running : c.mirror.replay with
      | none => exact paddleReplayEnd_of_none running
      | some x => exact paddleReplayEnd_of_open running (eq_false_of_ne_true sound) opened

/-! ### TAKEOVER -/

section takeover
variable {c : Chip} (here : c.mode.mode = .takeover) (begins : c.seat.takeDue = false) (free : c.mirror.replay = none)
include here begins free

theorem takeover_of_none (none_ : holdsCkpt (applyAll c) = false) :
    takeover c = enterMode (raise (applyAll c) 0x28 10) .safeHalt 29 := by
  simp [takeover, here, begins, free, none_, takeoverFails]

theorem takeover_of_exhausted (held : holdsCkpt (applyAll c) = true) (own : (applyAll c).seat.byHandover = false)
    (used : exhausted (applyAll c) = true) : takeover c = enterMode (applyAll c) .safeHalt 29 := by
  simp [takeover, here, begins, free, held, own, used, takeoverFails]

theorem takeover_of_epoch (held : holdsCkpt (applyAll c) = true) (own : (applyAll c).seat.byHandover = false)
    (room : exhausted (applyAll c) = false) :
    takeover c = modSeat (writeEpoch (applyAll c)) fun y => { y with takeDue := true } := by
  simp [takeover, here, begins, free, held, own, room]

theorem takeover_of_handover (held : holdsCkpt (applyAll c) = true) (handed : (applyAll c).seat.byHandover = true) :
    takeover c = modSeat (applyAll c) fun y => { y with takeDue := true } := by
  simp [takeover, here, begins, free, held, handed]

end takeover

theorem takeoverCompletes : Claims.TakeoverCompletes := by
  intro s c d due ready
  refine ⟨fun at_ none_ => ?_, fun at_ held own used => ?_, fun at_ held own room => ?_, fun at_ held handed => ?_,
    fun other => ?_⟩
  all_goals
    unfold exec
    refine next_after_congr ?_
  · obtain ⟨here, begins, free⟩ := at_
    exact takeover_of_none here begins free none_
  · obtain ⟨here, begins, free⟩ := at_
    exact takeover_of_exhausted here begins free held own used
  · obtain ⟨here, begins, free⟩ := at_
    exact takeover_of_epoch here begins free held own room
  · obtain ⟨here, begins, free⟩ := at_
    exact takeover_of_handover here begins free held handed
  · exact if_pos (by simpa using other)

/-! ### The seat at the tick (R416, R429) -/

theorem takeSeat_seat (c : Chip) (cause : Nat) (ckpt : Word) :
    (takeSeat c cause ckpt).seat.holds = true ∧ (takeSeat c cause ckpt).seat.takeDue = false := by
  simp [takeSeat]

theorem bare_takeoverGap (c : Chip) (cause : Nat) : bare (takeoverGap c cause).2 = bare c := by
  unfold takeoverGap
  split <;> rfl

/-- The parts of the module that tell of its seat, its epoch and its coxes. -/
def seatView (c : Chip) : Chip :=
  { Chip.reset with mode := c.mode, seat := c.seat, backup := { BackupSt.zero with epoch := c.backup.epoch }
                    pairCnt := { PairCnt.reset with takeCount := c.pairCnt.takeCount, takeCause := c.pairCnt.takeCause }
                    coxSafety := c.coxSafety, coxProcess := c.coxProcess }

theorem seatView_deck (c : Chip) : seatView (deck c) = seatView c := rfl

theorem seatView_of_deck {c d : Chip} (h : deck c = deck d) : seatView c = seatView d := by
  rw [← seatView_deck c, h, seatView_deck]

theorem seatView_of_inner {c d : Chip} (h : inner c = inner d) : seatView c = seatView d :=
  seatView_of_deck (deck_of_inner h)

theorem seat_of_view {c d : Chip} (h : seatView c = seatView d) : c.seat = d.seat :=
  (congrArg Chip.seat h : (seatView c).seat = (seatView d).seat)

/-- A module that takes the seat (R416, R429): it holds it, and its takings are counted with their cause. -/
def seatTaken (cause : Nat) (c : Chip) : Chip :=
  modPairCnt (modSeat c fun s => { s with
    holds := true, handover := false, offers := 0, haltRow := none, takeEpoch := none, takeSent := false
    takeDue := false, lastStrobe := none, outDriven := false, outPending := none })
    fun p => { p with takeCount := satInc 0xFFFF p.takeCount, takeCause := cause }

theorem seatView_takeSeat (c : Chip) (cause : Nat) (ckpt : Word) :
    seatView (takeSeat c cause ckpt) = seatView (seatTaken cause (seatView c)) := by
  have gap : seatView (takeoverGap c cause).2 = seatView c := seatView_of_inner (inner_of_bare (bare_takeoverGap c cause))
  rw [← gap]
  unfold takeSeat
  obtain ⟨n, d⟩ := takeoverGap c cause
  dsimp only
  rw [seatView_of_inner ((inner_emit ..).trans (inner_raise ..))]
  rfl

theorem seatView_runFromTakeover (c : Chip) : seatView (runFromTakeover c) =
    seatView (seatTaken (if c.seat.byHandover then 2 else 1) (seatView c)) := by
  obtain ⟨k, same⟩ := deck_takenOver c
  have links : seatView { linkRestarted c with stroke := k } = seatView c := rfl
  have passed : seatView (takenOver c) = seatView c := (seatView_of_deck same).trans links
  rw [seatView_of_inner (inner_runFromTakeover c), seatView_takeSeat, passed, seat_of_view passed]

theorem seatView_lastHealth (c : Chip) (h : Word) :
    seatView (modPairCnt c fun p => { p with lastHealth := h }) = seatView c := rfl

theorem seatView_pairConds (c : Chip) : seatView (pairConds c) = seatView c :=
  (seatView_of_inner (inner_pairConds c)).trans (seatView_lastHealth c _)

theorem seatView_enterRun {c : Chip} (here : c.mode.mode = .takeover) : seatView (enterMode c .run 28) =
    seatView (seatTaken (if c.seat.byHandover then 2 else 1) (seatView (modeChanged c .run))) := by
  have other : c.mode.mode ≠ .run := by rw [here]; decide
  have left : modeLeft c .run = c := modeLeft_eq (.inl (by rw [here]; decide)) (.inr rfl)
  have changed : seatView (changeMode c .run 28) = seatView (modeChanged c .run) := seatView_of_inner (inner_changeMode 28 other)
  have seat : (changeMode c .run 28).seat = c.seat := (seat_of_view changed).trans rfl
  rw [enterMode_of_ne 28 other, left, here, seatView_pairConds]
  unfold modeEntry
  dsimp only
  rw [seatView_of_inner ((inner_canSyncAll _).trans (inner_zwConds _)), seatView_runFromTakeover, changed, seat]

theorem crewFaulty_seatView (c : Chip) : crewFaulty (seatView c) = crewFaulty c := rfl

theorem crewFaulty_of_view {c d : Chip} (h : seatView c = seatView d) : crewFaulty c = crewFaulty d := by
  rw [← crewFaulty_seatView c, h, crewFaulty_seatView]

theorem crewFaulty_seatTaken (cause : Nat) (c : Chip) : crewFaulty (seatTaken cause c) = crewFaulty c := rfl

theorem crewFaulty_modeChanged (c : Chip) (m : Mode) : crewFaulty (modeChanged c m) = crewFaulty c := rfl

/-- What a module shows once it has taken the seat on its change to mode `m`. -/
theorem shown_of_view {c d : Chip} {cause : Nat} {m : Mode}
    (h : seatView d = seatView (seatTaken cause (seatView (modeChanged c m)))) :
    d.mode.mode = m ∧ d.mode.prev = c.mode.mode ∧ d.seat.holds = true ∧ d.seat.takeDue = false
      ∧ d.backup.epoch = c.backup.epoch ∧ d.pairCnt.takeCause = cause
      ∧ d.pairCnt.takeCount = satInc 0xFFFF c.pairCnt.takeCount ∧ crewFaulty d = crewFaulty c :=
  ⟨congrArg (·.mode.mode) h, congrArg (·.mode.prev) h, congrArg (·.seat.holds) h, congrArg (·.seat.takeDue) h,
    congrArg (·.backup.epoch) h, congrArg (·.pairCnt.takeCause) h, congrArg (·.pairCnt.takeCount) h,
    (crewFaulty_of_view h).trans ((crewFaulty_seatTaken ..).trans
      ((crewFaulty_seatView _).trans (crewFaulty_modeChanged ..)))⟩

theorem seatIsTakenAtTheTick : Claims.SeatIsTakenAtTheTick := by
  intro c here sound d
  refine ⟨fun due => ?_, fun idle => if_pos (by simp [idle])⟩
  have view : seatView (baseLines (enterMode c .run 28)) = _ := seatView_enterRun here
  obtain ⟨mode, prev, holds, done, epoch, cause, count, faulty⟩ := shown_of_view view
  have entered : d = baseLines (enterMode c .run 28) := by
    simp only [d, seatEntered, here, due]
    exact if_neg (ne_true_of_eq_false (faulty.trans sound))
  rw [entered]
  exact ⟨mode, prev.trans here, holds, done, epoch, cause, count⟩

/-- Settles O45: each command by its guard, the tick by what the change to RUN leaves of the seat. -/
theorem mirrorCommandsComplete : Obligations.MirrorCommandsComplete :=
  ⟨mirrorCommandsTakeEffect, takeoverCompletes, seatIsTakenAtTheTick⟩

end Sys2Proof.Machine
end

section
/-!
PROOFS. The other commands of the pair (R388 to R390, R395, R398, R417 to R419, R423): which of its branches each takes.
-/
namespace Sys2Proof.Machine
open Safety

/-! ### Beacons -/

/-- A beacon's epoch joins the highest seen. -/
def beaconSeen (c : Chip) (e : Word) : Chip :=
  modSeat c fun s => { s with beaconEpoch := if s.beaconEpoch < e then e else s.beaconEpoch }

/-- What a beacon of the other side says of the partner (R389): role, lease and epoch. -/
def beaconHeard (c : Chip) (role : Nat) (e : Word) : Chip :=
  heardEpoch (modSeat c fun s => { s with
    partnerRole := role
    leaseHeard := s.leaseHeard || (role == 1 && decide (c.backup.epoch ≤ e)) }) e

theorem heardEpoch_seat (c : Chip) (e : Word) : (heardEpoch c e).seat = c.seat := rfl

theorem beaconReceive_of_heard {c : Chip} {net : Nat} {bs : List Byte} (lan : net < 2)
    (hears : pairOn c = true ∧ netServes c net = true ∧ beaconOk c bs = true) : beaconReceive c net bs =
    newerEpoch (if beAt bs 3 1 = b2n (sideB c)
        then beaconSeen c (BitVec.ofNat 32 (beAt bs 8 4))
      else
        let d := beaconHeard (beaconSeen c (BitVec.ofNat 32 (beAt bs 8 4))) (beAt bs 6 1) (BitVec.ofNat 32 (beAt bs 8 4))
        if (beAt bs 6 1 = 2 && d.seat.holds) = true then partnerReports d (BitVec.ofNat 32 (beAt bs 12 4)) else d)
      1 (BitVec.ofNat 32 (beAt bs 8 4)) := by
  obtain ⟨on, serves, good⟩ := hears
  unfold beaconReceive
  rw [on, serves, good, if_neg (by simpa using lan)]
  rfl

theorem beaconReceive_of_unheard {c : Chip} {net : Nat} {bs : List Byte}
    (unheard : ¬(pairOn c = true ∧ netServes c net = true ∧ beaconOk c bs = true)) : beaconReceive c net bs = c := by
  unfold beaconReceive
  refine if_pos ?_
  simp only [Bool.or_eq_true, Bool.not_eq_true', decide_eq_true_eq, or_assoc]
  simp only [Classical.not_and_iff_not_or_not, Bool.not_eq_true] at unheard
  exact .inr unheard

/-! ### OFFER -/

/-- What an OFFER waits for in a recovery (R417). -/
def MayOffer (c : Chip) : Prop :=
  c.seat.handover = true ∧ c.seat.holds = true ∧ (c.mode.mode.runs = true ∨ c.mode.mode = .stop)
    ∧ c.stroke.phase = .recovery ∧ c.stroke.capturing = false ∧ c.stroke.count ≠ c.seat.handoverAfter
    ∧ c.mirror.streamed.head?.map (·.1) = some c.stroke.count ∧ c.seat.offers < 16

theorem offer_guard (c : Chip) : (!(handsOver c && c.stroke.phase == .recovery)
      || c.stroke.capturing || c.stroke.count = c.seat.handoverAfter
      || lastStreamed c ≠ some c.stroke.count || 16 ≤ c.seat.offers) = true ↔ ¬MayOffer c := by
  rw [MayOffer, handsOver, lastStreamed]
  simp only [Bool.or_eq_true, Bool.not_eq_true', Bool.and_eq_false_iff, Bool.or_eq_false_iff, beq_eq_false_iff_ne,
    decide_eq_true_eq, Classical.not_and_iff_not_or_not, not_or, Bool.not_eq_true, Bool.not_eq_false, ne_eq, Nat.not_lt, Classical.not_not, or_assoc]

theorem offer_of_may {c : Chip} (may : MayOffer c) : offer c = sendRecord (modSeat c fun x => { x with
    offers := x.offers + 1, handoverAfter := c.stroke.count }) 0x20 c.stroke.count
      (beBytes 4 c.stroke.count.toNat ++ List.replicate 12 0) :=
  if_neg (mt (offer_guard c).mp (not_not_intro may))

theorem offer_of_not {c : Chip} (may : ¬MayOffer c) : offer c = c := if_pos ((offer_guard c).mpr may)

/-! ### HELLO, the lanes and the partner -/

theorem sendHello_eq (c : Chip) : sendHello c =
    if c.mode.mode = .standby ∧ c.mirror.syncSent = true then
      sendSyncReq (sendRecord c 0x01 (recStroke c) (helloPayload c))
    else sendRecord c 0x01 (recStroke c) (helloPayload c) := by
  have kept := inner_sendRecord c 0x01 (recStroke c) (helloPayload c)
  unfold sendHello
  dsimp only
  rw [mode_of_inner kept, mirror_of_deck (deck_of_inner kept)]
  exact ite_congr (propext (by rw [Bool.and_eq_true, beq_iff_eq])) (fun _ => rfl) (fun _ => rfl)

theorem laneDown_of_works {c : Chip} (n : Fin 2) (works : lanesWork c = true) : laneDown c n =
    pairConds (modSeat c fun x => { x with laneUp := x.laneUp &&& ~~~(1#2 <<< (n : Nat)) }) := by
  unfold laneDown
  rw [works, if_neg (by simpa using n.isLt)]

theorem laneDown_of_not {c : Chip} (n : Nat) (works : lanesWork c = false) : laneDown c n = c := by
  unfold laneDown
  rw [works, if_pos (by simp)]

theorem laneUpAgain_of_down {c : Chip} (n : Fin 2) (works : lanesWork c = true)
    (down : c.seat.laneUp.getLsbD n = false) : laneUpAgain c n =
    pairConds (sendHello (modSeat c fun x => { x with laneUp := x.laneUp ||| (1#2 <<< (n : Nat)) })) := by
  unfold laneUpAgain
  rw [works, down, if_neg (by simpa using n.isLt)]

theorem laneUpAgain_of_up {c : Chip} {n : Nat} (up : c.seat.laneUp.getLsbD n = true) : laneUpAgain c n = c := by
  unfold laneUpAgain
  rw [up, if_pos (by simp)]

theorem laneUpAgain_of_not {c : Chip} (n : Nat) (works : lanesWork c = false) : laneUpAgain c n = c := by
  unfold laneUpAgain
  rw [works, if_pos (by simp)]

theorem lost_guard (c : Chip) : (!pairOn c || c.seat.lost || c.seat.silent < leaseStrokes c) = true
    ↔ ¬(pairOn c = true ∧ c.seat.lost = false ∧ leaseStrokes c ≤ c.seat.silent) := by
  simp only [Bool.or_eq_true, Bool.not_eq_true', decide_eq_true_eq, Classical.not_and_iff_not_or_not, Bool.not_eq_true, Bool.not_eq_false,
    Nat.not_le, or_assoc]

theorem partnerLost_of_lost {c : Chip} {h : Hello} (known : c.seat.partner = some h)
    (lost : pairOn c = true ∧ c.seat.lost = false ∧ leaseStrokes c ≤ c.seat.silent) :
    partnerLost c = pairConds (partnerState (modSeat c fun x => { x with lost := true }) 0 h) := by
  unfold partnerLost
  rw [known]
  exact if_neg (mt (lost_guard c).mp (not_not_intro lost))

theorem partnerLost_of_unknown {c : Chip} (known : c.seat.partner = none) : partnerLost c = c := by
  unfold partnerLost
  rw [known]

theorem partnerLost_of_not {c : Chip}
    (lost : ¬(pairOn c = true ∧ c.seat.lost = false ∧ leaseStrokes c ≤ c.seat.silent)) : partnerLost c = c := by
  cases known : c.seat.partner with
  | none => exact partnerLost_of_unknown known
  | some h =>
    unfold partnerLost
    rw [known]
    exact if_pos ((lost_guard c).mpr lost)

theorem selftest_of_standby {c : Chip} (n : Fin 8) (ok : Bool) (stands : c.mode.mode = .standby) : selftest c n ok =
    pairConds (modMirror c fun m => { m with selftestFails :=
      if (if (n : Nat) = 4 then linkClean c else if (n : Nat) = 5 then !cellLow c
        else if (n : Nat) = 7 then sensorsOk c else ok) = true
      then m.selftestFails &&& ~~~(1#8 <<< (n : Nat)) else m.selftestFails ||| (1#8 <<< (n : Nat)) }) := by
  unfold selftest
  rw [stands, if_neg (by simp)]

theorem selftest_of_not {c : Chip} (n : Nat) (ok : Bool) (stands : c.mode.mode ≠ .standby) : selftest c n ok = c := by
  unfold selftest
  rw [if_pos (by simp [stands])]

/-- Settles O48: each command takes the branch that its conditions say. -/
theorem pairCommandsComplete : Obligations.PairCommandsComplete := by
  unfold Obligations.PairCommandsComplete
  intro s net n bs test ok h
  dsimp only
  refine ⟨?_, ?_, ?_, ?_, ?_, ?_, ?_, ?_, ?_, ?_, ?_, ?_, ?_, ?_⟩
  · intro hears own
    unfold exec
    refine next_after_congr ?_
    exact (beaconReceive_of_heard net.isLt hears).trans (by rw [if_pos own]; rfl)
  · intro hears other
    unfold exec
    refine next_after_congr ?_
    refine (beaconReceive_of_heard net.isLt hears).trans ?_
    rw [if_neg other]
    exact congrArg (newerEpoch · _ _) (ite_congr (propext (by simp [beaconHeard, heardEpoch_seat, beaconSeen])) (fun _ => rfl) (fun _ => rfl))
  · intro unheard
    unfold exec
    exact next_after_congr (beaconReceive_of_unheard unheard)
  · unfold exec
    exact next_after_congr (sendHello_eq _)
  · intro may
    unfold exec
    exact next_after_congr (offer_of_may may)
  · intro may
    unfold exec
    exact next_after_congr (offer_of_not may)
  · intro works
    unfold exec
    exact next_after_congr (laneDown_of_works n works)
  · intro works down
    unfold exec
    exact next_after_congr (laneUpAgain_of_down n works down)
  · intro up
    unfold exec
    exact next_after_congr (laneUpAgain_of_up up)
  · intro works
    unfold exec
    exact ⟨next_after_congr (laneDown_of_not n works), next_after_congr (laneUpAgain_of_not n works)⟩
  · intro known lost
    unfold exec
    exact next_after_congr (partnerLost_of_lost known lost)
  · intro unknown
    unfold exec
    exact next_after_congr (unknown.elim partnerLost_of_unknown partnerLost_of_not)
  · intro stands
    unfold exec
    exact next_after_congr (selftest_of_standby test ok stands)
  · intro stands
    unfold exec
    exact next_after_congr (selftest_of_not test ok stands)

end Sys2Proof.Machine
end

section
/-!
PROOFS. Records of the pair links (R385, R390, R391, R394 to R397, R402, R404, R405, R408, R417, R424).
-/
namespace Sys2Proof.Machine
open Safety

/-! ### Taking a record, or discarding it -/

/-- The module once a record has come: the silence is over, and the epoch has been heard (R394, R395). -/
def recordHeard (c : Chip) (e : Word) : Chip := heardEpoch (modSeat c fun s => { s with silent := 0 }) e

section receive
variable {c : Chip} {type : Nat} {bs : List Byte} {f : Chip → ARec → Chip}

theorem receiveRecord_of_noLink (link : ¬(pairOn c = true ∧ c.seat.laneUp ≠ 0)) : receiveRecord c type bs f = c := by
  refine if_pos ?_
  simp only [Bool.or_eq_true, Bool.not_eq_true', decide_eq_true_eq]
  rwa [Classical.not_and_iff_not_or_not, Bool.not_eq_true, ne_eq, Classical.not_not] at link

theorem link_guard (link : pairOn c = true ∧ c.seat.laneUp ≠ 0) : ¬(!pairOn c || c.seat.laneUp = 0) = true := by
  rw [link.1, decide_eq_false link.2]
  decide

theorem discardRecord_of_link (link : pairOn c = true ∧ c.seat.laneUp ≠ 0) : discardRecord c = modPairCnt c fun p => { p with
    crcErrors := satInc 0xFFFF p.crcErrors, crcStrokes := (c.stroke.count :: p.crcStrokes).take 17 } :=
  if_neg (link_guard link)

theorem discardRecord_of_noLink (link : ¬(pairOn c = true ∧ c.seat.laneUp ≠ 0)) : discardRecord c = c := by
  refine if_pos ?_
  simp only [Bool.or_eq_true, Bool.not_eq_true', decide_eq_true_eq]
  rwa [Classical.not_and_iff_not_or_not, Bool.not_eq_true, ne_eq, Classical.not_not] at link

theorem receiveRecord_of_unread (link : pairOn c = true ∧ c.seat.laneUp ≠ 0) (unread : readRecord type bs = none) :
    receiveRecord c type bs f = modPairCnt c fun p => { p with
      crcErrors := satInc 0xFFFF p.crcErrors, crcStrokes := (c.stroke.count :: p.crcStrokes).take 17 } := by
  unfold receiveRecord
  rw [if_neg (link_guard link), unread]
  exact discardRecord_of_link link

theorem receiveRecord_of_read {r : ARec} (on : pairOn c = true) (up : c.seat.laneUp ≠ 0)
    (read : readRecord type bs = some r) : receiveRecord c type bs f = f (recordHeard c r.epoch) r := by
  unfold receiveRecord
  rw [if_neg (link_guard ⟨on, up⟩), read]
  rfl

end receive

theorem recordsAreTakenOrCounted : Claims.RecordsAreTakenOrCounted := by
  intro s bs n b
  dsimp only
  refine ⟨?_, ?_, ?_, ?_, ?_, ?_, ?_, ?_, ?_, ?_, ?_, ?_⟩
  case refine_11 => exact fun link => by unfold exec; exact next_after_congr (discardRecord_of_link link)
  case refine_12 => exact fun link => by unfold exec; exact next_after_congr (discardRecord_of_noLink link)
  all_goals
    unfold exec
    exact ⟨fun link => next_after_congr (receiveRecord_of_noLink link),
      fun link unread => next_after_congr (receiveRecord_of_unread link unread)⟩

/-! ### What each record does -/

section records
variable {c : Chip} {bs : List Byte} {r : ARec} (on : pairOn c = true) (up : c.seat.laneUp ≠ 0)
include on up

theorem leaseReceive_of_read (read : readRecord 0x02 bs = some r) : leaseReceive c bs =
    newerEpoch (if c.mode.mode = .standby then
      rxDeadline (modMirror (modSeat (recordHeard c r.epoch) fun x => { x with
          leaseHeard := x.leaseHeard || decide (c.backup.epoch ≤ r.epoch) })
        fun m => { m with skew := c.stroke.count - r.stroke }) r.stroke
      else modSeat (recordHeard c r.epoch) fun x => { x with
        leaseHeard := x.leaseHeard || decide (c.backup.epoch ≤ r.epoch) }) 0 r.epoch :=
  receiveRecord_of_read on up read

theorem ackReceive_of_other (read : readRecord 0x03 bs = some r) (other : c.seat.holds = false) :
    ackReceive c bs = recordHeard c r.epoch :=
  (receiveRecord_of_read on up read).trans (if_pos (by rw [recordHeard, heardEpoch_seat, modSeat_seat, other]; rfl))

/-- The stroke that an ACK confirms, and whether it is none or known already. -/
theorem ackReceive_of_holder (read : readRecord 0x03 bs = some r) (holds : c.seat.holds = true) : ackReceive c bs =
    partnerReports (if BitVec.ofNat 32 (beAt r.payload 0 4) = 0
        ∨ c.pairCnt.acked = some (BitVec.ofNat 32 (beAt r.payload 0 4)) then recordHeard c r.epoch
      else modMirror (modPairCnt (recordHeard c r.epoch) fun p => { p with
        acked := some (BitVec.ofNat 32 (beAt r.payload 0 4)) }) fun m => { m with
          age := 0, lastStroke := BitVec.ofNat 32 (beAt r.payload 0 4) }) (BitVec.ofNat 32 (beAt r.payload 4 4)) := by
  refine (receiveRecord_of_read on up read).trans ?_
  refine (if_neg (by rw [recordHeard, heardEpoch_seat, modSeat_seat, holds]; decide)).trans ?_
  refine congrArg (partnerReports · _) (ite_congr (propext ?_) (fun _ => rfl) (fun _ => rfl))
  rw [Bool.or_eq_true, decide_eq_true_eq, beq_iff_eq]
  rfl

/-- The epoch below which an OUTPUT record is stale. -/
def outputFloor (c : Chip) : Word := if c.backup.epoch < c.backup.partnerEpoch then c.backup.partnerEpoch else c.backup.epoch

/-- The outputs of an OUTPUT record. -/
def outputOf (p : List Byte) : OutStates :=
  ⟨BitVec.ofNat 48 (beAt p 0 8), BitVec.ofNat 8 (beAt p 8 1), BitVec.ofNat 8 (beAt p 9 1)⟩

theorem outputReceive_of_read (read : readRecord 0x04 bs = some r) (b : Bool) : outputReceive c bs b =
    if (!(c.mode.mode == .standby || c.mode.mode == .takeover)
        || decide (r.epoch < outputFloor (recordHeard c r.epoch))) = true then recordHeard c r.epoch
    else if b = true then modSeat (recordHeard c r.epoch) fun x => { x with
      quiet := 0, outPending := some (outputOf r.payload), lastStrobe := some r.stroke }
    else applyPaired (modSeat (recordHeard c r.epoch) fun x => { x with
      quiet := 0, outDriven := true, outStates := outputOf r.payload, outPending := none }) :=
  receiveRecord_of_read on up read

theorem outputReceive_of_due (read : readRecord 0x04 bs = some r)
    (follows : c.mode.mode = .standby ∨ c.mode.mode = .takeover) (fresh : outputFloor (recordHeard c r.epoch) ≤ r.epoch)
    (b : Bool) : outputReceive c bs b =
    if b = true then modSeat (recordHeard c r.epoch) fun x => { x with
      quiet := 0, outPending := some (outputOf r.payload), lastStrobe := some r.stroke }
    else applyPaired (modSeat (recordHeard c r.epoch) fun x => { x with
      quiet := 0, outDriven := true, outStates := outputOf r.payload, outPending := none }) := by
  have notLess : ¬r.epoch < outputFloor (recordHeard c r.epoch) := by
    rw [BitVec.lt_def]
    rw [BitVec.le_def] at fresh
    omega
  have follows' : (c.mode.mode == .standby || c.mode.mode == .takeover) = true := by simpa using follows
  rw [outputReceive_of_read on up read, follows', decide_eq_false notLess]
  rfl

theorem outputReceive_of_stale (read : readRecord 0x04 bs = some r)
    (stale : ¬(c.mode.mode = .standby ∨ c.mode.mode = .takeover) ∨ r.epoch < outputFloor (recordHeard c r.epoch))
    (b : Bool) : outputReceive c bs b = recordHeard c r.epoch := by
  refine (outputReceive_of_read on up read b).trans (if_pos ?_)
  rw [Bool.or_eq_true, Bool.not_eq_true', decide_eq_true_eq]
  exact stale.imp_left fun h => by simpa using h

theorem takeReceive_of_read (read : readRecord 0x21 bs = some r) : takeReceive c bs =
    if (handsOver c && c.stroke.phase == .recovery && c.seat.offers != 0 && c.seat.handoverAfter == c.stroke.count
        && BitVec.ofNat 32 (beAt r.payload 4 4) == c.stroke.count) = true then
      modSeat (recordHeard c r.epoch) fun x => { x with takeEpoch := some (BitVec.ofNat 32 (beAt r.payload 0 4)) }
    else newerEpoch (recordHeard c r.epoch) 0 (BitVec.ofNat 32 (beAt r.payload 0 4)) :=
  receiveRecord_of_read on up read

theorem syncReqReceive_of_read (read : readRecord 0x22 bs = some r) : syncReqReceive c bs =
    if compatible c = true then startStreaming (recordHeard c r.epoch) else recordHeard c r.epoch :=
  receiveRecord_of_read on up read

end records

theorem take_guard (c : Chip) (k : Word) : (handsOver c && c.stroke.phase == .recovery && c.seat.offers != 0
      && c.seat.handoverAfter == c.stroke.count && k == c.stroke.count) = true
    ↔ c.seat.handover = true ∧ c.seat.holds = true ∧ (c.mode.mode.runs = true ∨ c.mode.mode = .stop)
      ∧ c.stroke.phase = .recovery ∧ c.seat.offers ≠ 0 ∧ c.seat.handoverAfter = c.stroke.count ∧ k = c.stroke.count := by
  simp only [handsOver, Bool.and_eq_true, Bool.or_eq_true, beq_iff_eq, bne_iff_ne, and_assoc]

/-! ### HELLO -/

/-- All of the module that a HELLO sets or that decides on it, but the mirror. -/
def helloView (c : Chip) : Chip :=
  { Chip.reset with mode := c.mode
                    seat := { SeatSt.reset with partner := c.seat.partner, lost := c.seat.lost
                                                partnerRole := c.seat.partnerRole, holds := c.seat.holds }
                    backup := { Chip.reset.backup with partnerEpoch := c.backup.partnerEpoch } }

theorem helloView_deck (c : Chip) : helloView (deck c) = helloView c := rfl

theorem helloView_of_deck {c d : Chip} (h : deck c = deck d) : helloView c = helloView d := by
  rw [← helloView_deck c, h, helloView_deck]

theorem helloView_of_inner {c d : Chip} (h : inner c = inner d) : helloView c = helloView d :=
  helloView_of_deck (deck_of_inner h)

theorem helloView_modMirror (c : Chip) (f : MirrorSt → MirrorSt) : helloView (modMirror c f) = helloView c := rfl

theorem helloView_modPairCnt (c : Chip) (f : PairCnt → PairCnt) : helloView (modPairCnt c f) = helloView c := rfl

theorem helloView_unhanded (c : Chip) : helloView (modSeat c fun s => { s with byHandover := false }) = helloView c := rfl

theorem helloView_paddleRestore (c : Chip) : helloView (paddleRestore c) = helloView c :=
  helloView_of_deck (deck_paddleRestore c)

theorem helloView_partnerState (c : Chip) (src : Nat) (h : Hello) : helloView (partnerState c src h) = helloView c :=
  helloView_of_inner (inner_emit ..)

theorem helloView_pairConds (c : Chip) : helloView (pairConds c) = helloView c :=
  (helloView_of_inner (inner_pairConds c)).trans (helloView_modPairCnt ..)

/-- A HELLO's partner takes its place. -/
def helloTaken (c : Chip) (h : Hello) : Chip :=
  modSeat (heardEpoch c h.epoch) fun s => { s with partner := some h, lost := false, partnerRole := h.role }

theorem helloView_newerEpoch {c v : Chip} (src : Nat) (e : Word) (seen : helloView c = v) (free : v.seat.holds = false) :
    helloView (newerEpoch c src e) = v := by
  have holds : c.seat.holds = false := (congrArg (·.seat.holds) seen : (helloView c).seat.holds = _).trans free
  rw [newerEpoch_of_other src (.inl (by simp [holds])), seen]

theorem helloReceive_of_read {c : Chip} {bs : List Byte} {r : ARec} (on : pairOn c = true) (up : c.seat.laneUp ≠ 0)
    (read : readRecord 0x01 bs = some r) (free : c.seat.holds = false) :
    helloView (helloReceive c bs) = helloView (helloTaken (recordHeard c r.epoch) (helloOf r.payload)) := by
  refine (congrArg helloView (receiveRecord_of_read on up read)).trans ?_
  refine helloView_newerEpoch _ _ ?_ free
  simp only [helloView_pairConds, apply_ite helloView, helloView_partnerState, helloView_unhanded, helloView_modMirror,
    helloView_paddleRestore, ite_self]
  rfl

theorem partnerEpoch_heardEpoch (c : Chip) (e : Word) : c.backup.partnerEpoch ≤ (heardEpoch c e).backup.partnerEpoch
    ∧ e ≤ (heardEpoch c e).backup.partnerEpoch := by
  have set : (heardEpoch c e).backup.partnerEpoch = if c.backup.partnerEpoch < e then e else c.backup.partnerEpoch := rfl
  rw [set, BitVec.le_def, BitVec.le_def]
  split
  · next less =>
    rw [BitVec.lt_def] at less
    omega
  · next notLess =>
    rw [BitVec.lt_def] at notLess
    omega

theorem helloTaken_shown {c : Chip} {e : Word} {h : Hello} {t : Chip}
    (view : helloView t = helloView (helloTaken (recordHeard c e) h)) :
    t.seat.partner = some h ∧ t.seat.lost = false ∧ t.seat.partnerRole = h.role ∧ t.mode = c.mode
      ∧ c.backup.partnerEpoch ≤ t.backup.partnerEpoch ∧ e ≤ t.backup.partnerEpoch
      ∧ h.epoch ≤ t.backup.partnerEpoch := by
  have known : t.backup.partnerEpoch = (heardEpoch (recordHeard c e) h.epoch).backup.partnerEpoch :=
    (congrArg (·.backup.partnerEpoch) view : (helloView t).backup.partnerEpoch = _)
  obtain ⟨own, rec⟩ := partnerEpoch_heardEpoch (modSeat c fun s => { s with silent := 0 }) e
  obtain ⟨before, hello⟩ := partnerEpoch_heardEpoch (recordHeard c e) h.epoch
  rw [known]
  exact ⟨(congrArg (·.seat.partner) view : (helloView t).seat.partner = _),
    (congrArg (·.seat.lost) view : (helloView t).seat.lost = _),
    (congrArg (·.seat.partnerRole) view : (helloView t).seat.partnerRole = _),
    (congrArg (·.mode) view : (helloView t).mode = _),
    BitVec.le_trans own before, BitVec.le_trans rec before, hello⟩

theorem recordsComplete : Claims.RecordsComplete := by
  intro s bs r on up
  dsimp only
  refine ⟨?_, ?_, ?_, ?_, ?_, ?_, ?_, ?_, ?_, ?_, ?_⟩
  case refine_2 =>
    intro read
    refine ⟨after s (helloReceive s.chip bs), by unfold exec; rfl, fun free => ?_⟩
    have view := helloReceive_of_read on up read free
    obtain ⟨partner, lost, role, mode, own, rec, hello⟩ := helloTaken_shown view
    rw [after_chip, attnUpdate_mode, attnUpdate_seat, attnUpdate_backup]
    exact ⟨partner, lost, role, mode, own, rec, hello⟩
  case refine_6 =>
    intro read follows fresh
    unfold exec
    exact ⟨next_after_congr (outputReceive_of_due on up read follows fresh true),
      next_after_congr (outputReceive_of_due on up read follows fresh false)⟩
  case refine_7 =>
    intro read stale b
    unfold exec
    exact next_after_congr (outputReceive_of_stale on up read stale b)
  all_goals
    unfold exec
    intro read
  · refine next_after_congr ?_
    refine (leaseReceive_of_read on up read).trans ?_
    exact congrArg (newerEpoch · _ _) (by split <;> rfl)
  · exact fun other => next_after_congr (ackReceive_of_other on up read other)
  · intro holds some_ fresh
    refine next_after_congr ?_
    exact (ackReceive_of_holder on up read holds).trans (by rw [if_neg (not_or.mpr ⟨some_, fresh⟩)]; rfl)
  · intro holds known
    refine next_after_congr ?_
    exact (ackReceive_of_holder on up read holds).trans (by rw [if_pos known]; rfl)
  · intro offered
    refine next_after_congr ?_
    exact (takeReceive_of_read on up read).trans (if_pos ((take_guard _ _).mpr offered))
  · intro other
    refine next_after_congr ?_
    exact (takeReceive_of_read on up read).trans (if_neg (mt (take_guard _ _).mp other))
  · intro fits
    refine next_after_congr ?_
    exact (syncReqReceive_of_read on up read).trans (if_pos fits)
  · intro other
    refine next_after_congr ?_
    exact (syncReqReceive_of_read on up read).trans (if_neg (ne_true_of_eq_false other))

/-! ### Checkpoint records -/

theorem takesCkpt_recordHeard (c : Chip) (e : Word) : takesCkpt (recordHeard c e) = takesCkpt c := rfl

theorem gotCkptRecord_rx (c : Chip) : (gotCkptRecord c).mirror.rx = c.mirror.rx := rfl

theorem ckptRecord_of_other {c : Chip} (s : Word) (f : Ckpt → Ckpt) (takes : takesCkpt c ≠ true) : ckptRecord c s f = c :=
  if_pos (by rw [Bool.not_eq_true', ← Bool.not_eq_true]; exact takes)

theorem ckptRecord_of_takes {c : Chip} (s : Word) (f : Ckpt → Ckpt) (takes : takesCkpt c = true) : ckptRecord c s f =
    if (rxDeadline (gotCkptRecord c) s).mirror.lastComplete = some s then rxDeadline (gotCkptRecord c) s
    else ckptJudge (rxDeadline (gotCkptRecord c) s) (f (rxOf (rxDeadline (gotCkptRecord c) s) s)) := by
  refine (if_neg (by rw [takes]; decide)).trans ?_
  exact ite_congr (propext beq_iff_eq) (fun _ => rfl) (fun _ => rfl)

theorem replayCut_of_none {c : Chip} (none_ : c.mirror.replay = none) : replayCut c = c :=
  if_neg (by rw [none_]; decide)

theorem judged_ckptJudge (e : Chip) (k : Ckpt) : Claims.Judged e k (ckptJudge e k) := by
  have arrived : k.arrived = true ↔ k.headed = true ∧ k.ended = some k.count ∧ k.lines.length = k.count := by
    simp only [Ckpt.arrived, Bool.and_eq_true, beq_iff_eq, and_assoc]
  have followed : (e.mirror.anyBase || e.mirror.lastComplete == some k.base) = true
      ↔ e.mirror.anyBase = true ∨ e.mirror.lastComplete = some k.base := by
    simp only [Bool.or_eq_true, beq_iff_eq]
  refine ⟨fun part => ?_, fun whole apart => ?_, fun whole follows none_ => ?_⟩
  · exact if_pos (by rw [Bool.not_eq_true', ← Bool.not_eq_true, arrived]; exact part)
  · refine (if_neg (by rw [arrived.mpr whole]; decide)).trans (if_pos ?_)
    rw [Bool.not_eq_true', ← Bool.not_eq_true]
    exact mt followed.mp apart
  · refine (if_neg (by rw [arrived.mpr whole]; decide)).trans ((if_neg ?_).trans ?_)
    · rw [Bool.not_eq_true', Bool.not_eq_false]
      exact followed.mpr follows
    · exact congrArg (fun x : Chip => sendAck (modMirror x _)) (replayCut_of_none none_)

theorem rateAllow_mirror (c : Chip) (key per : Nat) : (rateAllow c key per).2.mirror = c.mirror := by
  simp only [rateAllow, apply_ite (fun x : Option Nat × Chip => x.2.mirror), ite_self]

theorem ckptIncomplete_rx (c : Chip) (why lines : Nat) : (ckptIncomplete c why lines).mirror.rx = c.mirror.rx := by
  have kept (d : Chip) (key : Nat) {x : Option Nat × Chip} (h : rateAllow d key 100 = x) : x.2.mirror = d.mirror := by
    rw [← h, rateAllow_mirror]
  unfold ckptIncomplete
  dsimp only
  split
  · next h =>
    rw [kept _ _ h, raise_mirror]
    rfl
  · next h =>
    rw [emit_mirror, kept _ _ h, raise_mirror]
    rfl

theorem mem_rxDeadline (c : Chip) (s : Word) (x : Ckpt) : x ∈ (rxDeadline c s).mirror.rx ↔ x ∈ c.mirror.rx
    ∧ ¬(2 ≤ (s - x.stroke).toNat ∧ (s - x.stroke).toNat < 2147483648) := by
  unfold rxDeadline
  dsimp only
  rw [kept_foldl (fun c => c.mirror.rx) (fun c k => ckptIncomplete_rx c 2 _), modMirror_mirror, List.mem_filter,
    Bool.not_eq_true', decide_eq_false_iff_not, Bool.and_eq_true, decide_eq_true_eq, decide_eq_true_eq]

/-- A checkpoint record that comes where it is due is judged. -/
theorem ckptRecord_of_due {c : Chip} {s : Word} (f : Ckpt → Ckpt) (takes : takesCkpt c = true)
    (due : (rxDeadline (gotCkptRecord c) s).mirror.lastComplete ≠ some s) : ckptRecord c s f =
    ckptJudge (rxDeadline (gotCkptRecord c) s) (f (rxOf (rxDeadline (gotCkptRecord c) s) s)) :=
  (ckptRecord_of_takes s f takes).trans (if_neg due)

theorem ckptRecord_of_whole {c : Chip} {s : Word} (f : Ckpt → Ckpt) (takes : takesCkpt c = true)
    (known : (rxDeadline (gotCkptRecord c) s).mirror.lastComplete = some s) :
    ckptRecord c s f = rxDeadline (gotCkptRecord c) s :=
  (ckptRecord_of_takes s f takes).trans (if_pos known)

theorem checkpointRecordsComplete : Claims.CheckpointRecordsComplete := by
  intro s bs r on up
  have head (read : readRecord 0x10 bs = some r) : exec (.ckptHead bs) s =
      .next (after s (ckptRecord (recordHeard s.chip r.epoch) r.stroke (takeHead r.payload))) := by
    unfold exec
    exact next_after_congr (receiveRecord_of_read on up read)
  have line (read : readRecord 0x11 bs = some r) : exec (.ckptLine bs) s =
      .next (after s (ckptRecord (recordHeard s.chip r.epoch) r.stroke (takeLine r.payload))) := by
    unfold exec
    exact next_after_congr (receiveRecord_of_read on up read)
  have end_ (read : readRecord 0x12 bs = some r) : exec (.ckptEnd bs) s =
      .next (after s (ckptRecord (recordHeard s.chip r.epoch) r.stroke (takeEnd r.payload))) := by
    unfold exec
    exact next_after_congr (receiveRecord_of_read on up read)
  dsimp only
  refine ⟨?_, ?_, ?_, ?_, ?_, ?_⟩
  · exact fun read due => ⟨_, (head read).trans (next_after_congr (ckptRecord_of_due _ due.1 due.2)), judged_ckptJudge ..⟩
  · exact fun read due => ⟨_, (line read).trans (next_after_congr (ckptRecord_of_due _ due.1 due.2)), judged_ckptJudge ..⟩
  · exact fun read due => ⟨_, (end_ read).trans (next_after_congr (ckptRecord_of_due _ due.1 due.2)), judged_ckptJudge ..⟩
  · exact fun takes known =>
      ⟨fun read => (head read).trans (next_after_congr (ckptRecord_of_whole _ takes known)),
        fun read => (line read).trans (next_after_congr (ckptRecord_of_whole _ takes known)),
        fun read => (end_ read).trans (next_after_congr (ckptRecord_of_whole _ takes known))⟩
  · exact fun x => mem_rxDeadline ..
  · exact fun takes =>
      ⟨fun read => (head read).trans (next_after_congr (ckptRecord_of_other _ _ takes)),
        fun read => (line read).trans (next_after_congr (ckptRecord_of_other _ _ takes)),
        fun read => (end_ read).trans (next_after_congr (ckptRecord_of_other _ _ takes))⟩

/-! ### OFFER -/

/-- READY is the first bit of HEALTH, and only a standby is ready (R397). -/
theorem standby_of_ready {c : Chip} (h : ready c = true) : c.mode.mode = .standby := by
  have first {b : Bool} {fs : List (Nat × Nat × Nat)} (apart : ∀ f ∈ fs, f.2.2 ≤ f.2.1 ∧ fieldsApart 31 31 f.2.1 f.2.2)
      (on : bitOf (pack ((b2n b, 31, 31) :: fs)) 31 = true) : b = true := by
    have bit := testBit_fld (pack ((b2n b, 31, 31) :: fs)) 31 31 0
    rw [fld_pack_take ⟨by decide, by decide⟩ (by cases b <;> decide) apart] at bit
    cases b with
    | true => rfl
    | false => exact absurd (bit.trans on) (by decide)
  unfold ready health at h
  split at h
  · exact absurd h (by decide)
  · have all := first (by simp [fieldsApart]) h
    rw [Bool.and_eq_true, beq_iff_eq] at all
    exact all.1

theorem epoch_of_deck {c d : Chip} (h : deck c = deck d) : c.backup.epoch = d.backup.epoch :=
  (congrArg (·.backup.epoch) h : (deck c).backup.epoch = (deck d).backup.epoch)

theorem epoch_of_inner {c d : Chip} (h : inner c = inner d) : c.backup.epoch = d.backup.epoch :=
  epoch_of_deck (deck_of_inner h)

theorem epoch_enterTakeover {c : Chip} (row : Nat) (standby : c.mode.mode = .standby) :
    (enterMode c .takeover row).backup.epoch = c.backup.epoch := by
  obtain ⟨h, same⟩ := inner_enterTakeover row standby
  exact (epoch_of_inner same).trans rfl

theorem epoch_pairConds (c : Chip) : (pairConds c).backup.epoch = c.backup.epoch :=
  (epoch_of_inner (inner_pairConds c)).trans rfl

theorem epoch_enterHalt {c : Chip} (row : Nat) (other : c.mode.mode ≠ .safeHalt) :
    (enterMode c .safeHalt row).backup.epoch = c.backup.epoch := by
  have left : (modeLeft c .safeHalt).mode.mode ≠ .safeHalt := by rwa [modeLeft_mode]
  have restored : (paddleRestore c).backup.epoch = c.backup.epoch := epoch_of_deck (deck_paddleRestore c)
  have leaves : (leaveStandby c).backup.epoch = c.backup.epoch := by
    simp only [leaveStandby, modMirror_backup, apply_ite (fun x : Chip => x.backup.epoch), restored, ite_self]
  have sampling (d : Chip) : (stopSampling d).backup.epoch = d.backup.epoch := epoch_of_deck (deck_stopSampling d)
  have ends : (modeLeft c .safeHalt).backup.epoch = c.backup.epoch := by
    simp only [modeLeft, apply_ite (fun x : Chip => x.backup.epoch), sampling, leaves, ite_self]
  have entry (d : Chip) : (modeEntry d c.mode.mode .safeHalt row).backup.epoch = d.backup.epoch := by
    unfold modeEntry
    dsimp only
    rw [epoch_of_inner (inner_canSyncAll _), modSeat_backup, epoch_of_inner (inner_inhibitGroups _)]
    exact epoch_of_deck (deck_stopCrews d)
  rw [enterMode_of_ne row other, epoch_pairConds, entry, epoch_of_inner (inner_changeMode row left)]
  exact ends

theorem epoch_enters {c : Chip} (row : Nat) (standby : c.mode.mode = .standby) :
    (enterTakeover c row).backup.epoch = c.backup.epoch := by
  have entered := enterMode_mode row (show c.mode.mode ≠ .takeover by rw [standby]; decide)
  have raised (d : Chip) : (raise d 0x28 10).backup.epoch = d.backup.epoch := epoch_of_inner (inner_raise d _ _)
  have other : (raise (enterMode c .takeover row) 0x28 10).mode.mode ≠ .safeHalt := by
    rw [raise_mode, entered]
    exact (by decide : Mode.takeover ≠ .safeHalt)
  have fails : (takeoverFails (enterMode c .takeover row) true).backup.epoch = c.backup.epoch :=
    (epoch_enterHalt 29 other).trans ((raised _).trans (epoch_enterTakeover row standby))
  simp only [enterTakeover, apply_ite (fun x : Chip => x.backup.epoch), fails, epoch_enterTakeover row standby, ite_self]

/-- What an OFFER of checkpoint `k` wants of a standby, `left` ns before the next T0 (R415, R417). -/
def MayTake (c : Chip) (left : Nat) (k : Word) : Prop :=
  c.mode.mode = .standby ∧ ready c = true ∧ exhausted c = false ∧ c.mirror.replay = none
    ∧ 20000 < left ∧ 50000 + 45 * (c.mirror.done.map (·.count)).foldl (· + ·) 0 < left
    ∧ c.mirror.lastComplete = some k

/-- The TAKE that answers the OFFER of checkpoint `k`, under the epoch that it writes (R417). -/
def takeSent (c : Chip) (k : Word) : Chip :=
  let d := modSeat (writeEpoch c) fun s => { s with takeSent := true, byHandover := true }
  sendRecord d 0x21 k (beBytes 4 d.backup.epoch.toNat ++ beBytes 4 k.toNat ++ List.replicate 8 0)

theorem inner_takeSent (c : Chip) (k : Word) : inner (takeSent c k) =
    inner (modSeat (writeEpoch c) fun s => { s with takeSent := true, byHandover := true }) := inner_sendRecord ..

theorem ckptView_inner (c : Chip) : ckptView (inner c) = ckptView c := rfl

theorem ckptView_takes (c : Chip) :
    ckptView (modSeat (writeEpoch c) fun s => { s with takeSent := true, byHandover := true }) = ckptView c := rfl

theorem holdsCkpt_takeSent (c : Chip) (k : Word) : holdsCkpt (takeSent c k) = holdsCkpt c := by
  have view : ckptView (takeSent c k) = ckptView c := by
    rw [← ckptView_inner, inner_takeSent, ckptView_inner, ckptView_takes]
  rw [← holdsCkpt_ckptView, view, holdsCkpt_ckptView]

theorem offer_taken_guard (c : Chip) (left : Nat) (k : Word) : (decide (c.mode.mode ≠ .standby) || !ready c || exhausted c
      || c.mirror.replay.isSome || decide (left ≤ 20000)
      || decide (left ≤ 50000 + 45 * (c.mirror.done.map (·.count)).foldl (· + ·) 0)
      || decide (c.mirror.lastComplete ≠ some k)) = true ↔ ¬MayTake c left k := by
  simp only [MayTake, Bool.or_eq_true, Bool.not_eq_true', decide_eq_true_eq, Option.isSome_iff_ne_none, Classical.not_and_iff_not_or_not,
    Bool.not_eq_true, Bool.not_eq_false, Nat.not_lt, ne_eq, or_assoc]

section offer
variable {c : Chip} {bs : List Byte} {left : Nat} {r : ARec} (on : pairOn c = true) (up : c.seat.laneUp ≠ 0)
  (read : readRecord 0x20 bs = some r)
include on up read

theorem offerReceive_of_not (other : ¬MayTake (recordHeard c r.epoch) left (BitVec.ofNat 32 (beAt r.payload 0 4))) :
    offerReceive c bs left = recordHeard c r.epoch :=
  (receiveRecord_of_read on up read).trans (if_pos ((offer_taken_guard ..).mpr other))

theorem offerReceive_of_may (may : MayTake (recordHeard c r.epoch) left (BitVec.ofNat 32 (beAt r.payload 0 4)))
    (able : ready (applyAll (recordHeard c r.epoch)) = true)
    (applied : (applyAll (recordHeard c r.epoch)).mirror.lastStroke = BitVec.ofNat 32 (beAt r.payload 0 4)) :
    offerReceive c bs left =
      enterTakeover (takeSent (applyAll (recordHeard c r.epoch)) (BitVec.ofNat 32 (beAt r.payload 0 4))) 25 := by
  refine (receiveRecord_of_read on up read).trans ?_
  refine (if_neg (mt (offer_taken_guard ..).mp (not_not_intro may))).trans (if_neg ?_)
  rw [able, applied]
  simp

end offer

/-- A standby that answers an OFFER is in TAKEOVER by the handover where it holds a checkpoint, and has halted else. -/
theorem takeSent_enters {c : Chip} (k : Word) (standby : c.mode.mode = .standby) :
    (enterTakeover (takeSent c k) 25).backup.epoch = (writeEpoch c).backup.epoch
      ∧ ((enterTakeover (takeSent c k) 25).mode.mode = .takeover
        ∨ (enterTakeover (takeSent c k) 25).mode.mode = .safeHalt)
      ∧ (holdsCkpt c = true → (enterTakeover (takeSent c k) 25).mode.mode = .takeover
        ∧ (enterTakeover (takeSent c k) 25).seat.byHandover = true) := by
  have stands : (takeSent c k).mode.mode = .standby := by rw [mode_of_inner (inner_takeSent c k)]; exact standby
  obtain ⟨held, halted⟩ := enterTakeover_mode 25 stands
  have epoch : (takeSent c k).backup.epoch = (writeEpoch c).backup.epoch :=
    (epoch_of_inner (inner_takeSent c k)).trans rfl
  refine ⟨(epoch_enters 25 stands).trans epoch, ?_, fun holds => ?_⟩
  · cases h : holdsCkpt (takeSent c k) with
    | true => exact .inl (held h).1
    | false => exact .inr (halted h).1
  · have holds' := (holdsCkpt_takeSent c k).trans holds
    have taken : enterTakeover (takeSent c k) 25 = enterMode (takeSent c k) .takeover 25 :=
      if_pos ((holdsCkpt_enterTakeover 25 stands).trans holds')
    obtain ⟨h, same⟩ := inner_enterTakeover 25 stands
    have handed : (enterMode (takeSent c k) .takeover 25).seat.byHandover = (takeSent c k).seat.byHandover :=
      congrArg (·.byHandover) (seat_of_inner same)
    refine ⟨(held holds').1, ?_⟩
    rw [taken, handed, seat_of_inner (inner_takeSent c k)]
    rfl

theorem offersAreTaken : Claims.OffersAreTaken := by
  intro s bs left r on up read
  dsimp only
  refine ⟨fun able applies applied => ?_, fun other => ?_⟩
  · refine ⟨after s (enterTakeover (takeSent (applyAll (recordHeard s.chip r.epoch))
      (BitVec.ofNat 32 (beAt r.payload 0 4))) 25), ?_, ?_⟩
    · unfold exec
      exact next_after_congr (offerReceive_of_may on up read able applies applied)
    · obtain ⟨epoch, mode, holds⟩ := takeSent_enters (BitVec.ofNat 32 (beAt r.payload 0 4)) (standby_of_ready applies)
      rw [after_chip, attnUpdate_mode, attnUpdate_seat, attnUpdate_backup]
      exact ⟨epoch, mode, holds⟩
  · unfold exec
    exact next_after_congr (offerReceive_of_not on up read other)

/-- Settles O43: a record is taken by the link's guard, and each then takes the branch that its conditions say. -/
theorem pairRecordsComplete : Obligations.PairRecordsComplete :=
  ⟨recordsAreTakenOrCounted, recordsComplete, checkpointRecordsComplete, offersAreTaken⟩

end Sys2Proof.Machine
end

section
/-!
PROOFS. Two facts that the field blocks' commands share: causes are only ever set by what happens (R54), never cleared,
and a command of a field block does nothing in RESET, BOOT and DORMANT (R28, R603, R615).
-/
namespace Sys2Proof.Machine
open Safety

/-! ### Causes stay -/

/-- Every cause that stands in `c` stands in `d`. -/
structure CausesKept (c d : Chip) : Prop where
  stays : ∀ p b, b < 32 → bitOf (hdr c p).cause b = true → bitOf (hdr d p).cause b = true

theorem causesKept_rfl {c : Chip} : CausesKept c c := ⟨fun _ _ _ h => h⟩

theorem CausesKept.trans {c d e : Chip} (first : CausesKept c d) (second : CausesKept d e) : CausesKept c e :=
  ⟨fun p b lt h => second.stays p b lt (first.stays p b lt h)⟩

theorem causesKept_of_pages {c d : Chip} (same : d.pages = c.pages) : CausesKept c d := by
  refine ⟨fun p b _ h => ?_⟩
  rwa [hdr, same]

theorem causesKept_raise (c : Chip) (p b : Nat) : CausesKept c (raise c p b) := by
  refine ⟨fun q j lt h => ?_⟩
  by_cases page : q = p
  · subst page
    rw [hdr_raise]
    dsimp only
    rw [bitOf_setBit _ _ _ lt, h, ite_self]
  · rwa [hdr_raise_ne _ _ page]

theorem causesKept_setCond (c : Chip) (p b : Nat) (v : Bool) : CausesKept c (setCond c p b v) := by
  refine ⟨fun q j lt h => ?_⟩
  by_cases page : q = p
  · subst page
    exact bitOf_cause_setCond lt h
  · rwa [hdr_setCond_ne _ _ _ page]

theorem causesKept_emitAt (c : Chip) (time p low source : Nat) (p0 p1 p2 p3 : Word) :
    CausesKept c (emitAt c time p low source p0 p1 p2 p3) := by
  unfold emitAt
  dsimp only
  split
  · exact causesKept_of_pages rfl
  · unfold queueRefused
    refine CausesKept.trans ?_ ((causesKept_raise _ 0x74 _).trans (causesKept_raise _ 0x78 0))
    exact causesKept_of_pages rfl

theorem causesKept_emit (c : Chip) (p low source : Nat) (p0 p1 p2 p3 : Word) :
    CausesKept c (emit c p low source p0 p1 p2 p3) :=
  (causesKept_of_pages (eventTime_pages c)).trans (causesKept_emitAt ..)

theorem causesKept_ite {c d e : Chip} {p : Prop} [Decidable p] (yes : CausesKept c d) (no : CausesKept c e) :
    CausesKept c (if p then d else e) := by
  split
  · exact yes
  · exact no

theorem causesKept_foldl {α : Type} {f : Chip → α → Chip} (kept : ∀ c a, CausesKept c (f c a)) (l : List α) (c : Chip) :
    CausesKept c (l.foldl f c) := by
  induction l generalizing c with
  | nil => exact causesKept_rfl
  | cons a l ih => exact (kept c a).trans (ih _)

theorem causesKept_forN {f : Nat → Chip → Chip} (kept : ∀ i c, CausesKept c (f i c)) (n : Nat) (c : Chip) :
    CausesKept c (forN n f c) := causesKept_foldl (fun c i => kept i c) ..

/-- A cause once raised stands after all that follows. -/
theorem cause_of_raised {c d : Chip} {p b : Nat} (kept : CausesKept (raise c p b) d) (lt : b < 32) :
    bitOf (hdr d p).cause b = true := kept.stays p b lt (bitOf_cause_raise c p lt)

/-- A condition that stands has set its cause (R55). -/
theorem cause_of_rise {c d : Chip} {p b : Nat} (was : bitOf (hdr c p).raw b = false)
    (kept : CausesKept (setCond c p b true) d) (lt : b < 32) : bitOf (hdr d p).cause b = true := by
  refine kept.stays p b lt ?_
  rw [hdr_setCond, was]
  exact (bitOf_setBit _ _ _ lt).trans (if_pos rfl)

/-! ### Commands of the field blocks -/

theorem ungated_of_rests {c : Chip} (f : Chip → Chip) (rests : fieldRests c.mode.mode = true) : ungated f c = c := if_pos rests

theorem ungated_of_works {c : Chip} (f : Chip → Chip) (works : fieldRests c.mode.mode = false) : ungated f c = f c :=
  if_neg (by rw [works]; decide)

end Sys2Proof.Machine
end

section
/-!
PROOFS. Serial transactions (R591 to R595, R601, R602).
-/
namespace Sys2Proof.Machine
open Safety

/-! ### Ports and entries -/

theorem serPort_of_serial {c d : Chip} (h : c.serial = d.serial) (p : Nat) : serPort c p = serPort d p := by
  rw [serPort, serPort, h]

theorem serEnt_of_serial {c d : Chip} (h : c.serial = d.serial) (p e : Nat) : serEnt c p e = serEnt d p e := by
  rw [serEnt, serEnt, serPort_of_serial h]

@[simp] theorem serPort_modSer (c : Chip) (p : Nat) (f : SerPort → SerPort) : serPort (modSer c p f) p = f (serPort c p) := by
  simp [serPort, modSer]

@[simp] theorem serPort_modEnt (c : Chip) (p e : Nat) (f : SerEnt → SerEnt) : serPort (modEnt c p e f) p =
    { serPort c p with ents := smMod SerEnt.reset (serPort c p).ents e f } := serPort_modSer ..

@[simp] theorem serEnt_modEnt (c : Chip) (p e : Nat) (f : SerEnt → SerEnt) : serEnt (modEnt c p e f) p e = f (serEnt c p e) := by
  simp [serEnt]

@[simp] theorem serPort_raise (c : Chip) (q b p : Nat) : serPort (raise c q b) p = serPort c p :=
  serPort_of_serial (raise_serial ..) p

@[simp] theorem serEnt_raise (c : Chip) (q b p e : Nat) : serEnt (raise c q b) p e = serEnt c p e :=
  serEnt_of_serial (raise_serial ..) p e

@[simp] theorem serPort_attnUpdate (c : Chip) (p : Nat) : serPort (attnUpdate c) p = serPort c p :=
  serPort_of_serial (attnUpdate_serial c) p

@[simp] theorem serEnt_attnUpdate (c : Chip) (p e : Nat) : serEnt (attnUpdate c) p e = serEnt c p e :=
  serEnt_of_serial (attnUpdate_serial c) p e

theorem serEnt_modSer (c : Chip) {p : Nat} {f : SerPort → SerPort} (ents : (f (serPort c p)).ents = (serPort c p).ents)
    (e : Nat) : serEnt (modSer c p f) p e = serEnt c p e := by
  rw [serEnt, serPort_modSer, ents, serEnt]

theorem rateAllow_serial (c : Chip) (key per : Nat) : (rateAllow c key per).2.serial = c.serial := by
  simp only [rateAllow, apply_ite (fun x : Option Nat × Chip => x.2.serial), ite_self]

theorem rateAllow_pages (c : Chip) (key per : Nat) : (rateAllow c key per).2.pages = c.pages := by
  simp only [rateAllow, apply_ite (fun x : Option Nat × Chip => x.2.pages), ite_self]

@[simp] theorem serConds_serial (c : Chip) : (serConds c).serial = c.serial := setCond_serial ..

/-- A change of an entry changes nothing else of the ports. -/
theorem entTo_serial (c : Chip) (p e why : Nat) (f : SerEnt → SerEnt) : (entTo c p e why f).serial = (modEnt c p e f).serial := by
  unfold entTo
  dsimp only
  split
  · exact serConds_serial _
  · split
    · exact (emit_serial ..).trans ((rateAllow_serial ..).trans (serConds_serial _))
    · exact (rateAllow_serial ..).trans (serConds_serial _)

@[simp] theorem serEnt_entTo (c : Chip) (p e why : Nat) (f : SerEnt → SerEnt) :
    serEnt (entTo c p e why f) p e = f (serEnt c p e) := by
  rw [serEnt_of_serial (entTo_serial ..), serEnt_modEnt]

@[simp] theorem serPort_entTo (c : Chip) (p e why : Nat) (f : SerEnt → SerEnt) : serPort (entTo c p e why f) p =
    { serPort c p with ents := smMod SerEnt.reset (serPort c p).ents e f } := by
  rw [serPort_of_serial (entTo_serial ..), serPort_modEnt]

theorem causesKept_entTo (c : Chip) (p e why : Nat) (f : SerEnt → SerEnt) : CausesKept c (entTo c p e why f) := by
  have conds (d : Chip) : CausesKept d (serConds d) := causesKept_setCond d _ _ _
  have set : CausesKept c (serConds (modEnt c p e f)) :=
    (causesKept_of_pages (c := c) (d := modEnt c p e f) rfl).trans (conds _)
  have rated (d : Chip) (key per : Nat) : CausesKept d (rateAllow d key per).2 := causesKept_of_pages (rateAllow_pages ..)
  unfold entTo
  dsimp only
  split
  · exact set
  · split
    · exact set.trans ((rated ..).trans (causesKept_emit ..))
    · exact set.trans (rated ..)

/-- A cause of the page raised before an entry changes stands in the next state. -/
theorem cause_entTo (c : Chip) (p e why : Nat) (f : SerEnt → SerEnt) {b : Nat} (lt : b < 32) :
    bitOf (hdr (entTo (raise c 0x75 b) p e why f) 0x75).cause b = true := cause_of_raised (causesKept_entTo ..) lt

/-! ### MODBUS -/

section modbus
variable {c : Chip} {p e : Nat} {bs : List Byte}

/-- The transaction of the port is over. -/
def portIdle (c : Chip) (p : Nat) : Chip := modSer c p fun s => { s with busy := none }

theorem modbusReply_of_idle (idle : (serPort c p).busy = none) : modbusReply c p bs = c := by
  unfold modbusReply
  rw [idle]

theorem modbusTimeout_of_idle (idle : (serPort c p).busy = none) : modbusTimeout c p = c := by
  unfold modbusTimeout
  rw [idle]

theorem modbusReply_of_good (busy : (serPort c p).busy = some e) (good : replyGood (portIdle c p) p e bs = true) :
    modbusReply c p bs = entTo (portIdle c p) p e 0 fun s => { s with
      valid := true, new := true, timeout := false, bad := false, exc := false
      good := (s.good + 1) % 65536
      words := if entWrites c p e then s.words else if entWrites c p e then [] else replyWords c p e bs } := by
  unfold modbusReply
  rw [busy]
  exact if_pos good

theorem modbusReply_of_exception (busy : (serPort c p).busy = some e) (good : replyGood (portIdle c p) p e bs = false)
    (exc : replyException (portIdle c p) p e bs = true) : modbusReply c p bs =
    entTo (raise (modSer (portIdle c p) p fun s => { s with exceptions := satInc 255 s.exceptions }) 0x75 2) p e 3
      fun s => { s with valid := false, timeout := false, bad := false, exc := true, code := beAt bs 2 1 } := by
  unfold modbusReply
  rw [busy]
  exact (if_neg (ne_true_of_eq_false good)).trans (if_pos exc)

theorem modbusReply_of_bad (busy : (serPort c p).busy = some e) (good : replyGood (portIdle c p) p e bs = false)
    (exc : replyException (portIdle c p) p e bs = false) : modbusReply c p bs =
    entTo (raise (modSer (portIdle c p) p fun s => { s with bad := satInc 255 s.bad }) 0x75 1) p e 2
      fun s => { s with valid := false, timeout := false, bad := true, exc := false } := by
  unfold modbusReply
  rw [busy]
  exact (if_neg (ne_true_of_eq_false good)).trans (if_neg (ne_true_of_eq_false exc))

theorem modbusTimeout_of_busy (busy : (serPort c p).busy = some e) : modbusTimeout c p =
    entTo (raise (modSer c p fun s => { s with busy := none, timeouts := satInc 255 s.timeouts }) 0x75 0) p e 1
      fun s => { s with valid := false, timeout := true, bad := false, exc := false } := by
  unfold modbusTimeout
  rw [busy]

end modbus

/-! ### NMEA 0183 -/

/-- The body of a sentence, without its first character and its end. -/
def nmeaBody (bs : List Byte) : List Byte := (bs.drop 1).takeWhile (· != 13)

/-- The entry that takes a sentence (R593). -/
def nmeaTaker (c : Chip) (p : Nat) (body : List Byte) : Option Nat :=
  (List.range 16).find? fun e => entUsed c p e && nmeaMatch c p e body

section nmea
variable {c : Chip} {p e : Nat} {bs : List Byte}

/-- A listening port takes up a sentence. -/
def NmeaHeard (c : Chip) (p : Nat) (bs : List Byte) : Prop :=
  listens c.mode.mode = true ∧ spMode c p = 2 ∧ working c 0x75 = true ∧ (bs.getD 0 0 = 36 ∨ bs.getD 0 0 = 33)

theorem nmea_guard (port : p < 6) : (6 ≤ p || !listens c.mode.mode || spMode c p ≠ 2
      || (bs.getD 0 0 ≠ 36 && bs.getD 0 0 ≠ 33) || !working c 0x75) = true ↔ ¬NmeaHeard c p bs := by
  simp only [NmeaHeard, Bool.or_eq_true, Bool.and_eq_true, Bool.not_eq_true', decide_eq_true_eq, Classical.not_and_iff_not_or_not, not_or,
    Bool.not_eq_true, ne_eq, Nat.not_le.mpr port, false_or, or_assoc]
  rw [or_comm (a := _ ∧ _)]

theorem nmeaSentence_of_unheard (port : p < 6) (unheard : ¬NmeaHeard c p bs) : nmeaSentence c p bs = c :=
  if_pos ((nmea_guard port).mpr unheard)

theorem nmeaSentence_of_heard (port : p < 6) (heard : NmeaHeard c p bs) : nmeaSentence c p bs =
    if (decide (82 < bs.length) || decide (nmeaCheck (nmeaBody bs) = some false)) = true then
      match nmeaTaker c p (nmeaBody bs) with
      | some e => modEnt (raise (modSer c p fun s => { s with bad := satInc 255 s.bad }) 0x75 1) p e
          fun s => { s with bad := true }
      | none => raise (modSer c p fun s => { s with bad := satInc 255 s.bad }) 0x75 1
    else match nmeaTaker c p (nmeaBody bs) with
      | none => modSer c p fun s => { s with unmatched := satInc 255 s.unmatched }
      | some e => entTo c p e 0 fun s => { s with
          valid := true, new := true, bad := false, noChk := (nmeaCheck (nmeaBody bs)).isNone
          good := (s.good + 1) % 65536, age := 0
          words := (List.range 20).map fun i => BitVec.ofNat 32 (leAt (bs.getD 0 0 :: nmeaBody bs) (4 * i) 4) } :=
  if_neg (mt (nmea_guard port).mp (not_not_intro heard))

theorem nmea_bad_iff : (decide (82 < bs.length) || decide (nmeaCheck (nmeaBody bs) = some false)) = true
    ↔ ¬(bs.length ≤ 82 ∧ nmeaCheck (nmeaBody bs) ≠ some false) := by
  simp only [Bool.or_eq_true, decide_eq_true_eq, Classical.not_and_iff_not_or_not, Nat.not_le, ne_eq, Classical.not_not]

theorem nmeaSentence_of_taken (port : p < 6) (heard : NmeaHeard c p bs)
    (good : bs.length ≤ 82 ∧ nmeaCheck (nmeaBody bs) ≠ some false) (taker : nmeaTaker c p (nmeaBody bs) = some e) :
    nmeaSentence c p bs = entTo c p e 0 fun s => { s with
      valid := true, new := true, bad := false, noChk := (nmeaCheck (nmeaBody bs)).isNone
      good := (s.good + 1) % 65536, age := 0
      words := (List.range 20).map fun i => BitVec.ofNat 32 (leAt (bs.getD 0 0 :: nmeaBody bs) (4 * i) 4) } := by
  rw [nmeaSentence_of_heard port heard, if_neg (mt nmea_bad_iff.mp (not_not_intro good)), taker]

theorem nmeaSentence_of_unmatched (port : p < 6) (heard : NmeaHeard c p bs)
    (good : bs.length ≤ 82 ∧ nmeaCheck (nmeaBody bs) ≠ some false) (taker : nmeaTaker c p (nmeaBody bs) = none) :
    nmeaSentence c p bs = modSer c p fun s => { s with unmatched := satInc 255 s.unmatched } := by
  rw [nmeaSentence_of_heard port heard, if_neg (mt nmea_bad_iff.mp (not_not_intro good)), taker]

theorem nmeaSentence_of_bad (port : p < 6) (heard : NmeaHeard c p bs)
    (bad : ¬(bs.length ≤ 82 ∧ nmeaCheck (nmeaBody bs) ≠ some false)) :
    (serPort (nmeaSentence c p bs) p).bad = satInc 255 (serPort c p).bad
      ∧ (nmeaTaker c p (nmeaBody bs) = some e → (serEnt (nmeaSentence c p bs) p e).bad = true)
      ∧ bitOf (hdr (nmeaSentence c p bs) 0x75).cause 1 = true := by
  rw [nmeaSentence_of_heard port heard, if_pos (nmea_bad_iff.mpr bad)]
  cases nmeaTaker c p (nmeaBody bs) with
  | none => exact ⟨by simp, nofun, bitOf_cause_raise _ _ (by decide)⟩
  | some a =>
    refine ⟨by simp, ?_, cause_of_raised (causesKept_of_pages rfl) (by decide)⟩
    rintro ⟨rfl⟩
    simp

end nmea

/-- Settles O53: each transaction by its outcome, which one change of an entry then shows. -/
theorem serialCommandsComplete : Obligations.SerialCommandsComplete := by
  intro s p e bs
  have reply (works : fieldRests s.chip.mode.mode = false) :
      exec (.modbusReply p bs) s = .next (after s (modbusReply s.chip p bs)) := by
    unfold exec
    exact next_after_congr (ungated_of_works _ works)
  have timeout (works : fieldRests s.chip.mode.mode = false) :
      exec (.modbusTimeout p) s = .next (after s (modbusTimeout s.chip p)) := by
    unfold exec
    exact next_after_congr (ungated_of_works _ works)
  have sentence (works : fieldRests s.chip.mode.mode = false) :
      exec (.nmeaSentence p bs) s = .next (after s (nmeaSentence s.chip p bs)) := by
    unfold exec
    exact next_after_congr (ungated_of_works _ works)
  dsimp only
  refine ⟨fun rests j member => ?_, fun works => ⟨?_, ?_, ?_, ?_, ?_, ?_, ?_, ?_, ?_⟩⟩
  · simp only [List.mem_cons, List.not_mem_nil, or_false] at member
    obtain rfl | rfl | rfl := member <;> (unfold exec; exact next_after_congr (ungated_of_rests _ rests))
  · intro busy good
    refine ⟨_, (reply works).trans (next_after_congr (modbusReply_of_good busy good)), ?_⟩
    rw [after_chip, serEnt_attnUpdate, serPort_attnUpdate, serEnt_entTo, serPort_entTo, portIdle, serPort_modSer,
      serEnt_modSer s.chip rfl]
    exact ⟨rfl, rfl, rfl, rfl, rfl, rfl, by split <;> rfl, rfl⟩
  · intro busy good exc
    refine ⟨_, (reply works).trans (next_after_congr (modbusReply_of_exception busy good exc)), ?_⟩
    rw [after_chip, serEnt_attnUpdate, serPort_attnUpdate, hdr_attnUpdate, serEnt_entTo, serPort_entTo, portIdle,
      serPort_raise, serPort_modSer, serPort_modSer]
    exact ⟨rfl, rfl, rfl, rfl, cause_entTo _ _ _ _ _ (by decide)⟩
  · intro busy good exc
    refine ⟨_, (reply works).trans (next_after_congr (modbusReply_of_bad busy good exc)), ?_⟩
    rw [after_chip, serEnt_attnUpdate, serPort_attnUpdate, hdr_attnUpdate, serEnt_entTo, serPort_entTo, portIdle,
      serPort_raise, serPort_modSer, serPort_modSer]
    exact ⟨rfl, rfl, rfl, cause_entTo _ _ _ _ _ (by decide)⟩
  · intro busy
    refine ⟨_, (timeout works).trans (next_after_congr (modbusTimeout_of_busy busy)), ?_⟩
    rw [after_chip, serEnt_attnUpdate, serPort_attnUpdate, hdr_attnUpdate, serEnt_entTo, serPort_entTo, serPort_raise,
      serPort_modSer]
    exact ⟨rfl, rfl, rfl, rfl, cause_entTo _ _ _ _ _ (by decide)⟩
  · intro idle
    exact ⟨(reply works).trans (next_after_congr (modbusReply_of_idle idle)),
      (timeout works).trans (next_after_congr (modbusTimeout_of_idle idle))⟩
  · intro heard good taker
    refine ⟨_, (sentence works).trans (next_after_congr (nmeaSentence_of_taken p.isLt heard good taker)), ?_⟩
    rw [after_chip, serEnt_attnUpdate, serEnt_entTo]
    exact ⟨rfl, rfl, rfl, rfl, rfl, rfl⟩
  · intro heard good taker
    exact (sentence works).trans (next_after_congr (nmeaSentence_of_unmatched p.isLt heard good taker))
  · intro heard bad
    refine ⟨_, sentence works, ?_⟩
    rw [after_chip, serEnt_attnUpdate, serPort_attnUpdate, hdr_attnUpdate]
    exact nmeaSentence_of_bad p.isLt heard bad
  · intro unheard
    exact (sentence works).trans (next_after_congr (nmeaSentence_of_unheard p.isLt unheard))

end Sys2Proof.Machine
end

section
/-!
PROOFS. The ends of program, set and heat loads (R174, R175, R285, R286, R325).
-/
namespace Sys2Proof.Machine
open Safety

/-! ### Storing the object -/

theorem smFind_smDel_same {α : Type} (m : SMap α) (i : Nat) : smFind (smDel m i) i = none := by
  induction m with
  | nil => rfl
  | cons e m ih =>
    obtain ⟨k, w⟩ := e
    unfold smDel
    split
    · exact ih
    · next other => rw [smFind, if_neg other, ih]

theorem writeVersion_objects (c : Chip) (format : Nat) (entries journal : List SetEntry) (cause : Nat) :
    (writeVersion c format entries journal cause).upd.objects = c.upd.objects
      ∧ (writeVersion c format entries journal cause).upd.staged = c.upd.staged := by
  rw [writeVersion, emit_upd]
  exact ⟨rfl, rfl⟩

theorem causesKept_writeVersion (c : Chip) (format : Nat) (entries journal : List SetEntry) (cause : Nat) :
    CausesKept c (writeVersion c format entries journal cause) := by
  unfold writeVersion
  dsimp only
  refine (causesKept_of_pages (c := c) ?_).trans (causesKept_emit _ _ _ _ _ _ _ _)
  rfl

section store
variable (c : Chip) (kind page : Nat) (bs : List Byte)

/-- An object that is stored takes its place, and nothing stays staged (R286). -/
theorem storeObject_upd : smFind (storeObject c kind page bs).upd.objects (kind * 128 + page) = some bs
    ∧ stagedFor (storeObject c kind page bs) page = none := by
  unfold stagedFor storeObject
  dsimp only
  rw [(writeVersion_objects ..).1, (writeVersion_objects ..).2]
  exact ⟨(smFind_smPut ..).trans (if_pos rfl), smFind_smDel_same ..⟩

theorem storeObject_engines : (storeObject c kind page bs).engines = c.engines := by
  simp only [storeObject, writeVersion, emit_engines]

theorem storeObject_sel : (storeObject c kind page bs).sel = c.sel := by
  simp only [storeObject, writeVersion, emit_sel]

theorem crewSt_storeObject (cr : Crew) : crewSt (storeObject c kind page bs) cr = crewSt c cr := by
  simp only [storeObject, writeVersion, crewSt_emit]
  cases cr <;> rfl

theorem causesKept_storeObject : CausesKept c (storeObject c kind page bs) := by
  unfold storeObject
  dsimp only
  refine (causesKept_of_pages (c := c) ?_).trans (causesKept_writeVersion _ _ _ _ _)
  rfl

end store

/-! ### Programs -/

section programs
variable {c : Chip} {cr : Crew} {bs : List Byte}

theorem programLoadEnd_of_idle (idle : (crewSt c cr).loadResult ≠ 0xFF) : programLoadEnd c cr = c :=
  if_pos (by rw [decide_eq_true idle]; rfl)

theorem programLoadEnd_of_mode (mode : c.mode.mode ≠ .config) : programLoadEnd c cr = c :=
  if_pos (by rw [bne_iff_ne.mpr mode, Bool.or_true])

theorem programLoadEnd_of_due (mode : c.mode.mode = .config) (due : (crewSt c cr).loadResult = 0xFF) :
    programLoadEnd c cr = loadEnds (crewPage cr) 1 (stagedFor c (crewPage cr))
      (programLoad c cr (stagedFor c (crewPage cr))) := if_neg (by rw [mode, due]; decide)

@[simp] theorem crewSt_loadDone (c : Chip) (x : Crew) (id version : Word) (result : Nat) (at_ : Word) (y : Crew) :
    crewSt (loadDone c x id version result at_) y = crewSt c y := by simp [loadDone]

@[simp] theorem loadDone_upd (c : Chip) (x : Crew) (id version : Word) (result : Nat) (at_ : Word) :
    (loadDone c x id version result at_).upd = c.upd := by simp [loadDone]

theorem cause_loadDone (c : Chip) (x : Crew) (id version : Word) (result : Nat) (at_ : Word) :
    bitOf (hdr (loadDone c x id version result at_) (crewPage x)).cause 16 = true := bitOf_cause_raise _ _ (by decide)

@[simp] theorem crewSt_forceCond (c : Chip) (x y : Crew) : crewSt (forceCond c x) y = crewSt c y := crewSt_setCond ..

theorem crewSt_installProgram (c : Chip) (cr : Crew) (p : Program) : crewSt (installProgram c cr p) cr =
    { crewSt (stopCrew c cr) cr with
      prog := some p, loadResult := 0, loadSection := 0xFF, loadWhere := 0, apart := none
      cores := p.parts.map fun q => { CoreSt.reset with mem := freshMem q } } := by
  unfold installProgram
  dsimp only
  rw [crewSt_forceCond, crewSt_modCtl, crewSt_modCrew]

/-- The module as a program that passes leaves it. -/
def programStored (c : Chip) (cr : Crew) (p : Program) (bs : List Byte) : Chip :=
  storeObject (dropStaged (loadDone (installProgram c cr p) cr p.id p.version 0 0) (crewPage cr)) 1 (crewPage cr) bs

theorem programLoadEnd_of_ok {p : Program} (mode : c.mode.mode = .config) (due : (crewSt c cr).loadResult = 0xFF)
    (staged : stagedFor c (crewPage cr) = some bs) (good : checkProgram (some bs) cr (scullOption c) = .ok p) :
    programLoadEnd c cr = programStored c cr p bs := by
  rw [programLoadEnd_of_due mode due, staged, programLoad, good]
  rfl

theorem crewSt_dropStaged (c : Chip) (p : Nat) (cr : Crew) : crewSt (dropStaged c p) cr = crewSt c cr := by cases cr <;> rfl

theorem crewSt_programStored (p : Program) : crewSt (programStored c cr p bs) cr = { crewSt (stopCrew c cr) cr with
    prog := some p, loadResult := 0, loadSection := 0xFF, loadWhere := 0, apart := none
    cores := p.parts.map fun q => { CoreSt.reset with mem := freshMem q } } := by
  rw [programStored, crewSt_storeObject, crewSt_dropStaged, crewSt_loadDone, crewSt_installProgram]

theorem cause_programStored (p : Program) : bitOf (hdr (programStored c cr p bs) (crewPage cr)).cause 16 = true := by
  have dropped (d : Chip) (page : Nat) : CausesKept d (dropStaged d page) := causesKept_of_pages rfl
  exact ((dropped _ _).trans (causesKept_storeObject _ _ _ _)).stays _ _ (by decide) (cause_loadDone ..)

theorem programLoadEnd_of_error {f : LoadFail} (mode : c.mode.mode = .config) (due : (crewSt c cr).loadResult = 0xFF)
    (bad : checkProgram (stagedFor c (crewPage cr)) cr (scullOption c) = .error f) :
    crewSt (programLoadEnd c cr) cr = { crewSt c cr with
        loadResult := f.result, loadSection := f.sect, loadWhere := BitVec.ofNat 32 f.at_ }
      ∧ (programLoadEnd c cr).upd = c.upd := by
  rw [programLoadEnd_of_due mode due, programLoad, bad]
  dsimp only [loadEnds]
  rw [if_neg (by decide), crewSt_loadDone, crewSt_modCrew, loadDone_upd, modCrew_upd]
  exact ⟨rfl, rfl⟩

end programs

/-! ### Loop and table sets -/

section sets
variable {c : Chip} {e : Nat} {bs : List Byte}

theorem setLoadEnd_of_idle (idle : (eng c e).result ≠ 0xFF) : setLoadEnd c e = c :=
  if_pos (by rw [decide_eq_true idle]; rfl)

theorem setLoadEnd_of_mode (mode : c.mode.mode ≠ .config) : setLoadEnd c e = c :=
  if_pos (by rw [bne_iff_ne.mpr mode, Bool.or_true])

theorem setLoadEnd_of_due (mode : c.mode.mode = .config) (due : (eng c e).result = 0xFF) : setLoadEnd c e =
    loadEnds (engPage e) (if e < 8 then 2 else 4) (stagedFor c (engPage e)) (loopSetLoad c e (stagedFor c (engPage e))) :=
  if_neg (by rw [mode, due]; decide)

theorem eng_of_engines {c d : Chip} (h : c.engines = d.engines) (e : Nat) : eng c e = eng d e := by rw [eng, eng, h]

@[simp] theorem eng_modEng (c : Chip) (e : Nat) (f : EngSt → EngSt) : eng (modEng c e f) e = f (eng c e) := by
  simp [eng, modEng]

/-- The module with a set that passes, as LOAD leaves it. -/
def setInstalled (c : Chip) (e : Nat) (x : LoopSet) (d : SMap Nat) : Chip :=
  let old := match (eng c e).set with
    | some x => (x.loops.filter fun b => b.com.out.kind == 1).map (·.com.out.index)
    | none => []
  let c := modEng (dropImages c old) e fun g => { g with
    result := 0, failNo := 0xFF, set := some x, tune := none
    loops := x.loops.foldl (fun m b => smSet LoopSt.reset m b.com.no
      { LoopSt.reset with req := b.com.initMode, dmax := smGet 0 d b.com.no }) [] }
  emit (raise (alertCond c e) (engPage e) 0) (engPage e) 0x40 0xFFFF x.id x.version 0 0xFF

theorem loopSetLoad_of_ok {obj : Option (List Byte)} {x : LoopSet} {d : SMap Nat}
    (good : checkLoopSet (decide (8 ≤ e)) (if e < 8 then e else e - 8) (periodNs c) obj = .ok (x, d)) :
    loopSetLoad c e obj = (setInstalled c e x d, true) := by
  unfold loopSetLoad
  rw [good]
  rfl

theorem alertCond_engines (c : Chip) (e : Nat) : (alertCond c e).engines = c.engines := setCond_engines ..

theorem eng_setInstalled (c : Chip) (e : Nat) (x : LoopSet) (d : SMap Nat) :
    (eng (setInstalled c e x d) e).set = some x ∧ (eng (setInstalled c e x d) e).result = 0 := by
  unfold setInstalled
  dsimp only
  rw [eng_of_engines ((emit_engines ..).trans ((raise_engines ..).trans (alertCond_engines ..))), eng_modEng]
  exact ⟨rfl, rfl⟩

theorem setLoadEnd_of_ok {x : LoopSet} {d : SMap Nat} (mode : c.mode.mode = .config) (due : (eng c e).result = 0xFF)
    (staged : stagedFor c (engPage e) = some bs)
    (good : checkLoopSet (decide (8 ≤ e)) (if e < 8 then e else e - 8) (periodNs c) (some bs) = .ok (x, d)) :
    setLoadEnd c e = storeObject (dropStaged (setInstalled c e x d) (engPage e)) (if e < 8 then 2 else 4) (engPage e) bs := by
  rw [setLoadEnd_of_due mode due, staged, loopSetLoad_of_ok good]
  rfl

theorem dropStaged_engines (c : Chip) (p : Nat) : (dropStaged c p).engines = c.engines := rfl

/-- A set that passes replaces the engine's, and is stored (R285, R286, R325). -/
theorem setLoadEnd_shown {x : LoopSet} {d : SMap Nat} (mode : c.mode.mode = .config) (due : (eng c e).result = 0xFF)
    (staged : stagedFor c (engPage e) = some bs)
    (good : checkLoopSet (decide (8 ≤ e)) (if e < 8 then e else e - 8) (periodNs c) (some bs) = .ok (x, d)) :
    (eng (setLoadEnd c e) e).set = some x ∧ (eng (setLoadEnd c e) e).result = 0
      ∧ stagedFor (setLoadEnd c e) (engPage e) = none
      ∧ smFind (setLoadEnd c e).upd.objects ((if e < 8 then 2 else 4) * 128 + engPage e) = some bs := by
  rw [setLoadEnd_of_ok mode due staged good, eng_of_engines ((storeObject_engines ..).trans (dropStaged_engines ..))]
  obtain ⟨set, result⟩ := eng_setInstalled c e x d
  obtain ⟨stored, none_⟩ := storeObject_upd (dropStaged (setInstalled c e x d) (engPage e)) (if e < 8 then 2 else 4) (engPage e) bs
  exact ⟨set, result, none_, stored⟩

theorem setLoadEnd_of_error {r n : Nat} (mode : c.mode.mode = .config) (due : (eng c e).result = 0xFF)
    (bad : checkLoopSet (decide (8 ≤ e)) (if e < 8 then e else e - 8) (periodNs c) (stagedFor c (engPage e)) = .error (r, n)) :
    eng (setLoadEnd c e) e = { eng c e with result := r, failNo := n } ∧ (setLoadEnd c e).upd = c.upd := by
  rw [setLoadEnd_of_due mode due]
  unfold loopSetLoad
  rw [bad]
  dsimp only [loadEnds]
  rw [if_neg (by decide), emit_upd, raise_upd, eng_of_engines ((emit_engines ..).trans (raise_engines ..)), eng_modEng]
  exact ⟨rfl, rfl⟩

end sets

/-! ### Heat sets -/

section heats
variable {c : Chip} {bs : List Byte}

theorem heatLoadEnd_of_idle (idle : c.sel.result ≠ 0xFF) : heatLoadEnd c = c := if_pos (by rw [decide_eq_true idle]; rfl)

theorem heatLoadEnd_of_mode (mode : c.mode.mode ≠ .config) : heatLoadEnd c = c :=
  if_pos (by rw [bne_iff_ne.mpr mode, Bool.or_true])

theorem heatLoadEnd_of_due (mode : c.mode.mode = .config) (due : c.sel.result = 0xFF) :
    heatLoadEnd c = loadEnds 0x18 3 (stagedFor c 0x18) (heatSetLoad c (stagedFor c 0x18)) :=
  if_neg (by rw [mode, due]; decide)

theorem noLeaderChanges_sel (old : SMap HeatSt) (c : Chip) : (noLeaderChanges old c).sel = c.sel := by
  unfold noLeaderChanges noLeaderCond
  rw [setCond_sel]
  exact kept_foldl Chip.sel (fun d x => sel_of_inner (inner_noLeaderRecord ..)) old c

theorem laneTimeoutCond_sel (c : Chip) : (laneTimeoutCond c).sel = c.sel := setCond_sel ..

theorem heatLoadEnd_of_ok {i v : Word} {hs : List HeatBlock} (mode : c.mode.mode = .config) (due : c.sel.result = 0xFF)
    (staged : stagedFor c 0x18 = some bs) (good : checkHeatSet (some bs) = .ok (i, v, hs)) :
    (heatLoadEnd c).sel.set = some (i, v, hs) ∧ (heatLoadEnd c).sel.result = 0 ∧ stagedFor (heatLoadEnd c) 0x18 = none
      ∧ smFind (heatLoadEnd c).upd.objects (3 * 128 + 0x18) = some bs := by
  rw [heatLoadEnd_of_due mode due, staged, heatSetLoad, good]
  dsimp only [loadEnds]
  rw [if_pos rfl, storeObject_sel, dropStaged, modUpd_sel, emit_sel, raise_sel, laneTimeoutCond_sel, noLeaderChanges_sel]
  exact ⟨rfl, rfl, (storeObject_upd ..).2, (storeObject_upd ..).1⟩

theorem heatLoadEnd_of_error {r n : Nat} (mode : c.mode.mode = .config) (due : c.sel.result = 0xFF)
    (bad : checkHeatSet (stagedFor c 0x18) = .error (r, n)) :
    (heatLoadEnd c).sel = { c.sel with result := r, failNo := n } ∧ (heatLoadEnd c).upd = c.upd := by
  rw [heatLoadEnd_of_due mode due]
  unfold heatSetLoad
  rw [bad]
  dsimp only [loadEnds]
  rw [if_neg (by decide), emit_sel, raise_sel, emit_upd, raise_upd]
  exact ⟨rfl, rfl⟩

end heats

/-- Settles O56: each load by the outcome of its check. -/
theorem loadsComplete : Obligations.LoadsComplete := by
  unfold Obligations.LoadsComplete
  intro s cr e k bs
  have program : exec (.programLoad cr) s = .next (after s (programLoadEnd s.chip cr)) := by unfold exec; rfl
  have loops : exec (.loopSetLoad e) s = .next (after s (setLoadEnd s.chip e)) := by unfold exec; rfl
  have table : exec (.tableSetLoad k) s = .next (after s (setLoadEnd s.chip (k + 8))) := by unfold exec; rfl
  have heat : exec .heatSetLoad s = .next (after s (heatLoadEnd s.chip)) := by unfold exec; rfl
  have noTable : decide (8 ≤ (e : Nat)) = false := decide_eq_false (by omega)
  have isTable : decide (8 ≤ (k : Nat) + 8) = true := decide_eq_true (by omega)
  have loopNo : (if (e : Nat) < 8 then (e : Nat) else e - 8) = e := if_pos e.isLt
  have tableNo : (if (k : Nat) + 8 < 8 then (k : Nat) + 8 else k + 8 - 8) = k := by rw [if_neg (by omega)]; omega
  have loopKind : (if (e : Nat) < 8 then 2 else 4) = 2 := if_pos e.isLt
  have tableKind : (if (k : Nat) + 8 < 8 then 2 else 4) = 4 := if_neg (by omega)
  dsimp only
  refine ⟨?_, ?_, ?_, ?_, ?_, ?_, ?_, ?_, ?_, ?_, ?_, ?_, ?_⟩
  · intro other j member
    simp only [List.mem_cons, List.not_mem_nil, or_false] at member
    obtain rfl | rfl | rfl | rfl := member
    · exact program.trans (next_after_congr (programLoadEnd_of_mode other))
    · exact loops.trans (next_after_congr (setLoadEnd_of_mode other))
    · exact table.trans (next_after_congr (setLoadEnd_of_mode other))
    · exact heat.trans (next_after_congr (heatLoadEnd_of_mode other))
  · exact fun idle => program.trans (next_after_congr (programLoadEnd_of_idle idle))
  · exact fun idle => loops.trans (next_after_congr (setLoadEnd_of_idle idle))
  · exact fun idle => table.trans (next_after_congr (setLoadEnd_of_idle idle))
  · exact fun idle => heat.trans (next_after_congr (heatLoadEnd_of_idle idle))
  · intro p mode due staged good
    refine ⟨_, program.trans (next_after_congr (programLoadEnd_of_ok mode due staged good)), ?_⟩
    rw [after_chip, crewSt_attnUpdate, crewSt_programStored, hdr_attnUpdate, attnUpdate_upd, stagedFor, attnUpdate_upd]
    obtain ⟨stored, none_⟩ := storeObject_upd (dropStaged (loadDone (installProgram s.chip cr p) cr p.id p.version 0 0)
      (crewPage cr)) 1 (crewPage cr) bs
    exact ⟨rfl, rfl, rfl, none_, stored, cause_programStored p⟩
  · intro f mode due bad
    refine ⟨_, program, ?_⟩
    obtain ⟨crew, upd⟩ := programLoadEnd_of_error mode due bad
    rw [after_chip, crewSt_attnUpdate, stagedFor, attnUpdate_upd, upd]
    exact ⟨crew, rfl, rfl⟩
  · intro x d mode due staged good
    refine ⟨_, loops, ?_⟩
    have shown := setLoadEnd_shown mode due staged (by rw [noTable, loopNo]; exact good)
    rw [loopKind] at shown
    rw [after_chip, eng_of_engines (attnUpdate_engines _), attnUpdate_upd, stagedFor, attnUpdate_upd]
    exact shown
  · intro r n mode due bad
    refine ⟨_, loops, ?_⟩
    rw [after_chip, eng_of_engines (attnUpdate_engines _), attnUpdate_upd]
    exact setLoadEnd_of_error mode due (by rw [noTable, loopNo]; exact bad)
  · intro x d mode due staged good
    refine ⟨_, table, ?_⟩
    have shown := setLoadEnd_shown mode due staged (by rw [isTable, tableNo]; exact good)
    rw [tableKind] at shown
    rw [after_chip, eng_of_engines (attnUpdate_engines _), attnUpdate_upd, stagedFor, attnUpdate_upd]
    exact shown
  · intro r n mode due bad
    refine ⟨_, table, ?_⟩
    rw [after_chip, eng_of_engines (attnUpdate_engines _), attnUpdate_upd]
    exact setLoadEnd_of_error mode due (by rw [isTable, tableNo]; exact bad)
  · intro i v hs mode due staged good
    refine ⟨_, heat, ?_⟩
    rw [after_chip, attnUpdate_sel, attnUpdate_upd, stagedFor, attnUpdate_upd]
    exact heatLoadEnd_of_ok mode due staged good
  · intro r n mode due bad
    refine ⟨_, heat, ?_⟩
    rw [after_chip, attnUpdate_sel, attnUpdate_upd]
    exact heatLoadEnd_of_error mode due bad

end Sys2Proof.Machine
end

section
/-!
PROOFS. What the coxes and the strokes of the crews keep: `bench` is the module's mode, stroke, coxes, seat and
configuration with whether each crew runs and has caught. `Undisturbed` is an operation that keeps `bench` and every
cause that stands: what comes of a checkpoint is one.
-/
namespace Sys2Proof.Machine
open Safety

/-- A crew's part in the stroke: whether it runs, and whether it has caught. -/
def stance (k : CrewSt) : CrewSt := { CrewSt.reset with run := k.run, caught := k.caught }

/-- The mode, the stroke, the coxes, the seat, the configuration and the crews' part in the stroke. -/
def bench (c : Chip) : Chip :=
  { Chip.reset with mode := c.mode, stroke := c.stroke, coxSafety := c.coxSafety, coxProcess := c.coxProcess
                    seat := c.seat, cfg := c.cfg, crewS := stance c.crewS, crewP := stance c.crewP }

/-- The bench with the page headers. -/
def board (c : Chip) : Chip := { bench c with pages := c.pages }

theorem kept_fold {σ α β : Type} (g : σ → β) {f : σ → α → σ} (kept : ∀ x a, g (f x a) = g x) (l : List α) (x : σ) :
    g (l.foldl f x) = g x := by
  induction l generalizing x with
  | nil => rfl
  | cons a l ih => exact (ih _).trans (kept x a)

/-! ### Reading the bench -/

theorem mode_of_bench {c d : Chip} (h : bench c = bench d) : c.mode = d.mode :=
  (congrArg Chip.mode h : (bench c).mode = (bench d).mode)

theorem stroke_of_bench {c d : Chip} (h : bench c = bench d) : c.stroke = d.stroke :=
  (congrArg Chip.stroke h : (bench c).stroke = (bench d).stroke)

theorem seat_of_bench {c d : Chip} (h : bench c = bench d) : c.seat = d.seat :=
  (congrArg Chip.seat h : (bench c).seat = (bench d).seat)

theorem coxSt_bench (c : Chip) (cr : Crew) : coxSt (bench c) cr = coxSt c cr := by cases cr <;> rfl

theorem coxSt_of_bench {c d : Chip} (h : bench c = bench d) (cr : Crew) : coxSt c cr = coxSt d cr := by
  rw [← coxSt_bench c, h, coxSt_bench]

theorem paired_bench (c : Chip) : paired (bench c) = paired c := rfl

theorem paired_of_bench {c d : Chip} (h : bench c = bench d) : paired c = paired d := by
  rw [← paired_bench c, h, paired_bench]

theorem crewSt_bench (c : Chip) (cr : Crew) : crewSt (bench c) cr = stance (crewSt c cr) := by cases cr <;> rfl

theorem stance_of_bench {c d : Chip} (h : bench c = bench d) (cr : Crew) : stance (crewSt c cr) = stance (crewSt d cr) := by
  rw [← crewSt_bench c, h, crewSt_bench]

/-- A crew at rest: it neither runs nor has caught. -/
def Rests (c : Chip) (cr : Crew) : Prop := (crewSt c cr).run = .idle ∧ (crewSt c cr).caught = false

theorem rests_of_stance {c d : Chip} {cr : Crew} (h : stance (crewSt c cr) = stance (crewSt d cr)) (rests : Rests d cr) :
    Rests c cr :=
  ⟨(congrArg CrewSt.run h : (stance (crewSt c cr)).run = _).trans rests.1,
    (congrArg CrewSt.caught h : (stance (crewSt c cr)).caught = _).trans rests.2⟩

theorem rests_of_bench {c d : Chip} {cr : Crew} (h : bench c = bench d) (rests : Rests d cr) : Rests c cr :=
  rests_of_stance (stance_of_bench h cr) rests

/-! ### What keeps it -/

theorem bench_inner (c : Chip) : bench (inner c) = bench c := rfl

theorem bench_of_inner {c d : Chip} (h : inner c = inner d) : bench c = bench d := by
  rw [← bench_inner c, h, bench_inner]

theorem bench_of_board {c d : Chip} (h : board c = board d) : bench c = bench d := by
  have inside (x : Chip) : bench (board x) = bench x := rfl
  rw [← inside c, h, inside]

theorem pages_of_board {c d : Chip} (h : board c = board d) : c.pages = d.pages :=
  (congrArg Chip.pages h : (board c).pages = (board d).pages)

theorem bench_modPairCnt (c : Chip) (f : PairCnt → PairCnt) : bench (modPairCnt c f) = bench c := rfl

theorem bench_pairConds (c : Chip) : bench (pairConds c) = bench c :=
  (bench_of_inner (inner_pairConds c)).trans (bench_modPairCnt ..)

/-- An operation that keeps the bench and every cause that stands. -/
structure Undisturbed (c d : Chip) : Prop where
  bench : bench d = bench c
  causes : CausesKept c d

theorem Undisturbed.trans {c d e : Chip} (first : Undisturbed c d) (second : Undisturbed d e) : Undisturbed c e :=
  ⟨second.bench.trans first.bench, first.causes.trans second.causes⟩

theorem undisturbed_of_board {c d : Chip} (same : board d = board c) : Undisturbed c d :=
  ⟨bench_of_board same, causesKept_of_pages (pages_of_board same)⟩

theorem undisturbed_raise (c : Chip) (p b : Nat) : Undisturbed c (raise c p b) :=
  ⟨bench_of_inner (inner_raise ..), causesKept_raise ..⟩

theorem undisturbed_setCond (c : Chip) (p b : Nat) (v : Bool) : Undisturbed c (setCond c p b v) :=
  ⟨bench_of_inner (inner_setCond ..), causesKept_setCond ..⟩

theorem undisturbed_emit (c : Chip) (p low source : Nat) (p0 p1 p2 p3 : Word) :
    Undisturbed c (emit c p low source p0 p1 p2 p3) := ⟨bench_of_inner (inner_emit ..), causesKept_emit ..⟩

theorem undisturbed_foldl {α : Type} {f : Chip → α → Chip} (kept : ∀ c a, Undisturbed c (f c a)) (l : List α) (c : Chip) :
    Undisturbed c (l.foldl f c) :=
  ⟨kept_fold bench (fun x a => (kept x a).bench) l c, causesKept_foldl (fun x a => (kept x a).causes) l c⟩

theorem undisturbed_ite {c d e : Chip} {p : Prop} [Decidable p] (yes : Undisturbed c d) (no : Undisturbed c e) :
    Undisturbed c (if p then d else e) := by
  split
  · exact yes
  · exact no

theorem causesKept_pairConds (c : Chip) : CausesKept c (pairConds c) := by
  have reported : CausesKept c (modPairCnt c fun p => { p with lastHealth := health c }) := causesKept_of_pages rfl
  unfold pairConds readyChange
  dsimp only
  refine CausesKept.trans ?_ ((causesKept_setCond _ _ _ _).trans ((causesKept_setCond _ _ _ _).trans
    ((causesKept_setCond _ _ _ _).trans ((causesKept_setCond _ _ _ _).trans (causesKept_setCond _ _ _ _)))))
  exact causesKept_ite reported (reported.trans (causesKept_emit ..))

theorem undisturbed_pairConds (c : Chip) : Undisturbed c (pairConds c) := ⟨bench_pairConds c, causesKept_pairConds c⟩

/-! ### Applying a checkpoint (R406) -/

theorem board_modMirror (c : Chip) (f : MirrorSt → MirrorSt) : board (modMirror c f) = board c := rfl

theorem board_modCtl (c : Chip) (cr : Crew) (f : CrewCtl → CrewCtl) : board (modCtl c cr f) = board c := by cases cr <;> rfl

theorem board_modCrew (c : Chip) (cr : Crew) {f : CrewSt → CrewSt} (kept : stance (f (crewSt c cr)) = stance (crewSt c cr)) :
    board (modCrew c cr f) = board c := by
  cases cr with
  | safety => exact congrArg (fun k => { board c with crewS := k }) kept
  | process => exact congrArg (fun k => { board c with crewP := k }) kept

theorem board_modStn (c : Chip) (l a : Nat) (f : StnSt → StnSt) : board (modStn c l a f) = board c := rfl

theorem board_modLink (c : Chip) (l : Nat) (f : LinkSt → LinkSt) : board (modLink c l f) = board c := rfl

theorem board_modObj (c : Chip) (n o : Nat) (f : ObjSt → ObjSt) : board (modObj c n o f) = board c := rfl

theorem board_modCan (c : Chip) (n : Nat) (f : CanSt → CanSt) : board (modCan c n f) = board c := rfl

theorem board_modEnt (c : Chip) (p e : Nat) (f : SerEnt → SerEnt) : board (modEnt c p e f) = board c := rfl

theorem board_modZw (c : Chip) (k : Nat) (f : ZwConn → ZwConn) : board (modZw c k f) = board c := rfl

theorem board_modEng (c : Chip) (e : Nat) (f : EngSt → EngSt) : board (modEng c e f) = board c := rfl

theorem board_modBackup (c : Chip) (f : BackupSt → BackupSt) : board (modBackup c f) = board c := rfl

theorem board_journalAdd (c : Chip) (es : List SetEntry) : board (journalAdd c es) = board c := rfl

theorem board_setSafety (c : Chip) (x : SafetySt) : board { c with safety := x } = board c := rfl

theorem undisturbed_applyForces (c : Chip) (cr : Crew) (first : Nat) (bs : List Byte) :
    Undisturbed c (applyForces c cr first bs) :=
  (undisturbed_of_board (board_modCtl ..)).trans (undisturbed_setCond ..)

theorem board_applyDrive (c : Chip) (cr : Crew) (bs : List Byte) : board (applyDrive c cr bs) = board c :=
  board_modCrew c cr rfl

theorem undisturbed_applySys (c : Chip) (line : Nat) (bs : List Byte) : Undisturbed c (applySys c line bs) := by
  have frames (d : Chip) : board (forN 64 (fun i c =>
      let k := 64 * (line - 0x4243) + i
      if zwUsed c k && zwSends c k then modZw c k fun z => { z with seq := BitVec.ofNat 32 (leAt bs (4 * i) 4) }
      else c) d) = board d := by
    refine kept_forN board (fun i e => ?_) 64 d
    dsimp only
    split <;> rfl
  unfold applySys
  refine undisturbed_ite (undisturbed_of_board (board_modMirror ..)) ?_
  refine undisturbed_ite (undisturbed_of_board (board_modMirror ..)) ?_
  refine undisturbed_ite (undisturbed_of_board (board_modMirror ..)) ?_
  refine undisturbed_ite (undisturbed_of_board (board_setSafety ..)) ?_
  refine undisturbed_ite (undisturbed_of_board (board_modBackup ..)) ?_
  refine undisturbed_ite (undisturbed_of_board (frames c)) ?_
  refine undisturbed_ite (undisturbed_of_board (board_modMirror ..)) ?_
  refine undisturbed_ite (undisturbed_of_board (board_applyDrive ..)) ?_
  refine undisturbed_ite (undisturbed_of_board (board_applyDrive ..)) ?_
  refine undisturbed_ite (undisturbed_applyForces ..) ?_
  exact undisturbed_ite (undisturbed_applyForces ..) (undisturbed_of_board rfl)

theorem undisturbed_applyLine (c : Chip) (line : Nat) (bs : List Byte) : Undisturbed c (applyLine c line bs) :=
  undisturbed_ite (undisturbed_of_board (board_modCrew _ _ rfl)) (undisturbed_applySys ..)

theorem stance_trimCode (k : CrewSt) (t : Trim) : stance (trimCode k t) = stance k := by
  unfold trimCode trimOne
  split
  · split
    · split
      · rfl
      · split <;> rfl
    · rfl
  · rfl

theorem board_applyBatches (c : Chip) (ck : Ckpt) : board (applyBatches c ck) = board c := by
  have trims (d : Chip) (cr : Crew) : board ((ckptTrims ck cr).foldl (fun c batch =>
      let c := modCrew c cr fun k => batch.foldl trimCode k
      let c := modCtl c cr fun t => { t with journal := t.journal ++ [batch] }
      journalAdd c (trimEntries (crewPage cr) ck.stroke batch)) d) = board d := by
    refine kept_fold board (fun e batch => ?_) _ d
    rw [board_journalAdd, board_modCtl]
    exact board_modCrew _ _ (kept_fold stance stance_trimCode batch _)
  unfold applyBatches
  dsimp only
  refine (kept_fold board (fun e x => ?_) _ _).trans ((trims _ _).trans (trims c .safety))
  exact (board_journalAdd ..).trans (board_modEng ..)

/-- The board of the module that a reader of bytes has reached. -/
def boardOf (x : Chip × List Byte) : Chip := board x.1

theorem board_applySequencers (c : Chip) : board (applySequencers c) = board c := by
  unfold applySequencers
  split
  · rfl
  · refine (kept_fold boardOf (fun x p => kept_fold boardOf (fun y e => ?ports) _ x) _ _).trans
      ((kept_fold boardOf ?cans _ _).trans (kept_fold boardOf ?links _ _))
    case ports => exact board_modEnt ..
    case cans =>
      intro x n
      dsimp only
      split
      · rfl
      · refine (kept_fold boardOf (fun y o => ?_) _ _).trans (board_modCan ..)
        exact board_modObj ..
    case links =>
      intro x l
      dsimp only
      refine (kept_fold boardOf (fun y a => ?_) _ _).trans (board_modLink ..)
      exact board_modStn ..

/-- What comes of a checkpoint leaves the bench and the causes. -/
theorem undisturbed_applyCkpt (c : Chip) (ck : Ckpt) : Undisturbed c (applyCkpt c ck) := by
  have lines := undisturbed_foldl (fun d (e : Nat × List Byte) => undisturbed_applyLine d (e.1 / 4) e.2)
    (ck.lines.filter fun e => lineOnce ck e.1) c
  unfold applyCkpt
  dsimp only
  refine Undisturbed.trans ?_ ((undisturbed_of_board (board_applySequencers _)).trans ((undisturbed_setCond ..).trans
    ((undisturbed_setCond ..).trans (undisturbed_pairConds _))))
  refine lines.trans (undisturbed_of_board ?_)
  rw [board_modMirror, board_modCtl, board_modCtl, board_applyBatches]

theorem undisturbed_checkpointApply (c : Chip) : Undisturbed c (checkpointApply c) := by
  unfold checkpointApply
  split
  · exact undisturbed_of_board rfl
  · exact undisturbed_ite (undisturbed_of_board rfl)
      ((undisturbed_of_board (board_modMirror ..)).trans (undisturbed_applyCkpt ..))

end Sys2Proof.Machine
end

section
/-!
PROOFS. The cox: mismatches, faulty crews and restores (R218, R221, R226, R227, R234, R235, R238, R246, R612).
-/
namespace Sys2Proof.Machine
open Safety

/-! ### A crew that stops -/

theorem bench_modCtl (c : Chip) (cr : Crew) (f : CrewCtl → CrewCtl) : bench (modCtl c cr f) = bench c :=
  bench_of_board (board_modCtl ..)

theorem bench_modCrew (c : Chip) (cr : Crew) {f : CrewSt → CrewSt} (kept : stance (f (crewSt c cr)) = stance (crewSt c cr)) :
    bench (modCrew c cr f) = bench c := bench_of_board (board_modCrew c cr kept)

theorem bench_modCores (c : Chip) (cr : Crew) (f : CoreSt → CoreSt) : bench (modCores c cr f) = bench c :=
  bench_modCrew c cr rfl

theorem bench_setCond (c : Chip) (p b : Nat) (v : Bool) : bench (setCond c p b v) = bench c := bench_of_inner (inner_setCond ..)

theorem bench_haltCond (c : Chip) (cr : Crew) : bench (haltCond c cr) = bench c := by
  cases cr
  · rfl
  · exact bench_setCond ..

theorem bench_returnTrims (c : Chip) (cr : Crew) : bench (returnTrims c cr) = bench c := bench_modCtl ..

theorem rests_stopCrew (c : Chip) (cr : Crew) : Rests (stopCrew c cr) cr := by
  rw [Rests, crewSt_stopCrew]
  exact ⟨rfl, rfl⟩

/-- A crew stops without a change of its cox, the mode, the stroke, the seat or the configuration. -/
theorem bench_modCox (c : Chip) (cr : Crew) (f : CoxSt → CoxSt) : bench (modCox c cr f) = modCox (bench c) cr f := by
  cases cr <;> rfl

theorem crewSt_breakStroke_ne (c : Chip) {cr x : Crew} (h : cr ≠ x) : crewSt (breakStroke c cr) x = crewSt c x := by
  rw [breakStroke, crewSt_stopCrew_ne _ h, crewSt_modCtl]
  split
  · exact crewSt_returnTrims ..
  · rfl

theorem rests_breakStroke (c : Chip) (cr : Crew) : Rests (breakStroke c cr) cr := rests_stopCrew ..

theorem deck_breakStroke (c : Chip) (cr : Crew) : deck (breakStroke c cr) = deck c := by
  rw [breakStroke, deck_stopCrew, deck_modCtl]
  split
  · exact deck_returnTrims ..
  · rfl

theorem coxSt_deck (c : Chip) (cr : Crew) : coxSt (deck c) cr = coxSt c cr := by cases cr <;> rfl

theorem coxSt_of_deck {c d : Chip} (h : deck c = deck d) (cr : Crew) : coxSt c cr = coxSt d cr := by
  rw [← coxSt_deck c, h, coxSt_deck]

theorem coxSt_of_inner {c d : Chip} (h : inner c = inner d) (cr : Crew) : coxSt c cr = coxSt d cr :=
  coxSt_of_deck (deck_of_inner h) cr

theorem paired_deck (c : Chip) : paired (deck c) = paired c := rfl

theorem paired_of_deck {c d : Chip} (h : deck c = deck d) : paired c = paired d := by
  rw [← paired_deck c, h, paired_deck]

/-! ### A change to HOLD or SAFE_HALT -/

theorem modeLeft_deck {c : Chip} {m : Mode} (stays : c.mode.mode ≠ .standby) : deck (modeLeft c m) = deck c := by
  have noReception : (c.mode.mode == .standby && m != .takeover) = false := by simp [stays]
  simp only [modeLeft, noReception, apply_ite deck, deck_stopSampling, ite_self]
  simp

theorem crewSt_of_inner {c d : Chip} (h : inner c = inner d) (cr : Crew) : crewSt c cr = crewSt d cr := by
  have inside (x : Chip) : crewSt (inner x) cr = crewSt x cr := by cases cr <;> rfl
  rw [← inside c, h, inside]

/-- An entry to HOLD from RUN changes nothing but the mode and the stroke's run of skips. -/
theorem inner_enterHold {c : Chip} (row : Nat) (runs : c.mode.mode = .run) : ∃ h,
    inner (enterMode c .hold row) = inner (modPairCnt (modeChanged c .hold) fun p => { p with lastHealth := h }) := by
  have other : c.mode.mode ≠ .hold := by rw [runs]; decide
  have left : modeLeft c .hold = c := modeLeft_eq (.inl (by rw [runs]; decide)) (.inr rfl)
  have entry : inner (modeEntry (changeMode c .hold row) c.mode.mode .hold row) = inner (modeChanged c .hold) := by
    unfold modeEntry
    dsimp only
    rw [inner_canSyncAll, inner_changeMode row other]
  exact ⟨health (modeEntry (changeMode c .hold row) c.mode.mode .hold row), by
    rw [enterMode_of_ne row other, left, inner_pairConds, inner_modPairCnt, entry, inner_modPairCnt]⟩

theorem coxSt_enterHold {c : Chip} (row : Nat) (runs : c.mode.mode = .run) (cr : Crew) :
    coxSt (enterMode c .hold row) cr = coxSt c cr := by
  obtain ⟨h, same⟩ := inner_enterHold row runs
  have shown (x : Crew) : coxSt (modPairCnt (modeChanged c .hold) fun p => { p with lastHealth := h }) x = coxSt c x := by
    cases x <;> rfl
  rw [coxSt_of_inner same, shown]

theorem crewSt_enterHold {c : Chip} (row : Nat) (runs : c.mode.mode = .run) (cr : Crew) :
    crewSt (enterMode c .hold row) cr = crewSt c cr := by
  obtain ⟨h, same⟩ := inner_enterHold row runs
  have shown (x : Crew) : crewSt (modPairCnt (modeChanged c .hold) fun p => { p with lastHealth := h }) x = crewSt c x := by
    cases x <;> rfl
  rw [crewSt_of_inner same, shown]

/-- The module that has halted, before the pair's conditions follow. -/
theorem coxSt_pairConds (c : Chip) (cr : Crew) : coxSt (pairConds c) cr = coxSt c cr := by
  have counted (h : Word) : coxSt (modPairCnt c fun p => { p with lastHealth := h }) cr = coxSt c cr := by cases cr <;> rfl
  rw [coxSt_of_inner (inner_pairConds c), counted]

theorem crewSt_pairConds (c : Chip) (cr : Crew) : crewSt (pairConds c) cr = crewSt c cr := by
  have counted (h : Word) : crewSt (modPairCnt c fun p => { p with lastHealth := h }) cr = crewSt c cr := by cases cr <;> rfl
  rw [crewSt_of_inner (inner_pairConds c), counted]

theorem coxSt_modSeat (c : Chip) (f : SeatSt → SeatSt) (cr : Crew) : coxSt (modSeat c f) cr = coxSt c cr := by cases cr <;> rfl

theorem crewSt_modSeat (c : Chip) (f : SeatSt → SeatSt) (cr : Crew) : crewSt (modSeat c f) cr = crewSt c cr := by cases cr <;> rfl

theorem coxSt_modMirror (c : Chip) (f : MirrorSt → MirrorSt) (cr : Crew) : coxSt (modMirror c f) cr = coxSt c cr := by
  cases cr <;> rfl

theorem crewSt_modMirror (c : Chip) (f : MirrorSt → MirrorSt) (cr : Crew) : crewSt (modMirror c f) cr = crewSt c cr := by
  cases cr <;> rfl

theorem coxSt_modeChanged (c : Chip) (m : Mode) (cr : Crew) : coxSt (modeChanged c m) cr = coxSt c cr := by cases cr <;> rfl

theorem coxSt_modeLeft (c : Chip) (m : Mode) (cr : Crew) : coxSt (modeLeft c m) cr = coxSt c cr := by
  have sampling (d : Chip) : coxSt (stopSampling d) cr = coxSt d cr := coxSt_of_deck (deck_stopSampling d) cr
  have restored (d : Chip) : coxSt (paddleRestore d) cr = coxSt d cr := coxSt_of_deck (deck_paddleRestore d) cr
  simp only [modeLeft, leaveStandby, apply_ite (coxSt · cr), sampling, coxSt_modMirror, restored, ite_self]

/-- A halt stops both crews and leaves their coxes (R30). -/
theorem coxSt_enterHalt (c : Chip) (row : Nat) (cr : Crew) : coxSt (enterMode c .safeHalt row) cr = coxSt c cr := by
  by_cases here : c.mode.mode = .safeHalt
  · rw [enterMode_of_eq row here]
  · have other : (modeLeft c .safeHalt).mode.mode ≠ .safeHalt := by rwa [modeLeft_mode]
    have stopped (d : Chip) : coxSt (stopCrews d) cr = coxSt d cr := coxSt_of_deck (deck_stopCrews d) cr
    rw [enterMode_of_ne row here, coxSt_pairConds]
    unfold modeEntry
    dsimp only
    rw [coxSt_of_inner (inner_canSyncAll _), coxSt_modSeat, coxSt_of_inner (inner_inhibitGroups _), stopped,
      coxSt_of_inner (inner_changeMode row other), coxSt_modeChanged, coxSt_modeLeft]

theorem rests_stopCrews (c : Chip) (cr : Crew) : Rests (stopCrews c) cr := by
  cases cr with
  | safety =>
    unfold Rests stopCrews
    rw [crewSt_stopCrew_ne _ (by decide)]
    exact rests_stopCrew ..
  | process => exact rests_stopCrew ..

theorem rests_enterHalt {c : Chip} (row : Nat) (cr : Crew) (other : c.mode.mode ≠ .safeHalt) :
    Rests (enterMode c .safeHalt row) cr := by
  rw [enterMode_of_ne row other, Rests, crewSt_pairConds]
  unfold modeEntry
  dsimp only
  rw [crewSt_of_inner (inner_canSyncAll _), crewSt_modSeat, crewSt_of_inner (inner_inhibitGroups _)]
  exact rests_stopCrews ..

/-! ### Causes of the cox's pages -/

theorem pages_returnTrims (c : Chip) (cr : Crew) : (returnTrims c cr).pages = c.pages := modCtl_pages ..

theorem causesKept_haltCond (c : Chip) (cr : Crew) : CausesKept c (haltCond c cr) := by
  cases cr
  · exact causesKept_rfl
  · exact causesKept_setCond ..

theorem causesKept_stopCrew (c : Chip) (cr : Crew) : CausesKept c (stopCrew c cr) := by
  unfold stopCrew
  dsimp only
  refine CausesKept.trans ?_ (causesKept_haltCond _ _)
  refine causesKept_of_pages ?_
  simp only [apply_ite Chip.pages, pages_returnTrims, modCtl_pages, modCores, modCrew_pages, ite_self]

theorem causesKept_breakStroke (c : Chip) (cr : Crew) : CausesKept c (breakStroke c cr) := by
  unfold breakStroke
  refine CausesKept.trans ?_ (causesKept_stopCrew _ _)
  refine causesKept_of_pages ?_
  simp only [apply_ite Chip.pages, pages_returnTrims, modCtl_pages, ite_self]

theorem pages_restoreClean (c : Chip) (cr : Crew) : (restoreClean c cr).pages = c.pages := by
  have mem (d : Chip) : (restoreMem d cr).pages = d.pages := by
    unfold restoreMem
    split <;> simp [modCores]
  unfold restoreClean restoreCtl
  split
  · exact mem c
  · rw [modCrew_pages, mem]

theorem causesKept_paddleRestore (c : Chip) : CausesKept c (paddleRestore c) := by
  have back (d : Chip) (cr : Crew) :
      CausesKept d (if (crewSt d cr).caught || (crewSt d cr).run == .running then stopCrew (restoreClean d cr) cr else d) :=
    causesKept_ite ((causesKept_of_pages (pages_restoreClean d cr)).trans (causesKept_stopCrew ..)) causesKept_rfl
  exact (back c .safety).trans (back _ .process)

/-- The causes of the central pages that no change of mode sets, as an operation that may change the mode leaves them. -/
structure WatchedKept (c d : Chip) : Prop where
  stays : ∀ p b, watched p b = true → bitOf (hdr c p).cause b = true → bitOf (hdr d p).cause b = true

theorem WatchedKept.trans {c d e : Chip} (first : WatchedKept c d) (second : WatchedKept d e) : WatchedKept c e :=
  ⟨fun p b w h => second.stays p b w (first.stays p b w h)⟩

theorem CausesKept.watched {c d : Chip} (kept : CausesKept c d) : WatchedKept c d :=
  ⟨fun p b w h => kept.stays p b (lt_of_watched w) h⟩

theorem watchedKept_of_heads {c d : Chip} (same : heads d = heads c) : WatchedKept c d :=
  ⟨fun _ _ w h => (cause_of_heads same w).trans h⟩

end Sys2Proof.Machine
end

section
/-!
PROOFS. Mismatches, declarations and restores as they complete (R221, R226, R227, R234, R235, R238, R246, R612).
-/
namespace Sys2Proof.Machine
open Safety

/-! ### A declaration -/

section declare
variable (c : Chip) (cr : Crew) (reason : Nat)

/-- The crew of a declaration stops, with its cox showing FAULTY (R235). -/
def declared : Chip :=
  let c := breakStroke (modCox c cr fun k => { k with faulty := true, restoring := false, awaiting := false }) cr
  let k := coxSt c cr
  let c := emit (setCond c (crewPage cr) 2 true) (crewPage cr) 0x12 0xFFFF k.last k.prevStroke k.lastStroke
    (BitVec.ofNat 32 reason)
  let c := if c.mode.mode = .standby then
      modMirror c fun m => { m with whole := false, succession := 0 }
    else c
  pairConds c

theorem declareFaulty_eq : declareFaulty c cr reason =
    if (declared c cr reason).mode.mode.runs then haltOrHandover (declared c cr reason) 21 else declared c cr reason := rfl

theorem coxSt_breakStroke (x : Crew) : coxSt (breakStroke c cr) x = coxSt c x := coxSt_of_deck (deck_breakStroke ..) x

theorem coxSt_declared : coxSt (declared c cr reason) cr =
    { coxSt c cr with faulty := true, restoring := false, awaiting := false } := by
  unfold declared
  dsimp only
  rw [coxSt_pairConds]
  simp only [apply_ite (coxSt · cr), coxSt_modMirror, ite_self]
  rw [coxSt_emit, coxSt_setCond, coxSt_breakStroke, coxSt_modCox]

theorem rests_declared : Rests (declared c cr reason) cr := by
  have rests := rests_breakStroke (modCox c cr fun k => { k with faulty := true, restoring := false, awaiting := false }) cr
  unfold Rests at *
  unfold declared
  dsimp only
  rw [crewSt_pairConds]
  simp only [apply_ite (crewSt · cr), crewSt_modMirror, crewSt_emit, crewSt_setCond, ite_self]
  exact rests

theorem mode_breakStroke (d : Chip) : (breakStroke d cr).mode = d.mode := mode_of_deck (deck_breakStroke ..)

theorem declared_mode : (declared c cr reason).mode = c.mode := by
  unfold declared
  dsimp only
  simp only [pairConds_mode, apply_ite Chip.mode, modMirror_mode, emit_mode, setCond_mode, mode_breakStroke, modCox_mode,
    ite_self]

theorem cfg_breakStroke (d : Chip) : (breakStroke d cr).cfg = d.cfg :=
  (congrArg Chip.cfg (deck_breakStroke d cr) : (deck (breakStroke d cr)).cfg = (deck d).cfg)

theorem cfg_pairConds (d : Chip) : (pairConds d).cfg = d.cfg :=
  (congrArg Chip.cfg (inner_pairConds d) : (inner (pairConds d)).cfg = (inner _).cfg)

theorem paired_of_cfg {c d : Chip} (h : c.cfg = d.cfg) : paired c = paired d := by
  simp only [paired, pairCfgW, cfg, h]

theorem paired_declared : paired (declared c cr reason) = paired c := by
  refine paired_of_cfg ?_
  unfold declared
  dsimp only
  simp only [cfg_pairConds, apply_ite Chip.cfg, modMirror_cfg, emit_cfg, setCond_cfg, cfg_breakStroke, modCox_cfg, ite_self]

theorem watched_crewPage (b : Nat) (low : b < 32) (other : b ≠ 19) : watched (crewPage cr) b = true := by
  cases cr <;> simp [watched, crewPage, low, other]

/-- FAULTY stands as a condition of the crew's page. -/
theorem heads_declared : heads (declared c cr reason) = heads (setCond (breakStroke (modCox c cr fun k =>
    { k with faulty := true, restoring := false, awaiting := false }) cr) (crewPage cr) 2 true) := by
  have mirror (d : Chip) (f : MirrorSt → MirrorSt) : heads (modMirror d f) = heads d := rfl
  unfold declared
  dsimp only
  simp only [heads_pairConds, apply_ite heads, mirror, heads_emit, ite_self]

theorem raw_declared : bitOf (hdr (declared c cr reason) (crewPage cr)).raw 2 = true := by
  rw [raw_of_heads (heads_declared ..) (watched_crewPage cr 2 (by decide) (by decide)), bitOf_raw_setCond _ _ _ (by decide)]

theorem watchedKept_declared : WatchedKept c (declared c cr reason) := by
  have broken : CausesKept c (breakStroke (modCox c cr fun k =>
      { k with faulty := true, restoring := false, awaiting := false }) cr) :=
    (causesKept_of_pages (modCox_pages ..)).trans (causesKept_breakStroke ..)
  exact (broken.trans (causesKept_setCond ..)).watched.trans (watchedKept_of_heads (heads_declared ..))

end declare

section halt
variable {c : Chip} (row : Nat) (cr : Crew)

theorem coxSt_haltOrHandover : coxSt (haltOrHandover c row) cr = coxSt c cr := by
  unfold haltOrHandover
  split
  · exact coxSt_modSeat ..
  · exact coxSt_enterHalt ..

theorem heads_haltOrHandover : heads (haltOrHandover c row) = heads c := by
  unfold haltOrHandover
  split
  · rfl
  · exact heads_enterMode ..

theorem rests_haltOrHandover (runs : c.mode.mode.runs = true) (rests : Rests c cr) : Rests (haltOrHandover c row) cr := by
  have other : c.mode.mode ≠ .safeHalt := by rintro h; rw [h] at runs; exact absurd runs (by decide)
  unfold haltOrHandover
  split
  · rwa [Rests, beginHandover, crewSt_modSeat]
  · exact rests_enterHalt row cr other

theorem beginHandover_handover (d : Chip) (halt : Option Nat) : (beginHandover d halt).seat.handover = true := by
  unfold beginHandover
  dsimp only [modSeat]
  split
  · assumption
  · rfl

/-- A module that must halt does so, or hands the seat over first (R30, R393). -/
theorem haltOrHandover_mode (runs : c.mode.mode.runs = true) :
    (paired c = false → (haltOrHandover c row).mode.mode = .safeHalt ∧ (haltOrHandover c row).mode.prev = c.mode.mode)
      ∧ ((haltOrHandover c row).mode.mode = .safeHalt ∨ (haltOrHandover c row).seat.handover = true) := by
  have other : c.mode.mode ≠ .safeHalt := by rintro h; rw [h] at runs; exact absurd runs (by decide)
  have halted := enterMode_mode row other
  refine ⟨fun alone => ?_, ?_⟩
  · have halts : haltOrHandover c row = enterMode c .safeHalt row := if_neg (by rw [alone]; simp)
    rw [halts, halted]
    exact ⟨rfl, rfl⟩
  · unfold haltOrHandover
    split
    · exact .inr (beginHandover_handover ..)
    · exact .inl (by rw [halted])

end halt

section declareShown
variable (c : Chip) (cr : Crew) (reason : Nat)

theorem coxSt_declareFaulty : coxSt (declareFaulty c cr reason) cr =
    { coxSt c cr with faulty := true, restoring := false, awaiting := false } := by
  rw [declareFaulty_eq]
  split
  · rw [coxSt_haltOrHandover, coxSt_declared]
  · exact coxSt_declared ..

theorem rests_declareFaulty : Rests (declareFaulty c cr reason) cr := by
  rw [declareFaulty_eq]
  split
  · next runs => exact rests_haltOrHandover 21 cr runs (rests_declared ..)
  · exact rests_declared ..

theorem heads_declareFaulty : heads (declareFaulty c cr reason) = heads (declared c cr reason) := by
  rw [declareFaulty_eq]
  split
  · exact heads_haltOrHandover 21
  · rfl

theorem raw_declareFaulty : bitOf (hdr (declareFaulty c cr reason) (crewPage cr)).raw 2 = true := by
  rw [raw_of_heads (heads_declareFaulty ..) (watched_crewPage cr 2 (by decide) (by decide)), raw_declared]

theorem watchedKept_declareFaulty : WatchedKept c (declareFaulty c cr reason) :=
  (watchedKept_declared ..).trans (watchedKept_of_heads (heads_declareFaulty ..))

/-- The declaration halts a module that runs, or hands the seat over, and leaves the mode of any other. -/
theorem declareFaulty_mode :
    (c.mode.mode.runs = true → paired c = false →
        (declareFaulty c cr reason).mode.mode = .safeHalt ∧ (declareFaulty c cr reason).mode.prev = c.mode.mode)
      ∧ (c.mode.mode.runs = true →
        (declareFaulty c cr reason).mode.mode = .safeHalt ∨ (declareFaulty c cr reason).seat.handover = true)
      ∧ (c.mode.mode.runs = false → (declareFaulty c cr reason).mode = c.mode) := by
  have mode := declared_mode c cr reason
  rw [declareFaulty_eq, mode]
  refine ⟨fun runs alone => ?_, fun runs => ?_, fun rests => ?_⟩
  · rw [if_pos runs, ← mode]
    exact (haltOrHandover_mode 21 (by rw [mode]; exact runs)).1 (by rw [paired_declared]; exact alone)
  · rw [if_pos runs]
    exact (haltOrHandover_mode 21 (by rw [mode]; exact runs)).2
  · rw [if_neg (ne_true_of_eq_false rests), mode]

end declareShown

theorem faultyCrewsStop : Claims.FaultyCrewsStop := by
  intro s cr
  have disagree : exec (.comparatorDisagree cr) s = .next (after s (comparatorDisagree s.chip cr)) := by unfold exec; rfl
  dsimp only
  refine ⟨fun sound strokes voted => ?_, fun other => ?_, fun reason => ?_⟩
  · refine disagree.trans (next_after_congr (if_neg ?_))
    rw [sound, strokes]
    simpa using voted
  · refine disagree.trans (next_after_congr (if_pos ?_))
    obtain faulty | still | scull := other
    · rw [faulty]; rfl
    · rw [still]; simp
    · rw [scull.2, scull.1]; simp
  · obtain ⟨halts, hands, stays⟩ := declareFaulty_mode s.chip cr reason
    have cox := coxSt_declareFaulty s.chip cr reason
    rw [cox]
    exact ⟨rfl, rfl, (rests_declareFaulty ..).1, raw_declareFaulty .., halts, hands, stays⟩

/-! ### A mismatch -/

/-- The registers of a cox but the state of the reset that a mismatch begins. -/
def marks (k : CoxSt) : CoxSt := { k with faulty := false, restoring := false, awaiting := false, inHold := false }

/-- The mismatch registers after a mismatch in stroke `now` (R246). -/
def mismatched (k : CoxSt) (now : Word) (kind : Nat) (cores : BitVec 3) (addr : Word) (task pc : Nat) : CoxSt :=
  { k with
    mismatches := satInc 0xFFFF k.mismatches
    history := (now :: k.history).take 3
    last := pack [(kind, 31, 28), (cores.toNat, 26, 24), (task, 23, 20), (pc, 19, 0)]
    lastAddr := addr, prevStroke := k.lastStroke, lastStroke := now }

theorem stroke_countSource (c : Chip) (n : Nat) : (countSource c n).stroke = c.stroke := by
  unfold countSource
  split <;> rfl

theorem coxSt_countSource (c : Chip) (n : Nat) (cr : Crew) : coxSt (countSource c n) cr = coxSt c cr := by
  unfold countSource
  split
  · rfl
  · cases cr <;> rfl

theorem pages_countSource (c : Chip) (n : Nat) : (countSource c n).pages = c.pages := by
  unfold countSource
  split <;> rfl

/-- The module once a mismatch is counted. -/
def mismatchCounted (c : Chip) (cr : Crew) (kind : Nat) (cores : BitVec 3) (addr : Word) (task pc : Nat) : Chip :=
  modCox (countSource c (coxSource cr)) cr fun k => mismatched k (countSource c (coxSource cr)).stroke.count kind cores addr task pc

section stops
variable (c : Chip) (cr : Crew)

/-- What the cox's own reset leaves of the cox (R226). -/
theorem coxSt_crewStops : ∃ h : Bool, coxSt (crewStops c cr) cr = { coxSt c cr with awaiting := false, inHold := h } := by
  have stopped (d : Chip) (f : CoreSt → CoreSt) : coxSt (modCores (breakStroke d cr) cr f) cr = coxSt d cr := by
    rw [modCores, coxSt_modCrew, coxSt_breakStroke]
  unfold crewStops
  dsimp only
  split
  · next runs =>
    rw [Bool.and_eq_true, beq_iff_eq] at runs
    rw [coxSt_enterHold 15 runs.2, coxSt_modCox, stopped]
    exact ⟨_, rfl⟩
  · rw [coxSt_modCox, stopped]
    exact ⟨_, rfl⟩

theorem rests_crewStops : Rests (crewStops c cr) cr := by
  have rests := rests_breakStroke c cr
  have stopped (f : CoxSt → CoxSt) : Rests (modCox (modCores (breakStroke c cr) cr resetCore) cr f) cr := by
    rw [Rests, crewSt_modCox, modCores, crewSt_modCrew]
    exact rests
  unfold crewStops
  dsimp only
  split
  · next runs =>
    rw [Bool.and_eq_true, beq_iff_eq] at runs
    rw [Rests, crewSt_enterHold 15 runs.2]
    exact stopped _
  · exact stopped _

theorem heads_breakStroke (d : Chip) : heads (breakStroke d cr) = heads d := by
  simp only [breakStroke, heads_stopCrew, heads_modCtl, apply_ite heads, returnTrims, ite_self]

theorem heads_crewStops : heads (crewStops c cr) = heads c := by
  have cox (d : Chip) (f : CoxSt → CoxSt) : heads (modCox d cr f) = heads d := heads_of_pages (modCox_pages ..)
  have stopped : heads (modCores (breakStroke c cr) cr resetCore) = heads c := by
    rw [modCores, heads_modCrew, heads_breakStroke]
  unfold crewStops
  dsimp only
  split
  · rw [heads_enterMode, cox, stopped]
  · rw [cox, stopped]

end stops

/-- A mismatch of a standby whose crew replays a paddle stroke ends the replay (R422). -/
def replayEnds (c : Chip) (cr : Crew) : Chip :=
  if c.mirror.replay.isSome && c.mode.mode == .standby then
    if (coxSt c cr).restoring then
      modCox (checkpointApply (paddleAbandon c 6)) cr fun k => { k with restoring := true }
    else checkpointApply (paddleAbandon c 6)
  else c

section replay
variable (c : Chip) (cr : Crew)

theorem undisturbed_paddleFail (d : Chip) (result : Nat) (stroke where_ : Word) : Undisturbed d (paddleFail d result stroke where_) := by
  unfold paddleFail
  dsimp only
  exact (undisturbed_of_board (board_modMirror ..)).trans ((undisturbed_emit ..).trans
    ((undisturbed_raise ..).trans (undisturbed_pairConds _)))

theorem coxSt_paddleAbandon (result : Nat) : coxSt (paddleAbandon c result) cr = coxSt c cr := by
  unfold paddleAbandon
  split
  · rfl
  · rw [coxSt_of_bench (undisturbed_paddleFail ..).bench, coxSt_modMirror, coxSt_of_deck (deck_paddleRestore c)]

theorem causesKept_paddleAbandon (result : Nat) : CausesKept c (paddleAbandon c result) := by
  unfold paddleAbandon
  split
  · exact causesKept_rfl
  · exact (causesKept_paddleRestore c).trans ((causesKept_of_pages (modMirror_pages ..)).trans (undisturbed_paddleFail ..).causes)

/-- A crew at rest stays so when a replay is given up: only a crew that runs is restored. -/
theorem crewSt_paddleRestore {cr : Crew} (rests : Rests c cr) : crewSt (paddleRestore c) cr = crewSt c cr := by
  obtain ⟨idle, uncaught⟩ := rests
  have clean_ne (d : Chip) {x : Crew} (h : x ≠ cr) : crewSt (stopCrew (restoreClean d x) x) cr = crewSt d cr := by
    have mem : crewSt (restoreMem d x) cr = crewSt d cr := by
      unfold restoreMem modCores
      split <;> exact crewSt_modCrew_ne _ _ h
    rw [crewSt_stopCrew_ne _ h]
    unfold restoreClean restoreCtl
    split
    · exact mem
    · rw [crewSt_modCrew_ne _ _ h, mem]
  have back (d : Chip) (x : Crew) (same : crewSt d cr = crewSt c cr) :
      crewSt (if (crewSt d x).caught || (crewSt d x).run == .running then stopCrew (restoreClean d x) x else d) cr
        = crewSt c cr := by
    split
    · next runs =>
      have other : x ≠ cr := by
        rintro rfl
        rw [same, idle, uncaught] at runs
        exact absurd runs (by decide)
      rw [clean_ne d other, same]
    · exact same
  exact back _ .process (back c .safety rfl)

theorem rests_paddleAbandon {cr : Crew} (result : Nat) (rests : Rests c cr) : Rests (paddleAbandon c result) cr := by
  unfold paddleAbandon
  split
  · exact rests
  · refine rests_of_bench (undisturbed_paddleFail ..).bench ?_
    rwa [Rests, crewSt_modMirror, crewSt_paddleRestore c rests]

theorem coxSt_replayEnds : coxSt (replayEnds c cr) cr = coxSt c cr := by
  have applied : coxSt (checkpointApply (paddleAbandon c 6)) cr = coxSt c cr := by
    rw [coxSt_of_bench (undisturbed_checkpointApply _).bench, coxSt_paddleAbandon]
  unfold replayEnds
  split
  · split
    · next busy => rw [coxSt_modCox, applied, ← busy]
    · exact applied
  · rfl

theorem rests_replayEnds {cr : Crew} (rests : Rests c cr) : Rests (replayEnds c cr) cr := by
  have applied := rests_of_bench (undisturbed_checkpointApply _).bench (rests_paddleAbandon c 6 rests)
  unfold replayEnds
  split
  · split
    · rwa [Rests, crewSt_modCox]
    · exact applied
  · exact rests

theorem causesKept_replayEnds : CausesKept c (replayEnds c cr) := by
  have applied := (causesKept_paddleAbandon c 6).trans (undisturbed_checkpointApply _).causes
  exact causesKept_ite (causesKept_ite (applied.trans (causesKept_of_pages (modCox_pages ..))) applied) causesKept_rfl

end replay

/-! ### The mismatch as a whole -/

section mismatch
variable (c : Chip) (cr : Crew) (kind : Nat) (cores : BitVec 3) (addr : Word) (task pc : Nat)

/-- A mismatch ends with the crew declared faulty: the third in time, or one with nothing to restore from (R226, R238). -/
def mismatchEnds (double : Bool) : Bool := thirdMismatch ((c.stroke.count :: (coxSt c cr).history).take 3) || double

theorem coxSt_mismatchCounted : coxSt (mismatchCounted c cr kind cores addr task pc) cr =
    mismatched (coxSt c cr) c.stroke.count kind cores addr task pc := by
  rw [mismatchCounted, coxSt_modCox, coxSt_countSource, stroke_countSource]

theorem pages_mismatchCounted : (mismatchCounted c cr kind cores addr task pc).pages = c.pages :=
  (modCox_pages ..).trans (pages_countSource ..)

/-- The report of a mismatch: the cause and the record (R234, R246). -/
def mismatchReported (c : Chip) (cr : Crew) (addr : Word) (task : Nat) : Chip :=
  emit (raise c (crewPage cr) 0) (crewPage cr) 0x10 task (coxSt (raise c (crewPage cr) 0) cr).last addr
    (crewStat (raise c (crewPage cr) 0) cr) (raise c (crewPage cr) 0).stroke.count

theorem coxSt_mismatchReported (d : Chip) : coxSt (mismatchReported d cr addr task) cr = coxSt d cr := by
  rw [mismatchReported, coxSt_emit, coxSt_raise]

theorem rests_mismatchReported {d : Chip} (rests : Rests d cr) : Rests (mismatchReported d cr addr task) cr := by
  rwa [mismatchReported, Rests, crewSt_emit, crewSt_raise]

theorem causesKept_mismatchReported (d : Chip) : CausesKept d (mismatchReported d cr addr task) :=
  (causesKept_raise ..).trans (causesKept_emit ..)

theorem cause_mismatchReported (d : Chip) : bitOf (hdr (mismatchReported d cr addr task) (crewPage cr)).cause 0 = true :=
  cause_of_raised (causesKept_emit ..) (by decide)

/-- The crew leaves drive for its reset, or waits for the declaration; a faulty one stays as it is. -/
def mismatchStruck (c : Chip) (cr : Crew) (double : Bool) : Chip :=
  if (coxSt c cr).faulty then c
  else if thirdMismatch (coxSt c cr).history || double then modCox c cr fun k => { k with restoring := true }
  else coxReset c cr

theorem mismatchAt_eq (double : Bool) : mismatchAt c cr kind cores addr task pc double =
    let d := mismatchCounted c cr kind cores addr task pc
    let e := replayEnds (mismatchReported (mismatchStruck d cr double) cr addr task) cr
    if !(coxSt d cr).faulty && (thirdMismatch (coxSt d cr).history || double) then
      declareFaulty e cr (if thirdMismatch (coxSt d cr).history then 0 else 2)
    else e := rfl

theorem coxSt_reported (d : Chip) : coxSt (replayEnds (mismatchReported d cr addr task) cr) cr = coxSt d cr := by
  rw [coxSt_replayEnds, coxSt_mismatchReported]

theorem causesKept_reported (d : Chip) : CausesKept d (replayEnds (mismatchReported d cr addr task) cr) :=
  (causesKept_mismatchReported ..).trans (causesKept_replayEnds ..)

theorem cause_reported (d : Chip) :
    bitOf (hdr (replayEnds (mismatchReported d cr addr task) cr) (crewPage cr)).cause 0 = true :=
  (causesKept_replayEnds ..).stays _ _ (by decide) (cause_mismatchReported ..)

/-- What a mismatch leaves of a cox `k` that is not faulty: its registers, and the reset or the declaration. -/
def Struck (c t : Chip) (cr : Crew) (k : CoxSt) (ends : Bool) : Prop :=
  marks (coxSt t cr) = marks k ∧ (coxSt t cr).faulty = ends ∧ (coxSt t cr).restoring = !ends ∧ Rests t cr
    ∧ bitOf (hdr t (crewPage cr)).cause 0 = true ∧ (ends = true → bitOf (hdr t (crewPage cr)).raw 2 = true)
    ∧ WatchedKept c t

theorem counted_history : thirdMismatch (coxSt (mismatchCounted c cr kind cores addr task pc) cr).history =
    thirdMismatch ((c.stroke.count :: (coxSt c cr).history).take 3) := by rw [coxSt_mismatchCounted]; rfl

theorem watchedKept_counted : WatchedKept c (mismatchCounted c cr kind cores addr task pc) :=
  (causesKept_of_pages (pages_mismatchCounted ..)).watched

theorem struck_of_ends {double : Bool} (sound : (coxSt c cr).faulty = false) (ends : mismatchEnds c cr double = true) :
    Struck c (mismatchAt c cr kind cores addr task pc double) cr
      (mismatched (coxSt c cr) c.stroke.count kind cores addr task pc) true := by
  have cox := coxSt_mismatchCounted c cr kind cores addr task pc
  have third := counted_history c cr kind cores addr task pc
  have free : (coxSt (mismatchCounted c cr kind cores addr task pc) cr).faulty = false := by rw [cox]; exact sound
  have struck : mismatchStruck (mismatchCounted c cr kind cores addr task pc) cr double =
      modCox (mismatchCounted c cr kind cores addr task pc) cr fun k => { k with restoring := true } := by
    rw [mismatchStruck, free, third]
    exact (if_neg (by decide)).trans (if_pos ends)
  have declares : mismatchAt c cr kind cores addr task pc double = declareFaulty
      (replayEnds (mismatchReported (mismatchStruck (mismatchCounted c cr kind cores addr task pc) cr double) cr addr task) cr)
      cr (if thirdMismatch ((c.stroke.count :: (coxSt c cr).history).take 3) then 0 else 2) := by
    rw [mismatchAt_eq]
    dsimp only
    rw [third, free]
    exact if_pos ends
  have causes := causesKept_reported cr addr task (modCox (mismatchCounted c cr kind cores addr task pc) cr
    fun k => { k with restoring := true })
  have watched := ((watchedKept_counted c cr kind cores addr task pc).trans
    (causesKept_of_pages (modCox_pages ..)).watched).trans causes.watched
  rw [declares, struck, Struck, coxSt_declareFaulty, coxSt_reported, coxSt_modCox, cox]
  exact ⟨rfl, rfl, rfl, rests_declareFaulty .., (watchedKept_declareFaulty ..).stays _ _
    (watched_crewPage cr 0 (by decide) (by decide)) (cause_reported ..), fun _ => raw_declareFaulty ..,
    watched.trans (watchedKept_declareFaulty ..)⟩

theorem struck_of_restores {double : Bool} (sound : (coxSt c cr).faulty = false) (restores : mismatchEnds c cr double = false) :
    Struck c (mismatchAt c cr kind cores addr task pc double) cr
      (mismatched (coxSt c cr) c.stroke.count kind cores addr task pc) false := by
  have cox := coxSt_mismatchCounted c cr kind cores addr task pc
  have third := counted_history c cr kind cores addr task pc
  have free : (coxSt (mismatchCounted c cr kind cores addr task pc) cr).faulty = false := by rw [cox]; exact sound
  have struck : mismatchStruck (mismatchCounted c cr kind cores addr task pc) cr double =
      coxReset (mismatchCounted c cr kind cores addr task pc) cr := by
    rw [mismatchStruck, free, third]
    exact (if_neg (by decide)).trans (if_neg (ne_true_of_eq_false restores))
  have stops : mismatchAt c cr kind cores addr task pc double =
      replayEnds (mismatchReported (coxReset (mismatchCounted c cr kind cores addr task pc) cr) cr addr task) cr := by
    rw [mismatchAt_eq]
    dsimp only
    rw [third, free, struck]
    exact if_neg (ne_true_of_eq_false restores)
  obtain ⟨h, reset⟩ := coxSt_crewStops (mismatchCounted c cr kind cores addr task pc) cr
  have rests := rests_crewStops (mismatchCounted c cr kind cores addr task pc) cr
  have watched : WatchedKept c (coxReset (mismatchCounted c cr kind cores addr task pc) cr) :=
    ((watchedKept_counted c cr kind cores addr task pc).trans (watchedKept_of_heads (heads_crewStops ..))).trans
      (causesKept_of_pages (modCox_pages ..)).watched
  rw [stops, Struck, coxSt_reported, coxReset, coxSt_modCox, reset, cox]
  refine ⟨rfl, sound, rfl, ?_, cause_reported .., nofun, watched.trans (causesKept_reported ..).watched⟩
  exact rests_replayEnds _ (rests_mismatchReported cr addr task (by rwa [Rests, crewSt_modCox]))

theorem struck_of_sound (double : Bool) (sound : (coxSt c cr).faulty = false) :
    Struck c (mismatchAt c cr kind cores addr task pc double) cr
      (mismatched (coxSt c cr) c.stroke.count kind cores addr task pc) (mismatchEnds c cr double) := by
  cases ends : mismatchEnds c cr double with
  | true => exact struck_of_ends c cr kind cores addr task pc sound ends
  | false => exact struck_of_restores c cr kind cores addr task pc sound ends

theorem mismatchAt_of_faulty (double : Bool) (faulty : (coxSt c cr).faulty = true) :
    coxSt (mismatchAt c cr kind cores addr task pc double) cr =
        mismatched (coxSt c cr) c.stroke.count kind cores addr task pc
      ∧ WatchedKept c (mismatchAt c cr kind cores addr task pc double) := by
  have cox := coxSt_mismatchCounted c cr kind cores addr task pc
  have held : (coxSt (mismatchCounted c cr kind cores addr task pc) cr).faulty = true := by rw [cox]; exact faulty
  have stays : mismatchAt c cr kind cores addr task pc double =
      replayEnds (mismatchReported (mismatchCounted c cr kind cores addr task pc) cr addr task) cr := by
    have struck : mismatchStruck (mismatchCounted c cr kind cores addr task pc) cr double =
        mismatchCounted c cr kind cores addr task pc := if_pos held
    rw [mismatchAt_eq]
    dsimp only
    rw [held, struck]
    exact if_neg (by simp)
  rw [stays, coxSt_reported, cox]
  exact ⟨rfl, (watchedKept_counted ..).trans (causesKept_reported ..).watched⟩

end mismatch

/-! ### The obligation -/

/-- The third mismatch in time, told by the stroke of the first (R234). -/
def isThird (now : Word) (h : List Word) : Bool :=
  match h with
  | _ :: first :: _ => decide ((now - first).toNat < 1000)
  | _ => false

theorem thirdMismatch_eq (now : Word) (h : List Word) : thirdMismatch ((now :: h).take 3) = isThird now h := by
  rcases h with _ | ⟨a, _ | ⟨b, l⟩⟩ <;> rfl

theorem fld_last_kind (k : CoxSt) (now : Word) {kind : Nat} (cores : BitVec 3) (addr : Word) (task pc : Nat) (low : kind < 16) :
    fld (mismatched k now kind cores addr task pc).last 31 28 = kind :=
  fld_pack_take ⟨by decide, by decide⟩ low (by simp [fieldsApart])

theorem fld_last_cores (k : CoxSt) (now : Word) (kind : Nat) (cores : BitVec 3) (addr : Word) (task pc : Nat) :
    fld (mismatched k now kind cores addr task pc).last 26 24 = cores.toNat :=
  (fld_pack_skip _ ⟨by decide, by decide⟩ ⟨by decide, by decide⟩ (by simp [fieldsApart])).trans
    (fld_pack_take ⟨by decide, by decide⟩ cores.isLt (by simp [fieldsApart]))

/-- Only a crew that is not faulty can mismatch, but for an uncorrectable error. -/
theorem sound_of_canMismatch {c : Chip} {cr : Crew} {kind : MismatchKind} (can : canMismatch c cr kind = true)
    (compared : kind ≠ .ecc) : (coxSt c cr).faulty = false := by
  unfold canMismatch at can
  cases kind <;> simp_all

theorem coxMismatch_of_compared {c : Chip} {cr : Crew} {kind : MismatchKind} {cores : BitVec 3} {addr : Word} {e : EccHit}
    {double : Bool} (can : canMismatch c cr kind = true) (compared : kind ≠ .ecc) :
    coxMismatch c cr kind cores addr (some e) double = mismatchAt c cr (kindCode kind) cores addr
      (coxPlace c cr (lowCore cores)).1 (coxPlace c cr (lowCore cores)).2 false := by
  refine (if_neg (by rw [can]; decide)).trans ?_
  cases kind
  case ecc => exact absurd rfl compared
  all_goals rfl

/-- The counts of an uncorrectable error (R247). -/
def eccCounted (c : Chip) (cr : Crew) (e : EccHit) (double : Bool) : Chip :=
  raise (modCox c cr fun k => { k with
    uncorrectable := (if double then satInc 0xFFFF else id) (satInc 0xFFFF k.uncorrectable)
    eccLast := eccWord e true }) (crewPage cr) 28

theorem coxMismatch_of_data {c : Chip} {cr : Crew} {cores : BitVec 3} {addr : Word} {e : EccHit} {double : Bool}
    (can : canMismatch c cr .ecc = true) (data : e.dataMem = true) :
    coxMismatch c cr .ecc cores addr (some e) double = mismatchAt (eccCounted c cr e double) cr 5 cores
      (BitVec.ofNat 32 e.offset) (coxPlace (eccCounted c cr e double) cr e.core).1
      (coxPlace (eccCounted c cr e double) cr e.core).2 double := by
  refine (if_neg (by rw [can]; decide)).trans ?_
  unfold eccMismatch
  dsimp only
  rw [data, Bool.not_true, Bool.false_and, Bool.false_and, Bool.or_false]
  exact if_pos rfl

theorem coxSt_eccCounted (c : Chip) (cr : Crew) (e : EccHit) (double : Bool) : coxSt (eccCounted c cr e double) cr =
    { coxSt c cr with
      uncorrectable := (if double then satInc 0xFFFF else id) (satInc 0xFFFF (coxSt c cr).uncorrectable)
      eccLast := eccWord e true } := by rw [eccCounted, coxSt_raise, coxSt_modCox]

theorem eccCounted_stroke (c : Chip) (cr : Crew) (e : EccHit) (double : Bool) :
    (eccCounted c cr e double).stroke = c.stroke := (raise_stroke ..).trans (modCox_stroke ..)

/-- The registers that a mismatch leaves, as they read. -/
theorem marks_shown {k k' : CoxSt} (same : marks k = marks k') : k.mismatches = k'.mismatches ∧ k.history = k'.history
    ∧ k.lastAddr = k'.lastAddr ∧ k.lastStroke = k'.lastStroke ∧ k.prevStroke = k'.prevStroke ∧ k.last = k'.last
    ∧ k.uncorrectable = k'.uncorrectable ∧ k.eccLast = k'.eccLast :=
  ⟨(congrArg CoxSt.mismatches same : (marks k).mismatches = _), (congrArg CoxSt.history same : (marks k).history = _),
    (congrArg CoxSt.lastAddr same : (marks k).lastAddr = _), (congrArg CoxSt.lastStroke same : (marks k).lastStroke = _),
    (congrArg CoxSt.prevStroke same : (marks k).prevStroke = _), (congrArg CoxSt.last same : (marks k).last = _),
    (congrArg CoxSt.uncorrectable same : (marks k).uncorrectable = _), (congrArg CoxSt.eccLast same : (marks k).eccLast = _)⟩

theorem mismatchesComplete : Claims.MismatchesComplete := by
  intro s cr kind cores addr e double
  have mismatch (kind : MismatchKind) : exec (.coxMismatch cr kind cores addr (some e) double) s =
      .next (after s (coxMismatch s.chip cr kind cores addr (some e) double)) := by unfold exec; rfl
  dsimp only
  refine ⟨fun can compared => ?_, fun can data => ?_, fun idle => ?_⟩
  · have sound := sound_of_canMismatch can compared
    have struck := struck_of_sound s.chip cr (kindCode kind) cores addr (coxPlace s.chip cr (lowCore cores)).1
      (coxPlace s.chip cr (lowCore cores)).2 false sound
    rw [mismatchEnds, Bool.or_false, thirdMismatch_eq] at struck
    obtain ⟨same, faulty, restoring, rests, cause, raw, -⟩ := struck
    obtain ⟨mismatches, history, lastAddr, lastStroke, prevStroke, last, -, -⟩ := marks_shown same
    refine ⟨_, (mismatch kind).trans (next_after_congr (coxMismatch_of_compared can compared)), ?_⟩
    rw [after_chip, coxSt_attnUpdate, crewSt_attnUpdate, hdr_attnUpdate, last]
    exact ⟨⟨mismatches, history, lastAddr, lastStroke, prevStroke, fld_last_cores .., faulty, restoring, rests.1, rests.2,
      cause, raw⟩, fld_last_kind _ _ _ _ _ _ (by cases kind <;> decide)⟩
  · refine ⟨_, (mismatch .ecc).trans (next_after_congr (coxMismatch_of_data can data)), ?_⟩
    have counted := coxSt_eccCounted s.chip cr e double
    have raised : bitOf (hdr (eccCounted s.chip cr e double) (crewPage cr)).cause 28 = true :=
      bitOf_cause_raise _ _ (by decide)
    have seen := watched_crewPage cr 28 (by decide) (by decide)
    rw [after_chip, coxSt_attnUpdate, crewSt_attnUpdate, hdr_attnUpdate]
    cases faulty : (coxSt s.chip cr).faulty with
    | true =>
      obtain ⟨cox, kept⟩ := mismatchAt_of_faulty (eccCounted s.chip cr e double) cr 5 cores (BitVec.ofNat 32 e.offset)
        (coxPlace (eccCounted s.chip cr e double) cr e.core).1 (coxPlace (eccCounted s.chip cr e double) cr e.core).2
        double (by rw [counted]; exact faulty)
      rw [cox, counted]
      exact ⟨nofun, fun _ => ⟨faulty, rfl⟩, fld_last_kind _ _ _ _ _ _ (by decide), by cases double <;> rfl, rfl,
        kept.stays _ _ seen raised⟩
    | false =>
      have struck := struck_of_sound (eccCounted s.chip cr e double) cr 5 cores (BitVec.ofNat 32 e.offset)
        (coxPlace (eccCounted s.chip cr e double) cr e.core).1 (coxPlace (eccCounted s.chip cr e double) cr e.core).2
        double (by rw [counted]; exact faulty)
      rw [mismatchEnds, thirdMismatch_eq, counted, eccCounted_stroke] at struck
      obtain ⟨same, held, restoring, rests, cause, raw, kept⟩ := struck
      obtain ⟨mismatches, history, lastAddr, lastStroke, prevStroke, last, uncorrectable, eccLast⟩ := marks_shown same
      rw [last, uncorrectable]
      exact ⟨fun _ => ⟨mismatches, history, lastAddr, lastStroke, prevStroke, fld_last_cores .., held, restoring, rests.1,
        rests.2, cause, raw⟩, nofun, fld_last_kind _ _ _ _ _ _ (by decide), by cases double <;> rfl, eccLast,
        kept.stays _ _ seen raised⟩
  · exact (mismatch kind).trans (next_after_congr (if_pos (by rw [idle]; rfl)))

/-! ### Restores -/

section restores
variable (c : Chip) (cr : Crew)

/-- The crew restored: its memories, its cox and whether it runs (R226, R227). -/
def crewRestored (lines ns : Nat) : Chip :=
  let c := restoreMem c cr
  let c := modCox c cr fun k => { k with
    restoring := false, awaiting := true, lines := lines, restoreNs := ns }
  modCrew c cr fun k => { k with run := if c.mode.mode.runs && (crewSt c cr).prog.isSome then .running else .idle }

/-- The end of a commanded reset, where one waits (R624, R625). -/
def commandedEnds (lines : Nat) : Chip :=
  match smFind c.rst.crewResets (crewNo cr) with
  | none => c
  | some v =>
    let c := { c with rst := { c.rst with crewResets := smDel c.rst.crewResets (crewNo cr) } }
    let c := releaseCommanded c (v / 4)
    emit (raise c 1 4) 1 0x02 (crewNo cr) (BitVec.ofNat 32 (v % 4)) (BitVec.ofNat 32 lines) 0 c.stroke.count

theorem restartDone_of_reset (lines ns : Nat) (resets : inCrewReset c cr = true) (sound : (coxSt c cr).faulty = false) :
    restartDone c cr lines ns =
      commandedEnds (raise (releaseSource (crewRestored c cr lines ns) (coxSource cr)) (crewPage cr) 1) cr lines :=
  if_neg (by rw [resets, sound]; decide)

theorem coxSt_restoreMem (x : Crew) : coxSt (restoreMem c cr) x = coxSt c x := by
  unfold restoreMem
  split
  · exact coxSt_modCrew ..
  · exact coxSt_modCrew ..

theorem prog_restoreMem : (crewSt (restoreMem c cr) cr).prog = (crewSt c cr).prog := by
  unfold restoreMem
  split
  · rw [modCores, crewSt_modCrew]
  · rw [crewSt_modCrew]

theorem mode_restoreMem : (restoreMem c cr).mode = c.mode := by
  unfold restoreMem modCores
  split <;> exact modCrew_mode ..

theorem coxSt_crewRestored (lines ns : Nat) : coxSt (crewRestored c cr lines ns) cr = { coxSt c cr with
    restoring := false, awaiting := true, lines := lines, restoreNs := ns } := by
  unfold crewRestored
  dsimp only
  rw [coxSt_modCrew, coxSt_modCox, coxSt_restoreMem]

theorem crewSt_crewRestored (lines ns : Nat) : (crewSt (crewRestored c cr lines ns) cr).run =
      (if c.mode.mode.runs && (crewSt c cr).prog.isSome then .running else .idle)
    ∧ (crewSt (crewRestored c cr lines ns) cr).prog = (crewSt c cr).prog := by
  unfold crewRestored
  dsimp only
  rw [crewSt_modCrew, crewSt_modCox, modCox_mode, mode_restoreMem, prog_restoreMem]
  exact ⟨rfl, rfl⟩

theorem coxSt_releaseSource (n : Nat) (x : Crew) : coxSt (releaseSource c n) x = coxSt c x := by cases x <;> rfl

theorem crewSt_releaseSource (n : Nat) (x : Crew) : crewSt (releaseSource c n) x = crewSt c x := by cases x <;> rfl

theorem coxSt_releaseCommanded (n : Nat) (x : Crew) : coxSt (releaseCommanded c n) x = coxSt c x := by
  unfold releaseCommanded
  split
  · rfl
  · exact coxSt_releaseSource ..

theorem crewSt_releaseCommanded (n : Nat) (x : Crew) : crewSt (releaseCommanded c n) x = crewSt c x := by
  unfold releaseCommanded
  split
  · rfl
  · exact crewSt_releaseSource ..

theorem pages_releaseCommanded (n : Nat) : (releaseCommanded c n).pages = c.pages := by
  unfold releaseCommanded
  split <;> rfl

theorem crewResets_releaseCommanded (n : Nat) : (releaseCommanded c n).rst.crewResets = c.rst.crewResets := by
  unfold releaseCommanded
  split <;> rfl

/-- A source that has released stays so. -/
theorem released_releaseCommanded {m : Nat} (n : Nat) (released : c.rst.asserted.getLsbD m = false) :
    (releaseCommanded c n).rst.asserted.getLsbD m = false := by
  unfold releaseCommanded
  split
  · exact released
  · rw [releaseSource, BitVec.getLsbD_and, released, Bool.false_and]

theorem coxSt_setResets (r : SMap Nat) (x : Crew) : coxSt { c with rst := { c.rst with crewResets := r } } x = coxSt c x := by
  cases x <;> rfl

theorem crewSt_setResets (r : SMap Nat) (x : Crew) : crewSt { c with rst := { c.rst with crewResets := r } } x = crewSt c x := by
  cases x <;> rfl

theorem coxSt_commandedEnds (lines : Nat) (x : Crew) : coxSt (commandedEnds c cr lines) x = coxSt c x := by
  unfold commandedEnds
  split
  · rfl
  · dsimp only
    rw [coxSt_emit, coxSt_raise, coxSt_releaseCommanded, coxSt_setResets]

theorem crewSt_commandedEnds (lines : Nat) (x : Crew) : crewSt (commandedEnds c cr lines) x = crewSt c x := by
  unfold commandedEnds
  split
  · rfl
  · dsimp only
    rw [crewSt_emit, crewSt_raise, crewSt_releaseCommanded, crewSt_setResets]

theorem causesKept_commandedEnds (lines : Nat) : CausesKept c (commandedEnds c cr lines) := by
  unfold commandedEnds
  split
  · exact causesKept_rfl
  · dsimp only
    refine CausesKept.trans ?_ ((causesKept_raise _ 1 4).trans (causesKept_emit ..))
    exact causesKept_of_pages (pages_releaseCommanded ..)

theorem commandedEnds_resets (lines : Nat) : smFind (commandedEnds c cr lines).rst.crewResets (crewNo cr) = none := by
  unfold commandedEnds
  split
  · assumption
  · dsimp only
    rw [emit_rst, raise_rst, crewResets_releaseCommanded]
    exact smFind_smDel_same ..

theorem released_commandedEnds {m : Nat} (lines : Nat) (released : c.rst.asserted.getLsbD m = false) :
    (commandedEnds c cr lines).rst.asserted.getLsbD m = false := by
  unfold commandedEnds
  split
  · exact released
  · dsimp only
    rw [emit_rst, raise_rst]
    exact released_releaseCommanded _ _ released

theorem released_releaseSource : (releaseSource c (coxSource cr)).rst.asserted.getLsbD (coxSource cr) = false := by
  cases cr <;> simp [releaseSource, coxSource]

end restores

theorem restoresComplete : Claims.RestoresComplete := by
  intro s cr lines ns
  have restart : exec (.restartDone cr lines ns) s = .next (after s (restartDone s.chip cr lines ns)) := by unfold exec; rfl
  dsimp only
  refine ⟨fun resets => ?_, fun other => ?_⟩
  · refine ⟨_, restart.trans (next_after_congr (restartDone_of_reset s.chip cr lines ns resets.1 resets.2)), ?_⟩
    obtain ⟨run, prog⟩ := crewSt_crewRestored s.chip cr lines ns
    rw [after_chip, inCrewReset, coxSt_attnUpdate, crewSt_attnUpdate, hdr_attnUpdate, attnUpdate_rst, commandedEnds_resets,
      coxSt_commandedEnds, crewSt_commandedEnds, coxSt_raise, crewSt_raise, coxSt_releaseSource, crewSt_releaseSource,
      coxSt_crewRestored, run, prog]
    refine ⟨rfl, rfl, rfl, rfl, rfl, (causesKept_commandedEnds ..).stays _ _ (by decide) (bitOf_cause_raise _ _ (by decide)),
      released_commandedEnds _ _ _ ?_⟩
    rw [raise_rst]
    exact released_releaseSource ..
  · refine restart.trans (next_after_congr (if_pos ?_))
    rw [Bool.or_eq_true, Bool.not_eq_true', ← Bool.not_eq_true]
    rwa [Classical.not_and_iff_not_or_not, Bool.not_eq_false] at other

/-- Settles O31: a mismatch by whether the crew is faulty and whether the mismatch ends it, a declaration by the halt or
the handover that it leads to, a restore by the commanded reset that it may end. -/
theorem coxCommandsComplete : Obligations.CoxCommandsComplete := ⟨mismatchesComplete, faultyCrewsStop, restoresComplete⟩

end Sys2Proof.Machine
end

section
/-!
PROOFS. What a report leaves of the page headers and the resets: `stead` is every header without its causes and
conditions, and the reset state.
-/
namespace Sys2Proof.Machine
open Safety

/-- A header without its causes and conditions. -/
def posted (h : PageHdr) : PageHdr := { h with cause := 0, raw := 0 }

/-- The headers without causes and conditions, and the reset state. -/
def stead (c : Chip) : (Nat → PageHdr) × RstSt := (fun p => posted (hdr c p), c.rst)

theorem stead_of_same {c d : Chip} (pages : c.pages = d.pages) (rst : c.rst = d.rst) : stead c = stead d := by
  simp only [stead, hdr, pages, rst]

theorem rst_of_stead {c d : Chip} (h : stead c = stead d) : c.rst = d.rst := congrArg Prod.snd h

theorem hdr_of_stead {c d : Chip} (h : stead c = stead d) (p : Nat) :
    (hdr c p).st = (hdr d p).st ∧ (hdr c p).mask = (hdr d p).mask ∧ (hdr c p).ownerE = (hdr d p).ownerE
      ∧ (hdr c p).ownerP = (hdr d p).ownerP := by
  have same : posted (hdr c p) = posted (hdr d p) := congrFun (congrArg Prod.fst h) p
  exact ⟨(congrArg PageHdr.st same : (posted _).st = (posted _).st),
    (congrArg PageHdr.mask same : (posted _).mask = (posted _).mask),
    (congrArg PageHdr.ownerE same : (posted _).ownerE = (posted _).ownerE),
    (congrArg PageHdr.ownerP same : (posted _).ownerP = (posted _).ownerP)⟩

theorem stead_of_hdrs {c d : Chip} (hdrs : ∀ p, posted (hdr c p) = posted (hdr d p))
    (rst : c.rst = d.rst) : stead c = stead d := Prod.ext (funext hdrs) rst

@[simp] theorem stead_raise (c : Chip) (p b : Nat) : stead (raise c p b) = stead c := by
  refine stead_of_hdrs (fun q => ?_) (raise_rst ..)
  by_cases page : q = p
  · subst page
    rw [hdr_raise]
    rfl
  · rw [hdr_raise_ne _ _ page]

@[simp] theorem stead_setCond (c : Chip) (p b : Nat) (v : Bool) : stead (setCond c p b v) = stead c := by
  refine stead_of_hdrs (fun q => ?_) (setCond_rst ..)
  by_cases page : q = p
  · subst page
    rw [hdr_setCond]
    rfl
  · rw [hdr_setCond_ne _ _ _ page]

@[simp] theorem stead_emitAt (c : Chip) (time p low source : Nat) (p0 p1 p2 p3 : Word) :
    stead (emitAt c time p low source p0 p1 p2 p3) = stead c := by
  unfold emitAt queueRefused
  dsimp only
  split
  · exact stead_of_same rfl rfl
  · rw [stead_raise, stead_raise]
    exact stead_of_same rfl rfl

@[simp] theorem stead_emit (c : Chip) (p low source : Nat) (p0 p1 p2 p3 : Word) :
    stead (emit c p low source p0 p1 p2 p3) = stead c :=
  (stead_emitAt ..).trans (stead_of_same (eventTime_pages c) (eventTime_rst c))

theorem stead_forN {f : Nat → Chip → Chip} (kept : ∀ i c, stead (f i c) = stead c) (n : Nat) (c : Chip) :
    stead (forN n f c) = stead c := kept_forN stead kept n c

/-! ### The conditions of the pages -/

@[simp] theorem stead_haltCond (c : Chip) (cr : Crew) : stead (haltCond c cr) = stead c := by
  cases cr
  · rfl
  · exact stead_setCond ..

theorem stead_modCan (c : Chip) (n : Nat) (f : CanSt → CanSt) : stead (modCan c n f) = stead c := rfl

theorem stead_modPairCnt (c : Chip) (f : PairCnt → PairCnt) : stead (modPairCnt c f) = stead c := rfl

theorem stead_modStroke (c : Chip) (f : StrokeSt → StrokeSt) : stead (modStroke c f) = stead c := rfl

theorem stead_modDig (c : Chip) (n : Nat) (f : DigCh → DigCh) : stead (modDig c n f) = stead c := rfl

@[simp] theorem stead_pairConds (c : Chip) : stead (pairConds c) = stead c := by
  simp only [pairConds, stead_setCond, readyChange, apply_ite stead, stead_emit, stead_modPairCnt, ite_self]

theorem stead_canConds (c : Chip) (n : Nat) : stead (canConds c n) = stead c := by simp only [canConds, stead_setCond]

theorem stead_canTo (c : Chip) (n st : Nat) : stead (canTo c n st) = stead c := by
  simp only [canTo, apply_ite stead, stead_canConds, stead_emit, stead_modCan, ite_self]

theorem stead_canSleepTo (c : Chip) (n st id : Nat) : stead (canSleepTo c n st id) = stead c := by
  simp only [canSleepTo, apply_ite stead, stead_canTo, stead_emit, stead_raise, ite_self]

theorem stead_setAlone (c : Chip) (n : Nat) (v : Bool) : stead (setAlone c n v) = stead c := by
  simp only [setAlone, apply_ite stead, stead_canConds, stead_emit, stead_modCan, ite_self]

theorem stead_ackClear (c : Chip) (n : Nat) : stead (ackClear c n) = stead c := by
  simp only [ackClear, stead_setAlone, stead_modCan]

theorem stead_canRestrict (c : Chip) (n : Nat) : stead (canRestrict c n) = stead c := by
  unfold canRestrict
  split
  · rfl
  · split <;> simp only [stead_modCan, stead_ackClear]

theorem stead_canAuto (c : Chip) (n : Nat) : stead (canAuto c n) = stead c := by
  simp only [canAuto, apply_ite stead, stead_canTo, ite_self]

@[simp] theorem stead_canSync (n : Nat) (c : Chip) : stead (canSync n c) = stead c := by
  simp only [canSync, apply_ite stead, stead_canTo, stead_canSleepTo, stead_canRestrict, stead_canAuto, stead_modCan, ite_self]

theorem stead_syncTo (c : Chip) (x : SyncState) : stead (syncTo c x) = stead c := by
  simp only [syncTo, apply_ite stead, stead_setCond, stead_modStroke, ite_self]

theorem stead_syncFollow (c : Chip) : stead (syncFollow c) = stead c := by
  unfold syncFollow
  split
  · rw [stead_modStroke, stead_syncTo]
  · split <;> simp only [apply_ite stead, stead_syncTo, ite_self]

@[simp] theorem stead_pageConds (c : Chip) (p : Nat) : stead (pageConds c p) = stead c := by
  simp only [pageConds, apply_ite stead, stead_haltCond, forceCond, alertCond, laneTimeoutCond, sigCond, lockoutCond, zwConds,
    stead_pairConds, groupConds, islConds, linkConds, stead_canConds, stead_canSync, netConds, stead_syncFollow, serConds,
    stead_setCond, ite_self]

/-! ### The field blocks -/

theorem stead_noteEdges (before c : Chip) : stead (noteEdges before c) = stead c := rfl

theorem stead_stageCurrent (c : Chip) (ch : Nat) : stead (stageCurrent c ch).2 = stead c := by
  unfold stageCurrent
  split <;> rfl

theorem stead_recordFlags (ch : Nat) (c : Chip) : stead (recordFlags ch c) = stead c := by
  unfold recordFlags
  dsimp only
  split
  · rfl
  · rw [stead_forN]
    · split
      · rw [stead_emit, stead_stageCurrent, stead_modDig]
      · exact stead_modDig ..
    · intro b d
      split
      · exact stead_emit ..
      · rfl

@[simp] theorem stead_digRefresh (c : Chip) (g : Nat) : stead (digRefresh c g) = stead c := by
  have flags : stead (forN 12 (fun i c => recordFlags (12 * g + i) c) c) = stead c :=
    stead_forN (fun i d => stead_recordFlags _ d) 12 c
  simp only [digRefresh, groupConds, stead_setCond, flags]

theorem stead_groupSafe (c : Chip) (g : Nat) : stead (groupSafe c g) = stead c := by
  rw [groupSafe, stead_digRefresh]
  refine kept_fold stead (fun d ch => ?_) _ c
  split
  · exact stead_modDig ..
  · rfl

theorem stead_sendDown (c : Chip) (i : Nat) (k : DownKind) : stead (sendDown c i k) = stead c := by
  unfold sendDown
  split <;> rfl

theorem stead_sendCommand (c : Chip) (i : Nat) (nA : Int) : stead (sendCommand c i nA) = stead c := by
  have trims (x : Int) : stead (trimOut c i x).2 = stead c := by
    unfold trimOut roundFree
    dsimp only
    split <;> rfl
  rw [sendCommand, stead_sendDown]
  exact trims _

theorem stead_modBuf (c : Chip) (i : Nat) (f : IslBuf → IslBuf) : stead (modBuf c i f) = stead c := rfl

theorem stead_modIsland (c : Chip) (i : Nat) (f : Island → Island) : stead (modIsland c i f) = stead c := rfl

theorem stead_finishIsland (i : Nat) (c : Chip) : stead (finishIsland i c) = stead c := by
  simp only [finishIsland, islandSafe, apply_ite stead, stead_sendDown, stead_sendCommand, stead_modBuf, stead_modIsland, ite_self]

theorem stead_islandsReleased (c : Chip) : stead (islandsReleased c) = stead c := by
  have dirs : stead (finishDirs c) = stead c := stead_forN (fun i d => stead_modBuf ..) 16 _
  simp only [islandsReleased, finishIslands, apply_ite stead, stead_forN stead_finishIsland, dirs, ite_self]

end Sys2Proof.Machine
end

section
/-!
PROOFS. The reset sources, their releases and BLOCK resets (R53, R603 to R612, R624).
-/
namespace Sys2Proof.Machine
open Safety

/-! ### A source asserts -/

section hard
variable (c : Chip) (n reach : Nat)

/-- The assertion as the backup domain and the reset state hold it (R610). -/
def sourceNoted : Chip :=
  let d := countSource c n
  let d := if n = 6 && d.mode.mode == .boot then modBoot d fun b => { b with strikes := satInc 15 b.strikes } else d
  let d := modBackup d fun b => { b with
    lastReach := if c.mode.mode == .reset then max b.lastReach reach else reach
    lastSources := if c.mode.mode == .reset then b.lastSources ||| (1#12 <<< n) else 1#12 <<< n
    savedStroke := if d.stroke.count = 0 then b.savedStroke else d.stroke.count }
  modRst d fun s => { s with asserted := (if c.mode.mode == .reset then c.rst.asserted else 0#12) ||| (1#12 <<< n) }

theorem hardSource_of_powered (powered : (c.rst.railsOff && n ≤ 3) = false) :
    hardSource c n reach = clearedBy (sourceNoted c n reach) (reach == 4) := if_neg (ne_true_of_eq_false powered)

theorem counts_countSource : smGet 0 (countSource c n).backup.counts n =
    if c.rst.asserted.getLsbD n then smGet 0 c.backup.counts n else satInc 0xFFFF (smGet 0 c.backup.counts n) := by
  unfold countSource
  split
  · rfl
  · exact (smGet_smMod ..).trans (if_pos rfl)

/-- All of the module that a reset keeps but the backup domain (R603). -/
def keptThrough (c : Chip) : Chip :=
  { Chip.reset with
    upd := { UpdSt.reset with slots := c.upd.slots, objects := c.upd.objects, current := c.upd.current }
    wake := { WakeSt.reset with area := c.wake.area, launch := c.wake.launch, head := c.wake.head }
    underway := c.underway, ident := { IdSt.reset with ownerCert := c.ident.ownerCert }
    stroke := { StrokeSt.reset with t0 := c.stroke.t0 } }

theorem keptThrough_sourceNoted : keptThrough (sourceNoted c n reach) = keptThrough c := by
  have counted : keptThrough (countSource c n) = keptThrough c := by
    unfold countSource
    split <;> rfl
  have struck (d : Chip) (f : BootRec → BootRec) : keptThrough (modBoot d f) = keptThrough d := rfl
  have noted (d : Chip) (f : BackupSt → BackupSt) (g : RstSt → RstSt) :
      keptThrough (modRst (modBackup d f) g) = keptThrough d := rfl
  unfold sourceNoted
  dsimp only
  rw [noted]
  split
  · exact (struck ..).trans counted
  · exact counted

theorem backup_sourceNoted : (sourceNoted c n reach).backup.lastReach =
      (if c.mode.mode = .reset then max c.backup.lastReach reach else reach)
    ∧ (sourceNoted c n reach).backup.lastSources = (if c.mode.mode = .reset then c.backup.lastSources else 0) ||| (1#12 <<< n)
    ∧ smGet 0 (sourceNoted c n reach).backup.counts n = smGet 0 (countSource c n).backup.counts n := by
  have counted : (countSource c n).backup.lastReach = c.backup.lastReach
      ∧ (countSource c n).backup.lastSources = c.backup.lastSources := by
    unfold countSource
    split <;> exact ⟨rfl, rfl⟩
  have struck (p : Prop) [Decidable p] (f : BootRec → BootRec) (d : Chip) :
      (if p then modBoot d f else d).backup = d.backup := by split <;> rfl
  have noted (d : Chip) (f : BackupSt → BackupSt) (g : RstSt → RstSt) :
      (modRst (modBackup d f) g).backup = (f d.backup).signed := rfl
  unfold sourceNoted
  dsimp only
  rw [noted, struck]
  by_cases here : c.mode.mode = .reset
  · simp only [here, beq_self_eq_true, if_true]
    exact ⟨congrArg (max · reach) counted.1, congrArg (· ||| (1#12 <<< n)) counted.2, rfl⟩
  · have notHere : (c.mode.mode == .reset) = false := beq_eq_false_iff_ne.mpr here
    rw [notHere, if_neg here, if_neg here]
    exact ⟨rfl, BitVec.zero_or.symm, rfl⟩

theorem asserted_sourceNoted : (sourceNoted c n reach).rst.asserted =
    (if c.mode.mode = .reset then c.rst.asserted else 0#12) ||| (1#12 <<< n) := by
  by_cases here : c.mode.mode = .reset
  · rw [if_pos here]
    have : (c.mode.mode == .reset) = true := by rw [here]; rfl
    simp only [sourceNoted, modRst, this, if_true]
  · have notHere : (c.mode.mode == .reset) = false := beq_eq_false_iff_ne.mpr here
    simp only [sourceNoted, modRst, notHere, if_neg here]
    rfl

/-- What a reset clears and what it keeps (R603, R604, R609, R610). -/
theorem resets_hardSource (s : State) {o : Host.Outcome State Fault Refusal} {f : Chip}
    (runs : o = .next (after s f)) (source : f = hardSource c n reach) (powered : (c.rst.railsOff && n ≤ 3) = false) :
    Claims.Resets c n reach o := by
  obtain ⟨lastReach, lastSources, counts⟩ := backup_sourceNoted c n reach
  have kept := keptThrough_sourceNoted c n reach
  refine ⟨after s (clearedBy (sourceNoted c n reach) (reach == 4)), ?_, ?_⟩
  · rw [runs, source, hardSource_of_powered c n reach powered]
  · rw [after_chip]
    simp only [attnUpdate_mode, attnUpdate_pages, attnUpdate_cfg, attnUpdate_crewS, attnUpdate_crewP, attnUpdate_hosts,
      attnUpdate_rst, attnUpdate_backup, attnUpdate_upd, attnUpdate_wake, attnUpdate_underway, attnUpdate_ident,
      attnUpdate_stroke]
    refine ⟨rfl, rfl, rfl, rfl, rfl, rfl, asserted_sourceNoted c n reach, lastReach, lastSources,
      counts.trans (counts_countSource ..), congrArg (·.upd.slots) kept, congrArg (·.upd.objects) kept,
      congrArg (·.upd.current) kept, congrArg (·.wake.area) kept, congrArg (·.wake.launch) kept,
      congrArg (·.wake.head) kept, congrArg (·.underway) kept, congrArg (·.ident.ownerCert) kept, ?_⟩
    exact ite_congr (propext beq_iff_eq) (fun _ => rfl) fun _ => congrArg (·.stroke.t0) kept

/-- The same of a source whose assertion notes something more in the reset state. -/
theorem resets_noted (s : State) {o : Host.Outcome State Fault Refusal} {f : Chip} {g : RstSt → RstSt}
    (asserted : (g c.rst).asserted = c.rst.asserted) (runs : o = .next (after s f))
    (source : f = hardSource (modRst c g) n reach) (powered : ((g c.rst).railsOff && n ≤ 3) = false) :
    Claims.Resets c n reach o := by
  have resets := resets_hardSource (modRst c g) n reach s runs source powered
  unfold Claims.Resets at resets ⊢
  rw [show (modRst c g).rst.asserted = c.rst.asserted from asserted] at resets
  exact resets

end hard

/-! ### Commanded resets -/

section command
variable {c : Chip} {w : RstCmd} {rest : List RstCmd}

theorem cmdService_of_none (none_ : takeWaiting 0 c.rst.waiting = none) : cmdService c = c := by
  unfold cmdService
  rw [none_]

theorem cmdService_of_module (taken : takeWaiting 0 c.rst.waiting = some (w, rest)) (reach : w.reach = 3) :
    cmdService c = hardSource (modRst c fun s => { s with waiting := rest }) 9 3 := by
  unfold cmdService
  rw [taken]
  dsimp only
  rw [reach]
  rfl

theorem cmdService_of_power (taken : takeWaiting 0 c.rst.waiting = some (w, rest)) (reach : w.reach = 4) :
    cmdService c = hardSource (modRst c fun s => { s with waiting := rest, railsOff := true }) 9 4 := by
  unfold cmdService
  rw [taken]
  dsimp only
  rw [reach]
  rfl

theorem cmdService_of_block (taken : takeWaiting 0 c.rst.waiting = some (w, rest)) (reach : w.reach = 1) :
    cmdService c = if resettable (modRst c fun s => { s with waiting := rest }) w.target = true then
      blockReset (modRst c fun s => { s with waiting := rest }) w.target 1 w.cls
    else modRst c fun s => { s with waiting := rest } := by
  unfold cmdService
  rw [taken]
  dsimp only
  rw [reach]
  rfl

theorem crewHeld_modRst (c : Chip) (f : RstSt → RstSt) (cr : Crew) : crewHeld (modRst c f) cr = crewHeld c cr := by
  cases cr <;> rfl

theorem cmdService_of_crew (taken : takeWaiting 0 c.rst.waiting = some (w, rest)) (reach : w.reach = 2) :
    cmdService c = if crewHeld c (if w.target = 0 then Crew.safety else Crew.process) = true then
      modRst c fun s => { s with waiting := rest }
    else crewReset (modRst c fun s => { s with waiting := rest }) (if w.target = 0 then Crew.safety else Crew.process) w.cls 9 := by
  unfold cmdService
  rw [taken]
  dsimp only
  rw [reach]
  exact ite_congr (propext (by rw [crewHeld_modRst])) (fun _ => rfl) (fun _ => rfl)

theorem cmdEngineering_of_none (none_ : takeWaiting 1 c.rst.waiting = none) : cmdEngineering c = c := by
  unfold cmdEngineering
  rw [none_]

theorem cmdEngineering_of_some (taken : takeWaiting 1 c.rst.waiting = some (w, rest)) :
    cmdEngineering c = hardSource (modRst c fun s => { s with waiting := rest }) 10 3 := by
  unfold cmdEngineering
  rw [taken]

end command

/-- A CREW reset holds the crew until its restore ends, with no RESTORING, which tells of a mismatch (R245, R612). -/
theorem crewReset_holds (c : Chip) (cr : Crew) (cls source : Nat) :
    inCrewReset (crewReset c cr cls source) cr = true
      ∧ (coxSt (crewReset c cr cls source) cr).restoring = (coxSt c cr).restoring := by
  obtain ⟨h, stops⟩ := coxSt_crewStops (countSource c source) cr
  have holds (d : Chip) (v : Nat) (put : smFind d.rst.crewResets (crewNo cr) = some v) : inCrewReset d cr = true := by
    rw [inCrewReset, put]
    exact Bool.or_true _
  have put (v : Nat) : smFind (smPut (crewStops (countSource c source) cr).rst.crewResets (crewNo cr) v) (crewNo cr) = some v :=
    (smFind_smPut ..).trans (if_pos rfl)
  have restoring : (coxSt (crewStops (countSource c source) cr) cr).restoring = (coxSt c cr).restoring := by
    rw [stops, coxSt_countSource]
  unfold crewReset
  dsimp only
  split
  · rw [coxSt_releaseCommanded, coxSt_setResets]
    exact ⟨holds _ (cls + 4 * source) (by rw [crewResets_releaseCommanded]; exact put _), restoring⟩
  · rw [coxSt_setResets]
    exact ⟨holds _ (cls + 4 * source) (put _), restoring⟩

theorem rst_of_inner {c d : Chip} (h : inner c = inner d) : c.rst = d.rst :=
  (congrArg Chip.rst h : (inner c).rst = (inner d).rst)

theorem boat_of_inner {c d : Chip} (h : inner c = inner d) : c.boat = d.boat :=
  (congrArg Chip.boat h : (inner c).boat = (inner d).boat)

theorem buttonStuck_of_inner {c d : Chip} (h : inner c = inner d) : c.backup.buttonStuck = d.backup.buttonStuck :=
  (congrArg (·.backup.buttonStuck) h : (inner c).backup.buttonStuck = (inner d).backup.buttonStuck)

theorem noLeaderChanges_rst (old : SMap HeatSt) (c : Chip) : (noLeaderChanges old c).rst = c.rst := by
  unfold noLeaderChanges noLeaderCond
  rw [setCond_rst]
  exact kept_foldl Chip.rst (fun d x => rst_of_inner (inner_noLeaderRecord ..)) old c

theorem resetGroup_rst (c : Chip) (g : Nat) : (resetGroup c g).rst = c.rst := by
  have channel (d : Chip) (n : Nat) (f : DigCh → DigCh) : (modDig d n f).rst = d.rst := rfl
  have supply (d : Chip) (f : FsSt → FsSt) : (modFs d g f).rst = d.rst := rfl
  simp only [resetGroup, apply_ite Chip.rst, supply, ite_self]
  exact kept_forN Chip.rst (fun k e => channel e _ _) 12 c

theorem stagingDropped_rst (c : Chip) : (stagingDropped c).rst = c.rst := by
  unfold stagingDropped
  split
  · exact modSession_rst ..
  · rfl

theorem rst_discardState (c : Chip) (p : Nat) : (discardState c p).rst = c.rst := by
  unfold discardState
  split
  · rfl
  · simp only [apply_ite Chip.rst, noLeaderChanges_rst, resetGroup_rst, modCan, modUpd_rst, stagingDropped_rst, ite_self]

/-- An isolated block waits for its reset (R53, R611). -/
theorem isolate_shown (c : Chip) (p origin : Nat) : (hdr (isolate c p origin) p).st = .isolated
    ∧ (smFind (isolate c p origin).rst.blockResets p).isSome = true
    ∧ (isolate c p origin).rst.asserted = (countSource c (blkSource origin)).rst.asserted := by
  unfold isolate
  dsimp only
  have same (d e : Chip) : stead (pageConds (noteEdges e d) p) = stead d := by rw [stead_pageConds, stead_noteEdges]
  rw [(hdr_of_stead (same _ _) p).1, rst_of_stead (same _ _), hdr_modHdr, modHdr_rst, rst_discardState, modRst]
  refine ⟨rfl, ?_, rfl⟩
  rw [show smFind (smPut _ p _) p = _ from (smFind_smPut ..).trans (if_pos rfl)]
  rfl

theorem asserted_countSource (c : Chip) (n : Fin 12) : (countSource c n).rst.asserted.getLsbD n = true := by
  unfold countSource
  split
  · assumption
  · show (c.rst.asserted ||| (1#12 <<< (n : Nat))).getLsbD n = true
    simp

theorem blockReset_of_block {c : Chip} {p : Nat} (origin cls : Nat) (block : pageCrew p = none) :
    blockReset c p origin cls = isolate c p origin := by
  have noSafety : p ≠ 0x08 := by rintro rfl; exact absurd block (by decide)
  have noProcess : p ≠ 0x09 := by rintro rfl; exact absurd block (by decide)
  rw [blockReset, if_neg noSafety, if_neg noProcess]

/-! ### Releases -/

section release
variable {c : Chip} {n : Nat}

/-- The module as the last release leaves it, before BOOT begins (R607, R614). -/
theorem hardRelease_eq (here : c.mode.mode = .reset) (held : c.rst.asserted.getLsbD n = true) : ∃ d : Chip,
    d.mode = c.mode ∧ d.backup = c.backup ∧ d.rst.asserted = c.rst.asserted &&& ~~~(1#12 <<< n)
      ∧ hardRelease c n = if c.rst.asserted &&& ~~~(1#12 <<< n) = 0 then
          changeMode (modBoat (modRst d fun s => { s with wdtArmed := true }) fun b => { b with locked := 0x1F }) .boot 2
        else d := by
  refine ⟨if n = 9 then modRst (releaseSource c n) fun s => { s with railsOff := false } else releaseSource c n, ?_, ?_, ?_, ?_⟩
  · split <;> rfl
  · split <;> rfl
  · split <;> rfl
  · have asserted : (if n = 9 then modRst (releaseSource c n) fun s => { s with railsOff := false } else releaseSource c n
        ).rst.asserted = c.rst.asserted &&& ~~~(1#12 <<< n) := by split <;> rfl
    refine (if_neg (by rw [here, held]; decide)).trans ?_
    dsimp only
    rw [asserted, ite_not]

theorem hardRelease_shown (here : c.mode.mode = .reset) (held : c.rst.asserted.getLsbD n = true) :
    (hardRelease c n).rst.asserted = c.rst.asserted &&& ~~~(1#12 <<< n)
      ∧ (hardRelease c n).mode.mode = (if c.rst.asserted &&& ~~~(1#12 <<< n) = 0 then .boot else .reset)
      ∧ (c.rst.asserted &&& ~~~(1#12 <<< n) = 0 → (hardRelease c n).rst.wdtArmed = true
        ∧ (hardRelease c n).boat.locked = 0x1F ∧ (hardRelease c n).mode.seq = c.mode.seq + 1)
      ∧ (hardRelease c n).backup.buttonStuck = c.backup.buttonStuck := by
  obtain ⟨d, mode, backup, asserted, eq⟩ := hardRelease_eq here held
  rw [eq]
  split
  · have other : (modBoat (modRst d fun s => { s with wdtArmed := true }) fun b => { b with locked := 0x1F }).mode.mode ≠ .boot := by
      rw [modBoat_mode, modRst_mode, mode, here]; decide
    have same := inner_changeMode 2 other
    have shown (e : Chip) : (modeChanged e .boot).rst = e.rst ∧ (modeChanged e .boot).boat = e.boat
        ∧ (modeChanged e .boot).backup = e.backup ∧ (modeChanged e .boot).mode.mode = .boot
        ∧ (modeChanged e .boot).mode.seq = e.mode.seq + 1 := ⟨rfl, rfl, rfl, rfl, rfl⟩
    obtain ⟨rst, boat, stuck, now, seq⟩ :=
      shown (modBoat (modRst d fun s => { s with wdtArmed := true }) fun b => { b with locked := 0x1F })
    rw [rst_of_inner same, boat_of_inner same, buttonStuck_of_inner same, mode_of_inner same, rst, boat, stuck, now, seq,
      modBoat_rst, modBoat_mode, modBoat_backup, modRst_mode, modRst_backup, mode, backup]
    exact ⟨asserted, rfl, fun _ => ⟨rfl, rfl, rfl⟩, rfl⟩
  · next more => exact ⟨asserted, by rw [mode, here], fun none_ => absurd none_ more, by rw [backup]⟩

theorem sourceRelease_of_other (notButton : n ≠ 4 ∨ c.backup.buttonStuck = false ∨ c.rst.asserted.getLsbD 4 = true)
    (idle : ¬(c.mode.mode = .reset ∧ c.rst.asserted.getLsbD n = true)) : sourceRelease c n = c := by
  have first : (n = 4 && c.backup.buttonStuck && !c.rst.asserted.getLsbD 4) = false := by
    obtain h | h | h := notButton <;> simp [h]
  refine (if_neg (ne_true_of_eq_false first)).trans (if_pos ?_)
  rw [Bool.or_eq_true, bne_iff_ne, Bool.not_eq_true', ← Bool.not_eq_true]
  exact Classical.not_and_iff_not_or_not.mp idle

theorem sourceRelease_of_stuck (stuck : c.backup.buttonStuck = true) (open_ : c.rst.asserted.getLsbD 4 = false) :
    sourceRelease c 4 = modRst c fun x => { x with buttonClosed := false } := if_pos (by rw [stuck, open_]; decide)

theorem sourceRelease_of_held (here : c.mode.mode = .reset) (held : c.rst.asserted.getLsbD n = true) :
    sourceRelease c n = hardRelease (modRst c fun s => { s with
      buttonClosed := s.buttonClosed && n != 4, rstLine := s.rstLine && n != 5 }) n := by
  have first : (n = 4 && c.backup.buttonStuck && !c.rst.asserted.getLsbD 4) = false := by
    by_cases four : n = 4
    · subst four; simp [held]
    · simp [four]
  exact (if_neg (ne_true_of_eq_false first)).trans (if_neg (by rw [here, held]; decide))

theorem buttonStuck_of_held (here : c.mode.mode = .reset) (held : c.rst.asserted.getLsbD 4 = true) : buttonStuck c =
    hardRelease (modRst (modBackup c fun b => { b with buttonStuck := true }) fun s => { s with stuckNew := true }) 4 :=
  if_neg (by rw [here, held]; decide)

theorem buttonStuck_of_other (idle : ¬c.mode.mode = .reset ∨ c.rst.asserted.getLsbD 4 = false) : buttonStuck c = c := by
  refine if_pos ?_
  rw [Bool.or_eq_true, bne_iff_ne, Bool.not_eq_true']
  exact idle

theorem buttonFreed_shown (ms : Nat) (stuck : c.backup.buttonStuck = true) :
    (buttonFreed c ms).backup.buttonStuck = false ∧ (buttonFreed c ms).rst.buttonClosed = false := by
  unfold buttonFreed
  rw [if_neg (by rw [stuck]; decide)]
  dsimp only
  split
  · exact ⟨rfl, rfl⟩
  · rw [rst_of_inner (inner_emit ..), rst_of_inner (inner_setCond ..), buttonStuck_of_inner (inner_emit ..),
      buttonStuck_of_inner (inner_setCond ..)]
    exact ⟨rfl, rfl⟩

end release

theorem blockReleased_of_none {c : Chip} {p : Nat} (none_ : smFind c.rst.blockResets p = none) : blockReleased c p = c := by
  unfold blockReleased
  rw [none_]

theorem blockResets_releaseCommanded (c : Chip) (n : Nat) : (releaseCommanded c n).rst.blockResets = c.rst.blockResets := by
  unfold releaseCommanded
  split <;> rfl

theorem hdr_releaseCommanded (c : Chip) (n p : Nat) : hdr (releaseCommanded c n) p = hdr c p := by
  rw [hdr, pages_releaseCommanded, hdr]

/-- The module with the block back from its reset, before the report. -/
def blockBack (c : Chip) (p : Nat) (r : BlkReset) : Chip :=
  let c := modRst c fun s => { s with blockResets := smDel s.blockResets p }
  let c := pageConds (resetHeader (releaseCommanded c (blkSource r.origin)) p) p
  let c := if 0x30 ≤ p ∧ p ≤ 0x33 then noteEdges c (groupSafe c (p - 0x30)) else c
  if p = 0x34 then islandsReleased c else c

theorem blockReleased_of_some {c : Chip} {p : Nat} {r : BlkReset} (waits : smFind c.rst.blockResets p = some r) :
    blockReleased c p = emit (raise (blockBack c p r) 1 5) 1 0x03 p (BitVec.ofNat 32 r.origin) (BitVec.ofNat 32 r.isolated)
      (BitVec.ofNat 32 r.aborted) (blockBack c p r).stroke.count := by
  unfold blockReleased
  rw [waits]
  rfl

theorem stead_blockBack (c : Chip) (p : Nat) (r : BlkReset) : stead (blockBack c p r) =
    stead (resetHeader (releaseCommanded (modRst c fun s => { s with blockResets := smDel s.blockResets p })
      (blkSource r.origin)) p) := by
  simp only [blockBack, apply_ite stead, stead_islandsReleased, stead_noteEdges, stead_groupSafe, stead_pageConds, ite_self]

/-- A block's reset ends (R53, R611): its header is at the reset values but for the owner and the mask. -/
theorem blockReleased_shown {c : Chip} {p : Nat} {r : BlkReset} (waits : smFind c.rst.blockResets p = some r) :
    smFind (blockReleased c p).rst.blockResets p = none
      ∧ (hdr (blockReleased c p) p).st = (if fixedPage p then .enabled else .disabled)
      ∧ (hdr (blockReleased c p) p).mask = (hdr c p).mask ∧ (hdr (blockReleased c p) p).ownerE = (hdr c p).ownerE
      ∧ (hdr (blockReleased c p) p).ownerP = (hdr c p).ownerP
      ∧ bitOf (hdr (blockReleased c p) 1).cause 5 = true := by
  have same : stead (blockReleased c p) = stead (resetHeader (releaseCommanded (modRst c fun s =>
      { s with blockResets := smDel s.blockResets p }) (blkSource r.origin)) p) := by
    rw [blockReleased_of_some waits, stead_emit, stead_raise, stead_blockBack]
  obtain ⟨st, mask, ownerE, ownerP⟩ := hdr_of_stead same p
  rw [rst_of_stead same, st, mask, ownerE, ownerP, resetHeader, modHdr_rst, hdr_modHdr, hdr_releaseCommanded,
    blockResets_releaseCommanded]
  refine ⟨smFind_smDel_same .., rfl, rfl, rfl, rfl, ?_⟩
  rw [blockReleased_of_some waits]
  exact cause_of_raised (causesKept_emit ..) (by decide)

theorem coxSt_setRst (c : Chip) (r : RstSt) (cr : Crew) : coxSt { c with rst := r } cr = coxSt c cr := by cases cr <;> rfl

/-! ### The obligation -/

theorem blockResetsComplete : Claims.BlockResetsComplete := by
  intro s p r
  have release : exec (.blockReset p) s = .next (after s (blockReleased s.chip p)) := by unfold exec; rfl
  dsimp only
  refine ⟨fun waits => ⟨_, release, ?_⟩, fun none_ => release.trans (next_after_congr (blockReleased_of_none none_))⟩
  rw [after_chip, attnUpdate_rst, hdr_attnUpdate, hdr_attnUpdate]
  exact blockReleased_shown waits

theorem resetSourcesComplete : Claims.ResetSourcesComplete := by
  intro s n w rest ms
  have unpowered {m : Nat} (off : s.chip.rst.railsOff = true) (low : m ≤ 3) :
      hardSource s.chip m 4 = s.chip := if_pos (by rw [off, decide_eq_true low]; rfl)
  have command : exec .cmdService s = .next (after s (cmdService s.chip)) := by unfold exec; rfl
  have engineering : exec .cmdEngineering s = .next (after s (cmdEngineering s.chip)) := by unfold exec; rfl
  have release (m : Fin 12) : exec (.resetSourceRelease m) s = .next (after s (sourceRelease s.chip m)) := by unfold exec; rfl
  have stuck : exec .buttonStuck s = .next (after s (buttonStuck s.chip)) := by unfold exec; rfl
  have freed : exec (.buttonFreed ms) s = .next (after s (buttonFreed s.chip ms)) := by unfold exec; rfl
  dsimp only
  refine ⟨?_, ?_, ?_, ?_, ?_, ?_, ?_, ?_, ?_, ?_, ?_, ?_, ?_, ?_, ?_, ?_, ?_, ?_, ?_, ?_, ?_, ?_, ?_⟩
  · intro on
    have powered (m : Nat) : (s.chip.rst.railsOff && m ≤ 3) = false := by rw [on]; rfl
    refine ⟨?_, ?_, ?_, ?_⟩
    all_goals
      unfold exec
      exact resets_hardSource s.chip _ 4 s rfl rfl (powered _)
  · intro off
    unfold exec
    exact ⟨next_after_congr (unpowered off (by decide)), next_after_congr (unpowered off (by decide)),
      next_after_congr (unpowered off (by decide)), next_after_congr (unpowered off (by decide))⟩
  · intro free
    unfold exec
    exact resets_noted s.chip 4 3 s (g := fun x => { x with buttonClosed := true }) rfl rfl
      (if_neg (by rw [modRst_backup, free]; decide)) (by simp)
  · intro held
    unfold exec
    exact next_after_congr (if_pos (by rw [modRst_backup, held]))
  · unfold exec
    exact resets_noted s.chip 5 3 s (g := fun x => { x with rstLine := true }) rfl rfl rfl (by simp)
  · intro armed other
    unfold exec
    exact resets_hardSource s.chip 6 3 s rfl (if_pos (by rw [armed, bne_iff_ne.mpr other]; rfl)) (by simp)
  · intro idle
    unfold exec
    refine next_after_congr (if_neg ?_)
    obtain unarmed | here := idle
    · rw [unarmed]; simp
    · rw [here]; simp
  · exact fun none_ => command.trans (next_after_congr (cmdService_of_none none_))
  · exact fun taken reach => resets_noted s.chip 9 3 s
      (g := fun x => { x with waiting := rest }) rfl command (cmdService_of_module taken reach) (by simp)
  · exact fun taken reach => resets_noted s.chip 9 4 s
      (g := fun x => { x with waiting := rest, railsOff := true }) rfl command (cmdService_of_power taken reach) (by simp)
  · intro taken reach block able
    obtain ⟨st, waits, asserted⟩ := isolate_shown (modRst s.chip fun x => { x with waiting := rest }) w.target 1
    refine ⟨_, command.trans (next_after_congr ((cmdService_of_block taken reach).trans ((if_pos able).trans
      (blockReset_of_block 1 w.cls block)))), ?_⟩
    rw [after_chip, hdr_attnUpdate, attnUpdate_rst, asserted]
    exact ⟨st, waits, asserted_countSource _ 9⟩
  · intro taken reach free
    obtain ⟨holds, restoring⟩ := crewReset_holds (modRst s.chip fun x => { x with waiting := rest })
      (if w.target = 0 then Crew.safety else Crew.process) w.cls 9
    refine ⟨command.trans (next_after_congr ((cmdService_of_crew taken reach).trans (if_neg (ne_true_of_eq_false free)))),
      holds, restoring.trans ?_⟩
    rw [crewHeld, Bool.or_eq_false_iff] at free
    rw [modRst, coxSt_setRst]
    exact free.2
  · intro taken held
    refine command.trans (next_after_congr ?_)
    obtain ⟨reach, unable⟩ | ⟨reach, holds⟩ := held
    · exact (cmdService_of_block taken reach).trans (if_neg (ne_true_of_eq_false unable))
    · exact (cmdService_of_crew taken reach).trans (if_pos holds)
  · exact fun taken => resets_noted s.chip 10 3 s
      (g := fun x => { x with waiting := rest }) rfl engineering (cmdEngineering_of_some taken) (by simp)
  · exact fun none_ => engineering.trans (next_after_congr (cmdEngineering_of_none none_))
  · intro here held
    refine ⟨_, (release n).trans (next_after_congr (sourceRelease_of_held here held)), ?_⟩
    obtain ⟨asserted, mode, boots, -⟩ := hardRelease_shown (c := modRst s.chip fun x => { x with
      buttonClosed := x.buttonClosed && (n : Nat) != 4, rstLine := x.rstLine && (n : Nat) != 5 }) here held
    rw [after_chip, attnUpdate_rst, attnUpdate_mode, attnUpdate_boat]
    exact ⟨asserted, mode, boots⟩
  · exact fun other held => (release n).trans (next_after_congr (sourceRelease_of_other
      (by by_cases four : (n : Nat) = 4
          · exact .inr (.inr (by rw [← four]; exact held))
          · exact .inl four) fun h => other h.1))
  · exact fun free other => (release n).trans (next_after_congr (sourceRelease_of_other
      (other.imp_right .inl) fun h => absurd h.2 (by rw [free]; decide)))
  · exact fun open_ stuck => (release 4).trans (next_after_congr (sourceRelease_of_stuck stuck open_))
  · intro here held
    refine ⟨_, stuck.trans (next_after_congr (buttonStuck_of_held here held)), ?_⟩
    obtain ⟨asserted, mode, -, button⟩ := hardRelease_shown (n := 4) (c := modRst (modBackup s.chip fun b =>
      { b with buttonStuck := true }) fun x => { x with stuckNew := true }) here held
    rw [after_chip, attnUpdate_rst, attnUpdate_mode, attnUpdate_backup, button]
    exact ⟨rfl, asserted, mode⟩
  · exact fun idle => stuck.trans (next_after_congr (buttonStuck_of_other idle))
  · intro held
    refine ⟨_, freed, ?_⟩
    rw [after_chip, attnUpdate_rst, attnUpdate_backup]
    exact buttonFreed_shown ms held
  · exact fun free => freed.trans (next_after_congr (if_pos (by rw [free]; rfl)))

/-- Settles O57: a source by what it asserts, its release by what is left asserted, a BLOCK reset by its end. -/
theorem resetsComplete : Obligations.ResetsComplete := ⟨resetSourcesComplete, blockResetsComplete⟩

end Sys2Proof.Machine
end


section
/-! PROOFS. What survives a change of mode and the restoring of settings, BOOT, the plug and the PLLs -/

namespace Sys2Proof.Machine
open Safety

/-! ### What start-up sets and a change of mode leaves -/

/-- The mode, the boot record, the image that runs, the resets and the Boathouse's own state. -/
def pillar (c : Chip) : ModeSt × BootRec × Running × RstSt × BoatSt := (c.mode, c.upd.boot, c.upd.running, c.rst, c.boat)

theorem pillar_of_deck {c d : Chip} (h : deck c = deck d) : pillar c = pillar d :=
  (congrArg pillar h : pillar (deck c) = pillar (deck d))

theorem pillar_of_inner {c d : Chip} (h : inner c = inner d) : pillar c = pillar d := pillar_of_deck (deck_of_inner h)

theorem mode_of_pillar {c d : Chip} (h : pillar c = pillar d) : c.mode = d.mode := congrArg Prod.fst h

theorem pillar_foldl {α : Type} {f : Chip → α → Chip} (kept : ∀ c a, pillar (f c a) = pillar c) (l : List α) (c : Chip) :
    pillar (l.foldl f c) = pillar c := kept_foldl pillar kept l c

theorem pillar_forN {f : Nat → Chip → Chip} (kept : ∀ i c, pillar (f i c) = pillar c) (n : Nat) (c : Chip) :
    pillar (forN n f c) = pillar c := kept_forN pillar kept n c

@[simp] theorem pillar_raise (c : Chip) (p b : Nat) : pillar (raise c p b) = pillar c := pillar_of_inner (inner_raise ..)

@[simp] theorem pillar_setCond (c : Chip) (p b : Nat) (v : Bool) : pillar (setCond c p b v) = pillar c :=
  pillar_of_inner (inner_setCond ..)

@[simp] theorem pillar_emit (c : Chip) (p code index : Nat) (w0 w1 w2 w3 : Word) :
    pillar (emit c p code index w0 w1 w2 w3) = pillar c := pillar_of_inner (inner_emit ..)

theorem pillar_modHdr (c : Chip) (p : Nat) (f : PageHdr → PageHdr) : pillar (modHdr c p f) = pillar c :=
  pillar_of_inner (inner_modHdr ..)
theorem pillar_modSeat (c : Chip) (f : SeatSt → SeatSt) : pillar (modSeat c f) = pillar c := rfl
theorem pillar_modMirror (c : Chip) (f : MirrorSt → MirrorSt) : pillar (modMirror c f) = pillar c := rfl
theorem pillar_modPairCnt (c : Chip) (f : PairCnt → PairCnt) : pillar (modPairCnt c f) = pillar c := rfl
theorem pillar_modBackup (c : Chip) (f : BackupSt → BackupSt) : pillar (modBackup c f) = pillar c := rfl
theorem pillar_modHosts (c : Chip) (f : HostSt → HostSt) : pillar (modHosts c f) = pillar c := rfl
theorem pillar_modPanel (c : Chip) (f : PnlSt → PnlSt) : pillar (modPanel c f) = pillar c := rfl
theorem pillar_modIdent (c : Chip) (f : IdSt → IdSt) : pillar (modIdent c f) = pillar c := rfl
theorem pillar_modWake (c : Chip) (f : WakeSt → WakeSt) : pillar (modWake c f) = pillar c := rfl
theorem pillar_modStroke (c : Chip) (f : StrokeSt → StrokeSt) : pillar (modStroke c f) = pillar c := rfl
theorem pillar_setStroke (c : Chip) (k : StrokeSt) : pillar { c with stroke := k } = pillar c := rfl
theorem pillar_setBackup (c : Chip) (b : BackupSt) : pillar { c with backup := b } = pillar c := rfl
theorem pillar_setContexts (c : Chip) (w : WakeSt) (k : StrokeSt) : pillar { c with wake := w, stroke := k } = pillar c := rfl

@[simp] theorem pillar_pairConds (c : Chip) : pillar (pairConds c) = pillar c :=
  (pillar_of_inner (inner_pairConds c)).trans (pillar_modPairCnt ..)

/-! #### The seat, the standby and the sessions -/

theorem pillar_takeSeat (c : Chip) (cause : Nat) (ckpt : Word) : pillar (takeSeat c cause ckpt) = pillar c := by
  have gap : pillar (takeoverGap c cause).2 = pillar c := by
    unfold takeoverGap
    split <;> rfl
  simp only [takeSeat, pillar_emit, pillar_raise, pillar_modPairCnt, pillar_modSeat, gap]

theorem pillar_seated (c : Chip) : pillar (seated c) = pillar c := by
  have written (d : Chip) : pillar (writeEpoch d) = pillar d := pillar_modBackup ..
  have cans (d : Chip) : pillar (canTakeSeat d) = pillar d := pillar_of_inner (inner_canTakeSeat d)
  simp only [seated, apply_ite pillar, cans, pillar_takeSeat, written, ite_self]

theorem pillar_runFromStop (c : Chip) : pillar (runFromStop c) = pillar c :=
  (pillar_of_deck (deck_runFromStop c)).trans (pillar_seated c)

theorem pillar_takenOver (c : Chip) : pillar (takenOver c) = pillar c := by
  obtain ⟨k, same⟩ := deck_takenOver c
  rw [pillar_of_deck same, pillar_setStroke, linkRestarted, pillar_modPairCnt, pillar_modMirror]

theorem pillar_runFromTakeover (c : Chip) : pillar (runFromTakeover c) = pillar c :=
  (pillar_of_inner (inner_runFromTakeover c)).trans ((pillar_takeSeat ..).trans (pillar_takenOver c))

theorem pillar_leaveStandby (c : Chip) : pillar (leaveStandby c) = pillar c := by
  have restored : pillar (paddleRestore c) = pillar c := pillar_of_deck (deck_paddleRestore c)
  simp only [leaveStandby, pillar_modMirror, apply_ite pillar, restored, ite_self]

theorem pillar_enterStandby (c : Chip) (handed : Bool) (old : Mode) : pillar (enterStandby c handed old) = pillar c := by
  have asked (d : Chip) : pillar (sendSyncReq d) = pillar d :=
    (pillar_of_inner (inner_sendRecord ..)).trans (pillar_modMirror ..)
  simp only [enterStandby, apply_ite pillar, asked, pillar_modMirror, pillar_modSeat, ite_self]

theorem pillar_closeSession (c : Chip) (s why : Nat) : pillar (closeSession c s why) = pillar c := by
  unfold closeSession
  split
  · rfl
  · simp only [pillar_emit, pillar_raise, apply_ite pillar, pillar_modHosts, pillar_setContexts, ite_self]

theorem pillar_closeAll (c : Chip) (why : Nat) : pillar (closeAll c why) = pillar c :=
  pillar_forN (fun s d => pillar_closeSession d s why) 16 c

/-! #### Changes of mode -/

theorem pillar_stopCrews (c : Chip) : pillar (stopCrews c) = pillar c := pillar_of_deck (deck_stopCrews c)
theorem pillar_zwWaiting (c : Chip) : pillar (zwWaiting c) = pillar c := pillar_of_inner (inner_zwWaiting c)
theorem pillar_zwConds (c : Chip) : pillar (zwConds c) = pillar c := pillar_of_inner (inner_zwConds c)
theorem pillar_inhibitGroups (c : Chip) : pillar (inhibitGroups c) = pillar c := pillar_of_inner (inner_inhibitGroups c)
theorem pillar_openSafety (c : Chip) : pillar (openSafety c) = pillar c := pillar_of_inner (inner_openSafety c)
theorem pillar_applyPaired (c : Chip) : pillar (applyPaired c) = pillar c := pillar_of_inner (inner_applyPaired c)
theorem pillar_resetFlush (c : Chip) : pillar (resetFlush c) = pillar c := pillar_of_inner (inner_resetFlush c)
theorem pillar_outputsOff (c : Chip) : pillar (outputsOff c) = pillar c := pillar_of_inner (inner_outputsOff c)
theorem pillar_leaveSeat (c : Chip) : pillar (leaveSeat c) = pillar c := pillar_modSeat ..

theorem pillar_modeEntry (c : Chip) (old m : Mode) (row : Nat) : pillar (modeEntry c old m row) = pillar c := by
  have absent (d : Chip) : pillar (forN 32 (fun l c => stnsAbsent c l) d) = pillar d :=
    pillar_forN (fun l d => pillar_of_inner (inner_stnsAbsent d l)) 32 d
  unfold modeEntry
  rw [pillar_of_inner (inner_canSyncAll _)]
  cases m
  case run => cases old <;> simp only [pillar_zwWaiting, pillar_zwConds, pillar_runFromStop, pillar_runFromTakeover]
  case config => simp only [absent, pillar_zwWaiting, pillar_inhibitGroups, pillar_stopCrews, pillar_openSafety, pillar_leaveSeat]
  all_goals simp only [pillar_zwWaiting, pillar_inhibitGroups, pillar_stopCrews, pillar_openSafety, pillar_leaveSeat,
    pillar_modSeat, pillar_applyPaired, pillar_enterStandby, pillar_closeAll, pillar_resetFlush, pillar_outputsOff]

theorem pillar_modeLeft (c : Chip) (m : Mode) : pillar (modeLeft c m) = pillar c := by
  have sampling (d : Chip) : pillar (stopSampling d) = pillar d := pillar_of_deck (deck_stopSampling d)
  simp only [modeLeft, apply_ite pillar, sampling, pillar_leaveStandby, ite_self]

/-- A change to another mode changes the mode, and leaves the boot record, the image, the resets and the Boathouse. -/
theorem pillar_enterMode {c : Chip} {m : Mode} (row : Nat) (other : c.mode.mode ≠ m) : pillar (enterMode c m row) =
    ({ c.mode with mode := m, prev := c.mode.mode, seq := c.mode.seq + 1 }, (pillar c).2) := by
  have left : pillar (modeLeft c m) = pillar c := pillar_modeLeft c m
  have here : (modeLeft c m).mode = c.mode := mode_of_pillar left
  rw [enterMode_of_ne row other, pillar_pairConds, pillar_modeEntry,
    pillar_of_inner (inner_changeMode row (by rwa [here]))]
  have mode : (modeChanged (modeLeft c m) m).mode = { c.mode with mode := m, prev := c.mode.mode, seq := c.mode.seq + 1 } := by
    rw [modeChanged, here]
  have rest : (pillar (modeChanged (modeLeft c m) m)).2 = (pillar c).2 :=
    (congrArg Prod.snd left : (pillar (modeLeft c m)).2 = (pillar c).2)
  exact Prod.ext mode rest

/-- What no change of mode changes: the boot record, the image that runs, the resets and the Boathouse's own state. -/
def footing (c : Chip) : BootRec × Running × RstSt × BoatSt := (pillar c).2

theorem footing_of_pillar {c d : Chip} (h : pillar c = pillar d) : footing c = footing d := congrArg Prod.snd h

theorem footing_enterMode (c : Chip) (m : Mode) (row : Nat) : footing (enterMode c m row) = footing c := by
  by_cases same : c.mode.mode = m
  · rw [enterMode_of_eq row same]
  · unfold footing
    rw [pillar_enterMode row same]

theorem boot_of_footing {c d : Chip} (h : footing c = footing d) : c.upd.boot = d.upd.boot := congrArg Prod.fst h
theorem running_of_footing {c d : Chip} (h : footing c = footing d) : c.upd.running = d.upd.running :=
  congrArg (·.2.1) h
theorem rst_of_footing {c d : Chip} (h : footing c = footing d) : c.rst = d.rst := congrArg (·.2.2.1) h
theorem boat_of_footing {c d : Chip} (h : footing c = footing d) : c.boat = d.boat := congrArg (·.2.2.2) h

/-! #### The conditions of the pages -/

theorem pillar_canSync (n : Nat) (c : Chip) : pillar (canSync n c) = pillar c := pillar_of_inner (inner_canSync n c)

theorem pillar_syncTo (c : Chip) (x : SyncState) : pillar (syncTo c x) = pillar c := by
  simp only [syncTo, apply_ite pillar, pillar_setCond, pillar_modStroke, ite_self]

@[simp] theorem pillar_syncFollow (c : Chip) : pillar (syncFollow c) = pillar c := by
  unfold syncFollow
  split
  · rw [pillar_modStroke, pillar_syncTo]
  · split <;> simp only [apply_ite pillar, pillar_syncTo, ite_self]

theorem pillar_pageConds (c : Chip) (p : Nat) : pillar (pageConds c p) = pillar c := by
  have halted (d : Chip) (cr : Crew) : pillar (haltCond d cr) = pillar d := pillar_of_deck (deck_haltCond d cr)
  simp only [pageConds, apply_ite pillar, halted, forceCond, alertCond, laneTimeoutCond, sigCond, lockoutCond,
    pillar_zwConds, pillar_pairConds, groupConds, islConds, linkConds, canConds, pillar_canSync, netConds,
    pillar_syncFollow, serConds, pillar_setCond, ite_self]

@[simp] theorem pillar_refreshAll (c : Chip) : pillar (refreshAll c) = pillar c := pillar_foldl pillar_pageConds pageList c

/-! ### Settings -/

@[simp] theorem pillar_enableService (c : Chip) (applied : Bool) : pillar (enableService c applied) = pillar c :=
  pillar_foldl (fun d p => by simp only [apply_ite pillar, pillar_modHdr, ite_self]) _ c

theorem pillar_restoreReg (c : Chip) (e : SetEntry) : pillar (restoreReg c e) = pillar c := by
  have plain (d : Chip) (p off : Nat) (v : Word) : pillar (setCfg d p off v) = pillar d := rfl
  have windowed (d : Chip) (p i off : Nat) (v : Word) : pillar (setCfgW d p i off v) = pillar d := by
    unfold setCfgW
    split <;> rfl
  simp only [restoreReg, apply_ite pillar, pillar_modHdr, plain, windowed, ite_self]

theorem pillar_restoreCtrl (c : Chip) (e : SetEntry) : pillar (restoreCtrl c e) = pillar c := by
  simp only [restoreCtrl, apply_ite pillar, pillar_modHdr, ite_self]

theorem pillar_restoreRegs (c : Chip) (v : SetVersion) : pillar (restoreRegs c v) = pillar c :=
  (pillar_foldl pillar_restoreCtrl _ _).trans (pillar_foldl pillar_restoreReg _ _)

theorem pillar_writeVersion (c : Chip) (format : Nat) (entries journal : List SetEntry) (cause : Nat) :
    pillar (writeVersion c format entries journal cause) = pillar c := pillar_emit ..

theorem pillar_migrate (c : Chip) (v : SetVersion) : pillar (migrate c v) = pillar c := by
  simp only [migrate, apply_ite pillar, pillar_writeVersion, ite_self]

theorem deck_loadDone (c : Chip) (cr : Crew) (id version : Word) (result : Nat) (at_ : Word) :
    deck (loadDone c cr id version result at_) = deck c := deck_of_inner (by rw [loadDone, inner_raise, inner_emit])

theorem deck_installProgram (c : Chip) (cr : Crew) (p : Program) : deck (installProgram c cr p) = deck c := by
  simp only [installProgram, forceCond, deck_setCond, deck_modCtl, deck_modCrew, deck_stopCrew]

theorem deck_programLoad (c : Chip) (cr : Crew) (obj : Option (List Byte)) : deck (programLoad c cr obj).1 = deck c := by
  unfold programLoad
  split
  · exact (deck_loadDone ..).trans (deck_installProgram ..)
  · exact (deck_loadDone ..).trans (deck_modCrew ..)

theorem deck_loadEnd (c : Chip) (p code index : Nat) (w0 w1 w2 w3 : Word) :
    deck (emit (raise c p 0) p code index w0 w1 w2 w3) = deck c := deck_of_inner (by rw [inner_emit, inner_raise])

theorem deck_dropImages (c : Chip) (ws : List Nat) : deck (dropImages c ws) = deck c := rfl

theorem deck_loopSetLoad (c : Chip) (e : Nat) (obj : Option (List Byte)) : deck (loopSetLoad c e obj).1 = deck c := by
  unfold loopSetLoad
  dsimp only
  split
  · split <;> exact (deck_loadEnd ..).trans (deck_modEng ..)
  · rw [deck_loadEnd, alertCond, deck_setCond, deck_modEng, deck_dropImages]

theorem deck_heatSetLoad (c : Chip) (obj : Option (List Byte)) : deck (heatSetLoad c obj).1 = deck c := by
  unfold heatSetLoad
  split
  · split
    exact (deck_loadEnd ..).trans (deck_setSel ..)
  · dsimp only
    rw [deck_loadEnd, deck_laneTimeoutCond, deck_noLeaderChanges, deck_setSel, deck_dropImages]

theorem deck_restoreObject (c : Chip) (e : SetEntry) : deck (restoreObject c e) = deck c := by
  unfold restoreObject
  dsimp only
  split
  · rfl
  · split
    · exact deck_programLoad ..
    · exact deck_loopSetLoad ..
    · exact deck_heatSetLoad ..
    · exact deck_loopSetLoad ..
    · rfl

theorem deck_replayTrim (c : Chip) (e : SetEntry) : deck (replayTrim c e) = deck c := by
  simp only [replayTrim, apply_ite deck, deck_modCtl, deck_modCrew, ite_self]

theorem deck_replayTune (c : Chip) (e : SetEntry) : deck (replayTune c e) = deck c := by
  unfold replayTune
  dsimp only
  split
  · split
    · exact deck_modEng ..
    · rfl
  · exact deck_modEng ..
  · rfl

theorem deck_restoreObjects (c : Chip) (v : SetVersion) : deck (restoreObjects c v) = deck c :=
  (deck_foldl (fun d e => (deck_replayTune ..).trans (deck_replayTrim d e)) v.journal _).trans
    (deck_foldl deck_restoreObject v.entries c)

theorem pillar_applySettings (c : Chip) : pillar (applySettings c) = pillar c := by
  unfold applySettings
  split
  · rfl
  · refine (pillar_of_deck (deck_restoreObjects ..)).trans ?_
    rw [pillar_setStroke, pillar_restoreRegs, pillar_migrate]

/-! ### From CONFIG on -/

theorem pillar_zwConfigured (before c : Chip) (k : Nat) : pillar (zwConfigured before c k) = pillar c := by
  have conn (d : Chip) (f : ZwConn → ZwConn) : pillar (modZw d k f) = pillar d := rfl
  simp only [zwConfigured, apply_ite pillar, pillar_emit, conn, ite_self]

theorem pillar_setBounds (c : Chip) : pillar (setBounds c) = pillar c := by
  have bounded (d : Chip) (l : Nat) (f : LinkSt → LinkSt) : pillar (modLink d l f) = pillar d := rfl
  have rounded (d : Chip) (x : Int) (n : Nat) : pillar (roundFree d x n).2 = pillar d :=
    pillar_of_inner (inner_of_bare (bare_roundFree ..))
  refine pillar_forN (fun l d => ?_) 32 c
  dsimp only
  split
  · exact bounded ..
  · rw [bounded, rounded, rounded]

/-- The modes to which a consistent or an inconsistent configuration leads from CONFIG (R35). -/
abbrev atWork (m : Mode) : Prop := m ∈ [.config, .standby, .run, .stop]

theorem atWork_enterMode {c : Chip} {m : Mode} (row : Nat) (here : c.mode.mode = .config) (other : m ≠ .config)
    (works : atWork m) : atWork (enterMode c m row).mode.mode := by
  rwa [enterMode_mode row (here ▸ other.symm)]

theorem configRows_atWork {c : Chip} (here : c.mode.mode = .config) : atWork (configRows c).mode.mode := by
  unfold configRows
  split
  · exact atWork_enterMode _ here (by decide) (by decide)
  · split
    · exact atWork_enterMode _ here (by decide) (by decide)
    · exact atWork_enterMode _ here (by decide) (by decide)

theorem footing_configRows (c : Chip) : footing (configRows c) = footing c := by
  simp only [configRows, apply_ite footing, footing_enterMode, ite_self]

/-- The bounds of the remote links and the condition, as a check of the configuration sets them. -/
theorem pillar_checked (c : Chip) (bad : Bool) : pillar (setBounds (configCond c bad)) = pillar c :=
  (pillar_setBounds _).trans (pillar_setCond ..)

theorem checkConfig_atWork {c : Chip} (here : c.mode.mode = .config) : atWork (checkConfig c false).mode.mode := by
  have same (bad : Bool) : (setBounds (configCond c bad)).mode.mode = .config :=
    (congrArg ModeSt.mode (mode_of_pillar (pillar_checked c bad))).trans here
  unfold checkConfig
  dsimp only
  split
  · rw [same]
    decide
  · exact configRows_atWork (same _)

theorem footing_checkConfig (c : Chip) : footing (checkConfig c false) = footing c := by
  unfold checkConfig
  dsimp only
  split
  · exact footing_of_pillar (pillar_checked ..)
  · exact (footing_configRows _).trans (footing_of_pillar (pillar_checked ..))

/-- The module just before an address leads it to CONFIG: the plug taken, the settings applied where they fit. -/
theorem addressed_eq (c : Chip) (r : PlugRec) (ok : Bool) (row : Nat) : ∃ d : Chip, pillar d = pillar (plugTake c r)
    ∧ addressed c r ok row = checkConfig (refreshAll (enterMode d .config row)) false := by
  refine ⟨_, ?_, rfl⟩
  rw [pillar_forN fun k d => pillar_zwConfigured _ d k, pillar_enableService, apply_ite pillar, pillar_applySettings, ite_self]

theorem addressed_atWork {c : Chip} (r : PlugRec) (ok : Bool) (row : Nat) (other : c.mode.mode ≠ .config) :
    atWork (addressed c r ok row).mode.mode := by
  obtain ⟨d, same, eq⟩ := addressed_eq c r ok row
  have here : d.mode = c.mode := (mode_of_pillar same).trans (modRst_mode ..)
  rw [eq]
  refine checkConfig_atWork ?_
  rw [mode_of_pillar (pillar_refreshAll _), enterMode_mode row (by rwa [here])]

theorem footing_addressed (c : Chip) (r : PlugRec) (ok : Bool) (row : Nat) :
    footing (addressed c r ok row) = footing (plugTake c r) := by
  obtain ⟨d, same, eq⟩ := addressed_eq c r ok row
  rw [eq, footing_checkConfig, footing_of_pillar (pillar_refreshAll _), footing_enterMode]
  exact footing_of_pillar same

end Sys2Proof.Machine
end


section
/-! PROOFS. O58, BOOT, the address plug and the PLLs -/

namespace Sys2Proof.Machine
open Safety

/-! ### The image that runs -/

/-- The mode, the boot record and the image that runs. -/
def launch (c : Chip) : ModeSt × BootRec × Running := (c.mode, c.upd.boot, c.upd.running)

theorem launch_of_pillar {c d : Chip} (h : pillar c = pillar d) : launch c = launch d :=
  (congrArg (fun x => (x.1, x.2.1, x.2.2.1)) h)

theorem launch_modRst (c : Chip) (f : RstSt → RstSt) : launch (modRst c f) = launch c := rfl

theorem launch_foldl {α : Type} {f : Chip → α → Chip} (kept : ∀ c a, launch (f c a) = launch c) (l : List α) (c : Chip) :
    launch (l.foldl f c) = launch c := kept_foldl launch kept l c

theorem launch_emit (c : Chip) (p code index : Nat) (w0 w1 w2 w3 : Word) :
    launch (emit c p code index w0 w1 w2 w3) = launch c := launch_of_pillar (pillar_emit ..)

theorem launch_raise (c : Chip) (p b : Nat) : launch (raise c p b) = launch c := launch_of_pillar (pillar_raise ..)

theorem launch_setCond (c : Chip) (p b : Nat) (v : Bool) : launch (setCond c p b v) = launch c :=
  launch_of_pillar (pillar_setCond ..)

theorem launch_bootBackup (c : Chip) (kept : Bool) : launch (bootBackup c kept) = launch c := by
  unfold bootBackup
  split
  · rfl
  · exact (launch_raise ..).trans (launch_modRst ..)

theorem launch_bootRecords (c : Chip) : launch (bootRecords c) = launch c := by
  unfold bootRecords
  dsimp only
  rw [launch_setCond, launch_modRst, launch_foldl fun d x => launch_emit ..]
  split <;> simp only [launch_emit, apply_ite launch, ite_self]

theorem launch_bootTorn (c : Chip) (cut : Option Word) : launch (bootTorn c cut) = launch c := by
  have wake (d : Chip) (f : WakeSt → WakeSt) : launch (modWake d f) = launch d := rfl
  have torn (d : Chip) (seq : Word) : launch (cutRecord d seq).2 = launch d := rfl
  unfold bootTorn
  dsimp only
  rw [wake]
  split
  · rfl
  · simp only [apply_ite launch, wake, torn, launch_emit, launch_raise, ite_self]

theorem launch_restoreLockouts (c : Chip) : launch (restoreLockouts c) = launch c := by
  have stored (d : Chip) (cause which : Nat) : launch (storedCause d cause which) = launch d := by
    unfold storedCause
    split <;> rfl
  refine kept_forN launch (fun g d => ?_) 32 c
  dsimp only
  split
  · rfl
  · exact stored ..

theorem launch_plugReport (c : Chip) (why : Nat) (r : Option (List Byte)) : launch (plugReport c why r) = launch c := by
  unfold plugReport plugRaw
  cases r <;> exact launch_emit ..

theorem pillar_readLinks (c : Chip) (w : BitVec 8) : pillar (readLinks c w) = pillar c := by
  have set_ (x : IslSt) : pillar { c with isl := x } = pillar c := rfl
  simp only [readLinks, islConds, pillar_setCond]
  rw [pillar_forN fun k d => by simp only [apply_ite pillar, pillar_emit, ite_self]]
  exact set_ _

/-- A module in BOOT with its image running, its records written, before it heeds the plug. -/
def onBoard (c : Chip) (x : BootIn) : Chip :=
  let c := restoreLockouts (bootTorn (bootRecords c) x.torn)
  let c := setCond (setCond c 0x79 4 (recoveryRuns c)) 0x7C 2 c.ident.keyFault
  modPanel c fun p => { p with first := firstPicture c }

theorem launch_onBoard (c : Chip) (x : BootIn) : launch (onBoard c x) = launch c := by
  have panel (d : Chip) (f : PnlSt → PnlSt) : launch (modPanel d f) = launch d := rfl
  simp only [onBoard, panel, launch_setCond, launch_restoreLockouts, launch_bootTorn, launch_bootRecords]

theorem bootOn_plugged (c : Chip) (x : BootIn) (r : PlugRec) (why : Nat) : ∃ d : Chip, pillar d = pillar (plugTake (onBoard c x) r)
    ∧ bootOn c x (some r) why = addressed (bootReached d why) r x.settingsOk 3 := by
  exact ⟨_, pillar_emit .., rfl⟩

theorem bootOn_unplugged (c : Chip) (x : BootIn) (why : Nat) : ∃ d : Chip, launch d = launch (onBoard c x)
    ∧ bootOn c x none why = bootReached (enterMode d .unaddressed 4) why := by
  refine ⟨_, ?_, rfl⟩
  rw [launch_of_pillar (pillar_refreshAll _), launch_of_pillar (pillar_enableService ..), launch_modRst]
  exact launch_plugReport ..

/-! ### CONFIG or UNADDRESSED is reached -/

theorem mode_bootReached (c : Chip) (why : Nat) : (bootReached c why).mode = c.mode := by
  simp only [bootReached, raise_mode, apply_ite Chip.mode, modBoot, modUpd, ite_self]

theorem upd_bootReached (c : Chip) (why : Nat) : (bootReached c why).upd.boot.strikes = 0
    ∧ (bootReached c why).upd.boot.trial = c.upd.boot.trial ∧ (bootReached c why).upd.running = c.upd.running := by
  simp only [bootReached, raise_upd, apply_ite Chip.upd, modBoot, modUpd, ite_self, and_self]

/-! ### BOOT -/

/-- The plug record that two reads agree on (R619). -/
def plugAgreed (x : BootIn) : Option PlugRec := if plugRead1 x.plug1 = plugRead1 x.plug2 then plugRead1 x.plug1 else none

/-- A module in BOOT with its copies chosen and its backup, keys and shadow checked. -/
def selfChecked (c : Chip) (x : BootIn) : Chip :=
  modPanel (modIdent (bootBackup (bootCopies c x) x.backupKept) fun i => { i with keyFault := !x.keyOk }) fun p =>
    { p with shadowOk := p.shadowOk && x.shadowOk }

theorem launch_selfChecked (c : Chip) (x : BootIn) : launch (selfChecked c x) = launch (bootCopies c x) := launch_bootBackup ..

/-- The module as it chooses its image: an image on trial has failed (R672). -/
def tried (c : Chip) (x : BootIn) : Chip :=
  if (selfChecked c x).upd.boot.trial then trialFailed (selfChecked c x) else selfChecked c x

theorem launch_trialFailed (c : Chip) : launch (trialFailed c) = (c.mode, { c.upd.boot with
    active := c.upd.boot.previous, trial := false, strikes := 0, count := c.upd.boot.count + 1 }, c.upd.running) := by
  have free (d : Chip) : launch (freshNat d).2 = launch d := rfl
  exact (launch_emit ..).trans ((free _).trans (launch_raise ..))

theorem tried_mode (c : Chip) (x : BootIn) : (tried c x).mode = c.mode := by
  have checked : (selfChecked c x).mode = c.mode := congrArg Prod.fst (launch_selfChecked c x)
  have failed (d : Chip) : (trialFailed d).mode = d.mode := congrArg Prod.fst (launch_trialFailed d)
  simp only [tried, apply_ite Chip.mode, failed, checked, ite_self]

theorem tried_trial (c : Chip) (x : BootIn) : (tried c x).upd.boot.trial = false := by
  have failed (d : Chip) : (trialFailed d).upd.boot.trial = false :=
    congrArg (·.2.1.trial) (launch_trialFailed d)
  unfold tried
  split
  · exact failed _
  · exact Bool.eq_false_iff.mpr ‹_›

theorem boot_of_due {c : Chip} (x : BootIn) (mode : c.mode.mode = .boot) (well : c.rst.bootFail = false) : boot c x =
    match chooseImage (tried c x) x (selfChecked c x).upd.boot.trial (plugAgreed x).isSome with
    | none => bootFails (tried c x)
    | some (r, why) => bootOn (readLinks (imageRuns (tried c x) r why) x.links) x (plugAgreed x) why := by
  unfold boot
  rw [if_neg (by simp [mode, well])]
  rfl

theorem boot_of_not_due {c : Chip} (x : BootIn) (not : ¬(c.mode.mode = .boot ∧ c.rst.bootFail = false)) : boot c x = c := by
  refine if_pos ?_
  rw [Bool.or_eq_true, decide_eq_true_eq]
  refine Classical.byContradiction fun none => ?_
  rw [not_or, Classical.not_not] at none
  exact not ⟨none.1, Bool.eq_false_iff.mpr none.2⟩

theorem launch_imageRuns (c : Chip) (r : Running) (why : Nat) (w : BitVec 8) :
    launch (readLinks (imageRuns c r why) w) = (c.mode, c.upd.boot, r) :=
  (launch_of_pillar (pillar_readLinks ..)).trans (launch_emit ..)

section
variable {c : Chip} {x : BootIn} {r : Running} {why : Nat} {rec : PlugRec}

/-- What a module without a plug that reads the same twice does once its image runs: UNADDRESSED (R30). -/
theorem booted_unplugged (mode : c.mode.mode = .boot) (trial : c.upd.boot.trial = false) :
    let d := bootOn (readLinks (imageRuns c r why) x.links) x none why
    d.mode.mode = .unaddressed ∧ d.upd.running = r ∧ d.upd.boot.trial = false ∧ d.upd.boot.strikes = 0 := by
  obtain ⟨d, same, eq⟩ := bootOn_unplugged (readLinks (imageRuns c r why) x.links) x why
  rw [launch_onBoard, launch_imageRuns] at same
  have here : d.mode = c.mode := congrArg Prod.fst same
  have kept := footing_enterMode d .unaddressed 4
  obtain ⟨strikes, onTrial, runs⟩ := upd_bootReached (enterMode d .unaddressed 4) why
  dsimp only
  rw [eq, mode_bootReached, enterMode_mode 4 (by rw [here, mode]; decide), strikes, onTrial, runs, running_of_footing kept,
    boot_of_footing kept]
  exact ⟨rfl, congrArg (·.2.2) same, (congrArg (·.2.1.trial) same).trans trial, rfl⟩

/-- What a module with a plug does once its image runs: it goes to CONFIG and on from there (R30, R35). -/
theorem booted_plugged (mode : c.mode.mode = .boot) (trial : c.upd.boot.trial = false) :
    let d := bootOn (readLinks (imageRuns c r why) x.links) x (some rec) why
    atWork d.mode.mode ∧ d.upd.running = r ∧ d.upd.boot.trial = false ∧ d.upd.boot.strikes = 0
      ∧ d.rst.plugId = plugIdOf rec ∧ d.rst.plugRack = rec.rack := by
  obtain ⟨d, same, eq⟩ := bootOn_plugged (readLinks (imageRuns c r why) x.links) x rec why
  have launched : launch d = (c.mode, c.upd.boot, r) :=
    (launch_of_pillar same).trans ((launch_modRst ..).trans ((launch_onBoard ..).trans (launch_imageRuns ..)))
  have here : d.mode = c.mode := congrArg Prod.fst launched
  have kept := footing_addressed (bootReached d why) rec x.settingsOk 3
  obtain ⟨strikes, onTrial, runs⟩ := upd_bootReached d why
  have upd : (plugTake (bootReached d why) rec).upd = (bootReached d why).upd := rfl
  dsimp only
  rw [eq, running_of_footing kept, boot_of_footing kept, rst_of_footing kept, upd, strikes, onTrial, runs]
  exact ⟨addressed_atWork _ _ _ (by rw [mode_bootReached, here, mode]; decide), congrArg (·.2.2) launched,
    (congrArg (·.2.1.trial) launched).trans trial, rfl, rfl, rfl⟩

end

theorem atWork_not_boot {m : Mode} (works : atWork m) : m ≠ .boot := by
  rintro rfl
  exact absurd works (by decide)

/-- A BOOT ends on an image with the trial and the strikes over, or in BOOT FAIL. -/
def BootEnded (d : Chip) : Prop :=
  d.upd.boot.trial = false ∧ ((d.mode.mode = .boot ∧ d.rst.bootFail = true) ∨ (d.mode.mode ≠ .boot ∧ d.upd.boot.strikes = 0))

theorem bootEnded_bootFails {c : Chip} (mode : c.mode.mode = .boot) (trial : c.upd.boot.trial = false) :
    BootEnded (bootFails c) := ⟨trial, .inl ⟨mode, rfl⟩⟩

theorem bootEnded_bootOn {c : Chip} (x : BootIn) (r : Running) (why : Nat) (plug : Option PlugRec) (mode : c.mode.mode = .boot)
    (trial : c.upd.boot.trial = false) : BootEnded (bootOn (readLinks (imageRuns c r why) x.links) x plug why) := by
  cases plug with
  | none =>
    obtain ⟨out, -, ended, strikes⟩ := booted_unplugged (x := x) (r := r) (why := why) mode trial
    exact ⟨ended, .inr ⟨by rw [out]; decide, strikes⟩⟩
  | some rec =>
    obtain ⟨out, -, ended, strikes, -, -⟩ := booted_plugged (x := x) (r := r) (why := why) (rec := rec) mode trial
    exact ⟨ended, .inr ⟨atWork_not_boot out, strikes⟩⟩

theorem boot_ends {c : Chip} (x : BootIn) (mode : c.mode.mode = .boot) (well : c.rst.bootFail = false) :
    BootEnded (boot c x) := by
  have here : (tried c x).mode.mode = .boot := by rw [tried_mode, mode]
  rw [boot_of_due x mode well]
  split
  · exact bootEnded_bootFails here (tried_trial c x)
  · exact bootEnded_bootOn _ _ _ _ here (tried_trial c x)

theorem tried_of_plain {c : Chip} {x : BootIn} (plain : (bootCopies c x).upd.boot.trial = false) :
    tried c x = selfChecked c x ∧ (selfChecked c x).upd.boot.trial = false := by
  have trial : (selfChecked c x).upd.boot.trial = false := (congrArg (·.2.1.trial) (launch_selfChecked c x)).trans plain
  exact ⟨if_neg (by rw [trial]; decide), trial⟩

theorem bootCompletes : Claims.BootCompletes := by
  intro s x r why rec
  have run : exec (.boot x) s = .next (after s (boot s.chip x)) := by unfold exec; rfl
  dsimp only
  refine ⟨fun not => run.trans (next_after_congr (boot_of_not_due x not)), ?_, ?_, ?_, ?_⟩
  · rintro ⟨mode, well⟩
    refine ⟨_, run, ?_⟩
    rw [after_chip, attnUpdate_upd, attnUpdate_mode, attnUpdate_rst]
    exact boot_ends x mode well
  · rintro ⟨⟨mode, well⟩, plain⟩ chosen
    obtain ⟨same, trial⟩ := tried_of_plain plain
    have fails : boot s.chip x = bootFails (tried s.chip x) := by
      rw [boot_of_due x mode well, same, trial, show chooseImage (selfChecked s.chip x) x false (plugAgreed x).isSome = none
        from chosen]
    refine ⟨_, run, ?_⟩
    rw [after_chip, attnUpdate_mode, attnUpdate_rst, fails]
    exact ⟨(congrArg ModeSt.mode (tried_mode ..)).trans mode, rfl, rfl⟩
  · rintro ⟨⟨mode, well⟩, plain⟩ chosen unplugged
    obtain ⟨same, trial⟩ := tried_of_plain plain
    have goes : boot s.chip x = bootOn (readLinks (imageRuns (tried s.chip x) r why) x.links) x none why := by
      rw [boot_of_due x mode well, same, trial, show chooseImage (selfChecked s.chip x) x false (plugAgreed x).isSome = some (r, why)
        from chosen, show plugAgreed x = none from unplugged]
    obtain ⟨out, runs, -, -⟩ := booted_unplugged (x := x) (r := r) (why := why)
      ((congrArg ModeSt.mode (tried_mode s.chip x)).trans mode) (tried_trial s.chip x)
    refine ⟨_, run, ?_⟩
    rw [after_chip, attnUpdate_mode, attnUpdate_upd, goes]
    exact ⟨out, runs⟩
  · rintro ⟨⟨mode, well⟩, plain⟩ chosen plugged
    obtain ⟨same, trial⟩ := tried_of_plain plain
    have goes : boot s.chip x = bootOn (readLinks (imageRuns (tried s.chip x) r why) x.links) x (some rec) why := by
      rw [boot_of_due x mode well, same, trial, show chooseImage (selfChecked s.chip x) x false (plugAgreed x).isSome = some (r, why)
        from chosen, show plugAgreed x = some rec from plugged]
    obtain ⟨out, runs, -, -, plug⟩ := booted_plugged (x := x) (r := r) (why := why) (rec := rec)
      ((congrArg ModeSt.mode (tried_mode s.chip x)).trans mode) (tried_trial s.chip x)
    refine ⟨_, run, ?_⟩
    rw [after_chip, attnUpdate_mode, attnUpdate_upd, attnUpdate_rst, goes]
    exact ⟨out, runs, plug⟩

/-! ### The plug after BOOT -/

theorem addressed_plugId (c : Chip) (r : PlugRec) (ok : Bool) (row : Nat) : (addressed c r ok row).rst.plugId = plugIdOf r := by
  rw [rst_of_footing (footing_addressed ..)]
  rfl

theorem plugPoll_of_other {c : Chip} (x : Option (List Byte)) (other : c.mode.mode ≠ .unaddressed) : plugPoll c x = c := if_pos other

section
variable {c : Chip} {x : Option (List Byte)}

theorem plugPoll_of_unread (polls : c.mode.mode = .unaddressed) (unread : plugRead1 x = none) :
    plugPoll c x = modRst c fun y => { y with plugSeen := none } := by
  unfold plugPoll
  rw [if_neg (not_not_intro polls), unread]

theorem plugPoll_of_read {rec : PlugRec} (polls : c.mode.mode = .unaddressed) (read : plugRead1 x = some rec) : plugPoll c x =
    if c.rst.plugSeen = some rec then addressed c rec true 6 else modRst c fun y => { y with plugSeen := some rec } := by
  unfold plugPoll
  rw [if_neg (not_not_intro polls), read]

theorem rst_plugReport (why : Nat) (d : Chip) : (plugReport d why x).rst = d.rst := by
  unfold plugReport plugRaw
  cases x <;> exact rst_of_inner (inner_emit ..)

theorem hdr_plugReport (why : Nat) (d : Chip) : hdr (plugReport d why x) 1 = hdr d 1 := by
  have free (e : Chip) : hdr (freshNat e).2 1 = hdr e 1 := rfl
  unfold plugReport plugRaw
  cases x <;> rw [hdr_emit _ _ _ _ _ _ _ _ (by decide) (by decide)]
  exact (free _).trans (free _)

/-- The module with a plug read kept and its condition set. -/
def plugKept (c : Chip) (x : Option (List Byte)) : Chip :=
  setCond (modRst c fun s => { s with plugLast := some x }) 1 3 (plugRead1 x != some (plugHeld c))

theorem rst_plugKept (c : Chip) (x : Option (List Byte)) : (plugKept c x).rst.plugLast = some x := by
  rw [plugKept, setCond_rst]
  rfl

theorem raw_plugKept (c : Chip) (x : Option (List Byte)) :
    bitOf (hdr (plugKept c x) 1).raw 3 = true ↔ plugRead1 x ≠ some (plugHeld c) := by
  rw [plugKept, bitOf_raw_setCond _ _ _ (by decide), bne_iff_ne]

theorem plugCheck_eq (reads : plugRead c = true) :
    plugCheck c x = plugKept c x ∨ ∃ why, plugCheck c x = plugReport (plugKept c x) why x := by
  unfold plugCheck
  rw [if_neg (by rw [reads]; decide)]
  exact (Decidable.em _).imp (fun same => if_pos same) fun same => ⟨_, if_neg same⟩

/-- A check of the plug keeps what was read and sets the condition where it differs from what was taken (R618). -/
theorem plugCheck_read (reads : plugRead c = true) : (plugCheck c x).rst.plugLast = some x
    ∧ (bitOf (hdr (plugCheck c x) 1).raw 3 = true ↔ plugRead1 x ≠ some (plugHeld c)) := by
  obtain eq | ⟨why, eq⟩ := plugCheck_eq (x := x) reads
  · rw [eq]
    exact ⟨rst_plugKept .., raw_plugKept ..⟩
  · rw [eq, rst_plugReport, hdr_plugReport]
    exact ⟨rst_plugKept .., raw_plugKept ..⟩

end

theorem plugReadsComplete : Claims.PlugReadsComplete := by
  intro s x rec
  have polled : exec (.plugPoll x) s = .next (after s (plugPoll s.chip x)) := by unfold exec; rfl
  have checked : exec (.plugCheck x) s = .next (after s (plugCheck s.chip x)) := by unfold exec; rfl
  dsimp only
  refine ⟨fun polls read seen => ?_, fun polls read unseen => ?_, fun polls unread => ?_, fun other => ?_, fun reads => ?_,
    fun unread => ?_⟩
  · have goes : plugPoll s.chip x = addressed s.chip rec true 6 := by rw [plugPoll_of_read polls read, if_pos seen]
    refine ⟨_, polled, ?_⟩
    rw [after_chip, attnUpdate_mode, attnUpdate_rst, goes]
    exact ⟨addressed_atWork _ _ _ (by rw [polls]; decide), addressed_plugId ..⟩
  · exact polled.trans (next_after_congr (by rw [plugPoll_of_read polls read, if_neg unseen]))
  · exact polled.trans (next_after_congr (plugPoll_of_unread polls unread))
  · exact polled.trans (next_after_congr (plugPoll_of_other x other))
  · refine ⟨_, checked, ?_⟩
    rw [after_chip, attnUpdate_rst, hdr_attnUpdate]
    exact plugCheck_read reads
  · exact checked.trans (next_after_congr (if_pos (by rw [unread]; decide)))

/-! ### Causes through a halt -/

theorem causesKept_canConds (c : Chip) (n : Nat) : CausesKept c (canConds c n) :=
  (causesKept_setCond _ _ _ _).trans ((causesKept_setCond _ _ _ _).trans ((causesKept_setCond _ _ _ _).trans
    ((causesKept_setCond _ _ _ _).trans ((causesKept_setCond _ _ _ _).trans (causesKept_setCond ..)))))

theorem causesKept_modCan (c : Chip) (n : Nat) (f : CanSt → CanSt) : CausesKept c (modCan c n f) := causesKept_of_pages rfl

theorem causesKept_canTo (c : Chip) (n st : Nat) : CausesKept c (canTo c n st) :=
  causesKept_ite causesKept_rfl ((causesKept_modCan ..).trans ((causesKept_emit ..).trans (causesKept_canConds ..)))

theorem causesKept_canSleepTo (c : Chip) (n st id : Nat) : CausesKept c (canSleepTo c n st id) :=
  causesKept_ite causesKept_rfl (((causesKept_canTo ..).trans (causesKept_ite (causesKept_raise ..) causesKept_rfl)).trans
    (causesKept_emit ..))

theorem causesKept_ackClear (c : Chip) (n : Nat) : CausesKept c (ackClear c n) :=
  (causesKept_modCan ..).trans (causesKept_ite causesKept_rfl ((causesKept_modCan ..).trans ((causesKept_emit ..).trans
    (causesKept_canConds ..))))

theorem causesKept_canRestrict (c : Chip) (n : Nat) : CausesKept c (canRestrict c n) := by
  refine causesKept_ite causesKept_rfl ?_
  split
  · exact causesKept_ackClear ..
  · exact causesKept_ackClear ..
  · exact (causesKept_ackClear ..).trans (causesKept_modCan ..)

theorem causesKept_canSync (n : Nat) (c : Chip) : CausesKept c (canSync n c) := by
  refine causesKept_ite ((causesKept_modCan ..).trans (causesKept_canTo ..)) (causesKept_ite ?asleep (causesKept_ite ?awoken
    (causesKept_ite ?starts ?runs)))
  case asleep =>
    exact causesKept_ite causesKept_rfl ((causesKept_modCan ..).trans (causesKept_ite causesKept_rfl (causesKept_canSleepTo ..)))
  case awoken =>
    exact (causesKept_modCan ..).trans (causesKept_ite causesKept_rfl ((causesKept_modCan ..).trans (causesKept_canSleepTo ..)))
  case starts =>
    exact (causesKept_modCan ..).trans ((causesKept_canTo ..).trans (causesKept_canRestrict ..))
  case runs =>
    exact (causesKept_ite (causesKept_canTo ..) causesKept_rfl).trans (causesKept_canRestrict ..)

theorem causesKept_groupTo (c : Chip) (g st : Nat) : CausesKept c (groupTo c g st) := by
  refine causesKept_ite causesKept_rfl (CausesKept.trans ?_ (causesKept_emit ..))
  have set_ (f : GroupSt → GroupSt) (h : BackupSt → BackupSt) : CausesKept c (modBackup (modGroup c g f) h) :=
    causesKept_of_pages rfl
  exact ((set_ _ _).trans (causesKept_setCond ..)).trans
    (causesKept_ite (causesKept_raise ..) (causesKept_ite (causesKept_raise ..) causesKept_rfl))

theorem causesKept_inhibitGroups (c : Chip) : CausesKept c (inhibitGroups c) := by
  have safety (d : Chip) (x : SafetySt) : CausesKept d { d with safety := x } := causesKept_of_pages rfl
  refine CausesKept.trans ?_ (safety _ _)
  exact causesKept_forN (fun g d => causesKept_ite (causesKept_groupTo ..) causesKept_rfl) 32 c

theorem causesKept_modeLeft (c : Chip) (m : Mode) : CausesKept c (modeLeft c m) := by
  have latch (e : Nat) (d : Chip) : (dropLatches d e).pages = d.pages := rfl
  have latches (d : Chip) : (forN 10 (fun e c => dropLatches c e) d).pages = d.pages := kept_forN Chip.pages latch 10 d
  have dropped (d : Chip) : (dropDecisions d).pages = d.pages := rfl
  have sampled (d : Chip) : CausesKept d (stopSampling d) :=
    causesKept_of_pages ((dropped _).trans (latches d))
  have mirror (d : Chip) (f : MirrorSt → MirrorSt) : CausesKept d (modMirror d f) := causesKept_of_pages rfl
  have ended : CausesKept c (leaveStandby c) := by
    unfold leaveStandby
    exact (causesKept_ite (causesKept_paddleRestore c) causesKept_rfl).trans (mirror _ _)
  have left : CausesKept c (if c.mode.mode == .standby && m != .takeover then leaveStandby c else c) :=
    causesKept_ite ended causesKept_rfl
  unfold modeLeft
  exact causesKept_ite (left.trans (sampled _)) left

theorem causesKept_changeMode (c : Chip) (m : Mode) (row : Nat) : CausesKept c (changeMode c m row) := by
  have set_ (x : ModeSt) (k : StrokeSt) (a : AttnSt) : CausesKept c { c with mode := x, stroke := k, attn := a } :=
    causesKept_of_pages rfl
  exact causesKept_ite causesKept_rfl (((set_ _ _ _).trans (causesKept_ite (causesKept_setCond ..) causesKept_rfl)).trans
    (causesKept_emit ..))

theorem causesKept_enterHalt (c : Chip) (row : Nat) : CausesKept c (enterMode c .safeHalt row) := by
  by_cases here : c.mode.mode = .safeHalt
  · rw [enterMode_of_eq row here]
    exact causesKept_rfl
  · have seat (d : Chip) (f : SeatSt → SeatSt) : CausesKept d (modSeat d f) := causesKept_of_pages rfl
    have stopped (d : Chip) : CausesKept d (stopCrews d) := (causesKept_stopCrew ..).trans (causesKept_stopCrew ..)
    rw [enterMode_of_ne row here]
    refine CausesKept.trans ?_ (causesKept_pairConds _)
    refine (causesKept_modeLeft c .safeHalt).trans ((causesKept_changeMode _ .safeHalt row).trans ?_)
    unfold modeEntry
    dsimp only
    exact (stopped _).trans ((causesKept_inhibitGroups _).trans ((seat _ _).trans (causesKept_forN causesKept_canSync 16 _)))

theorem causesKept_haltOrHandover (c : Chip) (row : Nat) : CausesKept c (haltOrHandover c row) :=
  causesKept_ite (causesKept_of_pages rfl) (causesKept_enterHalt ..)

/-! ### The PLLs -/

/-- The module with the loss of a lock shown and recorded. -/
def lockLost (c : Chip) (n : Nat) : Chip :=
  let c := modBoat c fun b => { b with locked := b.locked &&& ~~~(1#5 <<< n) }
  emit (raise c 0x7A 0) 0x7A 0xF2 n (readBoat c 0x170) (modeStat c) 0 c.stroke.count

/-- What the loss of a lock does to the mode (R30, R393). -/
def lockHalts (c : Chip) : Chip :=
  match c.mode.mode with
  | .config | .stop | .run | .hold | .standby | .takeover => haltOrHandover c 34
  | .activate => enterMode c .safeHalt 35
  | _ => c

section
variable {c : Chip} {n : Nat}

theorem inner_lockLost : inner (lockLost c n) = inner (modBoat c fun b => { b with locked := b.locked &&& ~~~(1#5 <<< n) }) := by
  unfold lockLost
  dsimp only
  rw [inner_emit, inner_raise]

theorem lockLost_mode : (lockLost c n).mode = c.mode := (mode_of_inner inner_lockLost).trans (modBoat_mode ..)

theorem lockLost_seat : (lockLost c n).seat = c.seat := (seat_of_inner inner_lockLost).trans (modBoat_seat ..)

theorem lockLost_locked : (lockLost c n).boat.locked = c.boat.locked &&& ~~~(1#5 <<< n) := by
  rw [boat_of_inner inner_lockLost]
  rfl

theorem paired_lockLost : paired (lockLost c n) = paired c := by
  have same (d : Chip) (f : BoatSt → BoatSt) : paired (modBoat d f) = paired d := rfl
  rw [paired_of_deck (deck_of_inner inner_lockLost), same]

theorem partnerReady_lockLost : partnerReady (lockLost c n) = partnerReady c := by
  simp only [partnerReady, partnerSeen, paired_lockLost, lockLost_seat]

theorem causes_lockHalts (d : Chip) : CausesKept d (lockHalts d) := by
  unfold lockHalts
  split
  iterate 6 exact causesKept_haltOrHandover ..
  · exact causesKept_enterHalt ..
  · exact causesKept_rfl

theorem footing_haltOrHandover (d : Chip) (row : Nat) : footing (haltOrHandover d row) = footing d := by
  have begun (halt : Option Nat) : footing (beginHandover d halt) = footing d := footing_of_pillar (pillar_modSeat ..)
  simp only [haltOrHandover, apply_ite footing, begun, footing_enterMode, ite_self]

theorem footing_lockHalts (d : Chip) : footing (lockHalts d) = footing d := by
  unfold lockHalts
  split
  iterate 6 exact footing_haltOrHandover ..
  · exact footing_enterMode ..
  · rfl

theorem pllUnlock_of_loses (lt : n < 5) (locked : c.boat.locked.getLsbD n = true) (other : c.mode.mode ≠ .reset) :
    pllUnlock c n = lockHalts (lockLost c n) := by
  refine if_neg ?_
  simp [locked, other, Nat.not_le.mpr lt]

/-- The modes in which the loss of a lock halts the module or has it hand the seat over first. -/
abbrev halting (m : Mode) : Prop := m ∈ [.config, .stop, .run, .hold, .standby, .takeover]

theorem lockHalts_of_halting {d : Chip} (m : halting d.mode.mode) : lockHalts d = haltOrHandover d 34 := by
  have here : d.mode.mode = .config ∨ d.mode.mode = .stop ∨ d.mode.mode = .run ∨ d.mode.mode = .hold ∨ d.mode.mode = .standby
      ∨ d.mode.mode = .takeover := by simpa [halting] using m
  unfold lockHalts
  obtain h | h | h | h | h | h := here <;> rw [h]

theorem haltOrHandover_hands {d : Chip} (row : Nat) (on : paired d = true) (holds : d.seat.holds = true)
    (ready : partnerReady d = true) (up : d.mode.mode ≠ .safeHalt) : haltOrHandover d row = beginHandover d (some row) := by
  refine if_pos ?_
  simp [on, holds, ready, up]

theorem beginHandover_haltRow (d : Chip) (row : Nat) : (beginHandover d (some row)).seat.haltRow.isSome = true := by
  unfold beginHandover
  dsimp only [modSeat]
  split
  · cases d.seat.haltRow <;> rfl
  · rfl

theorem lockHalts_mode_halts (m : halting c.mode.mode) (not : ¬(paired c = true ∧ c.seat.holds = true ∧ partnerReady c = true)) :
    (lockHalts c).mode.mode = .safeHalt := by
  have up : c.mode.mode ≠ .safeHalt := fun h => absurd (h ▸ m) (by decide)
  have halts : haltOrHandover c 34 = enterMode c .safeHalt 34 := by
    refine if_neg ?_
    rw [Bool.and_eq_true, Bool.and_eq_true, Bool.and_eq_true]
    exact fun h => not ⟨h.1.1.1, h.1.1.2, h.1.2⟩
  rw [lockHalts_of_halting m, halts, enterMode_mode 34 up]

theorem lockHalts_hands (m : halting c.mode.mode) (on : paired c = true) (holds : c.seat.holds = true)
    (ready : partnerReady c = true) : (lockHalts c).mode = c.mode ∧ (lockHalts c).seat.handover = true
      ∧ (lockHalts c).seat.haltRow.isSome = true := by
  have up : c.mode.mode ≠ .safeHalt := fun h => absurd (h ▸ m) (by decide)
  rw [lockHalts_of_halting m, haltOrHandover_hands 34 on holds ready up]
  exact ⟨modSeat_mode .., beginHandover_handover .., beginHandover_haltRow ..⟩

theorem lockHalts_activate (m : c.mode.mode = .activate) : (lockHalts c).mode.mode = .safeHalt := by
  unfold lockHalts
  rw [m]
  dsimp only
  rw [enterMode_mode 35 (by rw [m]; decide)]

theorem lockHalts_stays (m : c.mode.mode = .boot ∨ c.mode.mode = .unaddressed ∨ c.mode.mode = .safeHalt ∨ c.mode.mode = .dormant) :
    lockHalts c = c := by
  unfold lockHalts
  obtain h | h | h | h := m <;> rw [h]

end

theorem pllCommandsComplete : Claims.PllCommandsComplete := by
  intro s n
  have lost : exec (.pllUnlock n) s = .next (after s (pllUnlock s.chip n)) := by unfold exec; rfl
  have locks : exec (.pllLock n) s = .next (after s (pllLock s.chip n)) := by unfold exec; rfl
  have low : ¬5 ≤ (n : Nat) := Nat.not_le.mpr n.isLt
  dsimp only
  refine ⟨?_, fun not => ?_, fun other => ?_, fun inReset => ?_⟩
  · rintro ⟨locked, other⟩
    refine ⟨_, lost, ?_⟩
    rw [after_chip, attnUpdate_boat, hdr_attnUpdate, attnUpdate_mode, attnUpdate_seat, pllUnlock_of_loses n.isLt locked other,
      boat_of_footing (footing_lockHalts _), lockLost_locked]
    have raised : CausesKept (raise (modBoat s.chip fun b => { b with locked := b.locked &&& ~~~(1#5 <<< (n : Nat)) }) 0x7A 0)
        (lockHalts (lockLost s.chip n)) := (causesKept_emit ..).trans (causes_lockHalts _)
    have here := lockLost_mode (c := s.chip) (n := n)
    refine ⟨rfl, cause_of_raised raised (by decide), fun m => lockHalts_activate (by rw [here, m]), fun m =>
      ⟨fun not => lockHalts_mode_halts (by rwa [here]) (by rwa [paired_lockLost, lockLost_seat, partnerReady_lockLost]), ?_⟩,
      fun m => ?_⟩
    · rintro ⟨on, holds, ready⟩
      obtain ⟨mode, handover, row⟩ := lockHalts_hands (c := lockLost s.chip n) (by rwa [here]) (by rwa [paired_lockLost])
        (by rwa [lockLost_seat]) (by rwa [partnerReady_lockLost])
      exact ⟨by rw [mode, here], handover, row⟩
    · rw [lockHalts_stays (by rwa [here]), here]
  · refine lost.trans (next_after_congr (if_pos ?_))
    rw [Classical.not_and_iff_not_or_not, Classical.not_not] at not
    obtain out | inReset := not
    · rw [Bool.not_eq_true] at out
      rw [out]
      simp
    · simp [inReset]
  · exact locks.trans (next_after_congr (if_neg (by simp [other])))
  · exact locks.trans (next_after_congr (if_pos (by simp [inReset])))

/-- Settles O58: BOOT through what start-up leaves of the mode, the boot record and the plug, the plug reads and PLLs by case. -/
theorem startUpCompletes : Obligations.StartUpCompletes :=
  ⟨bootCompletes, plugReadsComplete, pllCommandsComplete⟩

end Sys2Proof.Machine
end


section
/-! PROOFS. O49, the digital field channels -/

namespace Sys2Proof.Machine
open Safety

/-! ### Channels -/

section
variable {c : Chip} {ch : Nat} (lt : ch < 48)
include lt

theorem debouncePass_of_input (level : Bool) (input : digMode c ch = 1) : debouncePass c ch level =
    freqSettle (digRefresh (modDig c ch fun s => { s with level := level, openWire := s.openWire && !level }) (ch / 12)) ch :=
  if_neg (by simp [input, Nat.not_le.mpr lt])

theorem openWireClear_eq : openWireClear c ch =
    freqSettle (digRefresh (modDig c ch fun s => { s with openWire := false }) (ch / 12)) ch := if_neg (Nat.not_le.mpr lt)

theorem inputOpenWire_guard : (48 ≤ ch || digMode c ch ≠ 1 || !digOwEn c ch || (digCh c ch).level) = true
    ↔ ¬(digMode c ch = 1 ∧ digOwEn c ch = true ∧ (digCh c ch).level = false) := by
  simp only [Bool.or_eq_true, decide_eq_true_eq, Nat.not_le.mpr lt, false_or, Bool.not_eq_true', Classical.not_and_iff_not_or_not, Bool.not_eq_true,
    Bool.not_eq_false, or_assoc, ne_eq]

theorem outputOpenWire_guard : (48 ≤ ch || digMode c ch ≠ 2 || gangMaster c ch ≠ ch || !digOwEn c ch
      || (digFs c (ch / 12)).held || (digPaired c ch && stageOn c ch)) = true
    ↔ ¬(digMode c ch = 2 ∧ gangMaster c ch = ch ∧ digOwEn c ch = true ∧ (digFs c (ch / 12)).held = false
      ∧ ¬(digPaired c ch = true ∧ stageOn c ch = true)) := by
  simp only [Bool.or_eq_true, Bool.and_eq_true, decide_eq_true_eq, Nat.not_le.mpr lt, false_or, Bool.not_eq_true', Classical.not_and_iff_not_or_not,
    Bool.not_eq_true, Bool.not_eq_false, or_assoc, ne_eq, not_or]

theorem overload_of_on (on : stageOn c ch = true) : overload c ch = digRefresh (raise (noteEdges c
    (modDig c (gangMaster c ch) fun s => { s with overload := true })) (digPage ch) 1) (ch / 12) :=
  if_neg (by simp [on, Nat.not_le.mpr lt])

theorem overtemp_guard : (48 ≤ ch || digMode c ch ≠ 2 || (digFs c (ch / 12)).state = 2 || (digCh c (gangMaster c ch)).overtemp) = true
    ↔ ¬(digMode c ch = 2 ∧ (digFs c (ch / 12)).state ≠ 2 ∧ (digCh c (gangMaster c ch)).overtemp = false) := by
  simp only [Bool.or_eq_true, decide_eq_true_eq, Nat.not_le.mpr lt, false_or, Classical.not_and_iff_not_or_not, Bool.not_eq_false, or_assoc, ne_eq,
    Classical.not_not]

end

theorem channelCommandsComplete : Claims.ChannelCommandsComplete := by
  intro s ch level
  have lt := ch.isLt
  dsimp only
  intro works
  have run {f : Chip → Chip} {d : Chip} (same : f s.chip = d) : (.next (after s (ungated f s.chip)) : Host.Outcome State Fault Refusal)
      = .next (after s d) := next_after_congr ((ungated_of_works f works).trans same)
  refine ⟨fun input => ?_, fun other => ?_, fun opens => ?_, fun not => ?_, fun opens => ?_, fun not => ?_, ?_, fun on => ?_,
    fun off => ?_, fun heats => ?_, fun not => ?_⟩
  · exact run (debouncePass_of_input lt level input)
  · exact run (if_pos (by simp [other]))
  · exact run (if_neg (mt (inputOpenWire_guard lt).mp (not_not_intro opens)))
  · exact run (if_pos ((inputOpenWire_guard lt).mpr not))
  · exact run (if_neg (mt (outputOpenWire_guard lt).mp (not_not_intro opens)))
  · exact run (if_pos ((outputOpenWire_guard lt).mpr not))
  · exact run (openWireClear_eq lt)
  · exact run (overload_of_on lt on)
  · exact run (if_pos (by simp [off]))
  · exact run (if_neg (mt (overtemp_guard lt).mp (not_not_intro heats)))
  · exact run (if_pos ((overtemp_guard lt).mpr not))

/-! ### Readback -/

section
variable {c : Chip} {n : Nat}

theorem shortToSupply_guard : (!isOutput c n || outputOn c n || readbackShort c n || readbackCross c n) = true
    ↔ ¬(isOutput c n = true ∧ outputOn c n = false ∧ readbackShort c n = false ∧ readbackCross c n = false) := by
  simp only [Bool.or_eq_true, Bool.not_eq_true', Classical.not_and_iff_not_or_not, Bool.not_eq_true, Bool.not_eq_false, or_assoc]

/-- A stuck-on reading with no edge near that turned another on is a short to the supply. -/
theorem shortToSupply_short {near : Bool} (sensed : isOutput c n = true ∧ outputOn c n = false ∧ readbackShort c n = false
      ∧ readbackCross c n = false)
    (alone : (near = false ∨ (n < 48 ∧ digPaired c n = true)) ∨ c.dig.onEdge.filter (· != n) = []) :
    shortToSupply c n near = if n < 48 then modReadback c n true false 255 else detect (modReadback c n true false 255) 4 (n - 48) := by
  unfold shortToSupply
  rw [if_neg (mt shortToSupply_guard.mp (not_not_intro sensed))]
  dsimp only
  obtain lone | none := alone
  · have off : (near && !(n < 48 && digPaired c n)) = false := by
      obtain rfl | ⟨lt, paired⟩ := lone
      · rfl
      · simp [lt, paired]
    rw [off]
  · rw [none]
    cases near && !(n < 48 && digPaired c n) <;> rfl

/-- A stuck-on reading near an edge that turned others on is a crossing with the first of them. -/
theorem shortToSupply_cross {near : Bool} {o : Nat} {rest : List Nat} (sensed : isOutput c n = true ∧ outputOn c n = false
      ∧ readbackShort c n = false ∧ readbackCross c n = false)
    (near_ : ¬(near = false ∨ (n < 48 ∧ digPaired c n = true))) (others : c.dig.onEdge.filter (· != n) = o :: rest) :
    shortToSupply c n near = if n < 48 then modReadback c n false true o else detect (modReadback c n false true o) 5 (n - 48) := by
  have on : (near && !(n < 48 && digPaired c n)) = true := by
    rw [not_or, Bool.not_eq_false] at near_
    rw [near_.1, Bool.true_and, Bool.not_eq_true', ← Bool.not_eq_true, Bool.and_eq_true, decide_eq_true_eq]
    exact near_.2
  unfold shortToSupply
  rw [if_neg (mt shortToSupply_guard.mp (not_not_intro sensed))]
  dsimp only
  rw [on, others]

theorem crossWired_guard {o : Nat} : (!isOutput c n || !readbackShort c n || !turnedOff c o || o = n || (n < 48 && digPaired c n)) = true
    ↔ ¬(isOutput c n = true ∧ readbackShort c n = true ∧ turnedOff c o = true ∧ o ≠ n ∧ ¬(n < 48 ∧ digPaired c n = true)) := by
  simp only [Bool.or_eq_true, Bool.and_eq_true, decide_eq_true_eq, Bool.not_eq_true', Classical.not_and_iff_not_or_not, Bool.not_eq_true, or_assoc,
    ne_eq, Classical.not_not, not_or, Bool.not_eq_false]

theorem channelClear_off (off : isOutput c n = true ∧ outputOn c n = false) : channelClear c n =
    if readbackShort c n then modReadback c n false false 255
    else if readbackCross c n && (readbackWith c n = 255 || outputOn c (readbackWith c n)
        && !(if readbackWith c n < 48 then digFault c (readbackWith c n) else outFaulty c (readbackWith c n - 48)))
      then modReadback c n false false 255 else c := by
  unfold channelClear
  rw [if_neg (by simp [off.1, off.2])]

end

theorem readbackCommandsComplete : Claims.ReadbackCommandsComplete := by
  intro s n other near rest
  dsimp only
  intro works
  have run {f : Chip → Chip} {d : Chip} (same : f s.chip = d) : (.next (after s (ungated f s.chip)) : Host.Outcome State Fault Refusal)
      = .next (after s d) := next_after_congr ((ungated_of_works f works).trans same)
  refine ⟨fun sensed alone => ?_, fun sensed near_ others => ?_, fun not => ?_, fun crosses => ?_, fun not => ?_,
    fun off short => ?_, fun off whole crossed partner => ?_, fun not => ?_⟩
  · exact run (shortToSupply_short sensed alone)
  · exact run (shortToSupply_cross sensed near_ others)
  · exact run (if_pos (shortToSupply_guard.mpr not))
  · exact run (if_neg (mt crossWired_guard.mp (not_not_intro (by simpa only [ne_eq, Fin.val_inj] using crosses))))
  · exact run (if_pos (crossWired_guard.mpr (by simpa only [ne_eq, Fin.val_inj] using not)))
  · exact run (by rw [channelClear_off off, if_pos short])
  · refine run ?_
    rw [channelClear_off off, whole, if_neg (by decide), crossed, if_pos]
    simpa using partner
  · refine run ?_
    by_cases off : isOutput s.chip n = true ∧ outputOn s.chip n = false
    · obtain out | ⟨whole, stays⟩ := not
      · exact absurd off out
      · rw [channelClear_off off, whole, if_neg (by decide), if_neg]
        simpa [Decidable.imp_iff_not_or] using stays
    · rw [Classical.not_and_iff_not_or_not, Bool.not_eq_true, Bool.not_eq_false] at off
      exact if_pos (by simpa using off)

/-! ### What a refresh of the flags leaves -/

/-- What the digital groups sense: the supplies, the frequency inputs, the safety outputs and the open wires. -/
def senses (c : Chip) : SMap FsSt × SMap FreqSt × SafetySt × (Nat → Bool) :=
  (c.dig.fs, c.dig.freq, c.safety, fun n => (digCh c n).openWire)

theorem senses_of_dig {c d : Chip} (dig : c.dig = d.dig) (safety : c.safety = d.safety) : senses c = senses d := by
  simp only [senses, digCh, dig, safety]

theorem senses_emit (c : Chip) (p code index : Nat) (w0 w1 w2 w3 : Word) :
    senses (emit c p code index w0 w1 w2 w3) = senses c := senses_of_dig (emit_dig ..) (emit_safety ..)

theorem senses_setCond (c : Chip) (p b : Nat) (v : Bool) : senses (setCond c p b v) = senses c :=
  senses_of_dig (setCond_dig ..) (setCond_safety ..)

theorem openWire_modFlags (c : Chip) (ch w n : Nat) :
    (digCh (modDig c ch fun s => { s with flags := w }) n).openWire = (digCh c n).openWire := by
  unfold digCh modDig
  rw [smGet_smMod]
  split
  · next same => rw [same]
  · rfl

theorem senses_modFlags (c : Chip) (ch w : Nat) : senses (modDig c ch fun s => { s with flags := w }) = senses c := by
  have wires := funext (openWire_modFlags c ch w)
  unfold senses
  rw [wires]
  rfl

theorem senses_recordFlags (ch : Nat) (c : Chip) : senses (recordFlags ch c) = senses c := by
  have current (d : Chip) : senses (stageCurrent d ch).2 = senses d := by
    unfold stageCurrent
    split <;> rfl
  unfold recordFlags
  dsimp only
  split
  · rfl
  · rw [kept_forN senses fun b d => by simp only [apply_ite senses, senses_emit, ite_self]]
    simp only [apply_ite senses, senses_emit, current, senses_modFlags, ite_self]

theorem senses_digRefresh (c : Chip) (g : Nat) : senses (digRefresh c g) = senses c := by
  have flags : senses (forN 12 (fun i c => recordFlags (12 * g + i) c) c) = senses c :=
    kept_forN senses (fun i d => senses_recordFlags _ d) 12 c
  simp only [digRefresh, groupConds, senses_setCond, flags]

theorem digFs_of_senses {c d : Chip} (h : senses c = senses d) (g : Nat) : digFs c g = digFs d g :=
  congrArg (smGet FsSt.reset · g) (congrArg Prod.fst h)

theorem digFreq_of_senses {c d : Chip} (h : senses c = senses d) (f : Nat) : digFreq c f = digFreq d f :=
  congrArg (smGet FreqSt.reset · f) (congrArg (·.2.1) h)

theorem safeOut_of_senses {c d : Chip} (h : senses c = senses d) (o : Nat) : safeOut c o = safeOut d o :=
  congrArg (fun x : SafetySt => smGet SafeOut.reset x.outs o) (congrArg (·.2.2.1) h)

theorem openWire_of_senses {c d : Chip} (h : senses c = senses d) (n : Nat) : (digCh c n).openWire = (digCh d n).openWire :=
  congrFun (congrArg (·.2.2.2) h) n

/-! ### Field supplies -/

theorem digFs_modFs (c : Chip) (g : Nat) (f : FsSt → FsSt) : digFs (modFs c g f) g = f (digFs c g) := by
  unfold digFs modFs
  rw [smGet_smMod, if_pos rfl]

/-- A change of a supply's state opens the safety outputs of its group when it is OFF (R712). -/
def supplySwitches (c : Chip) (g st : Nat) : Chip :=
  let c := modFs c g fun f => { f with state := st, held := f.held || st == 2 }
  if st = 2 && 2 ≤ g then
    forN 8 (fun o c => if o / 4 + 2 = g then modOut c o fun s => { s with high := false, low := false } else c) c
  else c

theorem senses_fsTo {c : Chip} {g st : Nat} (other : st ≠ (digFs c g).state) :
    senses (fsTo c g st) = senses (supplySwitches c g st) := by
  have noted (b d : Chip) : senses (noteEdges b d) = senses d := rfl
  unfold fsTo
  rw [if_neg other.symm]
  dsimp only
  rw [senses_digRefresh, senses_emit, noted]
  rfl

theorem digFs_openOuts (c : Chip) (g k : Nat) : digFs (forN 8 (fun o c => if o / 4 + 2 = g then
    modOut c o fun s => { s with high := false, low := false } else c) c) k = digFs c k := by
  have out (d : Chip) (o : Nat) (f : SafeOut → SafeOut) : digFs (modOut d o f) k = digFs d k := rfl
  exact kept_forN (digFs · k) (fun o d => by simp only [apply_ite (digFs · k), out, ite_self]) 8 c

theorem digFs_supplySwitches (c : Chip) (g st : Nat) : digFs (supplySwitches c g st) g =
    { digFs c g with state := st, held := (digFs c g).held || st == 2 } := by
  simp only [supplySwitches, apply_ite (digFs · g), digFs_openOuts, ite_self]
  exact digFs_modFs ..

/-- What one pass of a loop brings and the others keep stands after it. -/
theorem forN_holds {σ : Type} {f : Nat → σ → σ} {holds : σ → Prop} {o n : Nat} (lt : o < n) (brings : ∀ d, holds (f o d))
    (kept : ∀ i d, holds d → holds (f i d)) (d : σ) : holds (forN n f d) := by
  induction n with
  | zero => exact absurd lt (Nat.not_lt_zero o)
  | succ n ih =>
    unfold forN at ih ⊢
    rw [List.range_succ, List.foldl_append, List.foldl_cons, List.foldl_nil]
    obtain below | rfl := Nat.lt_succ_iff_lt_or_eq.mp lt
    · exact kept _ _ (ih below)
    · exact brings _

/-- A safety output with both its switches open. -/
def OutOpen (o : Nat) (c : Chip) : Prop := (safeOut c o).high = false ∧ (safeOut c o).low = false

theorem outOpen_opened (o i : Nat) (c : Chip) (was : i = o ∨ OutOpen o c) :
    OutOpen o (modOut c i fun s => { s with high := false, low := false }) := by
  unfold OutOpen safeOut modOut
  rw [smGet_smMod]
  split
  · exact ⟨rfl, rfl⟩
  · next other => exact was.resolve_left fun h => other h.symm

theorem outOpen_supplySwitches (c : Chip) {g o : Nat} (lt : o < 8) (own : o / 4 + 2 = g) : OutOpen o (supplySwitches c g 2) := by
  unfold supplySwitches
  dsimp only
  rw [if_pos (by simp; omega)]
  refine forN_holds lt (fun d => ?_) (fun i d open_ => ?_) _
  · rw [if_pos own]
    exact outOpen_opened o o d (.inl rfl)
  · split
    · exact outOpen_opened o i d (.inr open_)
    · exact open_

section
variable {c : Chip} {g v : Nat}

/-- A sample of the supply with its state as it stands. -/
theorem fsSample_eq (lt : g < 4) (on : (digFs c g).state ≠ 2) :
    let d := modFs c g fun f => { f with volts := min v 0xFFF }
    fsSample c g v = if v < 1500 then fsTo d g 2 else if (digFs c g).state = 0 && v < 1920 then fsTo d g 1
      else if (digFs c g).state = 1 && 1950 ≤ v then fsTo d g 0 else d := by
  have state : (digFs (modFs c g fun f => { f with volts := min v 0xFFF }) g).state = (digFs c g).state := by rw [digFs_modFs]
  unfold fsSample
  rw [if_neg (Nat.not_le.mpr lt)]
  dsimp only
  rw [state]
  split
  · next off => exact absurd off on
  · rfl

theorem fsSample_off (lt : g < 4) (off : (digFs c g).state = 2) :
    fsSample c g v = modFs c g fun f => { f with volts := min v 0xFFF } := by
  have state : (digFs (modFs c g fun f => { f with volts := min v 0xFFF }) g).state = 2 := by rw [digFs_modFs, ← off]
  unfold fsSample
  rw [if_neg (Nat.not_le.mpr lt)]
  dsimp only
  rw [state]
  rfl

end

theorem fieldSuppliesComplete : Claims.FieldSuppliesComplete := by
  intro s g v
  have lt := g.isLt
  dsimp only
  intro works
  have run {f : Chip → Chip} {d : Chip} (same : f s.chip = d) : (.next (after s (ungated f s.chip)) : Host.Outcome State Fault Refusal)
      = .next (after s d) := next_after_congr ((ungated_of_works f works).trans same)
  refine ⟨fun on low => ?_, fun normal least low => ?_, fun was high => ?_, fun normal high => ?_, fun was least high => ?_,
    fun off => ?_, fun off => ?_, fun on => ?_, fun n other => ⟨?_, fun off => ⟨?_, fun o own => ?_⟩⟩⟩
  · exact run ((fsSample_eq lt on).trans (if_pos low))
  · refine run ((fsSample_eq lt (by rw [normal]; decide)).trans ?_)
    rw [if_neg (Nat.not_lt.mpr least), if_pos (by simp [normal, low])]
  · refine run ((fsSample_eq lt (by rw [was]; decide)).trans ?_)
    rw [if_neg (by omega), if_neg (by simp [was]), if_pos (by simp [was, high])]
  · refine run ((fsSample_eq lt (by rw [normal]; decide)).trans ?_)
    rw [if_neg (by omega), if_neg (by simp [high]), if_neg (by simp [normal])]
  · refine run ((fsSample_eq lt (by rw [was]; decide)).trans ?_)
    rw [if_neg (by omega), if_neg (by simp [was]), if_neg (by simp [high])]
  · exact run (fsSample_off lt off)
  · exact run (if_neg (by simp [off, Nat.not_le.mpr lt]))
  · exact run (if_pos (by simp [on]))
  · rw [digFs_of_senses (senses_fsTo other), digFs_supplySwitches]
  · rw [digFs_of_senses (senses_fsTo other), digFs_supplySwitches, off]
    simp
  · rw [safeOut_of_senses (senses_fsTo other), off]
    exact outOpen_supplySwitches s.chip o.isLt own

/-! ### Frequency inputs -/

theorem digFreq_modFreq (c : Chip) (n : Nat) (f : FreqSt → FreqSt) : digFreq (modFreq c n f) n = f (digFreq c n) := by
  unfold digFreq modFreq
  rw [smGet_smMod, if_pos rfl]

/-- The quotient to the nearest unit lies within half a divisor. -/
theorem nearest_bounds (c : Chip) (n : Nat) {d : Nat} (positive : 0 < d) :
    d * (2 * (nearest c n d).1) ≤ 2 * n + d ∧ 2 * n ≤ d * (2 * (nearest c n d).1) + d := by
  have parts : d * (n / d) + n % d = n := Nat.div_add_mod n d
  have rem : n % d < d := Nat.mod_lt n positive
  have double (q : Nat) : d * (2 * q) = 2 * (d * q) := Nat.mul_left_comm d 2 q
  have next (q : Nat) : d * (q + 1) = d * q + d := Nat.mul_succ d q
  unfold nearest
  split
  · dsimp only
    rw [double]
    omega
  · split
    · dsimp only [freshNat]
      obtain even | odd := Nat.mod_two_eq_zero_or_one (Config.freeNat c.fresh)
      · rw [even, double, Nat.add_zero]
        omega
      · rw [odd, double, next]
        omega
    · dsimp only
      rw [double, next]
      omega

theorem senses_nearest (c : Chip) (n d : Nat) : senses (nearest c n d).2 = senses c := by
  unfold nearest
  split
  · rfl
  · split <;> rfl

theorem le_sum_foldl (l : List Nat) (a : Nat) : a ≤ l.foldl (· + ·) a := by
  induction l generalizing a with
  | nil => exact Nat.le_refl a
  | cons x l ih => exact Nat.le_trans (Nat.le_add_right a x) (ih (a + x))

/-- The frequency input with a good period in its window (R455, R456). -/
def periodTaken (c : Chip) (f t : Nat) : Chip :=
  modFreq c f fun q => { q with
    window := (t :: q.window).take (fld (freqCfg c f) 23 16), updates := q.updates + 1, good := q.good + 1
    fault := q.fault && decide (q.good + 1 < 16) }

/-- The values that the window gives, and the module that has formed them. -/
def periodMeasured (scale : Nat) (c : Chip) (f : Nat) : Nat × Nat × Chip :=
  let w := (digFreq c f).window
  let sum := w.foldl (· + ·) 0
  let p := nearest c sum w.length
  let m := nearest p.2 (w.length * scale) sum
  (m.1, p.1, m.2)

/-- The module with the values of the window reported. -/
def measuredReport (scale : Nat) (c : Chip) (f : Nat) : Chip :=
  freqReport (periodMeasured scale c f).2.2 f (periodMeasured scale c f).1 (periodMeasured scale c f).2.1

theorem measuredReport_eq (scale : Nat) (c : Chip) (f : Nat) : measuredReport scale c f =
    let w := (digFreq c f).window
    let sum := w.foldl (· + ·) 0
    freqReport (nearest (nearest c sum w.length).2 (w.length * scale) sum).2 f
      (nearest (nearest c sum w.length).2 (w.length * scale) sum).1 (nearest c sum w.length).1 := rfl

/-- Taking a pair apart gives its two parts, whatever function takes it apart. -/
theorem unpaired {take : Nat × Chip → (Nat → Chip → Chip) → Chip} (pairs : ∀ n d g, take (n, d) g = g n d) (x : Nat × Chip)
    (g : Nat → Chip → Chip) : take x g = g x.1 x.2 := pairs x.1 x.2 g

theorem freqPeriod_good {c : Chip} {f t : Nat} (on : freqOn c f = true) (good : 5000 ≤ t) : freqPeriod c f t =
    digRefresh (measuredReport 100000000000 (periodTaken c f t) f) 0 := by
  have off : ¬(!freqOn c f) = true := by simp [on]
  unfold freqPeriod
  refine (if_neg off).trans ((if_neg (Nat.not_lt.mpr good)).trans ?_)
  extract_lets avg d window sum
  refine (unpaired ?first _ _).trans ?_
  case first => exact fun _ _ _ => rfl
  refine (unpaired ?second _ _).trans ?_
  case second => exact fun _ _ _ => rfl
  have taken : periodTaken c f t = d := rfl
  rw [measuredReport_eq, taken]

theorem senses_periodMeasured (scale : Nat) (c : Chip) (f : Nat) : senses (periodMeasured scale c f).2.2 = senses c :=
  (senses_nearest ..).trans (senses_nearest ..)

theorem openWire_modFreq (c : Chip) (f n : Nat) (g : FreqSt → FreqSt) : (digCh (modFreq c f g) n).openWire = (digCh c n).openWire := rfl

theorem freqReport_eq (c : Chip) (f m p : Nat) : (digCh (freqReport c f m p) f).openWire = (digCh c f).openWire
    ∧ digFreq (freqReport c f m p) f = if freqInvalid c f then { digFreq c f with next := some (m, p) }
      else { digFreq c f with mhz := m, period := p, next := none } := by
  unfold freqReport
  split <;> exact ⟨rfl, digFreq_modFreq ..⟩

section
variable {c : Chip} {f t : Nat}

/-- The input with its window's values reported: they show where it is valid, and wait where it is not. -/
theorem digFreq_measuredReport (scale : Nat) (d : Chip) (f : Nat) :
    (digCh (measuredReport scale d f) f).openWire = (digCh d f).openWire
      ∧ digFreq (measuredReport scale d f) f = if freqInvalid d f
        then { digFreq d f with next := some ((periodMeasured scale d f).1, (periodMeasured scale d f).2.1) }
        else { digFreq d f with mhz := (periodMeasured scale d f).1, period := (periodMeasured scale d f).2.1, next := none } := by
  have measured := senses_periodMeasured scale d f
  obtain ⟨wires, report⟩ := freqReport_eq (periodMeasured scale d f).2.2 f (periodMeasured scale d f).1 (periodMeasured scale d f).2.1
  have valid : freqInvalid (periodMeasured scale d f).2.2 f = freqInvalid d f := by
    simp only [freqInvalid, digFreq_of_senses measured, openWire_of_senses measured]
  unfold measuredReport
  rw [wires, report, valid, openWire_of_senses measured, digFreq_of_senses measured]
  exact ⟨rfl, rfl⟩

theorem digFreq_freqPeriod (on : freqOn c f = true) (good : 5000 ≤ t) :
    (digCh (freqPeriod c f t) f).openWire = (digCh (measuredReport 100000000000 (periodTaken c f t) f) f).openWire
      ∧ digFreq (freqPeriod c f t) f = digFreq (measuredReport 100000000000 (periodTaken c f t) f) f := by
  have refreshed := senses_digRefresh (measuredReport 100000000000 (periodTaken c f t) f) 0
  rw [freqPeriod_good on good]
  exact ⟨openWire_of_senses refreshed f, digFreq_of_senses refreshed f⟩

theorem digFreq_periodTaken : digFreq (periodTaken c f t) f = { digFreq c f with
    window := (t :: (digFreq c f).window).take (fld (freqCfg c f) 23 16), updates := (digFreq c f).updates + 1
    good := (digFreq c f).good + 1, fault := (digFreq c f).fault && decide ((digFreq c f).good + 1 < 16) } :=
  digFreq_modFreq ..

/-- What a report of the window's values leaves of the input, valid or not. -/
theorem measuredReport_keeps (scale : Nat) (d : Chip) (f : Nat) :
    (digFreq (measuredReport scale d f) f).window = (digFreq d f).window
      ∧ (digFreq (measuredReport scale d f) f).updates = (digFreq d f).updates
      ∧ (digFreq (measuredReport scale d f) f).good = (digFreq d f).good
      ∧ (digFreq (measuredReport scale d f) f).fault = (digFreq d f).fault := by
  rw [(digFreq_measuredReport scale d f).2]
  split <;> exact ⟨rfl, rfl, rfl, rfl⟩

/-- What a good period leaves of the input, valid or not. -/
theorem freqPeriod_takes (on : freqOn c f = true) (good : 5000 ≤ t) :
    (digFreq (freqPeriod c f t) f).window = (t :: (digFreq c f).window).take (fld (freqCfg c f) 23 16)
      ∧ (digFreq (freqPeriod c f t) f).updates = (digFreq c f).updates + 1
      ∧ (digFreq (freqPeriod c f t) f).good = (digFreq c f).good + 1
      ∧ (digFreq (freqPeriod c f t) f).fault = ((digFreq c f).fault && decide ((digFreq c f).good + 1 < 16)) := by
  obtain ⟨window, updates, count, fault⟩ := measuredReport_keeps 100000000000 (periodTaken c f t) f
  rw [(digFreq_freqPeriod on good).2, window, updates, count, fault, digFreq_periodTaken]
  exact ⟨rfl, rfl, rfl, rfl⟩

/-- A window with a good period in it has a length and a sum. -/
theorem window_positive {n : Nat} (some_ : 0 < n) (good : 5000 ≤ t) (l : List Nat) :
    0 < ((t :: l).take n).length ∧ 0 < ((t :: l).take n).foldl (· + ·) 0 := by
  obtain ⟨k, rfl⟩ : ∃ k, n = k + 1 := ⟨n - 1, by omega⟩
  rw [List.take_succ_cons]
  refine ⟨Nat.succ_pos _, ?_⟩
  have least := le_sum_foldl (l.take k) (0 + t)
  rw [List.foldl_cons]
  omega

/-- The values of a valid input are those of its window, to the nearest unit (R455). -/
theorem measuredReport_valid (scale : Nat) {d : Chip} (valid : freqInvalid d f = false) :
    let r := digFreq (measuredReport scale d f) f
    let sum := r.window.foldl (· + ·) 0
    let k := r.window.length
    0 < k → 0 < sum → k * (2 * r.period) ≤ 2 * sum + k ∧ 2 * sum ≤ k * (2 * r.period) + k
      ∧ sum * (2 * r.mhz) ≤ 2 * (k * scale) + sum ∧ 2 * (k * scale) ≤ sum * (2 * r.mhz) + sum := by
  dsimp only
  rw [(digFreq_measuredReport scale d f).2, valid, if_neg (by decide)]
  intro length sum
  obtain ⟨above, below⟩ := nearest_bounds d ((digFreq d f).window.foldl (· + ·) 0) length
  exact ⟨above, below, nearest_bounds _ ((digFreq d f).window.length * scale) sum⟩

theorem freqInvalid_periodTaken (on : freqOn c f = true) (good : 5000 ≤ t) : freqInvalid (periodTaken c f t) f =
    ((digFreq (freqPeriod c f t) f).fault || (digCh (freqPeriod c f t) f).openWire) := by
  obtain ⟨wire, eq⟩ := digFreq_freqPeriod on good
  rw [eq, wire, (measuredReport_keeps _ _ f).2.2.2, (digFreq_measuredReport _ _ f).1, freqInvalid]

theorem freqPeriod_valid (on : freqOn c f = true) (good : 5000 ≤ t) (some_ : 0 < fld (freqCfg c f) 23 16)
    (whole : (digFreq (freqPeriod c f t) f).fault = false) (closed : (digCh (freqPeriod c f t) f).openWire = false) :
    let r := digFreq (freqPeriod c f t) f
    let sum := r.window.foldl (· + ·) 0
    let k := r.window.length
    k * (2 * r.period) ≤ 2 * sum + k ∧ 2 * sum ≤ k * (2 * r.period) + k
      ∧ sum * (2 * r.mhz) ≤ 2 * (k * 100000000000) + sum ∧ 2 * (k * 100000000000) ≤ sum * (2 * r.mhz) + sum := by
  have valid : freqInvalid (periodTaken c f t) f = false := by rw [freqInvalid_periodTaken on good, whole, closed, Bool.or_false]
  obtain ⟨length, sum⟩ := window_positive some_ good (digFreq c f).window
  obtain ⟨window, -, -, -⟩ := freqPeriod_takes on good
  have bounds := measuredReport_valid 100000000000 valid
  rw [← (digFreq_freqPeriod on good).2] at bounds
  exact bounds (window ▸ length) (window ▸ sum)

/-- An input at fault keeps the values that it shows (R456). -/
theorem freqPeriod_faulty (on : freqOn c f = true) (good : 5000 ≤ t) (fault : (digFreq (freqPeriod c f t) f).fault = true) :
    (digFreq (freqPeriod c f t) f).mhz = (digFreq c f).mhz ∧ (digFreq (freqPeriod c f t) f).period = (digFreq c f).period := by
  have invalid : freqInvalid (periodTaken c f t) f = true := by rw [freqInvalid_periodTaken on good, fault, Bool.true_or]
  rw [(digFreq_freqPeriod on good).2, (digFreq_measuredReport _ _ f).2, if_pos invalid, digFreq_periodTaken]
  exact ⟨rfl, rfl⟩

end

theorem frequencyCommandsComplete : Claims.FrequencyCommandsComplete := by
  intro s f t
  dsimp only
  intro works
  have run {g : Chip → Chip} {d : Chip} (same : g s.chip = d) : (.next (after s (ungated g s.chip)) : Host.Outcome State Fault Refusal)
      = .next (after s d) := next_after_congr ((ungated_of_works g works).trans same)
  refine ⟨fun on short => ?_, fun on good some_ => ?_, fun on => ?_, fun off => ⟨?_, ?_⟩⟩
  · refine run ?_
    unfold freqPeriod
    rw [if_neg (by simp [on]), if_pos short]
  · refine ⟨_, run rfl, ?_⟩
    have shown := senses_of_dig (attnUpdate_dig (freqPeriod s.chip f t)) (attnUpdate_safety _)
    have wire : (digCh (freqPeriod s.chip f t) f).openWire = (digCh s.chip f).openWire := by
      rw [(digFreq_freqPeriod on good).1, (digFreq_measuredReport ..).1, periodTaken, openWire_modFreq]
    rw [after_chip, digFreq_of_senses shown]
    obtain ⟨window, updates, count, fault⟩ := freqPeriod_takes on good
    exact ⟨window, updates, count, fault, fun whole closed => freqPeriod_valid on good some_ whole (wire.trans closed),
      freqPeriod_faulty on good⟩
  · exact run (if_neg (by simp [on]))
  · exact run (if_pos (by simpa using off))
  · exact run (if_pos (by simpa using off))

theorem digitalGroupsRest : Claims.DigitalGroupsRest := by
  intro s ch level near n other g f t rests
  have idle (h : Chip → Chip) : (.next (after s (ungated h s.chip)) : Host.Outcome State Fault Refusal) = .next (after s s.chip) :=
    next_after_congr (ungated_of_rests h rests)
  simp only [List.forall_mem_cons]
  refine ⟨?_, ?_, ?_, ?_, ?_, ?_, ?_, ?_, ?_, ?_, ?_, ?_, ?_, nofun⟩ <;> exact idle _

/-- Settles O49: channels, readback and supplies by case, the frequency window by what a refresh of the flags leaves. -/
theorem digitalCommandsComplete : Obligations.DigitalCommandsComplete :=
  ⟨channelCommandsComplete, readbackCommandsComplete, fieldSuppliesComplete, frequencyCommandsComplete, digitalGroupsRest⟩

end Sys2Proof.Machine
end


section
/-! PROOFS. O50, the islands of a page held in reset -/

namespace Sys2Proof.Machine
open Safety

/-! ### ACTIVATE with the islands' page isolated -/

theorem sendDown_isolated {c : Chip} (held : (hdr c 0x34).st = .isolated) (i : Nat) (k : DownKind) : sendDown c i k = c :=
  if_pos (by rw [held]; rfl)

/-- A module whose islands' page is isolated, with the frames to and from its islands as they were. -/
def Silent (islands : SMap Island) (c : Chip) : Prop := (hdr c 0x34).st = .isolated ∧ c.islands = islands

theorem silent_sendCommand {islands : SMap Island} {c : Chip} (silent : Silent islands c) (i : Nat) (nA : Int) :
    Silent islands (sendCommand c i nA) := by
  have rounded (n : Int) (d : Nat) : Silent islands (roundFree c n d).2 := by
    unfold roundFree
    split <;> exact silent
  have trimmed (n : Int) : Silent islands (trimOut c i n).2 := rounded _ _
  unfold sendCommand
  dsimp only
  rw [sendDown_isolated (trimmed _).1]
  exact trimmed _

/-- While their page is isolated, the refresh in ACTIVATE sends the islands nothing. -/
theorem islands_activateRefresh {c : Chip} (held : (hdr c 0x34).st = .isolated) : (activateRefresh c).islands = c.islands := by
  unfold activateRefresh
  split
  · rfl
  · refine (List.foldlRecOn (motive := Silent c.islands) (List.range 16) _ ⟨held, rfl⟩ fun d silent i _ => ?_).2
    dsimp only
    split
    · exact silent
    · split
      · rwa [sendDown_isolated silent.1]
      · split
        · rwa [sendDown_isolated silent.1]
        · split
          · rwa [sendDown_isolated silent.1]
          · exact silent_sendCommand silent ..

/-- A module in ACTIVATE whose island 0 is an input that was last sent its direction, with the islands' page held in
reset. -/
def isolatedIslands : Chip :=
  { Chip.reset with
    mode := { ModeSt.reset with mode := .activate }
    pages := [(0x34, { PageHdr.reset 0x34 with st := .isolated })]
    cfg := [(cfgKey 0x34 0x100, 0xC0000000)]
    isl := { IslSt.reset with bufs := [(0, { IslBuf.reset with lastDown := some ⟨.direction, true⟩ })] } }

/-- Refutes O50: the refresh in ACTIVATE sends an island nothing while a BLOCK reset holds the islands' page isolated. -/
theorem not_islandCommandsComplete : ¬ Obligations.IslandCommandsComplete := by
  intro claim
  obtain ⟨tiers, -⟩ := claim
  obtain ⟨-, -, -, -, -, -, -, -, -, -, -, -, -, -, -, -, -, -, -, refreshes⟩ := tiers ⟨isolatedIslands, []⟩ 0 0 0
  obtain ⟨t, run, -, sent⟩ := refreshes rfl
  have refreshed : exec .activateRefresh ⟨isolatedIslands, []⟩ = .next (after ⟨isolatedIslands, []⟩ (activateRefresh isolatedIslands)) := by
    unfold exec
    rfl
  have same : t = after ⟨isolatedIslands, []⟩ (activateRefresh isolatedIslands) := by
    rw [refreshed] at run
    exact (Host.Outcome.next.inj run).symm
  have silent : island t.chip 0 = Island.reset := by
    rw [same, after_chip, island, attnUpdate_islands, islands_activateRefresh (by decide)]
    rfl
  have frame := sent ⟨.direction, true⟩ (by decide) (by decide)
  dsimp only [Fin.isValue, Fin.val_zero] at frame
  rw [silent] at frame
  exact absurd frame (by decide)

end Sys2Proof.Machine
end


section
/-! PROOFS. O51, the remote I/O links -/

namespace Sys2Proof.Machine
open Safety

/-! ### Links and stations -/

theorem link_modLink (c : Chip) (l : Nat) (f : LinkSt → LinkSt) : link (modLink c l f) l = f (link c l) := by
  unfold link modLink
  rw [smGet_smMod, if_pos rfl]

theorem stn_modStn (c : Chip) (l a b : Nat) (f : StnSt → StnSt) :
    stn (modStn c l a f) l b = if b = a then f (stn c l a) else stn c l b := by
  unfold stn modStn
  rw [link_modLink]
  exact smGet_smMod ..

theorem stn_of_links {c d : Chip} (h : c.links = d.links) (l a : Nat) : stn c l a = stn d l a := by simp only [stn, link, h]

theorem link_of_links {c d : Chip} (h : c.links = d.links) (l : Nat) : link c l = link d l := by simp only [link, h]

theorem stn_modLink {c : Chip} {l : Nat} {f : LinkSt → LinkSt} (kept : (f (link c l)).stns = (link c l).stns) (a : Nat) :
    stn (modLink c l f) l a = stn c l a := by
  unfold stn
  rw [link_modLink, kept]

@[simp] theorem linkConds_links (c : Chip) (l : Nat) : (linkConds c l).links = c.links := by simp only [linkConds, setCond_links]

theorem stn_linkConds (c : Chip) (k l a : Nat) : stn (linkConds c k) l a = stn c l a := stn_of_links (linkConds_links c k) l a

theorem link_linkConds (c : Chip) (k l : Nat) : link (linkConds c k) l = link c l := link_of_links (linkConds_links c k) l

/-- A station that goes to another state (R523). -/
theorem stn_stnTo (c : Chip) (l a st why b : Nat) : stn (stnTo c l a st why) l b =
    if b = a then { stn c l a with state := st, misses := 0, awaiting := st == 3 } else stn c l b := by
  unfold stnTo
  rw [stn_linkConds, stn_of_links (emit_links ..), stn_modStn]

theorem link_modStn (c : Chip) (l a : Nat) (f : StnSt → StnSt) : link (modStn c l a f) l =
    { link c l with stns := smMod StnSt.reset (link c l).stns a f } := link_modLink ..

theorem link_stnTo (c : Chip) (l a st why : Nat) : (link (stnTo c l a st why) l).losses = (link c l).losses
    ∧ (link (stnTo c l a st why) l).up = (link c l).up := by
  unfold stnTo
  rw [link_linkConds, link_of_links (emit_links ..), link_modStn]
  exact ⟨rfl, rfl⟩

/-! ### Lost stations -/

/-- The crews whose images a station is bound to, told that it is lost (R182). -/
def crewsTold (c : Chip) (l a : Nat) : Chip :=
  [Crew.safety, Crew.process].foldl (fun c cr =>
    if stnBound c cr l a then modCrew c cr fun s => { s with lostStations := s.lostStations ||| 2 ^ (8 * l + a) } else c) c

theorem crewsTold_links (c : Chip) (l a : Nat) : (crewsTold c l a).links = c.links :=
  kept_foldl Chip.links (fun d cr => by simp only [apply_ite Chip.links, modCrew_links, ite_self]) _ c

/-- A crew whose image the station is bound to has it among its lost stations. -/
theorem crewsTold_told {c : Chip} {cr : Crew} {l a : Nat} (bound : stnBound c cr l a = true) :
    (crewSt (crewsTold c l a) cr).lostStations.testBit (8 * l + a) = true := by
  have marked (n : Nat) : (n ||| 2 ^ (8 * l + a)).testBit (8 * l + a) = true := by
    rw [Nat.testBit_or, Nat.testBit_two_pow_self, Bool.or_true]
  have same (d : Chip) (f : CrewSt → CrewSt) : stnBound (modCrew d .safety f) .process l a = stnBound d .process l a := rfl
  unfold crewsTold
  simp only [List.foldl_cons, List.foldl_nil]
  cases cr with
  | safety =>
    rw [if_pos bound]
    split
    · rw [crewSt_modCrew_ne _ _ (by decide), crewSt_modCrew]
      exact marked _
    · rw [crewSt_modCrew]
      exact marked _
  | process =>
    rw [if_pos, crewSt_modCrew]
    · exact marked _
    · split
      · rwa [same]
      · exact bound

section
variable {c : Chip} {l a : Nat} {why : Nat}

theorem stnLose_of_not (not : (stn c l a).state ≠ 3 ∨ expects c l a = false) : stnLose c l a why = c :=
  if_pos (by simpa using not)

/-- A RUNNING station that is lost, with its link's count and its crews told. -/
theorem stnLose_of_running (run : (stn c l a).state = 3) (exp : expects c l a = true) : stnLose c l a why =
    stnTo (crewsTold (modLink c l fun k => { k with losses := satInc 255 k.losses }) l a) l a 4 why :=
  if_neg (by simp [run, exp])

theorem stn_told (c : Chip) (l a b : Nat) :
    stn (crewsTold (modLink c l fun k => { k with losses := satInc 255 k.losses }) l a) l b = stn c l b := by
  rw [stn_of_links (crewsTold_links ..), stn_modLink rfl]

theorem stn_stnLose (run : (stn c l a).state = 3) (exp : expects c l a = true) (b : Nat) : stn (stnLose c l a why) l b =
    if b = a then { stn c l a with state := 4, misses := 0, awaiting := false } else stn c l b := by
  rw [stnLose_of_running run exp, stn_stnTo, stn_told, stn_told]
  rfl

theorem expects_of_cfg {c d : Chip} (h : c.cfg = d.cfg) (l a : Nat) : expects c l a = expects d l a := by
  simp only [expects, cfg, h]

theorem crewSt_stnTo (c : Chip) (l a st why : Nat) (cr : Crew) : crewSt (stnTo c l a st why) cr = crewSt c cr := by
  have conds (d : Chip) : crewSt (linkConds d l) cr = crewSt d cr := by simp only [linkConds, crewSt_setCond]
  have set_ (f : StnSt → StnSt) : crewSt (modStn c l a f) cr = crewSt c cr := by cases cr <;> rfl
  unfold stnTo
  rw [conds, crewSt_emit, set_]

end

theorem lostStationsShow : Claims.LostStationsShow := by
  intro c l a why
  dsimp only
  refine ⟨fun run exp => ⟨?_, ?_, fun cr bound => ?_⟩, fun not => stnLose_of_not not⟩
  · rw [stn_stnLose run exp, if_pos rfl]
  · rw [stnLose_of_running run exp, (link_stnTo ..).1, link_of_links (crewsTold_links ..), link_modLink]
  · rw [stnLose_of_running run exp, crewSt_stnTo]
    exact crewsTold_told bound

/-! ### Requests and replies -/

section
variable {c : Chip} {l : Nat} (lt : l < 32)
include lt

theorem managementRequest_guard : (32 ≤ l || !drives c || !c.mode.mode.strokes || (link c l).managed || !(link c l).up
      || !working c (linkPage l)) = true
    ↔ ¬(drives c = true ∧ c.mode.mode.strokes = true ∧ (link c l).managed = false ∧ (link c l).up = true
      ∧ working c (linkPage l) = true) := by
  simp only [Bool.or_eq_true, decide_eq_true_eq, Nat.not_le.mpr lt, false_or, Bool.not_eq_true', Classical.not_and_iff_not_or_not, Bool.not_eq_true,
    Bool.not_eq_false, or_assoc]

end

theorem stationReply_of_none {f : Chip → Nat → List Byte → Chip} {type : Nat} {c : Chip} {l : Nat} {bs : List Byte}
    (none : stnFrame c l type bs = Option.none) : stationReply f type c l bs = c := by
  unfold stationReply
  rw [none]

theorem stationReply_of_some {f : Chip → Nat → List Byte → Chip} {type : Nat} {c : Chip} {l a : Nat} {bs : List Byte}
    (frame : stnFrame c l type bs = some a) :
    stationReply f type c l bs = newerEpoch (f c l bs) 3 (BitVec.ofNat 32 (beAt bs 8 4)) := by
  unfold stationReply
  rw [frame]

/-- The station as an IDENT shows it, in any state. -/
def identSeen (c : Chip) (l a : Nat) (bs : List Byte) : Chip :=
  modStn c l a fun s => { s with serial := BitVec.ofNat 32 (beAt bs 20 4), position := beAt bs 5 1, fenced := false }

/-- The station as a CONF_ACK shows it, in any state. -/
def confAckSeen (c : Chip) (l a : Nat) (bs : List Byte) : Chip :=
  modStn c l a fun s => { s with
    position := beAt bs 5 1, fenced := (beAt bs 17 1).testBit 0
    downBad := if (beAt bs 17 1).testBit 0 then s.downBad else (beAt bs 17 1).testBit 1 }

section
variable {c : Chip} {l a : Nat} {bs : List Byte}

theorem ident_seen (frame : stnFrame c l 0x02 bs = some a) (st : (stn c l a).state = 2 ∨ (stn c l a).state = 3) :
    ident c l bs = identSeen c l a bs := by
  unfold ident
  rw [frame]
  exact if_pos (by simpa using st)

/-- An ABSENT or LOST station after its IDENT: it is configured next where it is of the kind wanted (R509, R521). -/
def IdentTaken (c : Chip) (l a : Nat) (bs : List Byte) (d : Chip) : Prop :=
  (stn d l a).serial = BitVec.ofNat 32 (beAt bs 20 4) ∧ (stn d l a).position = beAt bs 5 1
    ∧ ((stn d l a).typeBad = true ↔ cfg c (linkPage l) (0x10C + 32 * a) ≠ 0
      ∧ (cfg c (linkPage l) (0x10C + 32 * a)).toNat ≠ beAt bs 16 4)
    ∧ (stn d l a).state = if (stn d l a).typeBad || (stn d l a).capBad then (stn c l a).state else 2

theorem ident_moves (frame : stnFrame c l 0x02 bs = some a) (not2 : (stn c l a).state ≠ 2) (not3 : (stn c l a).state ≠ 3) :
    IdentTaken c l a bs (ident c l bs) := by
  have zero : (cfg c (linkPage l) (0x10C + 32 * a)).toNat ≠ 0 ↔ cfg c (linkPage l) (0x10C + 32 * a) ≠ 0 := by
    rw [ne_eq, ne_eq, ← BitVec.toNat_inj]
    rfl
  have config (f : StnSt → StnSt) (p off : Nat) : cfg (modStn c l a f) p off = cfg c p off := rfl
  unfold ident
  rw [frame]
  dsimp only
  rw [if_neg (by simp [not2, not3])]
  split
  · next bad =>
    unfold IdentTaken
    rw [stn_linkConds, stn_modStn, if_pos rfl, stn_modStn, if_pos rfl]
    refine ⟨rfl, rfl, ?_, (if_pos bad).symm⟩
    dsimp only
    rw [Bool.and_eq_true, decide_eq_true_eq, decide_eq_true_eq, config, zero]
  · next good =>
    unfold IdentTaken
    rw [stn_stnTo, if_pos rfl, stn_modStn, if_pos rfl, stn_modStn, if_pos rfl, stn_modStn, if_pos rfl]
    refine ⟨rfl, rfl, ?_, (if_neg good).symm⟩
    dsimp only
    rw [Bool.and_eq_true, decide_eq_true_eq, decide_eq_true_eq, config, zero]

theorem confAck_seen (frame : stnFrame c l 0x04 bs = some a) (not : (stn c l a).state ≠ 2 ∨ (stn c l a).confSent = false) :
    confAck c l bs = linkConds (confAckSeen c l a bs) l := by
  have shown : stn (confAckSeen c l a bs) l a = { stn c l a with
      position := beAt bs 5 1, fenced := (beAt bs 17 1).testBit 0
      downBad := if (beAt bs 17 1).testBit 0 then (stn c l a).downBad else (beAt bs 17 1).testBit 1 } := by
    rw [confAckSeen, stn_modStn, if_pos rfl]
  unfold confAck
  rw [frame]
  refine if_pos ?_
  change (decide ((stn (confAckSeen c l a bs) l a).state ≠ 2) || !(stn (confAckSeen c l a bs) l a).confSent) = true
  rw [shown]
  simpa using not

/-- A CONF_ACK that was waited for: the station runs, or goes back to ABSENT (R509, R521). -/
def ConfAckTaken (l a : Nat) (bs : List Byte) (d : Chip) : Prop :=
  (stn d l a).state = (if beAt bs 16 1 = 0 then 3 else 1) ∧ (stn d l a).position = beAt bs 5 1
    ∧ (stn d l a).fenced = (beAt bs 17 1).testBit 0

theorem confAck_moves (frame : stnFrame c l 0x04 bs = some a) (configured : (stn c l a).state = 2)
    (sent : (stn c l a).confSent = true) : ConfAckTaken l a bs (confAck c l bs) := by
  unfold confAck
  rw [frame]
  dsimp only
  rw [if_neg (by rw [stn_modStn, if_pos rfl]; simp [configured, sent])]
  split
  · next good =>
    unfold ConfAckTaken
    rw [stn_stnTo, if_pos rfl, stn_modStn, if_pos rfl, stn_modStn, if_pos rfl, if_pos good]
    exact ⟨rfl, rfl, rfl⟩
  · next bad =>
    unfold ConfAckTaken
    rw [stn_linkConds, stn_modStn, if_pos rfl, stn_modStn, if_pos rfl, if_neg bad]
    exact ⟨rfl, rfl, rfl⟩

end

/-! ### The link's own state -/

section
variable {c : Chip} {l a : Nat}

theorem mem_expected (exp : expects c l a = true) : a ∈ expected c l := by
  have low := exp
  rw [expects, Bool.and_eq_true, decide_eq_true_eq] at low
  exact List.mem_filter.mpr ⟨List.mem_range.mpr low.1, exp⟩

/-- Every expected station starts anew (R509). -/
theorem stn_stnsAbsent (exp : expects c l a = true) : (stn (stnsAbsent c l) l a).state = StnSt.reset.state := by
  have anew (as : List Nat) (d : Chip) (f : StnSt → StnSt) (fresh : ∀ s, (f s).state = StnSt.reset.state)
      (held : a ∈ as ∨ (stn d l a).state = StnSt.reset.state) :
      (stn (as.foldl (fun c a => modStn c l a f) d) l a).state = StnSt.reset.state := by
    induction as generalizing d with
    | nil => exact held.resolve_left List.not_mem_nil
    | cons b as ih =>
      refine ih _ ?_
      by_cases here : a = b
      · right
        rw [stn_modStn, if_pos here]
        exact fresh _
      · rw [stn_modStn, if_neg here]
        exact held.imp_left fun mem => (List.mem_cons.mp mem).resolve_left here
  unfold stnsAbsent
  rw [stn_linkConds]
  refine anew _ c _ (fun _ => rfl) (.inl ?_)
  exact mem_expected exp

theorem stnLose_cfg (c : Chip) (l a why : Nat) : (stnLose c l a why).cfg = c.cfg := by
  have told (d : Chip) : (crewsTold d l a).cfg = d.cfg :=
    kept_foldl Chip.cfg (fun d cr => by simp only [apply_ite Chip.cfg, modCrew_cfg, ite_self]) _ d
  have moved (d : Chip) : (stnTo d l a 4 why).cfg = d.cfg := by simp only [stnTo, linkConds, setCond_cfg, emit_cfg, modStn, modLink]
  by_cases lost : (stn c l a).state = 3 ∧ expects c l a = true
  · rw [stnLose_of_running lost.1 lost.2, moved, told, modLink]
  · rw [stnLose_of_not (by rwa [Classical.not_and_iff_not_or_not, Bool.not_eq_true] at lost)]

theorem expects_stnLose (c : Chip) (l a why b : Nat) : expects (stnLose c l a why) l b = expects c l b :=
  expects_of_cfg (stnLose_cfg ..) l b

/-- A loss leaves every station but the one that it hits, and that one too unless it was RUNNING. -/
theorem stn_stnLose_of_not {c : Chip} {l a b : Nat} (why : Nat) (not : b ≠ a ∨ (stn c l b).state ≠ 3 ∨ expects c l b = false) :
    stn (stnLose c l a why) l b = stn c l b := by
  by_cases lost : (stn c l a).state = 3 ∧ expects c l a = true
  · rw [stn_stnLose lost.1 lost.2]
    refine if_neg ?_
    rintro rfl
    obtain other | idle | unused := not
    · exact other rfl
    · exact idle lost.1
    · exact Bool.false_ne_true (unused.symm.trans lost.2)
  · rw [stnLose_of_not (by rwa [Classical.not_and_iff_not_or_not, Bool.not_eq_true] at lost)]

theorem stn_loseAll_of_not {b : Nat} (why : Nat) (as : List Nat) (c : Chip) (not : (stn c l b).state ≠ 3 ∨ expects c l b = false) :
    stn (as.foldl (fun c a => stnLose c l a why) c) l b = stn c l b := by
  induction as generalizing c with
  | nil => rfl
  | cons a as ih =>
    have same := stn_stnLose_of_not (a := a) why (.inr not)
    rw [List.foldl_cons, ih _ (by rwa [same, expects_stnLose]), same]

theorem stn_loseAll {b : Nat} (why : Nat) (as : List Nat) (c : Chip) (mem : b ∈ as) (run : (stn c l b).state = 3)
    (exp : expects c l b = true) : (stn (as.foldl (fun c a => stnLose c l a why) c) l b).state = 4 := by
  induction as generalizing c with
  | nil => exact absurd mem List.not_mem_nil
  | cons a as ih =>
    rw [List.foldl_cons]
    by_cases here : b = a
    · subst here
      have lost : (stn (stnLose c l b why) l b).state = 4 := by rw [stn_stnLose run exp, if_pos rfl]
      rw [stn_loseAll_of_not why as _ (.inl (by rw [lost]; decide)), lost]
    · have same := stn_stnLose_of_not (c := c) (l := l) (a := a) why (.inl here)
      exact ih _ ((List.mem_cons.mp mem).resolve_left here) (by rw [same, run]) (by rw [expects_stnLose, exp])

/-! ### IN frames -/

/-- A station that reports its downstream port dead takes with it the RUNNING stations past its position (R509). -/
def losePast (l a : Nat) (bs : List Nat) (c : Chip) : Chip :=
  bs.foldl (fun c b => if (stn c l a).position < (stn c l b).position then stnLose c l b 3 else c) c

theorem position_stnLose (c : Chip) (l a why b : Nat) : (stn (stnLose c l a why) l b).position = (stn c l b).position := by
  by_cases lost : (stn c l a).state = 3 ∧ expects c l a = true
  · rw [stn_stnLose lost.1 lost.2]
    split
    · next same => rw [same]
    · rfl
  · rw [stnLose_of_not (by rwa [Classical.not_and_iff_not_or_not, Bool.not_eq_true] at lost)]

theorem stn_losePast_of_not {b : Nat} (bs : List Nat) (c : Chip)
    (not : (stn c l b).state ≠ 3 ∨ (stn c l b).position ≤ (stn c l a).position) : stn (losePast l a bs c) l b = stn c l b := by
  unfold losePast
  induction bs generalizing c with
  | nil => rfl
  | cons x bs ih =>
    rw [List.foldl_cons]
    split
    · next past =>
      have spared : b ≠ x ∨ (stn c l b).state ≠ 3 ∨ expects c l b = false := by
        obtain idle | near_ := not
        · exact .inr (.inl idle)
        · exact .inl (by rintro rfl; exact absurd past (Nat.not_lt.mpr near_))
      have same := stn_stnLose_of_not 3 spared
      rw [ih _ (by rwa [same, position_stnLose]), same]
    · exact ih c not

theorem stn_losePast {b : Nat} (bs : List Nat) (c : Chip) (mem : b ∈ bs) (run : (stn c l b).state = 3) (exp : expects c l b = true)
    (past : (stn c l a).position < (stn c l b).position) : (stn (losePast l a bs c) l b).state = 4 := by
  unfold losePast
  induction bs generalizing c with
  | nil => exact absurd mem List.not_mem_nil
  | cons x bs ih =>
    rw [List.foldl_cons]
    by_cases here : b = x
    · subst here
      have lost : (stn (stnLose c l b 3) l b).state = 4 := by rw [stn_stnLose run exp, if_pos rfl]
      rw [if_pos past]
      exact (congrArg StnSt.state (stn_losePast_of_not bs _ (.inl (by rw [lost]; decide)))).trans lost
    · have rest := (List.mem_cons.mp mem).resolve_left here
      split
      · have same := stn_stnLose_of_not (c := c) (l := l) (a := x) 3 (.inl here)
        exact ih _ rest (by rw [same, run]) (by rw [expects_stnLose, exp]) (by rwa [position_stnLose, position_stnLose])
      · exact ih c rest run exp past

end

/-- A station with a frame accepted from it (R501, R504). -/
theorem stn_inAccept (c : Chip) (l a cycle : Nat) (bs : List Byte) (b : Nat) : stn (inAccept c l a cycle bs) l b =
    if b = a then { stn c l a with
      seq := some (BitVec.ofNat 32 (beAt bs 12 4)), got := true, awaiting := false, misses := 0
      bits := BitVec.ofNat 64 (leAt bs 28 8), bad := BitVec.ofNat 64 (leAt bs 36 8)
      words := (chans c l a 1 true).zipIdx.foldl (fun m x => smSet 0 m x.1 (signed 16 (beAt bs (44 + 2 * x.2) 2))) []
      position := beAt bs 5 1, fenced := false, downBad := (beAt bs 21 1).testBit 1
      stat := BitVec.ofNat 32 (beAt bs 24 4), updates := (stn c l a).updates + 1 } else stn c l b := by
  unfold inAccept
  dsimp only
  rw [stn_linkConds, stn_modLink rfl, stn_modStn]

theorem remoteReceive_of_none {c d : Chip} {l cycle : Nat} {fcs : Bool} {bs : List Byte}
    (read : remoteIn c l fcs cycle bs = (d, none)) : remoteReceive c l fcs cycle bs = d := by
  unfold remoteReceive
  rw [read]

theorem remoteReceive_of_some {c d : Chip} {l cycle e : Nat} {fcs : Bool} {bs : List Byte}
    (read : remoteIn c l fcs cycle bs = (d, some e)) : remoteReceive c l fcs cycle bs = newerEpoch d 3 (BitVec.ofNat 32 e) := by
  unfold remoteReceive
  rw [read]

/-- The sender of a frame that a check past the first discards, with what the frame shows of it. -/
def senderSeen (c : Chip) (l : Nat) (fenced : Bool) (bs : List Byte) : Chip :=
  modStn c l (beAt bs 4 1) fun y => { y with fenced := fenced, position := beAt bs 5 1 }

section
variable {c : Chip} {l : Nat} {bs : List Byte} (lt : l < 32) (cycle : Nat)
include lt

theorem remoteIn_unsound : remoteIn c l false cycle bs = (modLink c l fun n => { n with bad := satInc 255 n.bad }, none) := by
  unfold remoteIn
  rw [if_neg (Nat.not_le.mpr lt)]
  rfl

theorem remoteIn_bad (bad : inCheck c l bs = some 1) : remoteIn c l true cycle bs = (inDiscard c l (beAt bs 4 1) 1, none) := by
  unfold remoteIn
  rw [if_neg (Nat.not_le.mpr lt), if_neg (by decide), bad]
  rfl

theorem remoteIn_fenced (fenced : inCheck c l bs = some 2) : remoteIn c l true cycle bs =
    (inDiscard (senderSeen c l true bs) l (beAt bs 4 1) 2, if (ownEpoch c).toNat < beAt bs 8 4 then some (beAt bs 8 4) else none) := by
  have epoch : ownEpoch (senderSeen c l true bs) = ownEpoch c := rfl
  unfold remoteIn
  rw [if_neg (Nat.not_le.mpr lt), if_neg (by decide), fenced, ← epoch]
  exact congrArg (Prod.mk _) (ite_congr (propext (and_iff_right rfl)) (fun _ => rfl) (fun _ => rfl))

theorem remoteIn_old {k : Nat} (late : 3 ≤ k) (old : inCheck c l bs = some k) : remoteIn c l true cycle bs =
    (inDiscard (senderSeen c l false bs) l (beAt bs 4 1) k, none) := by
  have other : (k == 2) = false := beq_false_of_ne (by omega)
  unfold remoteIn
  rw [if_neg (Nat.not_le.mpr lt), if_neg (by decide), old]
  dsimp only
  split
  · next one => exact absurd (Option.some.inj one) (by omega)
  · next j same =>
    obtain rfl := Option.some.inj same
    rw [other, if_neg (by omega)]
    rfl
  · next none => exact absurd none nofun

theorem remoteIn_passes (passes : inCheck c l bs = none) : remoteIn c l true cycle bs =
    let d := inAccept c l (beAt bs 4 1) cycle bs
    let d := if (beAt bs 21 1).testBit 1 then losePast l (beAt bs 4 1) (running d l) d else d
    (if beAt bs 20 1 = 2 then d else stnLose d l (beAt bs 4 1) 1, none) := by
  unfold remoteIn
  rw [if_neg (Nat.not_le.mpr lt), if_neg (by decide), passes]
  rfl

omit lt in
/-- A frame that passes comes from a station that is RUNNING and expected (R504). -/
theorem inCheck_passes (passes : inCheck c l bs = none) : (stn c l (beAt bs 4 1)).state = 3 ∧ expects c l (beAt bs 4 1) = true := by
  unfold inCheck at passes
  dsimp only at passes
  split at passes
  · exact absurd passes nofun
  · next sound =>
    simp only [Bool.or_eq_true, not_or, decide_eq_true_eq, Classical.not_not, Bool.not_eq_true', Bool.not_eq_false] at sound
    obtain ⟨⟨⟨⟨-, exp⟩, run⟩, -⟩, -⟩ := sound
    exact ⟨run, exp⟩

end

/-! ### The commands -/

section
variable {c : Chip} {l a cycle : Nat} {bs : List Byte}

theorem expects_inAccept (b : Nat) : expects (inAccept c l a cycle bs) l b = expects c l b := by
  refine expects_of_cfg ?_ l b
  simp only [inAccept, linkConds, setCond_cfg, modLink, modStn]

/-- A frame of a station whose downstream port is dead: the RUNNING stations past its position are lost (R509). -/
theorem accepted_past {b : Nat} (other : b ≠ a)
    (runs : (stn c l b).state = 3) (exps : expects c l b = true) :
    let d := inAccept c l a cycle bs
    let e := losePast l a (running d l) d
    (stn (if beAt bs 20 1 = 2 then e else stnLose e l a 1) l b).state = if beAt bs 5 1 < (stn c l b).position then 4 else 3 := by
  have here : (stn (inAccept c l a cycle bs) l a).position = beAt bs 5 1 := by rw [stn_inAccept, if_pos rfl]
  have there : stn (inAccept c l a cycle bs) l b = stn c l b := by rw [stn_inAccept, if_neg other]
  have passed : (stn (losePast l a (running (inAccept c l a cycle bs) l) (inAccept c l a cycle bs)) l b).state =
      if beAt bs 5 1 < (stn c l b).position then 4 else 3 := by
    split
    · next past =>
      have mem : b ∈ running (inAccept c l a cycle bs) l := by
        refine List.mem_filter.mpr ⟨mem_expected (by rwa [expects_inAccept]), ?_⟩
        rw [there, runs]
        decide
      exact stn_losePast _ _ mem (by rw [there, runs]) (by rwa [expects_inAccept]) (by rwa [here, there])
    · next near_ =>
      rw [stn_losePast_of_not _ _ (.inr (by rw [here, there]; exact Nat.le_of_not_lt near_)), there, runs]
  dsimp only
  split
  · exact passed
  · rw [stn_stnLose_of_not 1 (.inl other), passed]

/-- The sender itself is lost where its frame says that it does not run. -/
theorem accepted_sender (run : (stn c l a).state = 3) (exp : expects c l a = true) (stops : beAt bs 20 1 ≠ 2) :
    let d := inAccept c l a cycle bs
    let e := losePast l a (running d l) d
    (stn (if beAt bs 20 1 = 2 then e else stnLose e l a 1) l a).state = 4 := by
  have kept (as : List Nat) (d : Chip) : stn (losePast l a as d) l a = stn d l a := stn_losePast_of_not as d (.inr (Nat.le_refl _))
  have cfgKept (as : List Nat) (d : Chip) : (losePast l a as d).cfg = d.cfg :=
    kept_foldl Chip.cfg (fun d b => by simp only [apply_ite Chip.cfg, stnLose_cfg, ite_self]) as d
  dsimp only
  rw [if_neg stops, stn_stnLose (by rw [kept, stn_inAccept, if_pos rfl]; exact run)
    (by rw [expects_of_cfg (cfgKept ..), expects_inAccept, exp]), if_pos rfl]

end

theorem linkChange_of_same {c : Chip} {l : Nat} {up : Bool} (same : (link c l).up = up) : linkChange c l up = c :=
  if_pos (by simp [same])

theorem linkChange_of_other {c : Chip} {l : Nat} {up : Bool} (lt : l < 32) (other : (link c l).up ≠ up) :
    ∃ d : Chip, d.links = (let e := modLink c l fun k => { k with up := up }
      if up then stnsAbsent e l else (expected e l).foldl (fun c a => stnLose c l a 2) e).links
    ∧ linkChange c l up = d := by
  refine ⟨_, ?_, if_neg (by simp [other, Nat.not_le.mpr lt])⟩
  rw [linkConds_links, emit_links]

theorem up_of_stations (c : Chip) (l : Nat) (up : Bool) : (link (let e := modLink c l fun k => { k with up := up }
      if up then stnsAbsent e l else (expected e l).foldl (fun c a => stnLose c l a 2) e) l).up = up := by
  have set_ : (link (modLink c l fun k => { k with up := up }) l).up = up := by rw [link_modLink]
  have lost (d : Chip) (a : Nat) : (link (stnLose d l a 2) l).up = (link d l).up := by
    by_cases run : (stn d l a).state = 3 ∧ expects d l a = true
    · rw [stnLose_of_running run.1 run.2, (link_stnTo ..).2, link_of_links (crewsTold_links ..), link_modLink]
    · rw [stnLose_of_not (by rwa [Classical.not_and_iff_not_or_not, Bool.not_eq_true] at run)]
  have absent (d : Chip) : (link (stnsAbsent d l) l).up = (link d l).up := by
    have anew (d : Chip) (a : Nat) (f : StnSt → StnSt) : (link (modStn d l a f) l).up = (link d l).up := by rw [link_modStn]
    rw [stnsAbsent, link_linkConds]
    exact kept_foldl (fun c => (link c l).up) (fun d a => anew d a _) _ d
  dsimp only
  split
  · rw [absent, set_]
  · exact (kept_foldl (fun c => (link c l).up) (fun d a => lost d a) _ _).trans set_

theorem linkCommandsComplete : Claims.LinkCommandsComplete := by
  intro s l a bs cycle fcs up rest
  have lt := l.isLt
  dsimp only
  intro works
  have run {f : Chip → Chip} {d : Chip} (same : f s.chip = d) : (.next (after s (ungated f s.chip)) : Host.Outcome State Fault Refusal)
      = .next (after s d) := next_after_congr ((ungated_of_works f works).trans same)
  have guard := managementRequest_guard (c := s.chip) lt
  refine ⟨fun manages needs configured => ?_, fun manages needs other => ?_, fun not => ?_, fun none => ?_, fun frame st => ?_,
    fun frame not2 not3 => ?_, fun frame configured sent => ?_, fun frame not => ?_, fun none => ?_, fun waits => ?_,
    fun not => ?_, fun missed => ?_, fun heard => ?_, fun down => ?_, fun up => ?_, fun same => ?_, fun drives => ?_,
    fun drives => ?_, ?_, fun bad => ?_, fun k old late => ?_, fun fenced => ?_, ?_, ?_, ?_⟩
  · refine run ?_
    unfold managementRequest
    rw [if_neg (mt guard.mp (not_not_intro manages)), needs]
    dsimp only
    rw [if_pos (by rwa [stn_modLink rfl])]
    rfl
  · refine run ?_
    unfold managementRequest
    rw [if_neg (mt guard.mp (not_not_intro manages)), needs]
    dsimp only
    rw [if_neg (by rwa [stn_modLink rfl])]
  · refine run ?_
    unfold managementRequest
    by_cases manages : (32 ≤ (l : Nat) || !drives s.chip || !s.chip.mode.mode.strokes || (link s.chip l).managed
        || !(link s.chip l).up || !working s.chip (linkPage l)) = true
    · rw [if_pos manages]
    · rw [if_neg manages, not.resolve_left (not_not_intro (Classical.not_not.mp (mt guard.mpr manages)))]
  · exact run (stationReply_of_none none)
  · exact run ((stationReply_of_some frame).trans (by rw [ident_seen frame st]; rfl))
  · exact ⟨_, run (stationReply_of_some frame), ident_moves frame not2 not3⟩
  · exact ⟨_, run (stationReply_of_some frame), confAck_moves frame configured sent⟩
  · exact run ((stationReply_of_some frame).trans (by rw [confAck_seen frame not]; rfl))
  · exact run (stationReply_of_none none)
  · exact run (if_neg (by simp [waits]))
  · refine run (if_pos ?_)
    simpa [Decidable.imp_iff_not_or, or_assoc, Nat.not_le.mpr lt] using not
  · exact run (if_neg (by simp [missed]))
  · exact run (if_pos (by simp [heard]))
  · obtain ⟨d, links, eq⟩ := linkChange_of_other (up := true) lt (by rw [down]; decide)
    refine ⟨_, run eq, ?_⟩
    rw [after_chip, link_of_links (attnUpdate_links _), stn_of_links (attnUpdate_links _), link_of_links links, stn_of_links links]
    exact ⟨up_of_stations s.chip l true, fun exp => stn_stnsAbsent exp⟩
  · obtain ⟨d, links, eq⟩ := linkChange_of_other (up := false) lt (by rw [up]; decide)
    have same : stn (modLink s.chip l fun k => { k with up := false }) l a = stn s.chip l a := stn_modLink rfl a
    refine ⟨_, run eq, ?_⟩
    rw [after_chip, link_of_links (attnUpdate_links _), stn_of_links (attnUpdate_links _), link_of_links links, stn_of_links links]
    refine ⟨up_of_stations s.chip l false, fun exp runs => ?_, fun not => ?_⟩
    · exact stn_loseAll 2 _ _ (mem_expected exp) (by rw [same, runs]) exp
    · exact (stn_loseAll_of_not 2 _ _ (by rw [same]; exact not.symm)).trans same
  · exact run (linkChange_of_same same)
  · exact run (if_neg (by simp [drives]))
  · exact run (if_pos (by simp [drives]))
  · exact run (remoteReceive_of_none (remoteIn_unsound lt cycle))
  · exact run (remoteReceive_of_none (remoteIn_bad lt cycle bad))
  · exact run (remoteReceive_of_none (remoteIn_old lt cycle late old))
  · refine run ?_
    have read := remoteIn_fenced lt cycle fenced
    split
    · next newer =>
      rw [if_pos newer] at read
      exact remoteReceive_of_some read
    · next known =>
      rw [if_neg known] at read
      exact remoteReceive_of_none read
  · rintro ⟨⟨rfl, passes⟩, sender⟩ well
    have read := remoteIn_passes lt cycle passes
    rw [well, sender] at read
    exact run (remoteReceive_of_none read)
  · rintro ⟨⟨rfl, passes⟩, sender⟩ dead
    have read := remoteIn_passes lt cycle passes
    obtain ⟨runs, exp⟩ := inCheck_passes passes
    rw [dead] at read
    rw [sender] at read runs exp
    refine ⟨_, run (remoteReceive_of_none read), ?_⟩
    rw [after_chip]
    refine ⟨fun stops => ?_, fun b expb runb other => ?_⟩
    · rw [stn_of_links (attnUpdate_links _)]
      exact accepted_sender runs exp stops
    · rw [stn_of_links (attnUpdate_links _)]
      exact accepted_past (fun same => other (Fin.ext same)) runb expb
  · rintro ⟨⟨-, passes⟩, sender⟩
    rw [stn_inAccept, if_pos rfl]
    exact ⟨rfl, rfl, rfl, rfl, rfl, rfl, rfl, rfl⟩

theorem linksRest : Claims.LinksRest := by
  intro s l a fcs up cycle bs rests
  have idle (h : Chip → Chip) : (.next (after s (ungated h s.chip)) : Host.Outcome State Fault Refusal) = .next (after s s.chip) :=
    next_after_congr (ungated_of_rests h rests)
  simp only [List.forall_mem_cons]
  refine ⟨?_, ?_, ?_, ?_, ?_, ?_, ?_, ?_, nofun⟩ <;> exact idle _

/-- Settles O51: requests and replies by case, losses of stations by induction on the stations that a loss can hit. -/
theorem remoteCommandsComplete : Obligations.RemoteCommandsComplete := ⟨linkCommandsComplete, linksRest, lostStationsShow⟩

end Sys2Proof.Machine
end


section
/-! PROOFS. O52, the CAN FD controllers -/

namespace Sys2Proof.Machine
open Safety

/-! ### Controllers and objects -/

theorem can_modCan (c : Chip) (n : Nat) (f : CanSt → CanSt) : can (modCan c n f) n = f (can c n) := by
  unfold can modCan
  rw [smGet_smMod, if_pos rfl]

theorem can_modObj (c : Chip) (n o : Nat) (f : ObjSt → ObjSt) :
    can (modObj c n o f) n = { can c n with objs := smMod ObjSt.reset (can c n).objs o f } := can_modCan ..

theorem obj_modObj (c : Chip) (n o q : Nat) (f : ObjSt → ObjSt) :
    obj (modObj c n o f) n q = if q = o then f (obj c n o) else obj c n q := by
  unfold obj
  rw [can_modObj]
  exact smGet_smMod ..

theorem obj_modCan {c : Chip} {n : Nat} {f : CanSt → CanSt} (kept : (f (can c n)).objs = (can c n).objs) (o : Nat) :
    obj (modCan c n f) n o = obj c n o := by
  unfold obj
  rw [can_modCan, kept]

theorem can_of_cans {c d : Chip} (h : c.cans = d.cans) (n : Nat) : can c n = can d n := by simp only [can, h]

theorem obj_of_can {c d : Chip} {n : Nat} (h : can c n = can d n) (o : Nat) : obj c n o = obj d n o := by simp only [obj, h]

theorem can_emit (c : Chip) (p code index : Nat) (w0 w1 w2 w3 : Word) (n : Nat) :
    can (emit c p code index w0 w1 w2 w3) n = can c n := can_of_cans (emit_cans ..) n

theorem can_raise (c : Chip) (p b n : Nat) : can (raise c p b) n = can c n := can_of_cans (raise_cans ..) n

theorem can_canConds (c : Chip) (k n : Nat) : can (canConds c k) n = can c n :=
  can_of_cans (by simp only [canConds, setCond_cans]) n

/-- A controller in another state (R546). -/
theorem can_canTo (c : Chip) (n st : Nat) : can (canTo c n st) n = { can c n with state := st } := by
  unfold canTo
  dsimp only
  split
  · next same => rw [← same]
  · rw [can_canConds, can_emit, can_modCan]

theorem can_canSleepTo (c : Chip) (n st id : Nat) : can (canSleepTo c n st id) n = { can c n with state := st } := by
  have woken (d : Chip) : can (if st != 6 then raise d (canPage n) 6 else d) n = can d n := by
    simp only [apply_ite (can · n), can_raise, ite_self]
  unfold canSleepTo
  dsimp only
  split
  · next same => rw [← same]
  · rw [can_emit, woken, can_canTo]

/-- ALONE cleared (R547). -/
theorem can_setAlone_false (c : Chip) (n : Nat) : can (setAlone c n false) n = { can c n with alone := false } := by
  unfold setAlone
  dsimp only
  split
  · next same => rw [← same]
  · rw [can_canConds, can_emit, can_modCan]
    rfl

theorem can_ackClear (c : Chip) (n : Nat) : can (ackClear c n) n = { can c n with ackRun := 0, alone := false } := by
  unfold ackClear
  rw [can_setAlone_false, can_modCan]

theorem obj_ackClear (c : Chip) (n o : Nat) : obj (ackClear c n) n o = obj c n o := by
  unfold obj
  rw [can_ackClear]

theorem can_setClash (c : Chip) (n o : Nat) (v : Bool) : can (setClash c n o v) n =
    { can c n with objs := (can (setClash c n o v) n).objs } := by
  unfold setClash
  dsimp only
  split
  · rfl
  · rw [can_canConds, can_emit, can_modObj]

theorem obj_setClash (c : Chip) (n o : Nat) (v : Bool) : obj (setClash c n o v) n o = { obj c n o with clash := v } := by
  unfold setClash
  dsimp only
  split
  · next same => rw [← same]
  · rw [obj_of_can (can_canConds ..), obj_of_can (can_emit ..), obj_modObj, if_pos rfl]

/-! ### What the error states leave -/

/-- A controller without its state, its bus-offs and its objects. -/
def busView (k : CanSt) : CanSt := { k with state := 0, busOffs := 0, objs := [] }

/-- An object without the frames that wait in it and what became of them. -/
def objView (s : ObjSt) : ObjSt := { s with pending := none, failed := false }

/-- The counters of a controller and of its objects. -/
def counts (c : Chip) (n : Nat) : CanSt × (Nat → ObjSt) := (busView (can c n), fun o => objView (obj c n o))

theorem counts_of_can {c d : Chip} {n : Nat} (h : can c n = can d n) : counts c n = counts d n := by simp only [counts, obj, h]

theorem counts_canTo (c : Chip) (n st : Nat) : counts (canTo c n st) n = counts c n := by
  unfold counts obj
  rw [can_canTo]
  rfl

theorem counts_canAuto (c : Chip) (n : Nat) : counts (canAuto c n) n = counts c n := by
  simp only [canAuto, apply_ite (counts · n), counts_canTo, ite_self]

theorem counts_dropPending (c : Chip) (n o : Nat) : counts (dropPending c n o) n = counts c n := by
  refine Prod.ext ?_ (funext fun q => ?_)
  · unfold counts dropPending
    dsimp only
    rw [can_modObj]
    rfl
  · refine (congrArg objView (obj_modObj ..)).trans ?_
    split
    · next same => rw [same]; rfl
    · rfl

theorem counts_busOffs (c : Chip) (n : Nat) : counts (modCan c n fun k => { k with busOffs := satInc 255 k.busOffs }) n =
    counts c n := by
  unfold counts obj
  rw [can_modCan]
  rfl

/-- The error state that the counters give changes no counter (ISO 11898-1). -/
theorem counts_errorState (c : Chip) (n : Nat) : counts (errorState c n) n = counts c n := by
  have dropped (l : List Nat) (d : Chip) : counts (l.foldl (fun c o =>
      if bitOf (objCfg c n o 0) 26 || (obj c n o).clash then dropPending c n o else c) d) n = counts d n :=
    kept_foldl (counts · n) (fun e o => by simp only [apply_ite (counts · n), counts_dropPending, ite_self]) l d
  unfold errorState
  dsimp only
  split
  · rfl
  · split
    · rw [counts_canAuto, counts_canTo, dropped, counts_busOffs]
    · exact counts_canTo ..

section
variable {c d : Chip} {n : Nat} (h : counts c n = counts d n)
include h

theorem tec_of_counts : (can c n).tec = (can d n).tec := congrArg (fun x : CanSt × _ => x.1.tec) h
theorem recv_of_counts : (can c n).recv = (can d n).recv := congrArg (fun x : CanSt × _ => x.1.recv) h
theorem ackRun_of_counts : (can c n).ackRun = (can d n).ackRun := congrArg (fun x : CanSt × _ => x.1.ackRun) h
theorem alone_of_counts : (can c n).alone = (can d n).alone := congrArg (fun x : CanSt × _ => x.1.alone) h
theorem rxFrames_of_counts : (can c n).rxFrames = (can d n).rxFrames := congrArg (fun x : CanSt × _ => x.1.rxFrames) h
theorem txFrames_of_counts : (can c n).txFrames = (can d n).txFrames := congrArg (fun x : CanSt × _ => x.1.txFrames) h
theorem objView_of_counts (o : Nat) : objView (obj c n o) = objView (obj d n o) := congrFun (congrArg Prod.snd h) o
theorem clashRun_of_counts (o : Nat) : (obj c n o).clashRun = (obj d n o).clashRun :=
  (congrArg ObjSt.clashRun (objView_of_counts h o) : (objView (obj c n o)).clashRun = (objView (obj d n o)).clashRun)

end

/-! ### What the configuration and the mode decide -/

theorem canRestricted_of_inner {c d : Chip} (h : inner c = inner d) (n : Nat) : canRestricted c n = canRestricted d n := by
  have own (e : Chip) : canRestricted (inner e) n = canRestricted e n := rfl
  rw [← own c, h, own]

theorem rxObjects_of_inner {c d : Chip} (h : inner c = inner d) (n : Nat) : rxObjects c n = rxObjects d n := by
  have own (e : Chip) : rxObjects (inner e) n = rxObjects e n := rfl
  rw [← own c, h, own]

theorem objMatches_of_inner {c d : Chip} (h : inner c = inner d) (n o : Nat) (f : CanFrame) : objMatches c n o f = objMatches d n o f := by
  have own (e : Chip) : objMatches (inner e) n o f = objMatches e n o f := rfl
  rw [← own c, h, own]

theorem objMax_of_inner {c d : Chip} (h : inner c = inner d) (n o : Nat) : objMax c n o = objMax d n o := by
  have own (e : Chip) : objMax (inner e) n o = objMax e n o := rfl
  rw [← own c, h, own]

/-! ### Reception -/

/-- A received frame goes to the lowest object that matches, else to the FIFO, else it is counted (R532, R543). -/
def frameTaken (c : Chip) (n : Nat) (f : CanFrame) : Chip :=
  match (rxObjects c n).find? (fun o => objMatches c n o f) with
  | some o => objTake c n o f
  | none => if fifoMatches c n f then fifoPut c n f else modCan c n fun k => { k with unmatched := satInc 255 k.unmatched }

/-- The module with a valid frame counted, and with its good reception heeded where it is not restricted (R547, R551). -/
def frameCounted (c : Chip) (n : Nat) : Chip :=
  let c := modCan c n fun k => { k with rxFrames := (k.rxFrames + 1) % 65536 }
  if canRestricted c n then c
  else
    let (x, c) := freshNat c
    let c := modCan c n fun k => { k with recv := if 127 < k.recv then 119 + x % 9 else k.recv - 1 }
    errorState (ackClear c n) n

theorem canAccept_of_hears {c : Chip} {n : Nat} (f : CanFrame) (remote : Bool) (hears : canHears c n = true) : canAccept c n f remote =
    if remote then modCan (frameCounted c n) n fun k => { k with unmatched := satInc 255 k.unmatched }
    else frameTaken (frameCounted c n) n f :=
  if_neg (by rw [hears]; decide)

section
variable {c : Chip} {n : Nat}

theorem canRestricted_modCan (f : CanSt → CanSt) : canRestricted (modCan c n f) n = canRestricted c n := rfl

theorem frameCounted_restricted (restricted : canRestricted c n = true) :
    frameCounted c n = modCan c n fun k => { k with rxFrames := (k.rxFrames + 1) % 65536 } := if_pos restricted

theorem inner_errorState (c : Chip) (n : Nat) : inner (errorState c n) = inner c := by
  have dropped (l : List Nat) (d : Chip) : inner (l.foldl (fun c o =>
      if bitOf (objCfg c n o 0) 26 || (obj c n o).clash then dropPending c n o else c) d) = inner d :=
    inner_foldl (fun e o => by
      split
      · exact inner_modObj ..
      · rfl) l d
  unfold errorState
  dsimp only
  split
  · rfl
  · split
    · rw [inner_canAuto, inner_canTo, dropped, inner_modCan]
    · exact inner_canTo ..

theorem inner_frameCounted : inner (frameCounted c n) = inner c := by
  have free (d : Chip) : inner (freshNat d).2 = inner d := rfl
  unfold frameCounted
  dsimp only
  split
  · rfl
  · rw [inner_errorState, inner_ackClear, inner_modCan, free, inner_modCan]

/-- What a good reception leaves of the counters where the controller is not restricted. -/
theorem frameCounted_counts (free : canRestricted c n = false) : (can (frameCounted c n) n).rxFrames = ((can c n).rxFrames + 1) % 65536
    ∧ (can (frameCounted c n) n).ackRun = 0 ∧ (can (frameCounted c n) n).alone = false
    ∧ (can (frameCounted c n) n).recv ≤ max 127 (can c n).recv := by
  have fresh (d : Chip) : can (freshNat d).2 n = can d n := rfl
  unfold frameCounted
  dsimp only
  rw [if_neg (by rw [canRestricted_modCan, free]; decide)]
  have same (d : Chip) := counts_errorState d n
  rw [rxFrames_of_counts (same _), ackRun_of_counts (same _), alone_of_counts (same _), recv_of_counts (same _), can_ackClear,
    can_modCan, fresh, can_modCan]
  refine ⟨rfl, rfl, rfl, ?_⟩
  dsimp only
  split <;> omega

theorem frameTaken_of_some {c : Chip} {o : Nat} {f : CanFrame} (found : (rxObjects c n).find? (fun o => objMatches c n o f) = some o) :
    frameTaken c n f = objTake c n o f := by
  unfold frameTaken
  rw [found]

theorem frameTaken_of_none {c : Chip} {f : CanFrame} (none : (rxObjects c n).find? (fun o => objMatches c n o f) = none) :
    frameTaken c n f = if fifoMatches c n f then fifoPut c n f else modCan c n fun k => { k with unmatched := satInc 255 k.unmatched } := by
  unfold frameTaken
  rw [none]

/-- An object that takes a frame (R533). -/
theorem obj_objTake (d : Chip) (o : Nat) (f : CanFrame) : obj (objTake d n o f) n o = { obj d n o with
    rx := some { f with data := f.data.take (min f.len (objMax d n o)) }, truncated := decide (objMax d n o < f.len)
    since := satInc 255 (obj d n o).since, frames := ((obj d n o).frames + 1) % 65536 } := by
  unfold objTake
  rw [obj_modObj, if_pos rfl]

theorem can_objTake (d : Chip) (o : Nat) (f : CanFrame) : can (objTake d n o f) n =
    { can d n with objs := (can (objTake d n o f) n).objs } := by
  unfold objTake
  rw [can_modObj]

/-! ### Transmission -/

/-- The end of a transmission with the delay that an FD frame measured. -/
def delayShown (c : Chip) (n o tdcv : Nat) : Chip :=
  if ((obj c n o).tx.map (·.fd)).getD false then modCan c n fun k => { k with tdcv := min tdcv 127 } else c

/-- A count that restricted operation leaves as it is (R551). -/
def unlessRestricted (n : Nat) (g : CanSt → CanSt) (c : Chip) : Chip := if canRestricted c n then c else modCan c n g

/-- The clashes of an object in a row, which restricted operation leaves as they are (R548, R551). -/
def clashes (n o : Nat) (g : Nat → Nat) (c : Chip) : Chip :=
  if canRestricted c n then c else modObj c n o fun s => { s with clashRun := g s.clashRun }

/-- An error of transmission raises the transmit counter (ISO 11898-1). -/
def tecRaised (n extra : Nat) (c : Chip) (exempt : Bool) : Chip :=
  errorState (unlessRestricted n (fun k => { k with tec := k.tec + (if exempt then 0 else 8) + 8 * extra }) c) n

/-- The module with a frame sent. -/
def frameSent (c : Chip) (n o : Nat) (bytes : List Byte) : Chip :=
  let c := clashes n o (fun _ => 0) (modObj (send c (.can n) bytes) n o fun s => { s with
    tx := none, sentSince := true, frames := (s.frames + 1) % 65536 })
  let c := unlessRestricted n (fun k => { k with tec := k.tec - 1 }) c
  let c := modCan c n fun k => { k with txFrames := (k.txFrames + 1) % 65536 }
  errorState (ackClear (setClash c n o false) n) n

theorem canTxEnd_eq {o : Nat} (r : CanTxResult) (extra tdcv : Nat) (sends : txObject c n = some o) : canTxEnd c n r extra tdcv =
    let d := delayShown c n o tdcv
    match r with
    | .ok => frameSent d n o (match (obj c n o).tx with | some f => canBytes f | none => [])
    | .ackError exempt =>
      let d := unlessRestricted n (fun k => { k with ackRun := satInc 255 k.ackRun }) d
      tecRaised n extra (attemptFails (clashes n o (fun _ => 0) d) n o) (exempt && (can d n).state == 3)
    | .fieldBitError => tecRaised n extra (attemptFails (clashes n o (satInc 3) (ackClear d n)) n o) false
    | .otherError exempt => tecRaised n extra (attemptFails (clashes n o (fun _ => 0) (ackClear d n)) n o) exempt := by
  unfold canTxEnd
  rw [sends]
  cases r <;> rfl

/-- An attempt that ends without success: the object's clashes, its frame, and the transmit counter. -/
def attemptEnds (n o extra : Nat) (g : Nat → Nat) (c : Chip) (exempt : Bool) : Chip :=
  tecRaised n extra (attemptFails (clashes n o g c) n o) exempt

theorem can_attemptFails (d : Chip) (o : Nat) : can (attemptFails d n o) n = { can d n with objs := (can (attemptFails d n o) n).objs } := by
  unfold attemptFails
  rw [can_modObj]

theorem clashRun_attemptFails (d : Chip) (o : Nat) : (obj (attemptFails d n o) n o).clashRun = (obj d n o).clashRun := by
  unfold attemptFails
  rw [obj_modObj, if_pos rfl]
  split
  · rfl
  · split <;> rfl

theorem inner_clashes (d : Chip) (o : Nat) (g : Nat → Nat) : inner (clashes n o g d) = inner d := by
  unfold clashes
  split <;> rfl

theorem restricted_attempt (d : Chip) (o : Nat) (g : Nat → Nat) :
    canRestricted (attemptFails (clashes n o g d) n o) n = canRestricted d n :=
  canRestricted_of_inner ((inner_modObj ..).trans (inner_clashes ..)) n

theorem attemptEnds_restricted {d : Chip} {o extra : Nat} {g : Nat → Nat} {exempt : Bool} (restricted : canRestricted d n = true) :
    (can (attemptEnds n o extra g d exempt) n).tec = (can d n).tec
      ∧ (can (attemptEnds n o extra g d exempt) n).ackRun = (can d n).ackRun
      ∧ (obj (attemptEnds n o extra g d exempt) n o).clashRun = (obj d n o).clashRun := by
  have same (e : Chip) := counts_errorState e n
  unfold attemptEnds tecRaised unlessRestricted
  rw [restricted_attempt, if_pos restricted, tec_of_counts (same _), ackRun_of_counts (same _), clashRun_of_counts (same _),
    can_attemptFails, clashRun_attemptFails, clashes, if_pos restricted]
  exact ⟨rfl, rfl, rfl⟩

theorem attemptEnds_free {d : Chip} {o extra : Nat} {g : Nat → Nat} {exempt : Bool} (free : canRestricted d n = false) :
    (can (attemptEnds n o extra g d exempt) n).tec = (can d n).tec + (if exempt then 0 else 8) + 8 * extra
      ∧ (can (attemptEnds n o extra g d exempt) n).ackRun = (can d n).ackRun
      ∧ (obj (attemptEnds n o extra g d exempt) n o).clashRun = g (obj d n o).clashRun := by
  have same (e : Chip) := counts_errorState e n
  have not : ¬canRestricted d n = true := by rw [free]; decide
  unfold attemptEnds tecRaised unlessRestricted
  rw [restricted_attempt, if_neg not, tec_of_counts (same _), ackRun_of_counts (same _), clashRun_of_counts (same _), can_modCan,
    obj_modCan rfl, can_attemptFails, clashRun_attemptFails, clashes, if_neg not, can_modObj, obj_modObj, if_pos rfl]
  exact ⟨rfl, rfl, rfl⟩

/-- What a sent frame leaves of the controller and its object (R530, R548). -/
theorem frameSent_counts (d : Chip) (o : Nat) (bytes : List Byte) :
    (obj (frameSent d n o bytes) n o).sentSince = true ∧ (obj (frameSent d n o bytes) n o).frames = ((obj d n o).frames + 1) % 65536
      ∧ (obj (frameSent d n o bytes) n o).clash = false ∧ (can (frameSent d n o bytes) n).txFrames = ((can d n).txFrames + 1) % 65536
      ∧ (can (frameSent d n o bytes) n).ackRun = 0 ∧ (can (frameSent d n o bytes) n).alone = false
      ∧ (canRestricted d n = false → (obj (frameSent d n o bytes) n o).clashRun = 0
        ∧ (can (frameSent d n o bytes) n).tec = (can d n).tec - 1)
      ∧ (canRestricted d n = true → (obj (frameSent d n o bytes) n o).clashRun = (obj d n o).clashRun
        ∧ (can (frameSent d n o bytes) n).tec = (can d n).tec) := by
  have same (e : Chip) := counts_errorState e n
  have sent (e : Chip) (line : Line) : can (send e line bytes) n = can e n := can_of_cans (by unfold send; split <;> rfl) n
  have restrictedSent (e : Chip) (line : Line) : canRestricted (send e line bytes) n = canRestricted e n :=
    canRestricted_of_inner (inner_of_bare (bare_send ..)) n
  have restrictedObj (e : Chip) (f : ObjSt → ObjSt) : canRestricted (modObj e n o f) n = canRestricted e n := rfl
  have shown (e : Chip) : objView (obj (errorState e n) n o) = objView (obj e n o) := objView_of_counts (same e) o
  have sentSince (e : Chip) : (obj (errorState e n) n o).sentSince = (obj e n o).sentSince :=
    (congrArg ObjSt.sentSince (shown e) : (objView (obj (errorState e n) n o)).sentSince = (objView (obj e n o)).sentSince)
  have frames (e : Chip) : (obj (errorState e n) n o).frames = (obj e n o).frames :=
    (congrArg ObjSt.frames (shown e) : (objView (obj (errorState e n) n o)).frames = (objView (obj e n o)).frames)
  have clash (e : Chip) : (obj (errorState e n) n o).clash = (obj e n o).clash :=
    (congrArg ObjSt.clash (shown e) : (objView (obj (errorState e n) n o)).clash = (objView (obj e n o)).clash)
  unfold frameSent
  dsimp only
  rw [sentSince, frames, clash, txFrames_of_counts (same _), ackRun_of_counts (same _), alone_of_counts (same _),
    tec_of_counts (same _), clashRun_of_counts (same _), obj_ackClear, obj_setClash, can_ackClear, can_setClash, can_modCan,
    obj_modCan rfl]
  unfold unlessRestricted clashes
  cases restricted : canRestricted d n with
  | true =>
    rw [restrictedObj, restrictedSent, restricted, if_pos rfl, restrictedObj, restrictedSent, restricted, if_pos rfl, can_modObj,
      obj_modObj, if_pos rfl, sent, obj_of_can (sent ..)]
    exact ⟨rfl, rfl, rfl, rfl, rfl, rfl, nofun, fun _ => ⟨rfl, rfl⟩⟩
  | false =>
    have not : ¬false = true := by decide
    rw [restrictedObj, restrictedSent, restricted, if_neg not, restrictedObj, restrictedObj, restrictedSent, restricted, if_neg not,
      can_modCan, obj_modCan rfl, can_modObj, obj_modObj, if_pos rfl, can_modObj, obj_modObj, if_pos rfl, sent, obj_of_can (sent ..)]
    exact ⟨rfl, rfl, rfl, rfl, rfl, rfl, fun _ => ⟨rfl, rfl⟩, nofun⟩

/-- The delay that an FD frame measured changes no count. -/
theorem can_delayShown (o tdcv : Nat) : can (delayShown c n o tdcv) n =
    { can c n with tdcv := (can (delayShown c n o tdcv) n).tdcv } := by
  unfold delayShown
  split
  · rw [can_modCan]
  · rfl

theorem obj_delayShown (o tdcv q : Nat) : obj (delayShown c n o tdcv) n q = obj c n q := by
  unfold obj
  rw [can_delayShown]

theorem restricted_delayShown (o tdcv : Nat) : canRestricted (delayShown c n o tdcv) n = canRestricted c n := by
  unfold delayShown
  split <;> rfl

end

section
variable {c : Chip} {n o extra tdcv : Nat} (sends : txObject c n = some o)
include sends

/-- A failed attempt under restricted operation moves no counter but ACK_RUN, which may return to 0 (R551). -/
theorem canTxEnd_restricted {r : CanTxResult} (restricted : canRestricted c n = true) (failed : r ≠ .ok) :
    (can (canTxEnd c n r extra tdcv) n).tec = (can c n).tec ∧ (can (canTxEnd c n r extra tdcv) n).ackRun ≤ (can c n).ackRun
      ∧ (obj (canTxEnd c n r extra tdcv) n o).clashRun = (obj c n o).clashRun := by
  have limited : canRestricted (delayShown c n o tdcv) n = true := (restricted_delayShown o tdcv).trans restricted
  have cleared : canRestricted (ackClear (delayShown c n o tdcv) n) n = true :=
    (canRestricted_of_inner (inner_ackClear ..) n).trans limited
  have after_ackClear (g : Nat → Nat) (exempt : Bool) :
      let d := attemptEnds n o extra g (ackClear (delayShown c n o tdcv) n) exempt
      (can d n).tec = (can c n).tec ∧ (can d n).ackRun ≤ (can c n).ackRun ∧ (obj d n o).clashRun = (obj c n o).clashRun := by
    obtain ⟨tec, acks, clash⟩ := attemptEnds_restricted (o := o) (extra := extra) (g := g) (exempt := exempt) cleared
    dsimp only
    rw [tec, acks, clash, can_ackClear, obj_ackClear, can_delayShown, obj_delayShown]
    exact ⟨rfl, Nat.zero_le _, rfl⟩
  rw [canTxEnd_eq r extra tdcv sends]
  cases r with
  | ok => exact absurd rfl failed
  | ackError exempt =>
    have same : unlessRestricted n (fun k => { k with ackRun := satInc 255 k.ackRun }) (delayShown c n o tdcv) = delayShown c n o tdcv :=
      if_pos limited
    dsimp only
    rw [same]
    obtain ⟨tec, acks, clash⟩ := attemptEnds_restricted (o := o) (extra := extra) (g := fun _ => 0)
      (exempt := exempt && (can (delayShown c n o tdcv) n).state == 3) limited
    exact ⟨tec.trans (by rw [can_delayShown]), Nat.le_of_eq (acks.trans (by rw [can_delayShown])), clash.trans (by rw [obj_delayShown])⟩
  | fieldBitError => exact after_ackClear ..
  | otherError exempt => exact after_ackClear ..

section
variable (free : canRestricted c n = false)
include free

omit sends in
/-- An error other than of the ACK ends the run of ACK errors, and its object's clashes go on as `g` gives (R547, R548). -/
theorem attemptEnds_cleared (g : Nat → Nat) (exempt : Bool) :
    let d := attemptEnds n o extra g (ackClear (delayShown c n o tdcv) n) exempt
    (can d n).tec = (can c n).tec + (if exempt then 0 else 8) + 8 * extra ∧ (can d n).ackRun = 0
      ∧ (obj d n o).clashRun = g (obj c n o).clashRun := by
  have cleared : canRestricted (ackClear (delayShown c n o tdcv) n) n = false :=
    (canRestricted_of_inner (inner_ackClear ..) n).trans ((restricted_delayShown o tdcv).trans free)
  obtain ⟨tec, acks, clash⟩ := attemptEnds_free (o := o) (extra := extra) (g := g) (exempt := exempt) cleared
  dsimp only
  rw [tec, acks, clash, can_ackClear, obj_ackClear, can_delayShown, obj_delayShown]
  exact ⟨rfl, rfl, rfl⟩

theorem canTxEnd_fieldBitError : (can (canTxEnd c n .fieldBitError extra tdcv) n).ackRun = 0
    ∧ (can (canTxEnd c n .fieldBitError extra tdcv) n).tec = (can c n).tec + 8 + 8 * extra
    ∧ (obj (canTxEnd c n .fieldBitError extra tdcv) n o).clashRun = satInc 3 (obj c n o).clashRun := by
  rw [canTxEnd_eq _ extra tdcv sends]
  obtain ⟨tec, acks, clash⟩ := attemptEnds_cleared (o := o) (extra := extra) (tdcv := tdcv) free (satInc 3) false
  exact ⟨acks, tec, clash⟩

theorem canTxEnd_otherError (exempt : Bool) : (can (canTxEnd c n (.otherError exempt) extra tdcv) n).ackRun = 0
    ∧ (obj (canTxEnd c n (.otherError exempt) extra tdcv) n o).clashRun = 0
    ∧ (can (canTxEnd c n (.otherError exempt) extra tdcv) n).tec = (can c n).tec + (if exempt then 0 else 8) + 8 * extra := by
  rw [canTxEnd_eq _ extra tdcv sends]
  obtain ⟨tec, acks, clash⟩ := attemptEnds_cleared (o := o) (extra := extra) (tdcv := tdcv) free (fun _ => 0) exempt
  exact ⟨acks, clash, tec⟩

theorem canTxEnd_ackError (exempt : Bool) :
    (can (canTxEnd c n (.ackError exempt) extra tdcv) n).ackRun = satInc 255 (can c n).ackRun
      ∧ (obj (canTxEnd c n (.ackError exempt) extra tdcv) n o).clashRun = 0
      ∧ (can (canTxEnd c n (.ackError exempt) extra tdcv) n).tec =
        (can c n).tec + (if exempt = true ∧ (can c n).state = 3 then 0 else 8) + 8 * extra := by
  have limited : canRestricted (delayShown c n o tdcv) n = false := (restricted_delayShown o tdcv).trans free
  have counted : unlessRestricted n (fun k => { k with ackRun := satInc 255 k.ackRun }) (delayShown c n o tdcv) =
      modCan (delayShown c n o tdcv) n fun k => { k with ackRun := satInc 255 k.ackRun } := if_neg (by rw [limited]; decide)
  rw [canTxEnd_eq _ extra tdcv sends]
  dsimp only
  rw [counted]
  obtain ⟨tec, acks, clash⟩ := attemptEnds_free (o := o) (extra := extra) (g := fun _ => 0)
    (exempt := exempt && (can (modCan (delayShown c n o tdcv) n fun k => { k with ackRun := satInc 255 k.ackRun }) n).state == 3)
    ((canRestricted_modCan (c := delayShown c n o tdcv) _).trans limited)
  have shown : can (modCan (delayShown c n o tdcv) n fun k => { k with ackRun := satInc 255 k.ackRun }) n = { can c n with
      ackRun := satInc 255 (can c n).ackRun, tdcv := (can (delayShown c n o tdcv) n).tdcv } := by rw [can_modCan, can_delayShown]
  refine ⟨acks.trans (by rw [shown]), clash, tec.trans ?_⟩
  rw [shown]
  simp only [Bool.and_eq_true, beq_iff_eq]

end

end

theorem canRxError_excepts {c : Chip} {n : Nat} (hears : canHears c n = true) (pex : bitOf (canCfg c n) 2 = true) :
    canRxError c n false 0 = canTo c n 1 := if_pos (by rw [hears, pex]; rfl)

theorem canRxError_of_not {c : Chip} {n eights : Nat} {one : Bool}
    (not : ¬(canHears c n = true ∧ bitOf (canCfg c n) 2 = true ∧ one = false ∧ eights = 0)) : canRxError c n one eights =
    if !canHears c n || canRestricted c n then c
    else errorState (modCan c n fun k => { k with recv := min 255 (k.recv + b2n one + 8 * eights) }) n :=
  if_neg (by simpa [and_assoc] using not)

theorem canTxStart_of_sends {c : Chip} {n o : Nat} {f : CanFrame} (hears : canHears c n = true) (free : canRestricted c n = false)
    (awake : (can c n).sleepReq = false) (idle : txObject c n = none) (best : bestPending c n = some (o, f)) : canTxStart c n =
    modObj (modCan c n fun k => { k with offered := o }) n o fun x => { x with
      tx := some { f with esi := f.fd && (can c n).state == 3 }, pending := none } := by
  unfold canTxStart
  rw [if_neg (by simp [hears, free, awake, idle]), best]

theorem canTxStart_of_not {c : Chip} {n : Nat} (not : ¬(canHears c n = true ∧ canRestricted c n = false) ∨ (can c n).sleepReq = true
    ∨ txObject c n ≠ none ∨ bestPending c n = none) : canTxStart c n = c := by
  unfold canTxStart
  split
  · rfl
  · next starts =>
    simp only [Bool.or_eq_true, not_or, Bool.not_eq_true', Bool.not_eq_false, Bool.not_eq_true, Option.isSome_eq_false_iff,
      Option.isNone_iff_eq_none] at starts
    obtain ⟨⟨⟨hears, free⟩, awake⟩, idle⟩ := starts
    obtain out | asleep | busy | none := not
    · exact absurd ⟨hears, free⟩ out
    · exact absurd (awake.symm.trans asleep) Bool.false_ne_true
    · exact absurd idle busy
    · rw [none]

theorem canTrafficCompletes : Claims.CanTrafficCompletes := by
  intro s n f o res extra tdcv eights one
  have accepts (g : CanFrame) (remote : Bool) : exec (.canFrameAccepted n g remote) s = .next (after s (canAccept s.chip n g remote)) := by
    unfold exec; rfl
  have errs : exec (.canRxError n one eights) s = .next (after s (canRxError s.chip n one eights)) := by unfold exec; rfl
  have starts : exec (.canTxStart n) s = .next (after s (canTxStart s.chip n)) := by unfold exec; rfl
  have loses : exec (.arbitrationLoss n) s = .next (after s (arbitrationLoss s.chip n)) := by unfold exec; rfl
  have ends (r : CanTxResult) : exec (.canTxEnd n r extra tdcv) s = .next (after s (canTxEnd s.chip n r extra tdcv)) := by unfold exec; rfl
  have shown (d : Chip) (q : Nat) : can (attnUpdate d) n = can d n ∧ obj (attnUpdate d) n q = obj d n q :=
    ⟨can_of_cans (attnUpdate_cans d) n, obj_of_can (can_of_cans (attnUpdate_cans d) n) q⟩
  have searched (g : CanFrame) : (rxObjects (frameCounted s.chip n) n).find? (fun o => objMatches (frameCounted s.chip n) n o g) =
      (rxObjects s.chip n).find? (fun o => objMatches s.chip n o g) := by
    rw [rxObjects_of_inner inner_frameCounted, funext fun q => objMatches_of_inner inner_frameCounted n q g]
  have delayed := can_delayShown (c := s.chip) (n := n) o tdcv
  have held := obj_delayShown (c := s.chip) (n := n) o tdcv o
  have limited := restricted_delayShown (c := s.chip) (n := n) o tdcv
  dsimp only
  refine ⟨fun hears restricted => ?_, fun hears restricted found => ?_, fun hears restricted none takes => ?_,
    fun hears restricted none not => ?_, ?_, fun deaf r => ?_, ?_, ?_, fun not not' => ?_, ?_, fun not => ?_, fun sends => ?_,
    fun sends => ?_, fun sends restricted other => ?_, fun sends free e => ?_, fun sends free => ?_, fun sends free e => ?_,
    fun idle => ⟨?_, ?_⟩⟩
  · refine (accepts f true).trans (next_after_congr ?_)
    rw [canAccept_of_hears _ _ hears, frameCounted_restricted restricted]
    rfl
  · refine (accepts f false).trans (next_after_congr ?_)
    rw [canAccept_of_hears _ _ hears]
    refine (frameTaken_of_some ((searched f).trans found)).trans ?_
    rw [frameCounted_restricted restricted]
  · refine (accepts f false).trans (next_after_congr ?_)
    rw [canAccept_of_hears _ _ hears]
    refine (frameTaken_of_none ((searched f).trans none)).trans ?_
    rw [frameCounted_restricted restricted]
    exact if_pos takes
  · refine (accepts f false).trans (next_after_congr ?_)
    rw [canAccept_of_hears _ _ hears]
    refine (frameTaken_of_none ((searched f).trans none)).trans ?_
    rw [frameCounted_restricted restricted]
    exact if_neg (by rw [show fifoMatches (modCan s.chip n _) n f = fifoMatches s.chip n f from rfl, not]; decide)
  · rintro ⟨hears, free⟩ found
    refine ⟨_, accepts f false, ?_⟩
    obtain ⟨frames, acks, alone, errors⟩ := frameCounted_counts free
    have taken : canAccept s.chip n f false = objTake (frameCounted s.chip n) n o f := by
      rw [canAccept_of_hears _ _ hears]
      exact frameTaken_of_some ((searched f).trans found)
    rw [after_chip, (shown _ o).1, (shown _ o).2, taken, obj_objTake, can_objTake, objMax_of_inner inner_frameCounted]
    exact ⟨rfl, rfl, frames, acks, alone, errors⟩
  · exact (accepts f r).trans (next_after_congr (if_pos (by simpa using deaf)))
  · rintro ⟨hears, pex, rfl, rfl⟩
    exact errs.trans (next_after_congr (canRxError_excepts hears pex))
  · rintro ⟨hears, free⟩ not
    exact errs.trans (next_after_congr ((canRxError_of_not not).trans (if_neg (by rw [hears, free]; decide))))
  · refine errs.trans (next_after_congr ((canRxError_of_not not').trans (if_pos ?_)))
    simpa [Decidable.imp_iff_not_or] using not
  · rintro ⟨hears, free⟩ awake idle best
    exact starts.trans (next_after_congr (canTxStart_of_sends hears free awake idle best))
  · exact starts.trans (next_after_congr (canTxStart_of_not not))
  · refine loses.trans (next_after_congr ?_)
    unfold arbitrationLoss
    rw [sends]
  · refine ⟨_, ends .ok, ?_⟩
    rw [after_chip, (shown _ o).1, (shown _ o).2, canTxEnd_eq _ _ _ sends]
    obtain ⟨since, frames, clash, count, acks, alone, free, restricted⟩ := frameSent_counts (n := n) (delayShown s.chip n o tdcv) o
      (match (obj s.chip n o).tx with | some f => canBytes f | none => [])
    rw [held] at frames restricted
    rw [limited, delayed] at free restricted
    rw [delayed] at count
    exact ⟨since, frames, clash, count, acks, alone, free, fun not => restricted (by simpa using not)⟩
  · refine ⟨_, ends res, ?_⟩
    rw [after_chip, (shown _ o).1, (shown _ o).2]
    exact canTxEnd_restricted sends (by simpa using restricted) other
  · refine ⟨_, ends _, ?_⟩
    rw [after_chip, (shown _ o).1, (shown _ o).2]
    exact canTxEnd_ackError sends free e
  · refine ⟨_, ends _, ?_⟩
    rw [after_chip, (shown _ o).1, (shown _ o).2]
    exact canTxEnd_fieldBitError sends free
  · refine ⟨_, ends _, ?_⟩
    rw [after_chip, (shown _ o).1, (shown _ o).2]
    exact canTxEnd_otherError sends free e
  · refine loses.trans (next_after_congr ?_)
    unfold arbitrationLoss
    rw [idle]
  · refine (ends res).trans (next_after_congr ?_)
    unfold canTxEnd
    rw [idle]

/-! ### Bus states -/

theorem idClash_guard (c : Chip) (n o : Nat) : (!objUsed c n o || !objSends c n o || canRestricted c n || (obj c n o).clashRun < 3) = true
    ↔ ¬(objUsed c n o = true ∧ objSends c n o = true ∧ canRestricted c n = false ∧ 3 ≤ (obj c n o).clashRun) := by
  simp only [Bool.or_eq_true, decide_eq_true_eq, Bool.not_eq_true', Classical.not_and_iff_not_or_not, Bool.not_eq_true, Bool.not_eq_false, or_assoc,
    Nat.not_le]

theorem canSleepEnter_guard (c : Chip) (n : Nat) : (!(can c n).sleepReq || (txObject c n).isSome || !canOn c n) = true
    ↔ ¬((can c n).sleepReq = true ∧ txObject c n = none ∧ canOn c n = true) := by
  rw [← Option.not_isSome_iff_eq_none]
  simp only [Bool.or_eq_true, Bool.not_eq_true', Classical.not_and_iff_not_or_not, Bool.not_eq_true, Bool.not_eq_false, or_assoc]

theorem canWakeEvent_guard (c : Chip) (n : Nat) : ((can c n).state ≠ 6 || c.mode.mode = .dormant || !canOn c n) = true
    ↔ ¬((can c n).state = 6 ∧ c.mode.mode ≠ .dormant ∧ canOn c n = true) := by
  simp only [Bool.or_eq_true, decide_eq_true_eq, Bool.not_eq_true', Classical.not_and_iff_not_or_not, Bool.not_eq_true, Classical.not_not, or_assoc, ne_eq]

/-- The frames that wait in a controller's send objects, dropped as it goes to sleep (R549). -/
def framesDropped (c : Chip) (n : Nat) (os : List Nat) : Chip :=
  os.foldl (fun c o => modObj (dropPending c n o) n o fun s => { s with next := none }) c

theorem obj_dropped (c : Chip) (n o q : Nat) : obj (modObj (dropPending c n o) n o fun s => { s with next := none }) n q =
    if q = o then { obj c n o with failed := (obj c n o).failed || (obj c n o).pending.isSome, pending := none, next := none }
      else obj c n q := by
  unfold dropPending
  rw [obj_modObj, obj_modObj, if_pos rfl, obj_modObj]
  split <;> rfl

/-- An object with its frame dropped stays so, and so does whether one was lost. -/
theorem obj_framesDropped (n o : Nat) (os : List Nat) (c : Chip) (held : o ∈ os ∨ (obj c n o).pending = none) :
    (obj (framesDropped c n os) n o).pending = none
      ∧ (obj (framesDropped c n os) n o).failed = ((obj c n o).failed || (obj c n o).pending.isSome) := by
  unfold framesDropped
  induction os generalizing c with
  | nil =>
    have none := held.resolve_left List.not_mem_nil
    exact ⟨none, by rw [none]; simp⟩
  | cons q os ih =>
    rw [List.foldl_cons]
    by_cases here : o = q
    · subst here
      have dropped := obj_dropped c n o o
      rw [if_pos rfl] at dropped
      obtain ⟨none, failed⟩ := ih _ (.inr (by rw [dropped]))
      refine ⟨none, failed.trans ?_⟩
      rw [dropped]
      simp
    · have same := obj_dropped c n q o
      rw [if_neg here] at same
      obtain ⟨none, failed⟩ := ih _ (by rw [same]; exact held.imp_left fun mem => (List.mem_cons.mp mem).resolve_left here)
      exact ⟨none, failed.trans (by rw [same])⟩

theorem canSleepEnter_of_rests {c : Chip} {n : Nat} (rests : (can c n).sleepReq = true ∧ txObject c n = none ∧ canOn c n = true) :
    canSleepEnter c n = canSleepTo (modCan (framesDropped c n (txObjects c n)) n fun k => { k with sleepReq := false, wakeErr := 0 }) n 6 0 :=
  if_neg (mt (canSleepEnter_guard c n).mp (not_not_intro rests))

theorem canWakeUp_of_asleep {c : Chip} {n : Nat} (r id : Nat) (asleep : (can c n).state = 6) (mode : c.mode.mode ≠ .dormant) :
    canWakeUp c n r id = canSleepTo (modCan c n fun k => { k with wakeReason := r }) n 1 id := if_neg (by simp [asleep, mode])

/-- A wake integrates the controller, shows its reason and raises WOKE (R550, R558). -/
theorem canWakeUp_shown {c : Chip} {n : Nat} (r id : Nat) (asleep : (can c n).state = 6) (mode : c.mode.mode ≠ .dormant) :
    (can (canWakeUp c n r id) n).state = 1 ∧ (can (canWakeUp c n r id) n).wakeReason = r
      ∧ bitOf (hdr (canWakeUp c n r id) (canPage n)).cause 6 = true := by
  have cause : bitOf (hdr (canSleepTo (modCan c n fun k => { k with wakeReason := r }) n 1 id) (canPage n)).cause 6 = true := by
    unfold canSleepTo
    rw [if_neg (by rw [can_modCan, asleep]; decide)]
    exact cause_of_raised (causesKept_emit ..) (by decide)
  rw [canWakeUp_of_asleep r id asleep mode]
  refine ⟨?_, ?_, cause⟩ <;> rw [can_canSleepTo, can_modCan]

section
variable {c : Chip} {n : Nat} {asleep : (can c n).state = 6 ∧ c.mode.mode ≠ .dormant ∧ canOn c n = true}
include asleep

theorem canWakeEvent_of_asleep (w : CanWakeSource) : canWakeEvent c n w =
    match w with
    | .dominant => if bitOf (cfg c (canPage n) 0x064) 0 then c else canWakeUp c n 1 0
    | .frame f =>
      if !bitOf (cfg c (canPage n) 0x064) 0 || f.fd then c
      else if wakeMatches c n f then canWakeUp c n 2 f.id
      else modCan c n fun k => { k with wakeErr := k.wakeErr - 1 }
    | .erroneous =>
      if !bitOf (cfg c (canPage n) 0x064) 0 then c
      else if 30 < (can c n).wakeErr then canWakeUp (modCan c n fun k => { k with wakeErr := k.wakeErr + 1 }) n 3 0
      else modCan c n fun k => { k with wakeErr := k.wakeErr + 1 } := by
  unfold canWakeEvent
  rw [if_neg (mt (canWakeEvent_guard c n).mp (not_not_intro asleep))]
  cases w with
  | dominant => rfl
  | frame f => rfl
  | erroneous =>
    dsimp only
    rw [can_modCan]
    exact ite_congr rfl (fun _ => rfl) fun _ => ite_congr (propext (by dsimp only; omega)) (fun _ => rfl) fun _ => rfl

end

theorem canStatesComplete : Claims.CanStatesComplete := by
  intro s n o w f
  have shown (d : Chip) : can (attnUpdate d) n = can d n := can_of_cans (attnUpdate_cans d) n
  have recovers : exec (.busOffRecovery n) s = .next (after s (busOffRecovery s.chip n)) := by unfold exec; rfl
  have integrates : exec (.canIntegrated n) s = .next (after s (canIntegrated s.chip n)) := by unfold exec; rfl
  have alone : exec (.alone n) s = .next (after s (aloneSet s.chip n)) := by unfold exec; rfl
  have clash : exec (.idClash n o) s = .next (after s (idClash s.chip n o)) := by unfold exec; rfl
  have sleeps : exec (.canSleepEnter n) s = .next (after s (canSleepEnter s.chip n)) := by unfold exec; rfl
  have wakes : exec (.canWakeEvent n w) s = .next (after s (canWakeEvent s.chip n w)) := by unfold exec; rfl
  dsimp only
  refine ⟨fun off => ?_, fun other => ?_, fun starts => ?_, fun other => ?_, fun run on => ?_, fun not => ?_, fun clashes => ?_,
    fun not => ?_, fun rests => ?_, fun not => ?_, ?_, ?_, ?_, ?_, ?_, fun not => ?_, ?_⟩
  · exact recovers.trans (next_after_congr (if_neg (not_not_intro off)))
  · exact recovers.trans (next_after_congr (if_pos other))
  · refine integrates.trans (next_after_congr ((if_neg (not_not_intro starts)).trans ?_))
    simp only [Bool.or_eq_true, decide_eq_true_eq]
  · exact integrates.trans (next_after_congr (if_pos other))
  · exact alone.trans (next_after_congr (if_pos (by simp [run, on])))
  · refine alone.trans (next_after_congr (if_neg ?_))
    simpa [Decidable.imp_iff_not_or] using not
  · exact clash.trans (next_after_congr (if_neg (mt (idClash_guard ..).mp (not_not_intro clashes))))
  · exact clash.trans (next_after_congr (if_pos ((idClash_guard ..).mpr not)))
  · refine ⟨_, sleeps, ?_⟩
    rw [after_chip, obj_of_can (shown _), shown, canSleepEnter_of_rests rests]
    have same : obj (canSleepTo (modCan (framesDropped s.chip n (txObjects s.chip n)) n fun k =>
        { k with sleepReq := false, wakeErr := 0 }) n 6 0) n o = obj (framesDropped s.chip n (txObjects s.chip n)) n o := by
      unfold obj
      rw [can_canSleepTo, can_modCan]
    rw [same, can_canSleepTo, can_modCan]
    exact ⟨rfl, rfl, fun mem => obj_framesDropped n o _ s.chip (.inl mem)⟩
  · exact sleeps.trans (next_after_congr (if_pos ((canSleepEnter_guard ..).mpr not)))
  · rintro asleep rfl levels
    exact wakes.trans (next_after_congr ((canWakeEvent_of_asleep (asleep := asleep) _).trans (if_neg levels)))
  · rintro asleep rfl frames classic own
    refine wakes.trans (next_after_congr ((canWakeEvent_of_asleep (asleep := asleep) _).trans ?_))
    exact (if_neg (by rw [frames, classic]; decide)).trans (if_pos own)
  · rintro asleep rfl frames classic other
    refine wakes.trans (next_after_congr ((canWakeEvent_of_asleep (asleep := asleep) _).trans ?_))
    exact (if_neg (by rw [frames, classic]; decide)).trans (if_neg (by rw [other]; decide))
  · rintro asleep rfl frames many
    refine wakes.trans (next_after_congr ((canWakeEvent_of_asleep (asleep := asleep) _).trans ?_))
    exact (if_neg (by rw [frames]; decide)).trans (if_pos many)
  · rintro asleep rfl frames few
    refine wakes.trans (next_after_congr ((canWakeEvent_of_asleep (asleep := asleep) _).trans ?_))
    exact (if_neg (by rw [frames]; decide)).trans (if_neg (by omega))
  · exact wakes.trans (next_after_congr (if_pos ((canWakeEvent_guard ..).mpr not)))
  · rintro ⟨asleep, mode, -⟩ r id
    exact canWakeUp_shown r id asleep mode

/-- Settles O52: what the error states leave of the counters, then each end of a transmission and each bus state by case. -/
theorem canCommandsComplete : Obligations.CanCommandsComplete := ⟨canTrafficCompletes, canStatesComplete⟩

end Sys2Proof.Machine
end

section
/-!
PROOFS. The plant networks (R563 to R568, R597, R598): links, supervision frames, PTP, ARP and ICMP.
-/
namespace Sys2Proof.Machine
open Safety

/-! ### What the networks' conditions and the alignment leave -/

@[simp] theorem netConds_lans (c : Chip) (net : Nat) : (netConds c net).lans = c.lans := by simp [netConds]

@[simp] theorem netConds_sent (c : Chip) (net : Nat) : (netConds c net).sent = c.sent := by simp [netConds]

@[simp] theorem syncTo_lans (c : Chip) (x : SyncState) : (syncTo c x).lans = c.lans := by simp [syncTo, apply_ite Chip.lans]

@[simp] theorem syncTo_sent (c : Chip) (x : SyncState) : (syncTo c x).sent = c.sent := by simp [syncTo, apply_ite Chip.sent]

@[simp] theorem syncFollow_lans (c : Chip) : (syncFollow c).lans = c.lans := by
  unfold syncFollow
  split
  · simp
  · split <;> simp [apply_ite Chip.lans]

@[simp] theorem syncFollow_sent (c : Chip) : (syncFollow c).sent = c.sent := by
  unfold syncFollow
  split
  · simp
  · split <;> simp [apply_ite Chip.sent]

@[simp] theorem modLan_sent (c : Chip) (net q : Nat) (f : LanPort → LanPort) : (modLan c net q f).sent = c.sent := rfl

/-- Alignment sets no condition of a page but the stroke's. -/
theorem hdr_syncFollow_ne {c : Chip} {p : Nat} (h : p ≠ 2) : hdr (syncFollow c) p = hdr c p := by
  have moved (x : SyncState) : hdr (syncTo c x) p = hdr c p := by
    unfold syncTo
    split
    · rfl
    · exact hdr_setCond_ne _ _ _ h
  unfold syncFollow
  split
  · exact moved .free
  · split
    · split
      · exact moved _
      · rfl
    · split
      · exact moved _
      · rfl
    · rfl

theorem lan_of_lans {c d : Chip} (same : d.lans = c.lans) (net q : Nat) : lan d net q = lan c net q := by rw [lan, lan, same]

theorem lan_modLan (c : Chip) (net q : Nat) (f : LanPort → LanPort) : lan (modLan c net q f) net q = f (lan c net q) := by
  rw [lan, modLan, smGet_smMod, if_pos rfl, lan]

/-- The two LANs of the two networks are apart. -/
theorem lan_modLan_ne (c : Chip) {net q m r : Fin 2} (ne : (m, r) ≠ (net, q)) (f : LanPort → LanPort) :
    lan (modLan c net q f) m r = lan c m r := by
  rw [lan, modLan, smGet_smMod, if_neg, lan]
  intro same
  exact ne (Prod.ext (Fin.ext (by dsimp only; omega)) (Fin.ext (by dsimp only; omega)))

/-! ### Links and supervision -/

/-- A port's link changes, with its record and the page's conditions (R598). -/
def linkMoved (c : Chip) (net q : Nat) (up : Bool) : Chip :=
  netConds (emit (modLan c net q fun l => { l with up := up }) (netPage net) 0xD0 q (b2w up)
    (pnStat (modLan c net q fun l => { l with up := up }) net) 0 c.stroke.count) net

theorem lanState_moves {c : Chip} {net q : Fin 2} {up : Bool} (on : c.mode.mode ≠ .reset) (other : (lan c net q).up ≠ up) :
    lanState c net q up = linkMoved c net q up := by
  refine if_neg ?_
  simp [Nat.not_le.mpr net.isLt, Nat.not_le.mpr q.isLt, physOff, on, other]

theorem lanState_stays {c : Chip} {net q : Fin 2} {up : Bool} (still : c.mode.mode = .reset ∨ (lan c net q).up = up) :
    lanState c net q up = c := by
  refine if_pos ?_
  obtain off | same := still
  · simp [physOff, off]
  · simp [same]

theorem linkMoved_lans (c : Chip) (net q : Nat) (up : Bool) :
    (linkMoved c net q up).lans = (modLan c net q fun l => { l with up := up }).lans := by
  rw [linkMoved, netConds_lans, emit_lans]

/-- A working page shows LINK_DOWN while a link is down (R598). -/
theorem raw_netConds {c : Chip} {net q : Fin 2} (on : working c (netPage net) = true) (down : (lan c net q).up = false) :
    bitOf (hdr (netConds c net) (netPage net)).raw 0 = true := by
  have one : (lan c net 0).up = false ∨ (lan c net 1).up = false := by
    match q with
    | 0 => exact .inl down
    | 1 => exact .inr down
  have kept (d : Chip) (b : Nat) (v : Bool) (lt : b < 32) (ne : b ≠ 0) :
      bitOf (hdr (setCond d (netPage net) b v) (netPage net)).raw 0 = bitOf (hdr d (netPage net)).raw 0 := by
    rw [hdr_setCond]
    dsimp only
    split
    · rfl
    · rw [bitOf_setBit _ _ _ (by decide), if_neg ne.symm]
  unfold netConds
  dsimp only
  rw [kept _ 2 _ (by decide) (by decide), kept _ 1 _ (by decide) (by decide), bitOf_raw_setCond _ _ _ (by decide), on]
  obtain h | h := one <;> simp [h]

theorem netPage_ne {net : Fin 2} : netPage net ≠ 0x74 ∧ netPage net ≠ 0x78 ∧ netPage net ≠ 2 := by
  unfold netPage
  omega

theorem raw_linkMoved {c : Chip} {net q : Fin 2} (on : working c (netPage net) = true) :
    bitOf (hdr (linkMoved c net q false) (netPage net)).raw 0 = true := by
  refine raw_netConds ?_ (q := q) ?_
  · rwa [working, enabled, hdr_emit _ _ _ _ _ _ _ _ netPage_ne.1 netPage_ne.2.1]
  · rw [lan_of_lans (emit_lans ..), lan_modLan]

/-- A change of one network's link or supervision mark: RESET and a repeated level do nothing. -/
theorem supervisionReceive_own {c : Chip} {net q : Nat} {own : Bool} (not : c.mode.mode = .reset ∨ own = true) :
    supervisionReceive c net q own = c := by
  refine if_pos ?_
  obtain off | mine := not
  · simp [physOff, off]
  · simp [mine]

theorem supervisionReceive_other {c : Chip} {net q : Fin 2} (on : c.mode.mode ≠ .reset) :
    supervisionReceive c net q false = netConds (modLan c net q fun l => { l with supervised := true }) net := by
  refine if_neg ?_
  simpa [physOff, on] using And.intro (by omega) (by omega)

theorem forN_two {σ : Type} (f : Nat → σ → σ) (x : σ) : forN 2 f x = f 1 (f 0 x) := rfl

theorem sendSupervision_idle {c : Chip} (a : netServes c 0 = false) (b : netServes c 1 = false) : sendSupervision c = c := by
  simp only [sendSupervision, forN_two, a, b, Bool.false_eq_true, if_false]

theorem netServes_sent (c : Chip) (x : List Frame) (net : Nat) : netServes { c with sent := x } net = netServes c net := rfl

theorem sendSupervision_served {c : Chip} (a : netServes c 0 = true) (b : netServes c 1 = true) :
    sendSupervision c = { c with
      sent := ⟨.prp 1 1, Config.supervisionFrame 1 1⟩ :: ⟨.prp 1 0, Config.supervisionFrame 1 0⟩
        :: ⟨.prp 0 1, Config.supervisionFrame 0 1⟩ :: ⟨.prp 0 0, Config.supervisionFrame 0 0⟩ :: c.sent } := by
  simp only [sendSupervision, forN_two, a, if_true, send, Line.doubled, Bool.false_eq_true, if_false, netServes_sent, b]

/-! ### PTP -/

theorem ptpTo_lan (c : Chip) (net q : Nat) (st : Nat) : lan (ptpTo c net q st) net q = { lan c net q with state := st } := by
  refine Eq.trans (lan_of_lans ?_ net q) (lan_modLan c net q fun l => { l with state := st })
  unfold ptpTo
  dsimp only
  rw [netConds_lans]
  split <;> simp

theorem ptpTo_sent (c : Chip) (net q : Nat) (st : Nat) : (ptpTo c net q st).sent = c.sent := by
  unfold ptpTo
  dsimp only
  rw [netConds_sent]
  split <;> simp

theorem delayRequest_lans (c : Chip) (net q : Nat) : (delayRequest c net q).lans = c.lans := by
  simp [delayRequest, send, Line.doubled, apply_ite Chip.lans]

theorem delayRequest_asks {c : Chip} {net q : Nat} (follows : 8 ≤ (lan c net q).state) :
    (delayRequest c net q).sent = ⟨.ptp net q, Config.delayRequest net q c.fresh⟩ :: c.sent := by
  rw [delayRequest, if_pos follows]
  rfl

theorem delayRequest_silent {c : Chip} {net q : Nat} (below : (lan c net q).state < 8) : delayRequest c net q = c :=
  if_neg (Nat.not_le.mpr below)

/-- The module hears a PTP message of its domain and moves the port (R567). -/
def ptpHeard (c : Chip) (net q st : Nat) (offset : Int) (gm : Word) (rank : Nat) : Chip :=
  delayRequest (ptpTo (modLan c net q fun l => { l with offset := offset, gm := gm, rank := rank }) net q st) net q

theorem ptpMessage_guard (c : Chip) (net q : Fin 2) (domain : Nat) (st : Fin 10) :
    (2 ≤ (net : Nat) || 2 ≤ (q : Nat) || !ptpEn c net || !netServes c net || (st : Nat) = 0 || 9 < (st : Nat)
      || (5 ≤ (st : Nat) && (st : Nat) ≤ 7) || domain ≠ fld (cfg c (netPage net) 0x040) 15 8) = true ↔
    ¬(ptpEn c net = true ∧ netServes c net = true ∧ 0 < (st : Nat) ∧ ((st : Nat) < 5 ∨ 7 < (st : Nat))
      ∧ domain = fld (cfg c (netPage net) 0x040) 15 8) := by
  generalize fld (cfg c (netPage net) 0x040) 15 8 = configured
  cases ptpEn c net with
  | false => simp
  | true =>
    cases netServes c net with
    | false => simp
    | true =>
      simp only [Bool.or_eq_true, Bool.and_eq_true, decide_eq_true_eq, Bool.not_true, Bool.false_eq_true, true_and, or_false]
      omega

theorem ptpHeard_lan (c : Chip) (net q st : Nat) (offset : Int) (gm : Word) (rank : Nat) :
    lan (ptpHeard c net q st offset gm rank) net q =
      { lan c net q with state := st, offset := offset, gm := gm, rank := rank } := by
  rw [ptpHeard, lan_of_lans (delayRequest_lans ..), ptpTo_lan, lan_modLan]

theorem ptpHeard_asks {c : Chip} {net q st : Nat} {offset : Int} {gm : Word} {rank : Nat} (follows : 8 ≤ st) :
    ∃ k, (ptpHeard c net q st offset gm rank).sent = ⟨.ptp net q, Config.delayRequest net q k⟩ :: c.sent := by
  refine ⟨_, (delayRequest_asks ?_).trans (congrArg _ ((ptpTo_sent ..).trans (modLan_sent ..)))⟩
  rwa [ptpTo_lan]

theorem ptpHeard_silent {c : Chip} {net q st : Nat} {offset : Int} {gm : Word} {rank : Nat} (below : st < 8) :
    (ptpHeard c net q st offset gm rank).sent = c.sent := by
  rw [ptpHeard, delayRequest_silent, ptpTo_sent, modLan_sent]
  rwa [ptpTo_lan]

/-! ### Datagrams, ARP and ICMP -/

theorem answers_guard (c : Chip) (p : Port) (target : Nat) :
    (!portAnswers c p || p == .backplane || target ≠ moduleIp c p) = true ↔
      ¬(portAnswers c p = true ∧ p ≠ .backplane ∧ target = moduleIp c p) := by
  simp only [Bool.or_eq_true, Bool.not_eq_true', decide_eq_true_eq, Classical.not_and_iff_not_or_not, Bool.not_eq_true, beq_iff_eq, or_assoc,
    ne_eq, Classical.not_not]

/-- A frame leaves a plant port on both LANs, each copy with its trailer (R565). -/
theorem send_plant {c : Chip} {p : Port} (bs : List Byte) (plant : p = .plantA ∨ p = .plantB) :
    ∃ a b : BitVec 48, (send c (.eth p) bs).sent
      = ⟨.onLan 1 (.eth p), bs ++ beBytes 6 b.toNat⟩ :: ⟨.onLan 0 (.eth p), bs ++ beBytes 6 a.toNat⟩ :: c.sent := by
  refine ⟨Config.prpTrailer 0 c.fresh, Config.prpTrailer 1 c.fresh, ?_⟩
  obtain rfl | rfl := plant <;> rfl

theorem send_other {c : Chip} {p : Port} (bs : List Byte) (other : ¬(p = .plantA ∨ p = .plantB)) :
    (send c (.eth p) bs).sent = ⟨.eth p, bs⟩ :: c.sent := by
  have single : (Line.eth p).doubled = false := by
    match p with
    | .plantA => exact absurd (.inl rfl) other
    | .plantB => exact absurd (.inr rfl) other
    | .engineering | .service | .backplane => rfl
  rw [send, single]
  rfl

/-- Settles O54: links and supervision, then PTP, then what the ports answer and how a frame leaves them. -/
theorem networkCommandsComplete : Obligations.NetworkCommandsComplete := by
  intro s net q st domain off gm rank p mac ip target bs up
  have link : exec (.lanState net q up) s = .next (after s (syncFollow (lanState s.chip net q up))) := by unfold exec; rfl
  have hears (own : Bool) : exec (.prpSupervisionReceive net q own) s = .next (after s (supervisionReceive s.chip net q own)) := by
    unfold exec; rfl
  have misses : exec (.supervisionMissing net q) s = .next (after s (supervisionMissing s.chip net q)) := by unfold exec; rfl
  have sends : exec .prpSupervision s = .next (after s (sendSupervision s.chip)) := by unfold exec; rfl
  have ptp : exec (.ptpMessage net q ⟨domain, st⟩ off gm rank) s
      = .next (after s (syncFollow (ptpMessage s.chip net q domain.toNat st off gm rank))) := by unfold exec; rfl
  have ends : exec (.ptpAnnounceTimeout net q) s = .next (after s (syncFollow (ptpTimeout s.chip net q))) := by unfold exec; rfl
  have drops : exec (.discardedDatagram net) s = .next (after s (discardDatagram s.chip net)) := by unfold exec; rfl
  have arp : exec (.arpRequest p mac ip target) s = .next (after s (arpRequest s.chip p mac.toNat ip.toNat target.toNat)) := by
    unfold exec; rfl
  have icmp : exec (.icmpEcho p target bs) s = .next (after s (icmpEcho s.chip p target.toNat bs)) := by unfold exec; rfl
  have pcie (b : Bool) : exec (.pcieLinkChange b) s = .next (after s (pcieLink s.chip b)) := by unfold exec; rfl
  have shown (d : Chip) (m r : Fin 2) : lan (attnUpdate (syncFollow d)) m r = lan d m r :=
    lan_of_lans ((attnUpdate_lans _).trans (syncFollow_lans d)) m r
  dsimp only
  refine ⟨fun on other => ?_, fun still => ?_, fun on => ?_, fun own not => ?_, ?_, fun a b => ?_, fun a b => ?_,
    fun heard => ?_, fun not => ?_, fun on follows => ?_, fun not => ?_, fun serves => ?_, fun idle => ?_,
    fun mine => ?_, fun mine => ?_, send_plant bs, send_other bs, fun not => ⟨?_, ?_⟩, fun on => ?_, fun off => ?_, ?_⟩
  · refine ⟨_, link, ?_⟩
    rw [after_chip, lanState_moves on other, shown]
    refine ⟨?_, fun m r ne => ?_, fun works down => ?_⟩
    · rw [lan_of_lans (linkMoved_lans ..), lan_modLan]
    · rw [shown, lan_of_lans (linkMoved_lans ..), lan_modLan_ne _ ne]
    · subst down
      rw [hdr_attnUpdate, hdr_syncFollow_ne netPage_ne.2.2, raw_linkMoved works]
  · exact link.trans (next_after_congr (congrArg syncFollow (lanState_stays still)))
  · exact (hears false).trans (next_after_congr (supervisionReceive_other on))
  · exact (hears own).trans (next_after_congr (supervisionReceive_own not))
  · exact misses.trans (next_after_congr (if_neg (by simp [Nat.not_le.mpr net.isLt, Nat.not_le.mpr q.isLt])))
  · exact sends.trans (next_after_congr (sendSupervision_idle a b))
  · exact sends.trans (next_after_congr (sendSupervision_served a b))
  · refine ⟨_, ptp, ?_⟩
    have moved : ptpMessage s.chip net q domain.toNat st off gm rank = ptpHeard s.chip net q st off gm rank :=
      if_neg (mt (ptpMessage_guard ..).mp (not_not_intro heard))
    rw [after_chip, moved, shown, attnUpdate_sent, syncFollow_sent]
    exact ⟨ptpHeard_lan .., ptpHeard_asks, ptpHeard_silent⟩
  · exact ptp.trans (next_after_congr (congrArg syncFollow (if_pos ((ptpMessage_guard ..).mpr not))))
  · refine ⟨_, ends, ?_⟩
    have moved : ptpTimeout s.chip net q = ptpTo s.chip net q 4 := if_neg (by simp [on]; omega)
    rw [after_chip, moved, shown, ptpTo_lan]
  · refine ends.trans (next_after_congr (congrArg syncFollow (if_pos ?_)))
    obtain off | below := not
    · simp [off]
    · simp [below]
  · refine ⟨_, drops, ?_⟩
    have taken : discardDatagram s.chip net =
        raise { s.chip with badFrames := smMod 0 s.chip.badFrames net (satInc 255) } (netPage net) 3 := if_neg (by simp [Nat.not_le.mpr net.isLt, serves])
    rw [after_chip, taken, attnUpdate_badFrames, raise_badFrames, hdr_attnUpdate]
    exact ⟨by simp, bitOf_cause_raise _ _ (by decide)⟩
  · exact drops.trans (next_after_congr (if_pos (by simp [idle])))
  · exact arp.trans (next_after_congr (if_neg (mt (answers_guard ..).mp (not_not_intro mine))))
  · exact icmp.trans (next_after_congr (if_neg (mt (answers_guard ..).mp (not_not_intro mine))))
  · exact arp.trans (next_after_congr (if_pos ((answers_guard ..).mpr not)))
  · exact icmp.trans (next_after_congr (if_pos ((answers_guard ..).mpr not)))
  · exact (pcie true).trans (next_after_congr (if_neg (by simp [on])))
  · exact (pcie true).trans (next_after_congr (if_pos (by simp [off])))
  · exact (pcie false).trans (next_after_congr (if_neg (by simp)))

end Sys2Proof.Machine
end

section
/-!
PROOFS. The Register Access Protocol (R563 to R589): what is served in a session, what arrives, and what ends in time.
-/
namespace Sys2Proof.Machine
open Safety

/-! ### The turn and the served message -/

theorem forN_succ {σ : Type} (n : Nat) (f : Nat → σ → σ) (x : σ) : forN (n + 1) f x = f n (forN n f x) := by
  simp only [forN, List.range_succ, List.foldl_append, List.foldl_cons, List.foldl_nil]

/-- Passes that each leave the state leave it together. -/
theorem forN_idle {σ : Type} {n : Nat} {f : Nat → σ → σ} {x : σ} (idle : ∀ i, i < n → f i x = x) : forN n f x = x := by
  induction n with
  | zero => rfl
  | succ n ih => rw [forN_succ, ih fun i lt => idle i (Nat.lt_succ_of_lt lt), idle n (Nat.lt_succ_self n)]

theorem rapServe_empty {c : Chip} {n : Nat} (empty : ∀ y : Session, session c n = some y → y.queue = []) : rapServe c n = c := by
  unfold rapServe
  split
  · rfl
  · next y is => rw [empty y is]

/-- The sessions that the turn passes before `n` have nothing to serve (R572). -/
theorem rapTurn_of_turn {c : Chip} {n : Nat} (turn : Claims.Turn c n) : rapTurn c n = Claims.passed (rapServe c n) n := by
  obtain ⟨lt, turnLt, before⟩ := turn
  have here : (c.hosts.turn + (n + 16 - c.hosts.turn) % 16) % 16 = n := by omega
  unfold rapTurn
  dsimp only
  rw [forN_succ, forN_idle fun i lt => rapServe_empty (before i lt), here]
  rfl

/-- A message of an open session's peer is served when the turn comes to its session (R572). -/
theorem rapReceive_served {c : Chip} {x : RapIn} {n : Nat} (phase : x.phase = .serve) (op : rapOp x.bytes ≠ 0x01)
    (turn : Claims.Turn c n) (named : rapSession x.bytes = n) (peer : forPeer c x = true) :
    rapReceive c x = Claims.passed (rapServe c n) n := by
  unfold rapReceive
  rw [phase]
  dsimp only
  rw [if_pos (by simp [op, peer]), named, rapTurn_of_turn turn]

theorem rapCommand_of_op {c : Chip} {op : Nat} {x : RapIn} (h : rapOp x.bytes = op) : rapCommand c op x = rapReceive c x :=
  if_pos (by simp [h])

/-- The answer of an operation, kept in the session and sent to its peer (R572, R574). -/
def responded (n : Nat) (t : Session) (bs : List Byte) (r : Nat × List Byte × Chip) : Chip :=
  let resp := rapMessage r.2.2 (rapOp bs) n r.1 (rapSeq bs) r.2.1
  deliverTo (modSession r.2.2 n fun y => { y with last := some (rapSeq bs, resp) }) (portOf t.port) t.ip t.udp resp

theorem hasRoom_of_port {c : Chip} {t : Session} {bs : List Byte} (port : t.port ≠ 4) : hasRoom c t bs = true := by
  simp [hasRoom, port]

section
variable {c : Chip} {n : Nat} {t : Session} {bs : List Byte} {k : Nat} {ws : List Waiting}
  (is : session c n = some t) (queue : t.queue = ⟨bs, k⟩ :: ws) (port : t.port ≠ 4)
include is queue port

theorem rapServe_new (new : (t.last.map fun l => l.1) ≠ some (rapSeq bs)) :
    rapServe c n = responded n t bs
      (rapExecute (modSession c n fun y => { y with queue := ws }) n (rapOp bs) (rapBody bs)) := by
  cases last : t.last with
  | none => simp only [rapServe, is, queue, last, hasRoom_of_port port, Bool.not_true, Bool.false_eq_true, if_false, responded]
  | some l =>
    rw [last] at new
    have other : l.1 ≠ rapSeq bs := fun same => new (congrArg some same)
    simp only [rapServe, is, queue, last, if_neg other, hasRoom_of_port port, Bool.not_true, Bool.false_eq_true, if_false,
      responded]

theorem rapServe_again {old : List Byte} (last : t.last = some (rapSeq bs, old)) :
    rapServe c n = deliverTo (modSession (modSession c n fun y => { y with queue := ws }) n fun y =>
      { y with last := some (rapSeq bs, old) }) (portOf t.port) t.ip t.udp old := by
  simp only [rapServe, is, queue, last, if_true, hasRoom_of_port port, Bool.not_true, Bool.false_eq_true, if_false]

end

/-- A message that is due has its operation's effect and answer. -/
theorem rapCommand_answers {c : Chip} {x : RapIn} {op n code : Nat} {t : Session} {ws : List Waiting} {body : List Byte}
    {e : Chip} (due : Claims.Served c x op n t ws) (other : op ≠ 0x01)
    (does : rapExecute (modSession c n fun y => { y with queue := ws }) n op (rapBody x.bytes) = (code, body, e)) :
    rapCommand c op x = Claims.answered e x t code body := by
  obtain ⟨phase, turn, rfl, rfl, peer, is, ⟨k, queue⟩, port, new⟩ := due
  rw [rapCommand_of_op rfl, rapReceive_served phase other turn rfl peer, rapServe_new is queue port new, does]
  rfl

/-! ### What each operation does -/

section
variable (d : Chip) (n : Nat) (b : List Byte)

theorem rapExecute_read : rapExecute d n 0x10 b =
    (0, (rapRead d n (beAt b 0 4) (beAt b 4 2)).1, (rapRead d n (beAt b 0 4) (beAt b 4 2)).2) := rfl

theorem rapExecute_write : rapExecute d n 0x11 b =
    (0, padCodes (rapWrite d n (b.drop 4) (beAt b 0 2)).1, (rapWrite d n (b.drop 4) (beAt b 0 2)).2) := rfl

theorem rapExecute_imageWrite : rapExecute d n 0x21 b =
    (0, padCodes (rapImageWrite d n (b.drop 4) (beAt b 0 2)).1, (rapImageWrite d n (b.drop 4) (beAt b 0 2)).2) := rfl

theorem rapExecute_stageOpen : rapExecute d n 0x30 b = ((rapStageOpen d n b).1, [], (rapStageOpen d n b).2) := rfl

theorem rapExecute_stageData (may : mayStage d n 0 = true) : rapExecute d n 0x31 b =
    ((stageData d n (beAt b 0 4) (b.drop 4)).1, [], (stageData d n (beAt b 0 4) (b.drop 4)).2) := if_neg (by simp [may])

theorem rapExecute_stageClose (may : mayStage d n 0 = true) : rapExecute d n 0x32 b =
    ((rapStageClose d n).1, [], (rapStageClose d n).2) := if_neg (by simp [may])

theorem rapRead_one (addr : Nat) : rapRead d n addr 1 =
    (beBytes 4 (regRead d (.session n) addr).1.toNat, (regRead d (.session n) addr).2) :=
  Prod.ext (List.append_nil _) rfl

theorem rapWrite_one : rapWrite d n b 1 =
    ([BitVec.ofNat 8 (regWrite d (.session n) (beAt b 0 4) true (BitVec.ofNat 32 (beAt b 4 4))).1],
      (regWrite d (.session n) (beAt b 0 4) true (BitVec.ofNat 32 (beAt b 4 4))).2) := rfl

theorem rapImageWrite_one : rapImageWrite d n b 1 = ([BitVec.ofNat 8 (rapImageItem d n b).1], (rapImageItem d n b).2) := rfl

theorem padCodes_one (code : Byte) : padCodes [code] = [code, 0, 0, 0] := rfl

end

theorem imageWriteCode_modSession (c : Chip) (n : Nat) (f : Session → Session) (kind addr : Nat) (v : Word) :
    imageWriteCode (modSession c n f) kind addr v = imageWriteCode c kind addr v := by
  have same (p off : Nat) : cfg (modSession c n f) p off = cfg c p off := by rw [cfg, cfg, modSession_cfg]
  rw [imageWriteCode, same, same, modSession_mode, imageWriteCode]

theorem rapImageItem_written {c : Chip} {n : Nat} {b : List Byte} (may : allowanceUsed c (.session n) = false)
    (fine : imageWriteCode c (beAt b 0 1) (beAt b 2 2) (BitVec.ofNat 32 (beAt b 4 4)) = 0) :
    rapImageItem c n b = (0, imageWriteItem (modSession c n fun y => { y with writes := y.writes + 1 })
      (beAt b 0 1) (beAt b 2 2) (BitVec.ofNat 32 (beAt b 4 4))) := by
  simp only [rapImageItem, may, Bool.false_eq_true, if_false, imageWriteCode_modSession, fine, if_true]

/-! ### Staging (R588) -/

theorem stages_class {c : Chip} {n kind : Nat} {y : Session} (is : session c n = some y) (may : mayStage c n kind = true) :
    y.cls ≠ 2 := by
  intro two
  simp [mayStage, is, two] at may

theorem rapStageOpen_opens {c : Chip} {n m : Nat} {b : List Byte} {y : Session} (is : session c n = some y)
    (kind : beAt b 0 1 ≠ 5) (may : mayStage c n (beAt b 0 1) = true)
    (limit : stageLimit (beAt b 0 1) (beAt b 1 1) = some m) (some_ : 0 < beAt b 4 4) (fits : beAt b 4 4 ≤ m)
    (idle : loadRunning c (beAt b 1 1) = false) (free : stagingFor c (beAt b 1 1) = none) :
    rapStageOpen c n b = (0, updAbandon (modSession c n fun y =>
      { y with staging := some ⟨beAt b 0 1, beAt b 1 1, beAt b 4 4, BitVec.ofNat 32 (beAt b 8 4), [], 0, 0xFFFFFFFF#32⟩ })) := by
  have size : (beAt b 4 4 = 0 || m < beAt b 4 4) = false := by simp; omega
  have opens : stageOpen c n (beAt b 0 1) (beAt b 1 1) (beAt b 4 4) (BitVec.ofNat 32 (beAt b 8 4)) (loadRunning c (beAt b 1 1)) =
      (0, modSession c n fun y => { y with
        staging := some ⟨beAt b 0 1, beAt b 1 1, beAt b 4 4, BitVec.ofNat 32 (beAt b 8 4), [], 0, 0xFFFFFFFF#32⟩ }) := by
    simp only [stageOpen, is, if_neg (stages_class is may), limit, size, idle, free, Bool.or_self, Bool.false_eq_true, if_false]
  simp only [rapStageOpen, may, Bool.not_true, Bool.false_eq_true, if_false, opens, if_true, if_neg kind]

theorem stageData_none {c : Chip} {n offset : Nat} {data : List Byte} {y : Session} (is : session c n = some y)
    (none_ : y.staging = none) : stageData c n offset data = (0x16, c) := by
  simp only [stageData, is, Option.bind_some, none_]

theorem stageData_next {c : Chip} {n offset : Nat} {data : List Byte} {y : Session} {g : Staging} (is : session c n = some y)
    (open_ : y.staging = some g) (kind : g.kind ≠ 5) (next : offset = g.got) (fits : g.got + data.length ≤ g.length) :
    stageData c n offset data = (0, modSession c n fun y => { y with
      staging := some { g with data := g.data ++ data, got := g.got + data.length, run := crcRun g.run data } }) := by
  have taken : (offset ≠ g.got || g.length < g.got + data.length) = false := by simp [next]; omega
  simp only [stageData, is, Option.bind_some, open_, taken, Bool.false_eq_true, if_false, ne_eq, kind, not_false_iff, if_true]

theorem rapStageClose_whole {c : Chip} {n : Nat} {y : Session} {g : Staging} (is : session c n = some y)
    (open_ : y.staging = some g) (kind : g.kind ≠ 5) (whole : g.got = g.length) (right : ~~~g.run = g.crc) :
    rapStageClose c n = (0, modUpd (modSession c n fun y => { y with staging := none }) fun u =>
      { u with staged := smPut u.staged g.page g.data }) := by
  have closes : stageClose c n = (0, some (g.kind, g.page, g.data), modSession c n fun y => { y with staging := none }) := by
    simp only [stageClose, is, Option.bind_some, open_, whole, right, decide_true, Bool.and_self, if_true]
  unfold rapStageClose
  rw [closes]
  split
  · next same => exact absurd (congrArg (fun r => r.2.1.map Prod.fst) same) (by simpa using kind)
  · next same => cases same; rfl
  · next not same => cases same; exact (not _ _ _ rfl rfl).elim

theorem rapStageClose_broken {c : Chip} {n : Nat} {y : Session} {g : Staging} (is : session c n = some y)
    (open_ : y.staging = some g) (wrong : g.got ≠ g.length ∨ ~~~g.run ≠ g.crc) :
    rapStageClose c n = (0x17, updAbandon (modSession c n fun y => { y with staging := none })) := by
  have bad : (decide (g.got = g.length) && decide (~~~g.run = g.crc)) = false := by
    obtain short | sum := wrong
    · simp [short]
    · simp [sum]
  simp only [rapStageClose, stageClose, is, Option.bind_some, open_, bad, Bool.false_eq_true, if_false]

theorem hostOperationsComplete : Claims.HostOperationsComplete := by
  intro s x n t ws
  have nop : exec (.rapNop x) s = .next (after s (rapCommand s.chip 0x03 x)) := by unfold exec; rfl
  have closes : exec (.rapClose x) s = .next (after s (rapCommand s.chip 0x02 x)) := by unfold exec; rfl
  have reads : exec (.rapRead x) s = .next (after s (rapCommand s.chip 0x10 x)) := by unfold exec; rfl
  have writes : exec (.rapWrite x) s = .next (after s (rapCommand s.chip 0x11 x)) := by unfold exec; rfl
  have imageReads : exec (.imageRead x) s = .next (after s (rapCommand s.chip 0x20 x)) := by unfold exec; rfl
  have imageWrites : exec (.imageWrite x) s = .next (after s (rapCommand s.chip 0x21 x)) := by unfold exec; rfl
  have opens : exec (.stageOpen x) s = .next (after s (rapCommand s.chip 0x30 x)) := by unfold exec; rfl
  have fills : exec (.stageData x) s = .next (after s (rapCommand s.chip 0x31 x)) := by unfold exec; rfl
  have ends : exec (.stageClose x) s = .next (after s (rapCommand s.chip 0x32 x)) := by unfold exec; rfl
  have filters : exec (.attnFilter x) s = .next (after s (rapCommand s.chip 0x41 x)) := by unfold exec; rfl
  have answer {i : Instr} {op : Nat} (run : exec i s = .next (after s (rapCommand s.chip op x))) {code : Nat} {body : List Byte}
      {e : Chip} (due : Claims.Served s.chip x op n t ws) (other : op ≠ 0x01)
      (does : rapExecute (modSession s.chip n fun y => { y with queue := ws }) n op (rapBody x.bytes) = (code, body, e)) :
      exec i s = .next (after s (Claims.answered e x t code body)) :=
    run.trans (next_after_congr (rapCommand_answers due other does))
  have taken (op : Nat) (due : Claims.Served s.chip x op n t ws) :
      session (modSession s.chip n fun y => { y with queue := ws }) n = some { t with queue := ws } := by
    obtain ⟨-, -, -, -, -, is, -⟩ := due
    rw [session_modSession, if_pos rfl, is, Option.map_some]
  dsimp only
  refine ⟨fun due => ?_, fun due => ?_, fun due one => ?_, fun due => ?_, fun due one => ?_, fun due => ?_, fun due => ?_,
    fun due word one => ?_, fun due => ?_, fun due one may fine => ?_, fun due not => ?_, fun due kind may limit idle free => ?_,
    fun due may none_ => ?_, fun due may g open_ kind next fits => ?_, fun due may g open_ kind whole right => ?_,
    fun due may g open_ wrong => ?_, fun due => ?_, fun k old phase turn op named peer is queue port last => ?_⟩
  · exact answer nop due (by decide) rfl
  · exact answer closes due (by decide) rfl
  · refine answer reads due (by decide) ?_
    rw [rapExecute_read, one, rapRead_one]
  · exact answer reads due (by decide) (rapExecute_read ..)
  · refine answer writes due (by decide) ?_
    rw [rapExecute_write, one, rapWrite_one, padCodes_one]
  · exact answer writes due (by decide) (rapExecute_write ..)
  · exact answer imageReads due (by decide) rfl
  · simp only [rapImageRead, word, one, if_true, List.range_one, List.flatMap_cons, List.flatMap_nil, List.append_nil,
      Nat.add_zero, modSession_committedS, modSession_committedP]
  · exact answer imageWrites due (by decide) (rapExecute_imageWrite ..)
  · refine answer imageWrites due (by decide) ?_
    rw [rapExecute_imageWrite, one, rapImageWrite_one, rapImageItem_written may fine, padCodes_one]
    rfl
  · refine answer opens due (by decide) ?_
    rw [rapExecute_stageOpen, rapStageOpen, not]
    rfl
  · obtain ⟨m, limit, some_, fits⟩ := limit
    refine answer opens due (by decide) ?_
    rw [rapExecute_stageOpen, rapStageOpen_opens (taken _ due) kind may limit some_ fits idle free]
  · refine answer fills due (by decide) ?_
    rw [rapExecute_stageData _ _ _ may, stageData_none (taken _ due) none_]
  · refine answer fills due (by decide) ?_
    have fits' : g.got + ((rapBody x.bytes).drop 4).length ≤ g.length := by rwa [List.length_drop]
    rw [rapExecute_stageData _ _ _ may, stageData_next (taken _ due) open_ kind next fits', List.length_drop]
  · refine answer ends due (by decide) ?_
    rw [rapExecute_stageClose _ _ _ may, rapStageClose_whole (taken _ due) open_ kind whole right]
  · refine answer ends due (by decide) ?_
    rw [rapExecute_stageClose _ _ _ may, rapStageClose_broken (taken _ due) open_ wrong]
  · exact answer filters due (by decide) rfl
  · refine nop.trans (next_after_congr ?_)
    rw [rapCommand_of_op op, rapReceive_served phase (by omega) turn named peer, rapServe_again is queue port last]

/-! ### Arrival (R563, R571, R572, R581, R585) -/

theorem rapReceive_enqueued {c : Chip} {x : RapIn} (phase : x.phase = .enqueue) (takes : takesMessages c x.port = true) :
    rapReceive c x = rapArrive c x := by
  unfold rapReceive
  rw [phase]
  exact if_pos takes

theorem rapReceive_closed {c : Chip} {x : RapIn} (shut : takesMessages c x.port = false) (phase : x.phase ≠ .serve) :
    rapReceive c x = c := by
  cases h : x.phase with
  | serve => exact absurd h phase
  | enqueue | whole => simp [rapReceive, h, shut]

theorem rapCommand_closed {c : Chip} {op : Nat} {x : RapIn} (shut : takesMessages c x.port = false) (phase : x.phase ≠ .serve) :
    rapCommand c op x = c := by
  rw [rapCommand, rapReceive_closed shut phase, ite_self]

theorem rapArrive_bad {c : Chip} {x : RapIn} (bad : ¬(rapHeaderOk x.bytes = true ∧ rapBodyOk (rapOp x.bytes) (rapBody x.bytes) = true)) :
    rapArrive c x = rapRefuse (badMessage c) x 0x10 := by
  refine if_pos ?_
  simpa [Decidable.imp_iff_not_or] using bad

section
variable {c : Chip} {x : RapIn} {t : Session}
  (good : rapHeaderOk x.bytes = true ∧ rapBodyOk (rapOp x.bytes) (rapBody x.bytes) = true)
include good

theorem rapArrive_open (op : rapOp x.bytes = 0x01) : rapArrive c x = rapOpen c x :=
  (if_neg (by simp [good])).trans (if_pos op)

theorem rapArrive_stranger (op : rapOp x.bytes ≠ 0x01) (other : forPeer c x = false) :
    rapArrive c x = rapRefuse c x 0x11 :=
  (if_neg (by simp [good])).trans ((if_neg op).trans (if_pos (by simp [other])))

variable (op : rapOp x.bytes ≠ 0x01) (peer : forPeer c x = true) (is : session c (rapSession x.bytes) = some t)
include op peer is

theorem rapArrive_queued (room : occupancy t + entriesOf x.bytes ≤ t.queueMax) :
    rapArrive c x = modSession c (rapSession x.bytes) fun y => { y with queue := y.queue ++ [⟨x.bytes, 0⟩] } := by
  refine (if_neg (by simp [good])).trans ((if_neg op).trans ((if_neg (by simp [peer])).trans ?_))
  rw [is]
  exact if_neg (Nat.not_lt.mpr room)

theorem rapArrive_full (full : ¬(occupancy t + entriesOf x.bytes ≤ t.queueMax)) :
    rapArrive c x = rapRefuse (overAllowance (if 64 < occupancy t + entriesOf x.bytes then
      queueRefused c (rapSession x.bytes) else c) (rapSession x.bytes)) x 0x03 := by
  refine (if_neg (by simp [good])).trans ((if_neg op).trans ((if_neg (by simp [peer])).trans ?_))
  rw [is]
  exact if_pos (Nat.not_le.mp full)

end

/-- The session that an OPEN takes on a port (R581, R584). -/
def opened (c : Chip) (p : Port) (ip udp filter : Nat) : Session where
  port := p.code
  cls := portClass c p
  ip := ip
  udp := udp
  filter := filter
  queueMax := (defaultAllow (portClass c p)).1
  writesMax := (defaultAllow (portClass c p)).2
  writes := 0
  refused := 0
  queue := []
  last := none
  staging := none
  attnDue := false

/-- A session opens with its cause and its record (R581, R600). -/
def openedAs (c : Chip) (p : Port) (ip udp filter n : Nat) : Chip :=
  emit (raise (modHosts c fun h => { h with sessions := smPut h.sessions n (opened c p ip udp filter) }) 0x72 0) 0x72 0xC0 n
    (BitVec.ofNat 32 (portClass c p)) (BitVec.ofNat 32 p.code) (BitVec.ofNat 32 ip) c.stroke.count

theorem openSession_free {c : Chip} {p : Port} {ip udp filter n : Nat} {rest : List Nat} (free : freeSessions c = n :: rest)
    (may : rest ≠ [] ∨ portClass c p = 0) : openSession c p ip udp filter = (some n, openedAs c p ip udp filter n) := by
  have kept : (decide (rest = []) && decide (portClass c p ≠ 0)) = false := by
    obtain more | cls := may
    · simp [more]
    · simp [cls]
  unfold openSession
  dsimp only
  rw [free]
  dsimp only
  rw [kept]
  exact congrArg (Prod.mk _) (congrArg (emit _ 0x72 0xC0 n _ _ _) (congrArg StrokeSt.count (raise_stroke ..)))

theorem openSession_full {c : Chip} {p : Port} {ip udp filter n : Nat}
    (full : freeSessions c = [] ∨ (freeSessions c = [n] ∧ portClass c p ≠ 0)) :
    openSession c p ip udp filter = (none, c) := by
  obtain nil | ⟨one, cls⟩ := full
  · simp only [openSession, nil]
  · simp [openSession, one, cls]

theorem deliverTo_sessions (c : Chip) (p : Port) (ip udp : Nat) (bs : List Byte) :
    (deliverTo c p ip udp bs).hosts.sessions = c.hosts.sessions := by
  have sent (q : Port) : (if portAnswers c q then send c (.host q ip udp) bs else c).hosts.sessions = c.hosts.sessions := by
    unfold send
    split
    · split <;> rfl
    · rfl
  cases p with
  | backplane => unfold deliverTo; dsimp only; split <;> rfl
  | plantA | plantB | engineering | service => exact sent _

theorem deliverTo_pages (c : Chip) (p : Port) (ip udp : Nat) (bs : List Byte) : (deliverTo c p ip udp bs).pages = c.pages := by
  have sent (q : Port) : (if portAnswers c q then send c (.host q ip udp) bs else c).pages = c.pages := by
    unfold send
    split
    · split <;> rfl
    · rfl
  cases p with
  | backplane => unfold deliverTo; dsimp only; split <;> rfl
  | plantA | plantB | engineering | service => exact sent _

/-- OPEN answers with the session opened (R581). -/
theorem rapOpen_opens {c : Chip} {x : RapIn} {n : Nat} {rest : List Nat} (free : freeSessions c = n :: rest)
    (may : rest ≠ [] ∨ portClass c x.port = 0) (single : x.port = .backplane → barSession c = false) :
    ∃ bs, rapOpen c x =
      deliverTo (openedAs c x.port x.ip x.udp (beAt (rapBody x.bytes) 0 1) n) x.port x.ip x.udp bs := by
  have one : (x.port == .backplane && barSession c) = false := by
    rw [Bool.and_eq_false_imp]
    exact fun back => single (eq_of_beq back)
  unfold rapOpen
  rw [openSession_free free may]
  dsimp only
  rw [one]
  exact ⟨_, rfl⟩

theorem rapOpen_full {c : Chip} {x : RapIn} {n : Nat}
    (full : freeSessions c = [] ∨ (freeSessions c = [n] ∧ portClass c x.port ≠ 0)) :
    rapOpen c x = rapRefuse (raise (modHosts c fun h => { h with noFree := satInc 255 h.noFree }) 0x72 2) x 0x12 := by
  unfold rapOpen
  rw [openSession_full full]

/-- The operations within a session, with their rows. -/
theorem rapCommand_rows (x : RapIn) (s : State) :
    ∀ row ∈ [(0x02, Instr.rapClose), (0x03, .rapNop), (0x10, .rapRead), (0x11, .rapWrite), (0x20, .imageRead),
      (0x21, .imageWrite), (0x30, .stageOpen), (0x31, .stageData), (0x32, .stageClose), (0x41, .attnFilter)],
      row.1 ≠ 0x01 ∧ exec (row.2 x) s = .next (after s (rapCommand s.chip row.1 x)) := by
  simp only [List.forall_mem_cons]
  refine ⟨⟨?_, ?_⟩, ⟨?_, ?_⟩, ⟨?_, ?_⟩, ⟨?_, ?_⟩, ⟨?_, ?_⟩, ⟨?_, ?_⟩, ⟨?_, ?_⟩, ⟨?_, ?_⟩, ⟨?_, ?_⟩, ⟨?_, ?_⟩, nofun⟩ <;>
    solve | decide | (unfold exec; rfl)

theorem arrivalsComplete : Claims.ArrivalsComplete := by
  intro s x n t rest v
  have opens : exec (.rapOpen x) s = .next (after s (rapCommand s.chip 0x01 x)) := by unfold exec; rfl
  have bar (bs : List Byte) : exec (.cmdLen bs .enqueue) s = .next (after s (rapReceive s.chip ⟨.backplane, 0, 0, bs, .enqueue⟩)) := by
    unfold exec; rfl
  have releases : exec (.rspLen v) s = .next (after s (rspLen s.chip v)) := by unfold exec; rfl
  dsimp only
  refine ⟨fun row mem => ?_, fun arrives op good free may single => ?_, fun arrives op good full => ?_,
    fun port ip udp arrives op good peer is named room => ?_, fun shut bs => ?_, fun zero up => ?_, fun not => ?_⟩
  · obtain ⟨other, run⟩ := rapCommand_rows x s row mem
    have comes (arrives : x.phase = .enqueue ∧ takesMessages s.chip x.port = true)
        (op : rapOp x.bytes = row.1 ∨ knownOp (rapOp x.bytes) = false) :
        exec (row.2 x) s = .next (after s (rapArrive s.chip x)) := by
      refine run.trans (next_after_congr ((if_pos ?_).trans (rapReceive_enqueued arrives.1 arrives.2)))
      simpa using op
    refine ⟨fun arrives op good peer is named room => ?_, fun arrives op good peer is full => ?_,
      fun arrives op good stranger => ?_, fun arrives op bad => ?_, fun shut phase => ?_⟩
    · refine (comes arrives (.inl op)).trans (next_after_congr ?_)
      rw [rapArrive_queued good (fun is => other (op.symm.trans is)) peer is room, named]
    · exact (comes arrives (.inl op)).trans (next_after_congr (rapArrive_full good (fun is => other (op.symm.trans is)) peer is full))
    · exact (comes arrives (.inl op)).trans (next_after_congr (rapArrive_stranger good (fun is => other (op.symm.trans is)) stranger))
    · exact (comes arrives op).trans (next_after_congr (rapArrive_bad bad))
    · exact run.trans (next_after_congr (rapCommand_closed shut phase))
  · obtain ⟨bs, runs⟩ := rapOpen_opens (x := x) free may single
    refine ⟨_, opens, ?_⟩
    rw [after_chip, rapCommand_of_op op, rapReceive_enqueued arrives.1 arrives.2, rapArrive_open good op, runs, session,
      attnUpdate_hosts, deliverTo_sessions, openedAs, emit_hosts, raise_hosts, hdr_attnUpdate, hdr, deliverTo_pages, ← hdr,
      hdr_emit _ _ _ _ _ _ _ _ (by decide) (by decide)]
    refine ⟨?_, bitOf_cause_raise _ _ (by decide)⟩
    exact (smFind_smPut ..).trans (if_pos rfl)
  · refine opens.trans (next_after_congr ?_)
    rw [rapCommand_of_op op, rapReceive_enqueued arrives.1 arrives.2, rapArrive_open good op, rapOpen_full full]
    rfl
  · have same : x = ⟨.backplane, 0, 0, x.bytes, .enqueue⟩ := by
      obtain ⟨p, i, u, bs, ph⟩ := x
      obtain ⟨rfl, -⟩ := arrives
      subst port ip udp
      rfl
    refine (bar x.bytes).trans (next_after_congr ?_)
    rw [← same, rapReceive_enqueued arrives.1 arrives.2, rapArrive_queued good op peer is room, named]
  · exact (bar bs).trans (next_after_congr (rapReceive_closed shut nofun))
  · exact releases.trans (next_after_congr (if_pos (by simp [zero, up])))
  · refine releases.trans (next_after_congr (if_neg ?_))
    simpa [Decidable.imp_iff_not_or] using not

/-! ### What ends in time (R573, R582) -/

/-- A record leaves the readers' contexts as they are. -/
theorem ctxs_emit (c : Chip) (p low source : Nat) (p0 p1 p2 p3 : Word) :
    (emit c p low source p0 p1 p2 p3).wake.ctxs = c.wake.ctxs := by
  have at_ (d : Chip) (time : Nat) : (emitAt d time p low source p0 p1 p2 p3).wake.ctxs = d.wake.ctxs := by
    unfold emitAt
    dsimp only
    split
    · rfl
    · rw [raise_wake, queueRefused_wake]
  rw [emit]
  dsimp only
  rw [at_]
  unfold eventTime
  split <;> rfl

/-- An image whose session is gone is abandoned, which leaves sessions and readers. -/
theorem updAbandon_hosts (c : Chip) : (updAbandon c).hosts = c.hosts := by
  unfold updAbandon
  split
  · exact (emit_hosts ..).trans (raise_hosts ..)
  · rfl

theorem ctxs_updAbandon (c : Chip) : (updAbandon c).wake.ctxs = c.wake.ctxs := by
  unfold updAbandon
  split
  · exact (ctxs_emit ..).trans (congrArg WakeSt.ctxs (raise_wake ..))
  · rfl

theorem smFind_smDel_ne {α : Type} (m : SMap α) {i j : Nat} (ne : j ≠ i) : smFind (smDel m i) j = smFind m j := by
  induction m with
  | nil => rfl
  | cons e m ih =>
    obtain ⟨k, w⟩ := e
    unfold smDel
    split
    · next same => rw [ih, smFind, if_neg (same ▸ ne)]
    · rw [smFind, smFind, ih]

section
variable {c : Chip} {n : Nat} {t : Session} (is : session c n = some t) (why : Nat)
include is

/-- What a closed session leaves of the hosts. -/
theorem closeSession_hosts : (closeSession c n why).hosts.sessions = smDel c.hosts.sessions n
    ∧ (closeSession c n why).hosts.expired = c.hosts.expired := by
  unfold closeSession
  rw [is]
  dsimp only
  rw [emit_hosts, raise_hosts]
  split <;> exact ⟨rfl, rfl⟩

theorem closeSession_ctxs : (closeSession c n why).wake.ctxs = smDel c.wake.ctxs n := by
  unfold closeSession
  rw [is]
  dsimp only
  rw [ctxs_emit, raise_wake]
  split <;> rfl

end

/-- A message that has waited too long is taken, counted and answered (R573). -/
theorem cmdTimeout_late {c : Chip} {n : Nat} {t : Session} {w : Waiting} {ws : List Waiting} (is : session c n = some t)
    (queue : t.queue = w :: ws) (late : fld (cfg c 0x72 0x040) 15 0 ≤ w.strokes) :
    cmdTimeout c n =
      (let d := modHosts (modSession c n fun y => { y with queue := ws }) fun h => { h with timeouts := satInc 255 h.timeouts }
      deliverTo (raise d 0x72 3) (portOf t.port) t.ip t.udp (rapMessage d (rapOp w.bytes) n 0x13 (rapSeq w.bytes) [])) := by
  unfold cmdTimeout
  rw [is]
  dsimp only
  rw [queue]
  exact if_neg (Nat.not_lt.mpr late)

theorem cmdTimeout_waits {c : Chip} {n : Nat} {t : Session} {w : Waiting} {ws : List Waiting}
    (not : session c n = none ∨ (session c n = some t ∧ (t.queue = []
      ∨ (t.queue = w :: ws ∧ w.strokes < fld (cfg c 0x72 0x040) 15 0)))) : cmdTimeout c n = c := by
  unfold cmdTimeout
  obtain none_ | ⟨is, empty | ⟨queue, early⟩⟩ := not
  · rw [none_]
  · rw [is]
    dsimp only
    rw [empty]
  · rw [is]
    dsimp only
    rw [queue]
    exact if_pos early

theorem hostTimeoutsComplete : Claims.HostTimeoutsComplete := by
  intro s n t w ws
  have late : exec (.cmdTimeout n) s = .next (after s (cmdTimeout s.chip n)) := by unfold exec; rfl
  have silent : exec (.sessionTimeout n) s = .next (after s (updAbandon (sessionTimeout s.chip n))) := by unfold exec; rfl
  dsimp only
  refine ⟨fun is queue long => ?_, fun not => ?_, fun is => ?_, fun none_ => ?_⟩
  · exact late.trans (next_after_congr (cmdTimeout_late is queue long))
  · exact late.trans (next_after_congr (cmdTimeout_waits not))
  · refine ⟨_, silent, ?_⟩
    have closes : sessionTimeout s.chip n =
        closeSession (modHosts s.chip fun h => { h with expired := satInc 255 h.expired }) n 2 := if_neg (by simp [is])
    have is' : session (modHosts s.chip fun h => { h with expired := satInc 255 h.expired }) n = some t := is
    obtain ⟨sessions, expired⟩ := closeSession_hosts is' 2
    have left (m : Nat) : session (updAbandon (closeSession
        (modHosts s.chip fun h => { h with expired := satInc 255 h.expired }) n 2)) m = smFind (smDel s.chip.hosts.sessions n) m := by
      rw [session, updAbandon_hosts, sessions]
      rfl
    have shown (d : Chip) (m : Nat) : session (attnUpdate d) m = session d m := by rw [session, attnUpdate_hosts, session]
    rw [after_chip, closes]
    refine ⟨?_, fun m ne => ?_, ?_, ?_⟩
    · rw [shown, left, smFind_smDel_same]
    · rw [shown, left, smFind_smDel_ne _ ne]
      rfl
    · rw [attnUpdate_hosts, updAbandon_hosts, expired]
      rfl
    · rw [attnUpdate_wake, ctxs_updAbandon, closeSession_ctxs is', smFind_smDel_same]
  · exact silent.trans (next_after_congr (congrArg updAbandon (if_pos (by simp [none_]))))

/-- Settles O55: what is served in a session, then what arrives, then what ends in time. -/
theorem hostCommandsComplete : Obligations.HostCommandsComplete :=
  ⟨hostOperationsComplete, arrivalsComplete, hostTimeoutsComplete⟩

end Sys2Proof.Machine
end

section
/-!
PROOFS. The Boathouse's sensors, identity and wake recorder (R628 to R658).
-/
namespace Sys2Proof.Machine
open Safety

/-! ### Tables written index by index -/

section
variable {α : Type} {d : α} {key : Nat → Nat} {step : Nat → SMap α → SMap α} {value : Nat → α → α}

/-- A pass that writes only its own key leaves every other. -/
theorem smGet_forN_other (apart : ∀ k m j, j ≠ key k → smGet d (step k m) j = smGet d m j) (m : SMap α) {n j : Nat}
    (ne : ∀ k, k < n → j ≠ key k) : smGet d (forN n step m) j = smGet d m j := by
  induction n with
  | zero => rfl
  | succ n ih => rw [forN_succ, apart _ _ _ (ne n (Nat.lt_succ_self n)), ih fun k lt => ne k (Nat.lt_succ_of_lt lt)]

/-- Each pass writes its own key, from what that key held. -/
theorem smGet_forN_own (apart : ∀ k m j, j ≠ key k → smGet d (step k m) j = smGet d m j)
    (own : ∀ k m, smGet d (step k m) (key k) = value k (smGet d m (key k))) (distinct : ∀ a b, key a = key b → a = b)
    (m : SMap α) {n i : Nat} (lt : i < n) : smGet d (forN n step m) (key i) = value i (smGet d m (key i)) := by
  induction n with
  | zero => exact absurd lt (Nat.not_lt_zero i)
  | succ n ih =>
    rw [forN_succ]
    by_cases last : i = n
    · subst last
      rw [own, smGet_forN_other apart m fun k less same => Nat.ne_of_gt less (distinct _ _ same)]
    · rw [apart _ _ _ fun same => last (distinct _ _ same), ih (by omega)]

end

section
variable {α : Type} [DecidableEq α] {d : α} {key : Nat → Nat} (f : Nat → α) (m : SMap α)

/-- A table filled index by index reads back what each index was given. -/
theorem smGet_forN_smSet (distinct : ∀ a b, key a = key b → a = b) {n i : Nat} (lt : i < n) :
    smGet d (forN n (fun k m => smSet d m (key k) (f k)) m) (key i) = f i :=
  smGet_forN_own (value := fun k _ => f k) (fun _ _ _ ne => smGet_smSet_ne _ _ _ _ ne)
    (fun _ _ => (smGet_smSet ..).trans (if_pos rfl)) distinct m lt

theorem smGet_forN_smSet_ne {n j : Nat} (ne : ∀ k, k < n → j ≠ key k) :
    smGet d (forN n (fun k m => smSet d m (key k) (f k)) m) j = smGet d m j :=
  smGet_forN_other (fun _ _ _ ne => smGet_smSet_ne _ _ _ _ ne) m ne

end

/-! ### Sensors (R188, R628 to R631, R640) -/

/-- What a sensor sample holds, apart from the conditions that rest on it. -/
def measures (c : Chip) : BoatSt := { c.boat with conds := [], outside := [], inside := [] }

theorem measures_of_boat {c d : Chip} (h : c.boat = d.boat) : measures c = measures d := by rw [measures, h, measures]

theorem temp_of_measures {c d : Chip} (h : measures c = measures d) (i : Nat) : tempOf c i = tempOf d i :=
  (congrArg (fun b : BoatSt => smGet 0x8000 b.temps i) h :)

theorem cell_of_measures {c d : Chip} (h : measures c = measures d) : c.boat.cell = d.boat.cell :=
  (congrArg BoatSt.cell h :)

theorem faulted_of_measures {c d : Chip} (h : measures c = measures d) (i : Nat) : sensorFaulted c i = sensorFaulted d i :=
  (congrArg (fun b : BoatSt => smGet false b.faults i) h :)

@[simp] theorem measures_emit (c : Chip) (p low source : Nat) (p0 p1 p2 p3 : Word) :
    measures (emit c p low source p0 p1 p2 p3) = measures c := measures_of_boat (emit_boat ..)

theorem measures_sensorTo (c : Chip) (bit i : Nat) (v : Bool) : measures (sensorTo c bit i v) = measures c := by
  rw [sensorTo]
  rw [measures_emit, measures_of_boat (setCond_boat ..)]
  rfl

/-- A condition's change is held under its own key. -/
theorem sensorHeld_sensorTo (c : Chip) (bit i : Nat) (v : Bool) (b j : Nat) :
    sensorHeld (sensorTo c bit i v) b j = if b * 64 + j = bit * 64 + i then v else sensorHeld c b j := by
  rw [sensorTo]
  rw [sensorHeld, emit_boat, setCond_boat]
  exact smGet_smSet ..

/-- A sensor counts as faulted, the backup cell with its capacitor (R629). -/
def faultNow (c : Chip) (i : Nat) : Bool := sensorFaulted c i || (i == 33 && sensorFaulted c 35)

/-- SENSOR_FAULT of one sensor follows (R629). -/
def faultStep (c : Chip) (i : Nat) : Chip := if faultNow c i = sensorHeld c 8 i then c else sensorTo c 8 i (faultNow c i)

/-- The sensors that can be faulted (R641). -/
def faultPoints : List Nat := List.range 12 ++ [16, 17, 18, 19, 20, 32, 33, 34]

theorem faultConds_eq (c : Chip) : faultConds c = faultPoints.foldl faultStep c := rfl

theorem measures_faultStep (c : Chip) (i : Nat) : measures (faultStep c i) = measures c := by
  rw [faultStep, apply_ite measures, measures_sensorTo, ite_self]

theorem measures_faultConds (c : Chip) : measures (faultConds c) = measures c := by
  rw [faultConds_eq, kept_fold measures measures_faultStep]

theorem faultNow_of_measures {c d : Chip} (h : measures c = measures d) (i : Nat) : faultNow c i = faultNow d i := by
  rw [faultNow, faultNow, faulted_of_measures h, faulted_of_measures h]

theorem sensorHeld_faultStep_same (c : Chip) (i : Nat) : sensorHeld (faultStep c i) 8 i = faultNow c i := by
  unfold faultStep
  split
  · next same => exact same.symm
  · rw [sensorHeld_sensorTo, if_pos rfl]

theorem sensorHeld_faultStep_ne (c : Chip) {i b j : Nat} (ne : b * 64 + j ≠ 8 * 64 + i) :
    sensorHeld (faultStep c i) b j = sensorHeld c b j := by
  unfold faultStep
  split
  · rfl
  · rw [sensorHeld_sensorTo, if_neg ne]

theorem sensorHeld_faultSteps (l : List Nat) (c : Chip) {i : Nat} (listed : i ∈ l) :
    sensorHeld (l.foldl faultStep c) 8 i = faultNow c i := by
  induction l generalizing c with
  | nil => exact absurd listed List.not_mem_nil
  | cons a l ih =>
    rw [List.foldl_cons]
    by_cases later : i ∈ l
    · rw [ih _ later, faultNow_of_measures (measures_faultStep c a)]
    · obtain rfl : i = a := (List.mem_cons.mp listed).resolve_right later
      refine Eq.trans ?_ (sensorHeld_faultStep_same c i)
      clear ih listed
      generalize faultStep c i = d
      induction l generalizing d with
      | nil => rfl
      | cons b l ih =>
        rw [List.foldl_cons, ih fun h => later (List.mem_cons_of_mem _ h), sensorHeld_faultStep_ne]
        intro same
        exact later (by rw [show i = b by omega]; exact List.mem_cons_self)

/-- SENSOR_FAULT stands for exactly the faulted sensors. -/
theorem sensorHeld_faultConds (c : Chip) {i : Nat} (listed : i ∈ faultPoints) : sensorHeld (faultConds c) 8 i = faultNow c i :=
  sensorHeld_faultSteps faultPoints c listed

/-- The conditions below SENSOR_FAULT do not follow it. -/
theorem sensorHeld_faultConds_low (c : Chip) {b j : Nat} (low : b * 64 + j < 8 * 64) :
    sensorHeld (faultConds c) b j = sensorHeld c b j :=
  kept_fold (sensorHeld · b j) (fun d i => sensorHeld_faultStep_ne d (by omega)) faultPoints c

/-- The backup domain's seconds (R631). -/
def seconds (c : Chip) : Nat := c.backup.seconds

theorem seconds_of_bare {c d : Chip} (h : bare c = bare d) : seconds c = seconds d := (congrArg seconds h :)

theorem seconds_sensorTo (c : Chip) (bit i : Nat) (v : Bool) : seconds (sensorTo c bit i v) = seconds c := by
  rw [sensorTo, seconds_of_bare ((bare_emit ..).trans (bare_setCond ..))]
  rfl

theorem seconds_faultStep (c : Chip) (i : Nat) : seconds (faultStep c i) = seconds c := by
  rw [faultStep, apply_ite seconds, seconds_sensorTo, ite_self]

theorem seconds_faultConds (c : Chip) : seconds (faultConds c) = seconds c :=
  kept_fold seconds seconds_faultStep faultPoints c

/-! ### The backup cell -/

/-- The cell's measurement is held (R631), with the seconds in the backup domain. -/
def cellRead (c : Chip) (mv : Option Nat) (secs : Nat) : Chip :=
  modBackup (modBoat c fun b => { b with
    cell := match mv with | some v => min 0xFFFF v | none => 0x8000
    faults := smSet false b.faults 35 mv.isNone }) fun b => { b with seconds := max b.seconds (min 0xFFFFFFFF secs) }

/-- The voltage asks for CELL_LOW (R631). -/
def cellWeak (mv : Option Nat) : Bool := match mv with | some v => decide (v < 2700) | none => false

theorem cellMeasure_eq (c : Chip) (mv : Option Nat) (secs : Nat) : cellMeasure c mv secs =
    if cellWeak mv = sensorHeld (faultConds (cellRead c mv secs)) 7 33 then faultConds (cellRead c mv secs)
    else sensorTo (faultConds (cellRead c mv secs)) 7 33 (cellWeak mv) := rfl

theorem sensorHeld_cellRead (c : Chip) (mv : Option Nat) (secs : Nat) :
    sensorHeld (faultConds (cellRead c mv secs)) 7 33 = sensorHeld c 7 33 :=
  sensorHeld_faultConds_low _ (by decide)

theorem cellLow_cellMeasure (c : Chip) (mv : Option Nat) (secs : Nat) : cellLow (cellMeasure c mv secs) = cellWeak mv := by
  rw [cellMeasure_eq, cellLow]
  split
  · next same => exact same.symm
  · rw [sensorHeld_sensorTo, if_pos rfl]

theorem measures_cellMeasure (c : Chip) (mv : Option Nat) (secs : Nat) :
    measures (cellMeasure c mv secs) = measures (cellRead c mv secs) := by
  rw [cellMeasure_eq, apply_ite measures, measures_sensorTo, ite_self, measures_faultConds]

theorem seconds_cellMeasure (c : Chip) (mv : Option Nat) (secs : Nat) :
    seconds (cellMeasure c mv secs) = seconds (cellRead c mv secs) := by
  rw [cellMeasure_eq, apply_ite seconds, seconds_sensorTo, ite_self, seconds_faultConds]

/-- A cell that does not answer is faulted with its capacitor (R631). -/
theorem sensorHeld_cellMeasure_none (c : Chip) (secs : Nat) : sensorHeld (cellMeasure c none secs) 8 33 = true := by
  have faulted : faultNow (cellRead c none secs) 33 = true := by
    have cell : smGet false (smSet false c.boat.faults 35 true) 35 = true := by rw [smGet_smSet, if_pos rfl]
    replace cell : sensorFaulted (cellRead c none secs) 35 = true := cell
    rw [faultNow, cell]
    exact Bool.or_true _
  have held : sensorHeld (faultConds (cellRead c none secs)) 8 33 = true :=
    (sensorHeld_faultConds _ (by decide)).trans faulted
  rw [cellMeasure_eq]
  split
  · exact held
  · rw [sensorHeld_sensorTo, if_neg (by decide), held]

/-! ### A sample -/

/-- The peaks of the accelerometer's axes. -/
def shocks (x : SensorIn) : List Nat := (x.motion.map (·.1)).getD []

/-- A sample is held (R628, R640). -/
def sampleHeld (c : Chip) (x : SensorIn) : Chip :=
  modBoat c fun b => { b with
    temps := forN 12 (fun k m => smSet 0x8000 m k (pat16 ((x.temps[k]?).join))) b.temps
    peaks := forN 12 (fun k m =>
      let v := pat16 ((x.temps[k]?).join)
      if sense (smGet 0x8000 m k) < sense v then smSet 0x8000 m k v else m) b.peaks
    rails := forN 5 (fun r m => smPut m r (match (x.rails[r]?).join with
      | some (ma, mv) => pack [(min ma 0xFFFF, 31, 16), (min mv 0xFFFF, 15, 0)]
      | none => 0x80008000)) b.rails
    dew := match x.humidity with | some (d, _) => BitVec.ofInt 16 d | none => 0x8000
    rh := match x.humidity with | some (_, h) => BitVec.ofNat 16 h | none => 0x8000
    shockPeak := min 0xFFFF ((shocks x).foldl max b.shockPeak)
    rms := match x.motion with | some (_, r) => min 0xFFFF r | none => 0x8000
    cap := match x.cap with | some v => min 0xFFFF v | none => 0x8000
    faults := sampleFaults x b.faults }

/-- A shock is reported with its axis (R630). -/
def shocked (c : Chip) (ps : List Nat) : Chip :=
  match (List.range 3).find? (fun a => decide (500 < (ps[a]?).getD 0)) with
  | none => c
  | some axis =>
    let c := raise c 0x7A 6
    let (due, c) := rateAllow c (rateKey 0x7A 0xF1 0) 100
    match due with
    | none => c
    | some n => emit c 0x7A 0xF1 axis (BitVec.ofNat 32 ((ps[axis]?).getD 0)) (BitVec.ofNat 32 n) 0 c.stroke.count

theorem sensorSample_eq (c : Chip) (x : SensorIn) :
    sensorSample c x = shocked (faultConds (bandUpdate (countRuns (sampleHeld c x)))) (shocks x) := rfl

theorem rateAllow_boat (c : Chip) (key per : Nat) : (rateAllow c key per).2.boat = c.boat := by
  simp only [rateAllow, apply_ite Prod.snd, apply_ite Chip.boat, ite_self]

theorem shocked_boat (c : Chip) (ps : List Nat) : (shocked c ps).boat = c.boat := by
  unfold shocked
  split
  · rfl
  · dsimp only
    split
    · rw [rateAllow_boat, raise_boat]
    · rw [emit_boat, rateAllow_boat, raise_boat]

/-- A shock above 500 raises its cause. -/
theorem cause_shocked {c : Chip} {ps : List Nat} (hit : ∃ a : Nat, a < 3 ∧ 500 < (ps[a]?).getD 0) :
    bitOf (hdr (shocked c ps) 0x7A).cause 6 = true := by
  unfold shocked
  split
  · next none_ =>
    obtain ⟨a, lt, above⟩ := hit
    exact absurd above (by simpa using List.find?_eq_none.mp none_ a (List.mem_range.mpr lt))
  · next axis _ =>
    have rated (d : Chip) (key per : Nat) : CausesKept d (rateAllow d key per).2 := causesKept_of_pages (rateAllow_pages ..)
    refine cause_of_raised (c := c) ?_ (by decide)
    dsimp only
    split
    · exact rated ..
    · exact (rated ..).trans (causesKept_emit ..)

theorem measures_sensorSample (c : Chip) (x : SensorIn) : measures (sensorSample c x) = measures (sampleHeld c x) := by
  rw [sensorSample_eq, measures_of_boat (shocked_boat ..), measures_faultConds]
  exact measures_of_boat (c := bandUpdate (countRuns (sampleHeld c x))) (d := countRuns (sampleHeld c x)) (setCond_boat ..)

theorem sensorHeld_sensorSample (c : Chip) (x : SensorIn) {i : Nat} (listed : i ∈ faultPoints) :
    sensorHeld (sensorSample c x) 8 i = faultNow (sampleHeld c x) i := by
  rw [sensorSample_eq, sensorHeld, shocked_boat, ← sensorHeld, sensorHeld_faultConds _ listed]
  refine faultNow_of_measures ?_ i
  exact measures_of_boat (c := bandUpdate (countRuns (sampleHeld c x))) (d := countRuns (sampleHeld c x)) (setCond_boat ..)

/-! ### What a sample holds -/

section
variable (c : Chip) (x : SensorIn)

theorem temp_sampleHeld {i : Nat} (lt : i < 12) : tempOf (sampleHeld c x) i = pat16 ((x.temps[i]?).join) :=
  smGet_forN_smSet (key := id) (fun k => pat16 ((x.temps[k]?).join)) c.boat.temps (fun _ _ h => h) lt

/-- The higher of a peak and a new temperature, as their words. -/
def higher (v w : Word) : Word := if sense w < sense v then v else w

theorem sense_higher (v w : Word) : sense (higher v w) = max (sense w) (sense v) := by
  unfold higher
  split <;> omega

theorem peak_sampleHeld {i : Nat} (lt : i < 12) :
    smGet 0x8000 (sampleHeld c x).boat.peaks i = higher (tempOf (sampleHeld c x) i) (smGet 0x8000 c.boat.peaks i) := by
  rw [temp_sampleHeld c x lt]
  refine smGet_forN_own (key := id) (value := fun k => higher (pat16 ((x.temps[k]?).join))) (d := 0x8000) ?_ ?_
    (fun _ _ h => h) c.boat.peaks lt
  · intro k m j ne
    dsimp only
    split
    · exact smGet_smSet_ne _ _ _ _ ne
    · rfl
  · intro k m
    dsimp only [id]
    rw [higher, apply_ite (smGet 0x8000 · k), smGet_smSet, if_pos rfl]

/-- RAILr of one reading (R640). -/
def railWord (reading : Option (Nat × Nat)) : Word :=
  match reading with
  | some (ma, mv) => pack [(min ma 0xFFFF, 31, 16), (min mv 0xFFFF, 15, 0)]
  | none => 0x80008000

theorem rail_sampleHeld {r : Nat} (lt : r < 5) {ma m : Nat} (reads : x.rails[r]? = some (some (ma, m))) :
    railMv (sampleHeld c x) r = min m 0xFFFF := by
  have held : smGet 0 (sampleHeld c x).boat.rails r = railWord ((x.rails[r]?).join) :=
    smGet_forN_own (key := id) (value := fun r _ => railWord ((x.rails[r]?).join))
      (fun k m j ne => (smGet_smPut ..).trans (if_neg ne)) (fun k m => (smGet_smPut ..).trans (if_pos rfl)) (fun _ _ h => h)
      c.boat.rails lt
  rw [railMv, held, reads]
  exact (fld_pack_skip _ ⟨by decide, by decide⟩ ⟨by decide, by decide⟩ (by simp [fieldsApart])).trans
    (fld_pack_take ⟨by decide, by decide⟩ (by omega) nofun)

/-- The last three sensors' marks leave the others. -/
theorem faulted_sampleHeld {i : Nat} (lt : i < 32) : sensorFaulted (sampleHeld c x) i = smGet false (forN 5 (fun r m =>
    smSet false m (16 + r) ((x.rails[r]?).join).isNone) (forN 12 (fun k m =>
      smSet false m k ((x.temps[k]?).join).isNone) c.boat.faults)) i :=
  (smGet_smSet_ne _ _ _ _ (by omega)).trans
    ((smGet_smSet_ne _ _ _ _ (by omega)).trans (smGet_smSet_ne _ _ _ _ (by omega)))

theorem railFaulted_sampleHeld {r : Nat} (lt : r < 5) : sensorFaulted (sampleHeld c x) (16 + r) = ((x.rails[r]?).join).isNone := by
  rw [faulted_sampleHeld c x (by omega)]
  exact smGet_forN_smSet (key := (16 + ·)) (fun r => ((x.rails[r]?).join).isNone) _ (fun _ _ h => Nat.add_left_cancel h) lt

theorem tempFaulted_sampleHeld {i : Nat} (lt : i < 12) : sensorFaulted (sampleHeld c x) i = ((x.temps[i]?).join).isNone := by
  rw [faulted_sampleHeld c x (by omega)]
  refine (smGet_forN_smSet_ne (key := (16 + ·)) _ _ fun k _ => by omega).trans ?_
  exact smGet_forN_smSet (key := id) (fun k => ((x.temps[k]?).join).isNone) _ (fun _ _ h => h) lt

end

theorem temp_listed {i : Nat} (lt : i < 12) : i ∈ faultPoints :=
  List.mem_append_left _ (List.mem_range.mpr lt)

/-- A breakpoint that is kept lost its ARM bit (R188). -/
theorem disarmBps_disarmed (bps : SMap Word) (i : Nat) : bitOf (smGet 0 (disarmBps bps) i) 31 = false := by
  unfold disarmBps
  induction bps with
  | nil => exact BitVec.getLsbD_zero
  | cons e bps ih =>
    rw [List.filterMap_cons]
    split
    · exact ih
    · next kept =>
      dsimp only at kept
      split at kept
      · exact absurd kept nofun
      · obtain rfl := Option.some.inj kept
        unfold smGet
        split
        · rw [bitOf_setBit _ _ _ (by decide), if_pos rfl]
        · exact ih

theorem sensorCommandsComplete : Claims.SensorCommandsComplete := by
  intro s x bit k v mv secs
  have underway : exec (.underwayInput v) s = .next (after s (underwayInput s.chip v)) := by unfold exec; rfl
  have samples : exec (.sensorSample x) s = .next (after s (sensorSample s.chip x)) := by unfold exec; rfl
  have moves (set : Bool) : exec (.sensorState bit k set) s = .next (after s (sensorState s.chip bit k set)) := by
    unfold exec; rfl
  have cell (m : Option Nat) : exec (.cellMeasure m secs) s = .next (after s (cellMeasure s.chip m secs)) := by unfold exec; rfl
  have shown (d : Chip) : measures (attnUpdate d) = measures d := measures_of_boat (attnUpdate_boat d)
  have held (d : Chip) (b i : Nat) : sensorHeld (attnUpdate d) b i = sensorHeld d b i := by
    rw [sensorHeld, attnUpdate_boat, sensorHeld]
  dsimp only
  refine ⟨?_, ?_, fun rises => ?_, fun not => ?_, fun falls => ?_, fun not => ?_, ?_, fun same => ?_, ?_⟩
  · refine ⟨_, underway, ?_⟩
    rw [after_chip, attnUpdate_underway, attnUpdate_ctlP]
    match v with
    | true => exact ⟨rfl, fun _ => disarmBps_disarmed _, nofun⟩
    | false => exact ⟨rfl, nofun, fun _ => rfl⟩
  · refine ⟨_, samples, ?_⟩
    have same := (shown (sensorSample s.chip x)).trans (measures_sensorSample s.chip x)
    have word (b : BoatSt → Nat) (own : ∀ c : Chip, b (measures c) = b c.boat) :
        b (attnUpdate (sensorSample s.chip x)).boat = b (sampleHeld s.chip x).boat := by rw [← own, ← own, same]
    rw [after_chip]
    refine ⟨fun i lt => ⟨?_, ?_⟩, fun r lt ma m reads => ?_, fun r lt => ?_, fun i lt => ?_, fun ps g motion => ⟨?_, fun hit => ?_⟩,
      fun motion => ?_, ?_⟩
    · rw [temp_of_measures same, temp_sampleHeld _ _ lt]
    · have peaks : (attnUpdate (sensorSample s.chip x)).boat.peaks = (sampleHeld s.chip x).boat.peaks :=
        (congrArg BoatSt.peaks same :)
      rw [temp_of_measures same, peaks, peak_sampleHeld _ _ lt, sense_higher]
    · have rails : (attnUpdate (sensorSample s.chip x)).boat.rails = (sampleHeld s.chip x).boat.rails :=
        (congrArg BoatSt.rails same :)
      rw [railMv, rails, ← railMv, rail_sampleHeld _ _ lt reads]
    · rw [faulted_of_measures same, railFaulted_sampleHeld _ _ lt, Option.isNone_iff_eq_none]
    · rw [held, sensorHeld_sensorSample _ _ (temp_listed lt), faultNow, tempFaulted_sampleHeld _ _ lt]
      have other : (i == 33) = false := by simpa using by omega
      rw [other, Bool.false_and, Bool.or_false, Option.isNone_iff_eq_none]
    · refine (word (·.rms) fun _ => rfl).trans ?_
      simp only [sampleHeld, modBoat, motion]
    · rw [hdr_attnUpdate, sensorSample_eq, shocks, motion]
      exact cause_shocked hit
    · refine (word (·.rms) fun _ => rfl).trans ?_
      simp only [sampleHeld, modBoat, motion]
    · exact word (·.cap) fun _ => rfl
  · exact (moves true).trans (next_after_congr ((if_pos rfl).trans (if_pos (by simp [rises]))))
  · refine (moves true).trans (next_after_congr ((if_pos rfl).trans (if_neg ?_)))
    simpa using not
  · exact (moves false).trans (next_after_congr ((if_neg (by decide)).trans (if_pos (by simp [falls]))))
  · refine (moves false).trans (next_after_congr ((if_neg (by decide)).trans (if_neg ?_)))
    simpa using not
  · refine ⟨_, cell _, ?_⟩
    rw [after_chip, cellLow, held, ← cellLow, cellLow_cellMeasure]
    refine ⟨rfl, ?_, ?_⟩
    · exact cell_of_measures ((shown _).trans (measures_cellMeasure s.chip (some mv) secs))
    · have kept : seconds (attnUpdate (cellMeasure s.chip (some mv) secs)) = seconds (cellMeasure s.chip (some mv) secs) :=
        congrArg BackupSt.seconds (attnUpdate_backup _)
      exact kept.trans (seconds_cellMeasure ..)
  · refine (cell _).trans (next_after_congr ?_)
    rw [cellMeasure_eq, sensorHeld_cellRead]
    refine (if_pos same).trans (congrArg faultConds ?_)
    rfl
  · refine ⟨_, cell _, ?_⟩
    rw [after_chip, held, sensorHeld_cellMeasure_none]
    exact ⟨cell_of_measures ((shown _).trans (measures_cellMeasure s.chip none secs)), rfl⟩

/-! ### Identity (R638, R639, R643) -/

/-- An owner command ends with its result (R638). -/
def ownEnded (c : Chip) (cmd len r : Nat) : Chip :=
  let c := modIdent c fun i => { i with busy := none, result := r, window := [] }
  let c := if r = 3 || r = 4 then c else raise c 0x7C 1
  emit c 0x7C 0xF8 cmd (BitVec.ofNat 32 r) (BitVec.ofNat 32 len) (wordAt (ownerDigest c) 0) c.stroke.count

theorem ownerChange_of_busy {c : Chip} {cmd len : Nat} (busy : c.ident.busy = some (cmd, len)) :
    ownerChange c = ownEnded (ownResult c cmd len).2 cmd len (ownResult c cmd len).1 := by
  unfold ownerChange
  rw [busy]
  rfl

theorem ownEnded_ident (c : Chip) (cmd len r : Nat) :
    (ownEnded c cmd len r).ident = { c.ident with busy := none, result := r, window := [] } := by
  unfold ownEnded
  dsimp only
  rw [emit_ident]
  split
  · rfl
  · rw [raise_ident]
    rfl

theorem cause_ownEnded {c : Chip} {cmd len r : Nat} (not3 : r ≠ 3) (not4 : r ≠ 4) :
    bitOf (hdr (ownEnded c cmd len r) 0x7C).cause 1 = true := by
  have fine : (decide (r = 3) || decide (r = 4)) = false := by simp [not3, not4]
  refine cause_of_raised (c := modIdent c fun i => { i with busy := none, result := r, window := [] }) ?_ (by decide)
  unfold ownEnded
  dsimp only
  rw [fine]
  exact causesKept_emit ..

/-- An attestation ends with its result; a key that failed signs nothing (R639, R643). -/
def attestedAs (c : Chip) (r : Nat) (sig : IdSt → List Byte) : Chip :=
  let c := modIdent c fun i => { i with attPending := false, attResult := r, sig := sig i }
  emit (raise c 0x7C 0) 0x7C 0xF9 0xFFFF (BitVec.ofNat 32 c.ident.attResult) (wordAt c.ident.report 3)
    (BitVec.ofNat 32 c.ident.attClass) c.stroke.count

theorem attestedAs_shown (c : Chip) (r : Nat) (sig : IdSt → List Byte) :
    (attestedAs c r sig).ident = { c.ident with attPending := false, attResult := r, sig := sig c.ident }
      ∧ bitOf (hdr (attestedAs c r sig) 0x7C).cause 0 = true := by
  unfold attestedAs
  dsimp only
  rw [emit_ident, raise_ident]
  refine ⟨rfl, cause_of_raised (causesKept_emit ..) (by decide)⟩

theorem attested_signs {c : Chip} (pending : c.ident.attPending = true) (fine : c.ident.keyFault = false) :
    attested c = attestedAs c 1 fun i => keySign (sha256 i.report) := by
  simp only [attested, attestedAs, pending, fine, Bool.not_true, Bool.false_eq_true, if_false]

theorem attested_fails {c : Chip} (pending : c.ident.attPending = true) (bad : c.ident.keyFault = true) :
    attested c = attestedAs c 2 IdSt.sig := by
  simp only [attested, attestedAs, pending, bad, Bool.not_true, Bool.false_eq_true, if_false, if_true]

theorem identityCommandsComplete : Claims.IdentityCommandsComplete := by
  intro s len
  have run : exec .ownerChange s = .next (after s (ownerChange s.chip)) := by unfold exec; rfl
  have signs : exec .attested s = .next (after s (attested s.chip)) := by unfold exec; rfl
  have ends {cmd r : Nat} {cert : Option (List Byte)} {lock : Bool} (busy : s.chip.ident.busy = some (cmd, len))
      (result : (ownResult s.chip cmd len).1 = r)
      (effect : (ownResult s.chip cmd len).2.ident = { s.chip.ident with ownerCert := cert, ownerLock := lock }) :
      ∃ t : State, exec .ownerChange s = .next t
        ∧ t.chip.ident = { s.chip.ident with busy := none, result := r, window := [], ownerCert := cert, ownerLock := lock }
        ∧ (r ≠ 3 → r ≠ 4 → bitOf (hdr t.chip 0x7C).cause 1 = true) := by
    refine ⟨_, run, ?_⟩
    rw [after_chip, attnUpdate_ident, hdr_attnUpdate, ownerChange_of_busy busy, ownEnded_ident, effect, result]
    exact ⟨rfl, cause_ownEnded⟩
  have enrols : ownResult s.chip 1 len = if !certWellFormed (ownBytes s.chip len) then (3, s.chip)
      else if !certKeyP384 (ownBytes s.chip len) then (4, s.chip)
      else (1, modIdent s.chip fun i => { i with ownerCert := some (ownBytes s.chip len) }) := rfl
  dsimp only
  refine ⟨fun bad busy => ?_, fun good key busy => ?_, fun good key busy => ?_, fun busy => ends busy rfl rfl,
    fun busy => ends busy rfl rfl, fun busy => ends busy rfl rfl, fun idle => ?_, fun pending fine => ?_, fun pending bad => ?_,
    fun not => ?_⟩
  · rw [bad] at enrols
    exact ends busy (by rw [enrols]; rfl) (by rw [enrols]; rfl)
  · rw [good, key] at enrols
    exact ends busy (by rw [enrols]; rfl) (by rw [enrols]; rfl)
  · rw [good, key] at enrols
    exact ends busy (by rw [enrols]; rfl) (by rw [enrols]; rfl)
  · refine run.trans (next_after_congr ?_)
    unfold ownerChange
    rw [idle]
  · refine ⟨_, signs, ?_⟩
    rw [after_chip, attnUpdate_ident, hdr_attnUpdate, attested_signs pending fine]
    exact attestedAs_shown ..
  · refine ⟨_, signs, ?_⟩
    rw [after_chip, attnUpdate_ident, hdr_attnUpdate, attested_fails pending bad]
    exact attestedAs_shown ..
  · exact signs.trans (next_after_congr (if_pos (by simp [not])))

end Sys2Proof.Machine
end

section
/-!
PROOFS. The wake recorder (R26, R647 to R651, R657, R658): records enter their queues, the oldest is stored next, and what
is exported ends with its result.
-/
namespace Sys2Proof.Machine
open Safety

/-! ### The queues -/

/-- The records that wait in a queue (R648). -/
def wakeQueue (c : Chip) (q : Nat) : WakeQueue := smGet WakeQueue.empty c.wake.queues q

theorem wakeQueue_of_wake {c d : Chip} (h : c.wake = d.wake) (q : Nat) : wakeQueue c q = wakeQueue d q := by
  rw [wakeQueue, h, wakeQueue]

theorem emitAt_room {c : Chip} {time p low source : Nat} {p0 p1 p2 p3 : Word} (room : (wakeQueue c (wakeQueueOf p)).recs.length < 1024) :
    (emitAt c time p low source p0 p1 p2 p3).wake = { c.wake with
      queues := smSet WakeQueue.empty c.wake.queues (wakeQueueOf p) { wakeQueue c (wakeQueueOf p) with
        recs := (wakeQueue c (wakeQueueOf p)).recs ++ [⟨time, p * 256 + low, source, p0, p1, p2, p3⟩] } } := by
  unfold emitAt
  exact congrArg Chip.wake (if_pos room)

theorem emitAt_full {c : Chip} {time p low source : Nat} {p0 p1 p2 p3 : Word} (full : 1024 ≤ (wakeQueue c (wakeQueueOf p)).recs.length) :
    (emitAt c time p low source p0 p1 p2 p3).wake = { c.wake with
      queues := smSet WakeQueue.empty c.wake.queues (wakeQueueOf p) { wakeQueue c (wakeQueueOf p) with
        lost := satInc 255 (wakeQueue c (wakeQueueOf p)).lost
        firstTime := if (wakeQueue c (wakeQueueOf p)).refused = 0 then time else (wakeQueue c (wakeQueueOf p)).firstTime
        refused := (wakeQueue c (wakeQueueOf p)).refused + 1 } } := by
  unfold emitAt
  refine (congrArg Chip.wake (if_neg (Nat.not_lt.mpr full))).trans ?_
  rw [raise_wake, queueRefused_wake]
  rfl

theorem recordsEnterTheirQueue : Claims.RecordsEnterTheirQueue := by
  intro c time p low source p0 p1 p2 p3
  dsimp only
  by_cases room : (wakeQueue c (wakeQueueOf p)).recs.length < 1024
  · rw [emitAt_room room]
    dsimp only
    rw [smGet_smSet, if_pos rfl]
    exact ⟨fun _ => rfl, fun full => absurd room (Nat.not_lt.mpr full), fun x ne => smGet_smSet_ne _ _ _ _ ne, rfl, rfl⟩
  · rw [emitAt_full (Nat.not_lt.mp room)]
    dsimp only
    rw [smGet_smSet, if_pos rfl]
    exact ⟨fun less => absurd less room, fun _ => ⟨rfl, rfl, rfl⟩, fun x ne => smGet_smSet_ne _ _ _ _ ne, rfl, rfl⟩

/-! ### The oldest record (R647) -/

/-- One queue is looked at for the oldest record. -/
def olderOf (c : Chip) (best : Option (Nat × WakeRec)) (q : Nat) : Option (Nat × WakeRec) :=
  match (smGet WakeQueue.empty c.wake.queues q).recs with
  | [] => best
  | r :: _ => match best with
    | none => some (q, r)
    | some (q', r') => if r.time < r'.time then some (q, r) else some (q', r')

/-- `best` is the oldest record at the heads of the queues `seen`, ties to the first queue; none where all are empty. -/
structure Oldest (c : Chip) (seen : List Nat) (best : Option (Nat × WakeRec)) : Prop where
  held : ∀ q r, best = some (q, r) → q ∈ seen ∧ ∃ rest, (wakeQueue c q).recs = r :: rest
  least : ∀ q r, best = some (q, r) → ∀ p ∈ seen, ∀ x rest, (wakeQueue c p).recs = x :: rest →
    r.time < x.time ∨ (r.time = x.time ∧ q ≤ p)
  empty : best = none → ∀ p ∈ seen, (wakeQueue c p).recs = []

theorem oldest_nil (c : Chip) : Oldest c [] none := ⟨nofun, nofun, nofun⟩

/-- Looking at one more queue, of a higher number, keeps the oldest. -/
theorem Oldest.next {c : Chip} {seen : List Nat} {best : Option (Nat × WakeRec)} (old : Oldest c seen best) {a : Nat}
    (above : ∀ p ∈ seen, p < a) : Oldest c (seen ++ [a]) (olderOf c best a) := by
  unfold olderOf
  have mem (p : Nat) : p ∈ seen ++ [a] ↔ p ∈ seen ∨ p = a := by simp
  cases recs : (wakeQueue c a).recs with
  | nil =>
    rw [show (smGet WakeQueue.empty c.wake.queues a).recs = [] from recs]
    refine ⟨fun q r is => ?_, fun q r is p listed x rest head => ?_, fun none_ p listed => ?_⟩
    · exact ⟨(mem q).mpr (.inl (old.held q r is).1), (old.held q r is).2⟩
    · obtain before | rfl := (mem p).mp listed
      · exact old.least q r is p before x rest head
      · rw [recs] at head
        exact absurd head nofun
    · obtain before | rfl := (mem p).mp listed
      · exact old.empty none_ p before
      · exact recs
  | cons r rs =>
    rw [show (smGet WakeQueue.empty c.wake.queues a).recs = r :: rs from recs]
    cases best with
    | none =>
      refine ⟨fun q s is => ?_, fun q s is p listed x rest head => ?_, nofun⟩
      · cases is
        exact ⟨(mem a).mpr (.inr rfl), rs, recs⟩
      · cases is
        obtain before | rfl := (mem p).mp listed
        · rw [old.empty rfl p before] at head
          exact absurd head nofun
        · rw [recs] at head
          cases head
          exact .inr ⟨rfl, Nat.le_refl _⟩
    | some b =>
      obtain ⟨q', r'⟩ := b
      obtain ⟨seen', rest', head'⟩ := old.held q' r' rfl
      dsimp only
      split
      · next sooner =>
        refine ⟨fun q s is => ?_, fun q s is p listed x rest head => ?_, nofun⟩
        · cases is
          exact ⟨(mem a).mpr (.inr rfl), rs, recs⟩
        · cases is
          obtain before | rfl := (mem p).mp listed
          · have := old.least q' r' rfl p before x rest head
            omega
          · rw [recs] at head
            cases head
            exact .inr ⟨rfl, Nat.le_refl _⟩
      · next later =>
        refine ⟨fun q s is => ?_, fun q s is p listed x rest head => ?_, nofun⟩
        · cases is
          exact ⟨(mem q').mpr (.inl seen'), rest', head'⟩
        · cases is
          obtain before | rfl := (mem p).mp listed
          · exact old.least q' r' rfl p before x rest head
          · rw [recs] at head
            cases head
            have := above q' seen'
            omega

theorem oldest_nextQueue (c : Chip) : Oldest c [56, 57, 58, 59] (nextQueue c) :=
  ((((oldest_nil c).next (a := 56) (by decide)).next (a := 57) (by decide)).next (a := 58) (by decide)).next (a := 59) (by decide)

theorem oldestRecordGoesFirst : Claims.OldestRecordGoesFirst := by
  intro c q r is
  have old := oldest_nextQueue c
  have listed (p : Nat) : p ∈ [56, 57, 58, 59] ↔ p = 56 ∨ p = 57 ∨ p = 58 ∨ p = 59 := by simp
  obtain ⟨seen, head⟩ := old.held q r is
  exact ⟨(listed q).mp seen, head, fun p x rest among => old.least q r is p ((listed p).mpr among) x rest⟩

/-! ### Storing (R647 to R649) -/

/-- The SEQ of the next record stored (R647). -/
def nextSeq (c : Chip) : Word := if c.wake.stored = 0 then 1 else c.wake.head + 1

/-- The record as it is stored: LAUNCH_ARMED shows its own SEQ (R646). -/
def storedAs (c : Chip) (r : WakeRec) : Stored := ⟨nextSeq c, if r.code = 0x7801 then { r with p1 := nextSeq c } else r⟩

theorem storeRecord_wake (c : Chip) (r : WakeRec) : ∃ launch, (storeRecord c r).wake = { c.wake with
    head := nextSeq c
    stored := satInc wakeSlots c.wake.stored
    area := smPut c.wake.area ((nextSeq c).toNat % wakeSlots) (storedAs c r)
    launch := launch } := by
  have same : (if (r.code == 0x7801) = true then { r with p1 := nextSeq c } else r) = (storedAs c r).body :=
    ite_congr (propext beq_iff_eq) (fun _ => rfl) (fun _ => rfl)
  unfold storeRecord
  dsimp only
  rw [← nextSeq, same, apply_ite Chip.wake, raise_wake, ite_self]
  exact ⟨_, rfl⟩

/-- A queue gives up its oldest record (R647). -/
def recordTaken (c : Chip) (q : Nat) : Chip :=
  modWake c fun w => { w with queues := smMod WakeQueue.empty w.queues q fun x => { x with recs := x.recs.drop 1 } }

theorem wakeStore_next {c : Chip} {q : Nat} {r : WakeRec} (on : c.mode.mode ≠ .reset) (next : nextQueue c = some (q, r)) :
    wakeStore c = storeRecord (recordTaken (storeLost c q) q) r := by
  unfold wakeStore
  rw [if_neg on, next]
  rfl

theorem wakeStore_idle {c : Chip} (not : c.mode.mode = .reset ∨ nextQueue c = none) : wakeStore c = c := by
  unfold wakeStore
  obtain off | none_ := not
  · exact if_pos off
  · rw [none_, ite_self]

theorem queues_storeRecord (c : Chip) (r : WakeRec) : (storeRecord c r).wake.queues = c.wake.queues := by
  obtain ⟨launch, wake⟩ := storeRecord_wake c r
  rw [wake]

/-- Taking a queue's oldest record leaves the other queues. -/
theorem wakeQueue_recordTaken (c : Chip) (q p : Nat) : wakeQueue (recordTaken c q) p =
    if p = q then { wakeQueue c q with recs := (wakeQueue c q).recs.drop 1 } else wakeQueue c p := by
  rw [wakeQueue, recordTaken, modWake_wake, smGet_smMod]
  rfl

/-- The LOST record of a queue that refused entries, at its time (R648). -/
def lostRecord (c : Chip) (q : Nat) : WakeRec :=
  ⟨(freshTime c).1, 0x7802, q, BitVec.ofNat 32 (wakeQueue c q).refused, BitVec.ofNat 32 (wakeQueue c q).firstTime,
    BitVec.ofNat 32 ((wakeQueue c q).firstTime / 2 ^ 32), c.stroke.count⟩

/-- The count of refused entries starts anew (R648). -/
def refusalsTold (c : Chip) (q : Nat) : Chip :=
  modWake (freshTime c).2 fun w => { w with queues := smMod WakeQueue.empty w.queues q fun x => { x with refused := 0 } }

theorem storeLost_none {c : Chip} {q : Nat} (none_ : (wakeQueue c q).refused = 0) : storeLost c q = c := if_pos none_

theorem storeLost_some {c : Chip} {q : Nat} (some_ : (wakeQueue c q).refused ≠ 0) :
    storeLost c q = storeRecord (refusalsTold c q) (lostRecord c q) := if_neg some_

theorem wakeQueue_refusalsTold (c : Chip) (q p : Nat) : wakeQueue (refusalsTold c q) p =
    if p = q then { wakeQueue c q with refused := 0 } else wakeQueue c p := by
  rw [wakeQueue, refusalsTold, modWake_wake, smGet_smMod]
  rfl

theorem satInc_wakeSlots_pos (n : Nat) : satInc wakeSlots n ≠ 0 := by
  unfold satInc wakeSlots
  split <;> omega

/-- The slots of two records in a row differ. -/
theorem slot_next_ne (w : Word) : w.toNat % wakeSlots ≠ (w + 1).toNat % wakeSlots := by
  have : (w + 1).toNat = (w.toNat + 1) % 2 ^ 32 := BitVec.toNat_add ..
  unfold wakeSlots
  omega

/-! ### Exports (R657, R658) -/

/-- A record changes nothing of the recorder but its queues. -/
theorem emit_wake (c : Chip) (p low source : Nat) (p0 p1 p2 p3 : Word) :
    ∃ queues, (emit c p low source p0 p1 p2 p3).wake = { c.wake with queues := queues } := by
  have untimed : (eventTime c).2.wake = c.wake := by
    unfold eventTime
    split <;> rfl
  rw [emit]
  dsimp only
  by_cases room : (wakeQueue (eventTime c).2 (wakeQueueOf p)).recs.length < 1024
  · rw [emitAt_room room, untimed]
    exact ⟨_, rfl⟩
  · rw [emitAt_full (Nat.not_lt.mp room), untimed]
    exact ⟨_, rfl⟩

/-- The result of EXPORT: nothing found, no key to sign with, or done (R657). -/
def exportResult (c : Chip) : Nat := if exportRecords c = [] then 3 else if c.ident.keyFault then 2 else 1

/-- The exported records are held, with their header and signature (R657, R658). -/
def exported (c : Chip) : Chip :=
  let header := exportHeader (freshTime c).2 (freshTime c).1 (exportRecords c)
  modWake (freshTime c).2 fun w => { w with
    expResult := exportResult c
    expHeld := (exportRecords c).length
    expHeader := header
    expSig := if exportResult c = 1 then keySign (sha256 header) else []
    expBuf := exportRecords c }

theorem exportDone_of_exporting {c : Chip} (on : exporting c = true) : ∃ a b p1 p2 p3,
    exportDone c = emit (raise (exported c) 0x78 2) 0x78 0x03 a b p1 p2 p3 := by
  unfold exportDone
  rw [on]
  exact ⟨_, _, _, _, _, rfl⟩

theorem exportDone_shown {c : Chip} (on : exporting c = true) :
    exporting (exportDone c) = false ∧ (exportDone c).wake.expBuf = exportRecords c
      ∧ (exportDone c).wake.expHeld = (exportRecords c).length ∧ (exportDone c).wake.expResult = exportResult c
      ∧ bitOf (hdr (exportDone c) 0x78).cause 2 = true := by
  obtain ⟨a, b, p1, p2, p3, runs⟩ := exportDone_of_exporting on
  obtain ⟨queues, wake⟩ := emit_wake (raise (exported c) 0x78 2) 0x78 0x03 a b p1 p2 p3
  have ended : exportResult c ≠ 0xFF := by
    unfold exportResult
    split
    · decide
    · split <;> decide
  rw [runs, exporting, wake, raise_wake]
  exact ⟨beq_eq_false_iff_ne.mpr ended, rfl, rfl, rfl, cause_of_raised (causesKept_emit ..) (by decide)⟩

theorem wakeCommandsComplete : Claims.WakeCommandsComplete := by
  intro s q r
  have stores : exec .wakeRecordStore s = .next (after s (wakeStore s.chip)) := by unfold exec; rfl
  have exports : exec .exportDone s = .next (after s (exportDone s.chip)) := by unfold exec; rfl
  dsimp only
  refine ⟨fun due calm => ?_, fun due lost => ?_, fun not => ?_, fun on => ?_, fun off => ?_⟩
  · obtain ⟨on, next⟩ := due
    refine ⟨_, stores, ?_⟩
    obtain ⟨launch, wake⟩ := storeRecord_wake (recordTaken s.chip q) r
    have queue (p : Nat) : smGet WakeQueue.empty (storeRecord (recordTaken s.chip q) r).wake.queues p =
        wakeQueue (recordTaken s.chip q) p := by rw [queues_storeRecord, wakeQueue]
    rw [after_chip, attnUpdate_wake, wakeStore_next on next, storeLost_none calm]
    refine ⟨⟨?_, fun p ne => ?_⟩, ?_, ?_, ?_⟩
    · rw [queue, wakeQueue_recordTaken, if_pos rfl]
      rfl
    · rw [queue, wakeQueue_recordTaken, if_neg ne]
      rfl
    · rw [wake]
      rfl
    · rw [wake]
      rfl
    · rw [wake]
      exact (smFind_smPut ..).trans (if_pos rfl)
  · obtain ⟨on, next⟩ := due
    refine ⟨_, stores, ?_⟩
    obtain ⟨launch, first⟩ := storeRecord_wake (refusalsTold s.chip q) (lostRecord s.chip q)
    obtain ⟨launch', second⟩ := storeRecord_wake (recordTaken (storeRecord (refusalsTold s.chip q) (lostRecord s.chip q)) q) r
    have queue (p : Nat) : smGet WakeQueue.empty
        (storeRecord (recordTaken (storeRecord (refusalsTold s.chip q) (lostRecord s.chip q)) q) r).wake.queues p =
        wakeQueue (recordTaken (storeRecord (refusalsTold s.chip q) (lostRecord s.chip q)) q) p := by
      rw [queues_storeRecord, wakeQueue]
    have told (p : Nat) : wakeQueue (storeRecord (refusalsTold s.chip q) (lostRecord s.chip q)) p =
        wakeQueue (refusalsTold s.chip q) p := by rw [wakeQueue, queues_storeRecord, wakeQueue]
    have seq : nextSeq (recordTaken (storeRecord (refusalsTold s.chip q) (lostRecord s.chip q)) q) =
        nextSeq (refusalsTold s.chip q) + 1 := by
      have stored : (recordTaken (storeRecord (refusalsTold s.chip q) (lostRecord s.chip q)) q).wake.stored ≠ 0 := by
        rw [recordTaken, modWake_wake, first]
        exact satInc_wakeSlots_pos _
      rw [nextSeq, if_neg stored, recordTaken, modWake_wake, first]
    rw [after_chip, attnUpdate_wake, wakeStore_next on next, storeLost_some lost]
    refine ⟨⟨?_, fun p ne => ?_⟩, ?_, ?_, storedAs (refusalsTold s.chip q) (lostRecord s.chip q), ?_, rfl, rfl, rfl, rfl⟩
    · rw [queue, wakeQueue_recordTaken, if_pos rfl, told, wakeQueue_refusalsTold, if_pos rfl]
      rfl
    · rw [queue, wakeQueue_recordTaken, if_neg ne, told, wakeQueue_refusalsTold, if_neg ne]
      rfl
    · rw [second]
      exact seq
    · rw [queue, wakeQueue_recordTaken, if_pos rfl, told, wakeQueue_refusalsTold, if_pos rfl]
    · rw [second]
      dsimp only
      rw [seq, smFind_smPut]
      refine (if_neg (slot_next_ne _)).trans ?_
      rw [recordTaken, modWake_wake, first]
      exact (smFind_smPut ..).trans (if_pos rfl)
  · exact stores.trans (next_after_congr (wakeStore_idle not))
  · refine ⟨_, exports, ?_⟩
    rw [after_chip, attnUpdate_wake, exporting, attnUpdate_wake, hdr_attnUpdate]
    exact exportDone_shown on
  · exact exports.trans (next_after_congr (if_pos (by simp [off])))

/-- Settles O59: sensors, identity, the wake recorder, the order of its queues and the entries into them. -/
theorem boathouseCommandsComplete : Obligations.BoathouseCommandsComplete :=
  ⟨sensorCommandsComplete, identityCommandsComplete, wakeCommandsComplete, oldestRecordGoesFirst, recordsEnterTheirQueue⟩

end Sys2Proof.Machine
end

section
/-!
PROOFS. What every change of mode leaves: the causes that stand (R54), and the update (R673).
-/
namespace Sys2Proof.Machine
open Safety

/-! ### Causes across a change of mode -/

theorem CausesKept.pages {c d e : Chip} (kept : CausesKept c d) (same : e.pages = d.pages) : CausesKept c e :=
  kept.trans (causesKept_of_pages same)

theorem causesKept_zwConds (c : Chip) : CausesKept c (zwConds c) := (causesKept_setCond ..).trans (causesKept_setCond ..)

theorem causesKept_zwTo (c : Chip) (k st : Nat) : CausesKept c (zwTo c k st) := by
  have set_ (f : ZwConn → ZwConn) : CausesKept c (modZw c k f) := causesKept_of_pages rfl
  exact causesKept_ite (set_ _) ((set_ _).trans (causesKept_emit ..))

theorem causesKept_zwWaiting (c : Chip) : CausesKept c (zwWaiting c) :=
  (causesKept_forN (fun k d => causesKept_ite (causesKept_zwTo d k 1) causesKept_rfl) 256 c).trans (causesKept_zwConds _)

/-! #### Crews, loops and heats -/

theorem causesKept_startCrew (c : Chip) (cr : Crew) : CausesKept c (startCrew c cr) := by
  unfold startCrew
  dsimp only
  split
  · exact causesKept_stopCrew ..
  · exact ((causesKept_stopCrew ..).pages (modCrew_pages ..)).pages (modCtl_pages ..)

theorem causesKept_resumeCrew (c : Chip) (cr : Crew) : CausesKept c (resumeCrew c cr) := by
  unfold resumeCrew
  dsimp only
  split
  · exact causesKept_stopCrew ..
  · exact ((causesKept_stopCrew ..).pages (modCrew_pages ..)).pages (modCtl_pages ..)

theorem causesKept_crewTakesOver (c : Chip) (cr : Crew) : CausesKept c (crewTakesOver c cr) :=
  (causesKept_of_pages (modCrew_pages ..)).trans (causesKept_resumeCrew ..)

theorem causesKept_noLeaderChanges (old : SMap HeatSt) (c : Chip) : CausesKept c (noLeaderChanges old c) := by
  refine (causesKept_foldl (fun d x => ?_) old c).trans (causesKept_setCond ..)
  exact causesKept_ite (causesKept_setCond ..) ((causesKept_setCond ..).trans (causesKept_emit ..))

theorem pages_modHeat (c : Chip) (h : Nat) (f : HeatSt → HeatSt) : (modHeat c h f).pages = c.pages := rfl
theorem pages_modLoop (c : Chip) (e j : Nat) (f : LoopSt → LoopSt) : (modLoop c e j f).pages = c.pages := rfl
theorem pages_modOut (c : Chip) (o : Nat) (f : SafeOut → SafeOut) : (modOut c o f).pages = c.pages := rfl
theorem pages_modDig (c : Chip) (ch : Nat) (f : DigCh → DigCh) : (modDig c ch f).pages = c.pages := rfl

theorem causesKept_startHeats (c : Chip) : CausesKept c (startHeats c) := by
  have fresh : ((allHeats c).foldl (fun c b => modHeat c b.no freshHeat) c).pages = c.pages :=
    kept_fold Chip.pages (fun d b => pages_modHeat d b.no freshHeat) (allHeats c) c
  exact ((causesKept_of_pages fresh).trans (causesKept_noLeaderChanges ..)).trans (causesKept_setCond ..)

theorem pages_startLoops (c : Chip) (e : Nat) : (startLoops c e).pages = c.pages := by
  unfold startLoops
  split
  · rfl
  · exact kept_fold Chip.pages (fun d b => pages_modLoop d e b.com.no (freshLoop b)) _ c

theorem causesKept_startAll (c : Chip) : CausesKept c (startHeats (forN 10 (fun e c => startLoops c e) c)) :=
  (causesKept_of_pages (kept_forN Chip.pages (fun e d => pages_startLoops d e) 10 c)).trans (causesKept_startHeats _)

theorem causesKept_loopsTakeOver (c : Chip) : CausesKept c (loopsTakeOver c) := by
  have loops (l : List (Nat × LoopBlock)) (d : Chip) : (l.foldl (fun c (e, b) => match smFind c.mirror.loopSnap (e * 64 + b.com.no) with
      | some v => modLoop c e b.com.no (resumeLoop c b v)
      | none => c) d).pages = d.pages := by
    refine kept_fold Chip.pages (fun d x => ?_) l d
    dsimp only
    split
    · exact pages_modLoop ..
    · rfl
  have heats (l : List HeatBlock) (d : Chip) : (l.foldl (fun c b => match smFind c.mirror.heatSnap b.no with
      | some v => modHeat c b.no (resumeHeat c.stroke.t0 v)
      | none => c) d).pages = d.pages := by
    refine kept_fold Chip.pages (fun d x => ?_) l d
    split
    · exact pages_modHeat ..
    · rfl
  have alerts (d : Chip) : CausesKept d (forN 10 (fun e c => alertCond c e) d) :=
    causesKept_forN (fun e d => causesKept_setCond ..) 10 d
  exact (((((causesKept_startAll c).pages (loops ..)).pages (heats ..)).trans (alerts _)).trans
    (causesKept_noLeaderChanges ..)).trans (causesKept_setCond ..)

/-! #### Outputs -/

theorem causesKept_groupConds (c : Chip) (g : Nat) : CausesKept c (groupConds c g) :=
  (causesKept_setCond ..).trans ((causesKept_setCond ..).trans ((causesKept_setCond ..).trans ((causesKept_setCond ..).trans
    ((causesKept_setCond ..).trans ((causesKept_setCond ..).trans (causesKept_setCond ..))))))

theorem causesKept_recordFlags (ch : Nat) (c : Chip) : CausesKept c (recordFlags ch c) := by
  have current (d : Chip) : (stageCurrent d ch).2.pages = d.pages := by
    unfold stageCurrent
    split <;> rfl
  have set_ (f : DigCh → DigCh) : CausesKept c (modDig c ch f) := causesKept_of_pages rfl
  unfold recordFlags
  dsimp only
  refine causesKept_ite causesKept_rfl (CausesKept.trans ?_ (causesKept_forN (fun b d => ?_) 7 _))
  · exact causesKept_ite (((set_ _).pages (current _)).trans (causesKept_emit ..)) (set_ _)
  · exact causesKept_ite (causesKept_emit ..) causesKept_rfl

theorem causesKept_digRefresh (c : Chip) (g : Nat) : CausesKept c (digRefresh c g) :=
  (causesKept_forN (fun i d => causesKept_recordFlags (12 * g + i) d) 12 c).trans (causesKept_groupConds ..)

theorem pages_digCommit (c : Chip) (ch : Nat) (v : Bool) : (digCommit c ch v).pages = c.pages := by
  have cooled (d : Chip) (b : Bool) : (if b then ((freshNat d).1 % 2 == 1, (freshNat d).2) else (true, d)).2.pages = d.pages := by
    split <;> rfl
  unfold digCommit
  dsimp only
  split
  · exact pages_modDig ..
  · rw [pages_modDig]
    exact cooled c _

theorem pages_openSafety (c : Chip) : (openSafety c).pages = c.pages :=
  kept_forN Chip.pages (fun o d => pages_modOut d o _) 8 c

theorem pages_noteEdges (before c : Chip) : (noteEdges before c).pages = c.pages := rfl

theorem pages_outputsOff (c : Chip) : (outputsOff c).pages = c.pages := by
  have switches (d : Chip) : (forN 8 (fun o c => modOut c o fun s => { s with high := false, low := false }) d).pages = d.pages :=
    kept_forN Chip.pages (fun o d => pages_modOut d o _) 8 d
  have channels (d : Chip) : (forN 48 (fun ch c => modDig c ch fun s => { s with commit := false }) d).pages = d.pages :=
    kept_forN Chip.pages (fun ch d => pages_modDig d ch _) 48 d
  rw [outputsOff, pages_noteEdges, switches, pages_openSafety, channels]

theorem causesKept_applyPaired (c : Chip) : CausesKept c (applyPaired c) := by
  have channels (d : Chip) : (forN 4 (fun g c => (groupOutputs c g).foldl (fun c ch =>
      if digPaired c ch then digCommit c ch (pairedState c ch) else c) c) d).pages = d.pages := by
    refine kept_forN Chip.pages (fun g d => kept_fold Chip.pages (fun d ch => ?_) _ d) 4 d
    split
    · exact pages_digCommit ..
    · rfl
  have switches (f : Nat → Chip → SafeOut → SafeOut) (d : Chip) :
      (forN 8 (fun o c => if safetyPaired c o then modOut c o (f o c) else c) d).pages = d.pages := by
    refine kept_forN Chip.pages (fun o d => ?_) 8 d
    split
    · exact pages_modOut ..
    · rfl
  refine causesKept_ite causesKept_rfl ?_
  refine CausesKept.trans (causesKept_of_pages ?_) (causesKept_forN (fun g d => causesKept_digRefresh d g) 4 _)
  rw [pages_noteEdges]
  exact (switches (fun o c s =>
    let on := recordDriven c o
    { s with high := on && c.seat.outStates.high.getLsbD o && (digFs c (2 + o / 4)).state != 2
             low := on && c.seat.outStates.low.getLsbD o && !s.lowOpen && (digFs c (2 + o / 4)).state != 2 }) _).trans
    (channels c)

theorem pages_sendDown (c : Chip) (i : Nat) (k : DownKind) : (sendDown c i k).pages = c.pages := by
  unfold sendDown
  split <;> rfl

theorem pages_sendCommand (c : Chip) (i : Nat) (nA : Int) : (sendCommand c i nA).pages = c.pages := by
  unfold sendCommand
  dsimp only
  rw [pages_sendDown]
  unfold trimOut roundFree
  dsimp only
  split <;> rfl

theorem pages_writeSink (c : Chip) (b : Binding) (u : Int) : (writeSink c b u).pages = c.pages := by
  unfold writeSink
  split
  · rfl
  · unfold loopCommand
    split
    · rfl
    · rw [pages_sendCommand]
      rfl
  · rfl
  · rfl

theorem pages_resumeSink (c : Chip) (b : Binding) (u : Int) : (resumeSink c b u).pages = c.pages := by
  unfold resumeSink
  split
  · split <;> rfl
  · exact pages_writeSink ..

theorem causesKept_sinkDigital (c : Chip) (ch : Nat) (on : Bool) : CausesKept c (sinkDigital c ch on) :=
  causesKept_ite causesKept_rfl
    ((causesKept_of_pages ((pages_noteEdges ..).trans (pages_digCommit ..))).trans (causesKept_digRefresh ..))

theorem causesKept_sinksTakeOver (c : Chip) : CausesKept c (sinksTakeOver c) := by
  have resumed (d : Chip) (b : Binding) (u : Int) : CausesKept d (resumeSink d b u) := causesKept_of_pages (pages_resumeSink ..)
  exact (causesKept_foldl (fun d x => causesKept_ite (causesKept_sinkDigital ..) (resumed ..)) _ c).trans
    (causesKept_foldl (fun d b => causesKept_ite causesKept_rfl (resumed ..)) _ _)

/-! #### The seat -/

theorem pages_modObj (c : Chip) (n o : Nat) (f : ObjSt → ObjSt) : (modObj c n o f).pages = c.pages := rfl

theorem causesKept_canTakeSeat (c : Chip) : CausesKept c (canTakeSeat c) := by
  have cleared (n : Nat) (l : List Nat) (d : Chip) : (l.foldl (fun c o => modObj c n o fun s =>
      { s with pending := none, tx := none, next := none }) d).pages = d.pages :=
    kept_fold Chip.pages (fun d o => pages_modObj d n o _) l d
  refine causesKept_forN (fun n d => ?_) 16 c
  refine causesKept_ite causesKept_rfl ?_
  exact causesKept_ite ((causesKept_of_pages (cleared ..)).trans (causesKept_canTo ..)) (causesKept_of_pages (cleared ..))

theorem causesKept_takeSeat (c : Chip) (cause : Nat) (ckpt : Word) : CausesKept c (takeSeat c cause ckpt) := by
  have gap : (takeoverGap c cause).2.pages = c.pages := by
    unfold takeoverGap
    split <;> rfl
  unfold takeSeat
  dsimp only
  refine ((causesKept_of_pages ?_).trans (causesKept_raise ..)).trans (causesKept_emit ..)
  rw [modPairCnt_pages, modSeat_pages, gap]

theorem causesKept_runFromStop (c : Chip) : CausesKept c (runFromStop c) := by
  have epoch (d : Chip) : CausesKept d (writeEpoch d) := causesKept_of_pages rfl
  have seat : CausesKept c (seated c) :=
    causesKept_ite ((epoch c).trans ((causesKept_takeSeat ..).trans (causesKept_canTakeSeat _))) causesKept_rfl
  have crews := seat.trans ((causesKept_startCrew _ .safety).trans (causesKept_startCrew _ .process))
  have firstTf (d : Chip) (x : SafetySt) : CausesKept d { d with safety := x } := causesKept_of_pages rfl
  exact (crews.trans (causesKept_startAll _)).trans (firstTf _ _)

theorem causesKept_runFromTakeover (c : Chip) : CausesKept c (runFromTakeover c) := by
  have linked : CausesKept c (linkRestarted c) := causesKept_of_pages rfl
  have viewed (d : Chip) (cr : Crew) : (commitView d cr).pages = d.pages := by cases cr <;> rfl
  have switches (d : Chip) : (switchesTakeOver d).pages = d.pages := kept_forN Chip.pages (fun o d => pages_modOut d o _) 8 d
  have latched (d : Chip) (x : Img) (k : StrokeSt) : CausesKept d (switchesTakeOver (loopsTakeOver (commitView (commitView
      { d with latch := x, stroke := k } .safety) .process))) := by
    refine CausesKept.pages (CausesKept.trans (causesKept_of_pages ?_) (causesKept_loopsTakeOver _)) (switches _)
    rw [viewed, viewed]
  have crews := linked.trans ((causesKept_crewTakesOver _ .safety).trans (causesKept_crewTakesOver _ .process))
  exact crews.trans ((latched _ _ _).trans ((causesKept_takeSeat ..).trans
    ((causesKept_canTakeSeat _).trans (causesKept_sinksTakeOver _))))

theorem pages_send (c : Chip) (line : Line) (bs : List Byte) : (send c line bs).pages = c.pages := by
  unfold send
  split <;> rfl

theorem pages_sendRecord (c : Chip) (type : Nat) (k : Word) (bs : List Byte) : (sendRecord c type k bs).pages = c.pages := by
  have lane : (recordLane c).2.pages = c.pages := by
    unfold recordLane
    split
    · rfl
    · split <;> rfl
  unfold sendRecord
  split
  · exact (pages_send ..).trans lane
  · rfl

theorem causesKept_enterStandby (c : Chip) (handed : Bool) (old : Mode) : CausesKept c (enterStandby c handed old) := by
  have recorded (d : Chip) (type : Nat) (k : Word) (bs : List Byte) : CausesKept d (sendRecord d type k bs) :=
    causesKept_of_pages (pages_sendRecord ..)
  have mirror (d : Chip) (f : MirrorSt → MirrorSt) : CausesKept d (modMirror d f) := causesKept_of_pages rfl
  have seat (d : Chip) (f : SeatSt → SeatSt) : CausesKept d (modSeat d f) := causesKept_of_pages rfl
  have asked (d : Chip) : CausesKept d (sendSyncReq d) := (mirror ..).trans (recorded ..)
  unfold enterStandby
  dsimp only
  exact ((seat _ _).trans (mirror _ _)).trans (causesKept_ite causesKept_rfl (asked _))

theorem causesKept_closeSession (c : Chip) (n why : Nat) : CausesKept c (closeSession c n why) := by
  unfold closeSession
  split
  · exact causesKept_rfl
  · have hosts (e : Chip) (f : HostSt → HostSt) : CausesKept e (modHosts e f) := causesKept_of_pages rfl
    have late (e : Chip) (w : WakeSt) (k : StrokeSt) : CausesKept e { e with wake := w, stroke := k } := causesKept_of_pages rfl
    dsimp only
    exact ((((hosts _ _).trans (late _ _ _)).trans (causesKept_ite (hosts _ _) causesKept_rfl)).trans (causesKept_raise ..)).trans
      (causesKept_emit ..)

theorem causesKept_resetFlush (c : Chip) : CausesKept c (resetFlush c) := by
  have flushed (f : ResetIn → ResetIn) : CausesKept c (modReset c f) := causesKept_of_pages rfl
  exact (flushed _).trans (causesKept_foldl (fun d h => causesKept_emit d ..) _ _)

theorem causesKept_stnsAbsent (c : Chip) (l : Nat) : CausesKept c (stnsAbsent c l) := by
  have conds (d : Chip) : CausesKept d (linkConds d l) :=
    (causesKept_setCond ..).trans ((causesKept_setCond ..).trans ((causesKept_setCond ..).trans
      ((causesKept_setCond ..).trans (causesKept_setCond ..))))
  have absent (d : Chip) (a : Nat) (f : StnSt → StnSt) : CausesKept d (modStn d l a f) := causesKept_of_pages rfl
  exact (causesKept_foldl (fun d a => absent d a _) _ c).trans (conds _)

/-- What a change of mode does on entry clears no cause. -/
theorem causesKept_modeEntry (c : Chip) (old m : Mode) (row : Nat) : CausesKept c (modeEntry c old m row) := by
  have seat (d : Chip) (f : SeatSt → SeatSt) : CausesKept d (modSeat d f) := causesKept_of_pages rfl
  have left (d : Chip) : CausesKept d (leaveSeat d) := seat ..
  have stopped (d : Chip) : CausesKept d (stopCrews d) := (causesKept_stopCrew ..).trans (causesKept_stopCrew ..)
  have opens (d : Chip) : CausesKept d (openSafety d) := causesKept_of_pages (pages_openSafety d)
  unfold modeEntry
  refine CausesKept.trans ?_ (causesKept_forN causesKept_canSync 16 _)
  cases m with
  | run =>
    cases old with
    | stop | config => exact (causesKept_runFromStop c).trans (causesKept_zwWaiting _)
    | takeover => exact (causesKept_runFromTakeover c).trans (causesKept_zwConds _)
    | _ => exact causesKept_zwWaiting c
  | stop => exact ((stopped c).trans (causesKept_inhibitGroups _)).trans (causesKept_zwWaiting _)
  | config =>
    exact (((((left c).trans (opens _)).trans (stopped _)).trans (causesKept_inhibitGroups _)).trans (causesKept_zwWaiting _)).trans
      (causesKept_forN (fun l d => causesKept_stnsAbsent d l) 32 _)
  | safeHalt => exact ((stopped c).trans (causesKept_inhibitGroups _)).trans (seat ..)
  | standby =>
    exact ((((left c).trans (stopped _)).trans (causesKept_enterStandby ..)).trans (causesKept_applyPaired _)).trans (opens _)
  | takeover => exact seat ..
  | activate =>
    exact ((causesKept_resetFlush c).trans (left _)).trans (causesKept_forN (fun n d => causesKept_closeSession d n 3) 16 _)
  | dormant => exact ((causesKept_resetFlush c).trans (left _)).pages (pages_outputsOff _)
  | hold | reset | boot | unaddressed => exact causesKept_rfl

/-- A change of mode clears no cause. -/
theorem causesKept_enterMode (c : Chip) (m : Mode) (row : Nat) : CausesKept c (enterMode c m row) := by
  by_cases here : c.mode.mode = m
  · rw [enterMode_of_eq row here]
    exact causesKept_rfl
  · rw [enterMode_of_ne row here]
    exact (((causesKept_modeLeft c m).trans (causesKept_changeMode _ m row)).trans (causesKept_modeEntry ..)).trans
      (causesKept_pairConds _)

/-! ### The update across a change of mode -/

theorem upd_of_deck {c d : Chip} (h : deck c = deck d) : c.upd = d.upd :=
  (congrArg Chip.upd h : (deck c).upd = (deck d).upd)

theorem upd_of_inner {c d : Chip} (h : inner c = inner d) : c.upd = d.upd := upd_of_deck (deck_of_inner h)

theorem upd_pairConds (c : Chip) : (pairConds c).upd = c.upd :=
  (upd_of_inner (inner_pairConds c)).trans (modPairCnt_upd ..)

theorem upd_takeSeat (c : Chip) (cause : Nat) (ckpt : Word) : (takeSeat c cause ckpt).upd = c.upd := by
  have gap : (takeoverGap c cause).2.upd = c.upd := by
    unfold takeoverGap
    split <;> rfl
  simp only [takeSeat, emit_upd, raise_upd, modPairCnt_upd, modSeat_upd, gap]

theorem upd_seated (c : Chip) : (seated c).upd = c.upd := by
  have written (d : Chip) : (writeEpoch d).upd = d.upd := modBackup_upd ..
  have cans (d : Chip) : (canTakeSeat d).upd = d.upd := upd_of_inner (inner_canTakeSeat d)
  simp only [seated, apply_ite Chip.upd, cans, upd_takeSeat, written, ite_self]

theorem upd_runFromStop (c : Chip) : (runFromStop c).upd = c.upd :=
  (upd_of_deck (deck_runFromStop c)).trans (upd_seated c)

theorem upd_takenOver (c : Chip) : (takenOver c).upd = c.upd := by
  obtain ⟨k, same⟩ := deck_takenOver c
  rw [upd_of_deck same, linkRestarted, modPairCnt_upd, modMirror_upd]

theorem upd_runFromTakeover (c : Chip) : (runFromTakeover c).upd = c.upd :=
  (upd_of_inner (inner_runFromTakeover c)).trans ((upd_takeSeat ..).trans (upd_takenOver c))

theorem upd_leaveStandby (c : Chip) : (leaveStandby c).upd = c.upd := by
  have restored : (paddleRestore c).upd = c.upd := upd_of_deck (deck_paddleRestore c)
  simp only [leaveStandby, modMirror_upd, apply_ite Chip.upd, restored, ite_self]

theorem upd_enterStandby (c : Chip) (handed : Bool) (old : Mode) : (enterStandby c handed old).upd = c.upd := by
  have asked (d : Chip) : (sendSyncReq d).upd = d.upd :=
    (upd_of_inner (inner_sendRecord ..)).trans (modMirror_upd ..)
  simp only [enterStandby, apply_ite Chip.upd, asked, modMirror_upd, modSeat_upd, ite_self]

theorem upd_closeSession (c : Chip) (n why : Nat) : (closeSession c n why).upd = c.upd := by
  unfold closeSession
  split
  · rfl
  · simp only [emit_upd, raise_upd, apply_ite Chip.upd, modHosts_upd, ite_self]

theorem upd_modeEntry (c : Chip) (old m : Mode) (row : Nat) : (modeEntry c old m row).upd = c.upd := by
  have stopped (d : Chip) : (stopCrews d).upd = d.upd := upd_of_deck (deck_stopCrews d)
  have waiting (d : Chip) : (zwWaiting d).upd = d.upd := upd_of_inner (inner_zwWaiting d)
  have conds (d : Chip) : (zwConds d).upd = d.upd := upd_of_inner (inner_zwConds d)
  have inhibited (d : Chip) : (inhibitGroups d).upd = d.upd := upd_of_inner (inner_inhibitGroups d)
  have opens (d : Chip) : (openSafety d).upd = d.upd := upd_of_inner (inner_openSafety d)
  have applied (d : Chip) : (applyPaired d).upd = d.upd := upd_of_inner (inner_applyPaired d)
  have flushed (d : Chip) : (resetFlush d).upd = d.upd := upd_of_inner (inner_resetFlush d)
  have off (d : Chip) : (outputsOff d).upd = d.upd := upd_of_inner (inner_outputsOff d)
  have left (d : Chip) : (leaveSeat d).upd = d.upd := modSeat_upd ..
  have closed (d : Chip) : (closeAll d 3).upd = d.upd := kept_forN Chip.upd (fun n d => upd_closeSession d n 3) 16 d
  have absent (d : Chip) : (forN 32 (fun l c => stnsAbsent c l) d).upd = d.upd :=
    kept_forN Chip.upd (fun l d => upd_of_inner (inner_stnsAbsent d l)) 32 d
  unfold modeEntry
  rw [upd_of_inner (inner_canSyncAll _)]
  cases m
  case run => cases old <;> simp only [waiting, conds, upd_runFromStop, upd_runFromTakeover]
  all_goals simp only [absent, waiting, inhibited, stopped, opens, left, modSeat_upd, applied, upd_enterStandby, closed,
    flushed, off]

/-- A change of mode leaves the update and the slots (R673). -/
theorem upd_enterMode (c : Chip) (m : Mode) (row : Nat) : (enterMode c m row).upd = c.upd := by
  by_cases here : c.mode.mode = m
  · rw [enterMode_of_eq row here]
  · have sampling (d : Chip) : (stopSampling d).upd = d.upd := upd_of_deck (deck_stopSampling d)
    have left : (modeLeft c m).upd = c.upd := by
      simp only [modeLeft, apply_ite Chip.upd, sampling, upd_leaveStandby, ite_self]
    have other : (modeLeft c m).mode.mode ≠ m := by rwa [modeLeft_mode]
    rw [enterMode_of_ne row here, upd_pairConds, upd_modeEntry, upd_of_inner (inner_changeMode row other)]
    exact left

/-! ### Sessions across a change of mode -/

theorem session_of_inner {c d : Chip} (h : inner c = inner d) (k : Nat) : session c k = session d k :=
  (congrArg (session · k) h : session (inner c) k = session (inner d) k)

theorem session_of_hosts {c d : Chip} (h : c.hosts = d.hosts) (k : Nat) : session c k = session d k := by
  rw [session, h, session]

theorem session_pairConds (c : Chip) (k : Nat) : session (pairConds c) k = session c k :=
  (session_of_inner (inner_pairConds c) k).trans (session_of_hosts (modPairCnt_hosts ..) k)

theorem session_closeSession (c : Chip) (n why k : Nat) :
    session (closeSession c n why) k = if k = n then none else session c k := by
  cases is : session c n with
  | none =>
    have same : closeSession c n why = c := by rw [closeSession, is]
    rw [same]
    split
    · next here => rw [here, is]
    · rfl
  | some t =>
    rw [session, (closeSession_hosts is why).1]
    split
    · next here => rw [here, smFind_smDel_same]
    · next ne => rw [smFind_smDel_ne _ ne, session]

theorem session_closeAll (c : Chip) (why : Nat) {k : Nat} (lt : k < 16) : session (closeAll c why) k = none := by
  refine forN_holds (holds := fun d => session d k = none) lt (fun d => ?_) (fun n d none_ => ?_) c
  · rw [session_closeSession, if_pos rfl]
  · rw [session_closeSession, none_, ite_self]

/-- Entering ACTIVATE closes every session (R563). -/
theorem sessions_enterActivate {c : Chip} (row : Nat) (other : c.mode.mode ≠ .activate) {k : Nat} (lt : k < 16) :
    session (enterMode c .activate row) k = none := by
  have entry (d : Chip) (old : Mode) : modeEntry d old .activate row = canSyncAll (closeAll (leaveSeat (resetFlush d)) 3) := rfl
  rw [enterMode_of_ne row other, session_pairConds, entry, session_of_inner (inner_canSyncAll _), session_closeAll _ 3 lt]

end Sys2Proof.Machine
end

section
/-!
PROOFS. The firmware update (R667 to R675): blocks land, an image is verified, and ACTIVATE is entered and left.
-/
namespace Sys2Proof.Machine
open Safety

/-! ### Blocks (R669, R671) -/

theorem updateBlock_guard (c : Chip) : (!(c.upd.state == 1 || c.upd.state == 2) || c.upd.queue.length < 65536) = true ↔
    ¬((c.upd.state = 1 ∨ c.upd.state = 2) ∧ 65536 ≤ c.upd.queue.length) := by
  simp only [Bool.or_eq_true, Bool.not_eq_true', Bool.or_eq_false_iff, beq_eq_false_iff_ne, decide_eq_true_eq, Classical.not_and_iff_not_or_not, not_or,
    Nat.not_le, ne_eq]

/-- The head of an image fits what was announced (R669). -/
def headTaken (c : Chip) (bs : List Byte) : Bool := headFits bs && leAt bs 0x14 4 == c.upd.length

/-- What a whole block leads to (R669, R671). -/
def blockTaken (c : Chip) (reads : Bool) (bs : List Byte) : Chip :=
  if c.upd.block = 0 && !headTaken c bs then updFail c 2 0
  else if c.upd.block ≠ 0 && (crc32c bs).toNat ≠ entryCrc c.upd.head c.upd.block then updFail c 4 c.upd.block
  else if !reads then updFail c 5 c.upd.block
  else landBlock c bs

theorem updateBlock_full {c : Chip} (reads : Bool)
    (full : (c.upd.state = 1 ∨ c.upd.state = 2) ∧ 65536 ≤ c.upd.queue.length) :
    updateBlock c reads = blockTaken c reads (c.upd.queue.take 65536) :=
  if_neg (mt (updateBlock_guard c).mp (not_not_intro full))

theorem headTaken_iff (c : Chip) (bs : List Byte) :
    headTaken c bs = true ↔ headFits bs = true ∧ leAt bs 0x14 4 = c.upd.length := by
  rw [headTaken, Bool.and_eq_true, beq_iff_eq]

theorem blockTaken_badHead {c : Chip} (reads : Bool) {bs : List Byte} (first : c.upd.block = 0)
    (bad : ¬(headFits bs = true ∧ leAt bs 0x14 4 = c.upd.length)) : blockTaken c reads bs = updFail c 2 0 := by
  rw [← headTaken_iff, Bool.not_eq_true] at bad
  exact if_pos (by simp [first, bad])

theorem blockTaken_badCrc {c : Chip} (reads : Bool) {bs : List Byte} (later : c.upd.block ≠ 0)
    (bad : (crc32c bs).toNat ≠ entryCrc c.upd.head c.upd.block) : blockTaken c reads bs = updFail c 4 c.upd.block :=
  (if_neg (by simp [later])).trans (if_pos (by simp [later, bad]))

theorem blockTaken_good {c : Chip} (reads : Bool) {bs : List Byte}
    (good : if c.upd.block = 0 then headFits bs = true ∧ leAt bs 0x14 4 = c.upd.length
      else (crc32c bs).toNat = entryCrc c.upd.head c.upd.block) :
    blockTaken c reads bs = if !reads then updFail c 5 c.upd.block else landBlock c bs := by
  by_cases first : c.upd.block = 0
  · rw [if_pos first, ← headTaken_iff] at good
    exact (if_neg (by simp [good])).trans (if_neg (by simp [first]))
  · rw [if_neg first] at good
    exact (if_neg (by simp [first])).trans (if_neg (by simp [good]))

/-- What a failed staging or verification shows (R671, R684). -/
theorem updFail_shown (c : Chip) (r b : Nat) : (updFail c r b).upd.state = 4 ∧ (updFail c r b).upd.result = r
    ∧ (updFail c r b).upd.block = b ∧ (updFail c r b).upd.queue = [] ∧ bitOf (hdr (updFail c r b) 0x79).cause 0 = true := by
  have upd (d : Chip) : (stageDone d).upd = d.upd := (emit_upd ..).trans (raise_upd ..)
  have cause (d : Chip) : bitOf (hdr (stageDone d) 0x79).cause 0 = true := cause_of_raised (causesKept_emit ..) (by decide)
  unfold updFail
  dsimp only
  rw [upd]
  exact ⟨rfl, rfl, rfl, rfl, cause _⟩

/-! ### Verification (R667, R670) -/

theorem updateVerify_guard (c : Chip) :
    (c.upd.state ≠ 2 || 65536 ≤ c.upd.queue.length) = true ↔ ¬(c.upd.state = 2 ∧ c.upd.queue.length < 65536) := by
  simp only [Bool.or_eq_true, decide_eq_true_eq, Classical.not_and_iff_not_or_not, Nat.not_lt, ne_eq]

theorem updateVerify_whole {c : Chip} (whole : c.upd.state = 2 ∧ c.upd.queue.length < 65536) : updateVerify c =
    match verifyFault c with
    | some (r, b) => updFail c r b
    | none =>
      let c := setValid c c.upd.target true
      let c := modUpd c fun u => { u with state := 3, result := 1 }
      stageDone (if recoveryRuns c then modBoot c fun b => { b with active := 0, strikes := 0 } else c) :=
  if_neg (mt (updateVerify_guard c).mp (not_not_intro whole))

/-- The boot record once a slot is VALID: the recovery image boots slot A next (R667). -/
def verifiedBoot (c : Chip) : BootRec :=
  let b := (setValid c c.upd.target true).upd.boot
  if recoveryRuns c then { b with active := 0, strikes := 0, count := b.count + 1 } else b

theorem updateVerify_passes {c : Chip} (whole : c.upd.state = 2 ∧ c.upd.queue.length < 65536) (fine : verifyFault c = none) :
    (updateVerify c).upd.state = 3 ∧ (updateVerify c).upd.result = 1 ∧ (updateVerify c).upd.boot = verifiedBoot c := by
  have upd (d : Chip) : (stageDone d).upd = d.upd := (emit_upd ..).trans (raise_upd ..)
  have recovery : recoveryRuns (modUpd (setValid c c.upd.target true) fun u => { u with state := 3, result := 1 }) = recoveryRuns c :=
    rfl
  rw [updateVerify_whole whole, fine]
  dsimp only
  rw [upd, recovery, verifiedBoot]
  split <;> exact ⟨rfl, rfl, rfl⟩

theorem valid_verifiedBoot {c : Chip} (lt : c.upd.target < 2) : (verifiedBoot c).valid.getLsbD c.upd.target = true := by
  have valid : (verifiedBoot c).valid = c.upd.boot.valid ||| (1#2 <<< c.upd.target) := by
    unfold verifiedBoot
    dsimp only
    split <;> rfl
  rw [valid, BitVec.getLsbD_or, BitVec.getLsbD_shiftLeft]
  simp [lt]

theorem active_verifiedBoot (c : Chip) : (verifiedBoot c).active = if recoveryRuns c then 0 else c.upd.boot.active := by
  unfold verifiedBoot
  dsimp only
  split <;> rfl

/-! ### Activation (R673 to R675) -/

theorem enterMode_enters (c : Chip) (m : Mode) (row : Nat) : (enterMode c m row).mode.mode = m := by
  by_cases here : c.mode.mode = m
  · rw [enterMode_of_eq row here, here]
  · rw [enterMode_mode row here]

/-- ACTIVATE is entered, with the mode it returns to (R673). -/
def activating (c : Chip) : Chip :=
  enterMode (freshTime { modUpd c fun u => { u with activateDue := false } with
    mode := { c.mode with activateFrom := c.mode.mode } }).2 .activate (if c.mode.mode = .stop then 14 else 27)

/-- The trial of the target slot (R673). -/
def onTrial (c : Chip) (t : Nat) : Chip :=
  modBoot (modUpd c fun u => { u with oldBuild := u.running.build, entered := t }) fun b =>
    { b with trial := true, previous := b.active, active := c.upd.target }

theorem onTrial_previous (c : Chip) (t : Nat) : (onTrial c t).upd.boot.previous = c.upd.boot.active := rfl
theorem onTrial_active (c : Chip) (t : Nat) : (onTrial c t).upd.boot.active = c.upd.target := rfl

theorem session_onTrial (c : Chip) (t k : Nat) : session (onTrial c t) k = session c k := rfl

theorem session_activating {c : Chip} (other : c.mode.mode ≠ .activate) {k : Nat} (lt : k < 16) :
    session (activating c) k = none := by
  unfold activating
  refine sessions_enterActivate _ ?_ lt
  exact other

theorem activateEntry_enters {c : Chip} (due : c.upd.activateDue = true)
    (enters : c.upd.state = 3 ∧ (c.mode.mode = .stop ∨ c.mode.mode = .standby)) :
    ∃ t, activateEntry c = onTrial (activating c) t := by
  obtain ⟨staged, mode⟩ := enters
  have fits : (decide ((modUpd c fun u => { u with activateDue := false }).upd.state ≠ 3)
      || !((modUpd c fun u => { u with activateDue := false }).mode.mode == .stop
        || (modUpd c fun u => { u with activateDue := false }).mode.mode == .standby)) = false := by
    obtain stop | standby := mode
    · simp [staged, stop]
    · simp [staged, standby]
  unfold activateEntry
  rw [due]
  dsimp only
  rw [fits]
  exact ⟨_, rfl⟩

theorem activateEntry_refused {c : Chip} (due : c.upd.activateDue = true)
    (not : ¬(c.upd.state = 3 ∧ (c.mode.mode = .stop ∨ c.mode.mode = .standby))) :
    activateEntry c = modUpd c fun u => { u with activateDue := false } := by
  unfold activateEntry
  rw [due]
  refine (if_neg (by decide)).trans (if_pos ?_)
  by_cases staged : c.upd.state = 3
  · simpa [staged] using not
  · simp [staged]

theorem activating_upd (c : Chip) : (activating c).upd = { c.upd with activateDue := false } := upd_enterMode ..

theorem activating_mode {c : Chip} (other : c.mode.mode ≠ .activate) :
    (activating c).mode.mode = .activate ∧ (activating c).mode.activateFrom = c.mode.mode := by
  have from_ : (freshTime { modUpd c fun u => { u with activateDue := false } with
      mode := { c.mode with activateFrom := c.mode.mode } }).2.mode = { c.mode with activateFrom := c.mode.mode } := rfl
  have mode := enterMode_mode (c := (freshTime { modUpd c fun u => { u with activateDue := false } with
      mode := { c.mode with activateFrom := c.mode.mode } }).2) (if c.mode.mode = .stop then 14 else 27) (by rwa [from_])
  rw [activating, mode, from_]
  exact ⟨rfl, rfl⟩

/-- The settings applied to the image that runs now (R730). -/
theorem pillar_reapply (c : Chip) : pillar (reapply c) = pillar c := by
  unfold reapply
  split
  · rfl
  · rw [pillar_restoreRegs, pillar_migrate]

/-- ACTIVATE ends with its cause, its record and the mode that it was entered from (R673, R675). -/
def activationEnds (c : Chip) (bit low a row : Nat) (p0 p1 p2 p3 : Word) : Chip :=
  activateReturn (emit (pauseUs (raise c 0x79 bit)).2 0x79 low a p0 p1 p2 p3) row

section
variable (c : Chip) {bit : Nat} (low a row : Nat) (p0 p1 p2 p3 : Word)

theorem activationEnds_mode : (activationEnds c bit low a row p0 p1 p2 p3).mode.mode = c.mode.activateFrom := by
  have kept : (emit (pauseUs (raise c 0x79 bit)).2 0x79 low a p0 p1 p2 p3).mode = c.mode := by
    rw [emit_mode]
    exact raise_mode ..
  rw [activationEnds, activateReturn, enterMode_enters, kept]

theorem activationEnds_upd : (activationEnds c bit low a row p0 p1 p2 p3).upd = c.upd := by
  rw [activationEnds, activateReturn, upd_enterMode, emit_upd]
  exact raise_upd ..

theorem cause_activationEnds (lt : bit < 32) : bitOf (hdr (activationEnds c bit low a row p0 p1 p2 p3) 0x79).cause bit = true := by
  have paused (d : Chip) : CausesKept d (pauseUs d).2 := causesKept_of_pages rfl
  exact cause_of_raised (((paused _).trans (causesKept_emit ..)).trans (causesKept_enterMode ..)) lt

end

/-- The module on its new image, with the trial over and the update done (R673). -/
def trialOver (c : Chip) : Chip :=
  modUpd (modBoot (reapply (onNewImage c)) fun b => { b with trial := false }) fun u => { u with
    state := 0, result := 0, block := 0, head := [], target := 1 - u.boot.active }

theorem activated_ends {c : Chip} (mode : c.mode.mode = .activate) (taken : settingsTaken c = true) :
    ∃ a p0 p1 p2 p3, activated c = activationEnds (trialOver c) 1 0x11 a 31 p0 p1 p2 p3 := by
  unfold activated
  rw [if_neg (by simp [mode, taken])]
  exact ⟨_, _, _, _, _, rfl⟩

/-- The module back on its old image (R675). -/
def trialLost (c : Chip) : Chip :=
  match (modBoot c fun b => { b with active := b.previous, trial := false }).upd.current with
  | some v => restoreRegs (modBoot c fun b => { b with active := b.previous, trial := false }) v
  | none => modBoot c fun b => { b with active := b.previous, trial := false }

theorem fallback_guard (c : Chip) (reads : Bool) :
    (c.mode.mode ≠ .activate || (settingsTaken c && !(reads && c.upd.current.isSome))) = true ↔
      c.mode.mode ≠ .activate ∨ ¬(settingsTaken c = false ∨ (reads = true ∧ c.upd.current.isSome = true)) := by
  cases settingsTaken c <;> cases reads <;> cases c.upd.current <;> simp

theorem fallback_ends {c : Chip} {reads : Bool} (mode : c.mode.mode = .activate)
    (unread : settingsTaken c = false ∨ (reads = true ∧ c.upd.current.isSome = true)) :
    ∃ a p0 p1 p2 p3, fallback c reads = activationEnds (trialLost c) 2 0x12 a 32 p0 p1 p2 p3 := by
  have on : ¬(c.mode.mode ≠ .activate || (settingsTaken c && !(reads && c.upd.current.isSome))) = true := by
    rw [fallback_guard]
    exact fun not => not.elim (fun ne => ne mode) fun not => not unread
  unfold fallback
  rw [if_neg on]
  exact ⟨_, _, _, _, _, rfl⟩

theorem trialOver_shown (c : Chip) : (trialOver c).mode = c.mode ∧ (trialOver c).upd.boot.trial = false
    ∧ (trialOver c).upd.state = 0
    ∧ (trialOver c).upd.running = runningOf c.upd.boot.active (smGet Slot.empty c.upd.slots c.upd.boot.active).head := by
  have same := pillar_reapply (onNewImage c)
  have mode : (reapply (onNewImage c)).mode = (onNewImage c).mode := mode_of_pillar same
  have running : (reapply (onNewImage c)).upd.running = (onNewImage c).upd.running := running_of_footing (footing_of_pillar same)
  exact ⟨mode, rfl, rfl, running⟩

theorem pillar_trialLost (c : Chip) :
    pillar (trialLost c) = pillar (modBoot c fun b => { b with active := b.previous, trial := false }) := by
  unfold trialLost
  split
  · exact pillar_restoreRegs ..
  · rfl

theorem trialLost_shown (c : Chip) : (trialLost c).mode = c.mode ∧ (trialLost c).upd.boot.trial = false
    ∧ (trialLost c).upd.boot.active = c.upd.boot.previous ∧ (trialLost c).upd.running = c.upd.running := by
  have same := pillar_trialLost c
  have mode := mode_of_pillar same
  have boot := boot_of_footing (footing_of_pillar same)
  have running := running_of_footing (footing_of_pillar same)
  exact ⟨mode, congrArg BootRec.trial boot, congrArg BootRec.active boot, running⟩

theorem updateCommandsComplete : Claims.UpdateCommandsComplete := by
  intro s reads r b
  have blocks (x : Bool) : exec (.updateBlock x) s = .next (after s (updateBlock s.chip x)) := by unfold exec; rfl
  have verifies : exec .updateVerify s = .next (after s (updateVerify s.chip)) := by unfold exec; rfl
  have enters : exec .activateEntry s = .next (after s (activateEntry s.chip)) := by unfold exec; rfl
  have ends : exec .activated s = .next (after s (activated s.chip)) := by unfold exec; rfl
  have falls : exec (.fallback reads) s = .next (after s (fallback s.chip reads)) := by unfold exec; rfl
  dsimp only
  refine ⟨fun full first bad => ?_, fun full later bad => ?_, fun full good => ?_, fun full good => ?_, fun not => ?_,
    updFail_shown .., fun whole fault => ?_, fun whole fine => ?_, fun not => ?_, fun due on => ?_, fun due not => ?_,
    fun idle => ?_, fun mode taken => ?_, fun not => ?_, fun mode unread => ?_, fun not => ?_⟩
  · refine (blocks reads).trans (next_after_congr ?_)
    rw [updateBlock_full reads full, blockTaken_badHead reads first bad]
  · refine (blocks reads).trans (next_after_congr ?_)
    rw [if_neg later] at bad
    rw [updateBlock_full reads full, blockTaken_badCrc reads later bad]
  · refine (blocks false).trans (next_after_congr ?_)
    rw [updateBlock_full false full, blockTaken_good false good]
    rfl
  · refine (blocks true).trans (next_after_congr ?_)
    rw [updateBlock_full true full, blockTaken_good true good]
    rfl
  · exact (blocks reads).trans (next_after_congr (if_pos ((updateBlock_guard _).mpr not)))
  · refine verifies.trans (next_after_congr ?_)
    rw [updateVerify_whole whole, fault]
  · refine ⟨_, verifies, ?_⟩
    obtain ⟨state, result, boot⟩ := updateVerify_passes whole fine
    rw [after_chip, slotValid, attnUpdate_upd, state, result, boot, active_verifiedBoot]
    exact ⟨rfl, rfl, valid_verifiedBoot, rfl⟩
  · exact verifies.trans (next_after_congr (if_pos ((updateVerify_guard _).mpr not)))
  · obtain ⟨t, entry⟩ := activateEntry_enters due on
    have other : s.chip.mode.mode ≠ .activate := by
      obtain stop | standby := on.2
      · rw [stop]; decide
      · rw [standby]; decide
    obtain ⟨mode, from_⟩ := activating_mode other
    have upd := activating_upd s.chip
    refine ⟨_, enters, ?_⟩
    rw [after_chip, attnUpdate_mode, attnUpdate_upd, entry]
    refine ⟨mode, from_, rfl, ?_, ?_, fun k lt => ?_⟩
    · exact (onTrial_previous ..).trans (by rw [upd])
    · exact (onTrial_active ..).trans (by rw [upd])
    · rw [session_of_hosts (attnUpdate_hosts _), session_onTrial, session_activating other lt]
  · exact enters.trans (next_after_congr (activateEntry_refused due not))
  · exact enters.trans (next_after_congr (if_pos (by simp [idle])))
  · obtain ⟨a, p0, p1, p2, p3, runs⟩ := activated_ends mode taken
    obtain ⟨kept, trial, state, running⟩ := trialOver_shown s.chip
    refine ⟨_, ends, ?_⟩
    rw [after_chip, attnUpdate_mode, attnUpdate_upd, hdr_attnUpdate, runs, activationEnds_mode, activationEnds_upd, kept, trial,
      state, running]
    exact ⟨rfl, rfl, rfl, rfl, cause_activationEnds _ _ _ _ _ _ _ _ (by decide)⟩
  · refine ends.trans (next_after_congr (if_pos ?_))
    obtain other | refused := not
    · simp [other]
    · simp [refused]
  · obtain ⟨a, p0, p1, p2, p3, runs⟩ := fallback_ends mode unread
    obtain ⟨kept, trial, active, running⟩ := trialLost_shown s.chip
    refine ⟨_, falls, ?_⟩
    rw [after_chip, attnUpdate_mode, attnUpdate_upd, hdr_attnUpdate, runs, activationEnds_mode, activationEnds_upd, kept, trial,
      active, running]
    exact ⟨rfl, rfl, rfl, rfl, cause_activationEnds _ _ _ _ _ _ _ _ (by decide)⟩
  · exact falls.trans (next_after_congr (if_pos ((fallback_guard ..).mpr not)))

end Sys2Proof.Machine
end

section
/-!
PROOFS. The front panel (R690 to R700).
-/
namespace Sys2Proof.Machine
open Safety

theorem panelCheck_guard (c : Chip) :
    (!panelServes c || c.panel.update.isSome || c.panel.testing || !(enabled c 0x7B || c.rst.bootFail)) = true ↔
      ¬(panelServes c = true ∧ c.panel.update = none ∧ c.panel.testing = false ∧ (enabled c 0x7B = true ∨ c.rst.bootFail = true)) := by
  cases panelServes c <;> cases c.panel.update <;> cases c.panel.testing <;> simp

section
variable {c : Chip} (idle : panelServes c = true ∧ c.panel.update = none ∧ c.panel.testing = false
  ∧ (enabled c 0x7B = true ∨ c.rst.bootFail = true))
include idle

theorem panelCheck_clears {reason : Nat} (first : c.panel.first = some (some reason)) :
    panelCheck c = startClearing (modPanel c fun q => { q with first := none }) reason := by
  unfold panelCheck
  rw [if_neg (mt (panelCheck_guard c).mp (not_not_intro idle)), first]

theorem panelCheck_updates (first : c.panel.first = none ∨ c.panel.first = some none) :
    panelCheck c = startUpdate (modPanel c fun q => { q with first := none }) (wantedPicture c) false := by
  unfold panelCheck
  rw [if_neg (mt (panelCheck_guard c).mp (not_not_intro idle))]
  obtain none_ | some_ := first
  · rw [none_]
  · rw [some_]

end

/-! ### Phases (R693, R696) -/

section
variable {c : Chip} {u : PnlUpdate} (runs : c.panel.update = some u)
include runs

theorem panelPhaseEnd_none (phases : u.phases = []) : panelPhaseEnd c = updateDone c u := by
  unfold panelPhaseEnd
  rw [runs]
  dsimp only
  rw [phases]

theorem panelPhaseEnd_last {k : Nat} {cl : Bool} (phases : u.phases = [(k, cl)]) :
    panelPhaseEnd c = updateDone (modPanel c fun q => { q with glass := phaseShown q.glass u k cl }) u := by
  unfold panelPhaseEnd
  rw [runs]
  dsimp only
  rw [phases]

/-- The picture that the phases left lead to: a clearing shows in each what is wanted by then (R696). -/
def wantedNext (c : Chip) (u : PnlUpdate) (k : Nat) (cl : Bool) : Picture :=
  if u.clearing.isSome && !cl then copyCommon u.wanted (wantedPicture c) k else u.wanted

theorem panelPhaseEnd_next {k k' : Nat} {cl cl' : Bool} {rest : List (Nat × Bool)}
    (phases : u.phases = (k, cl) :: (k', cl') :: rest) :
    panelPhaseEnd c = modPanel (modPanel c fun q => { q with glass := phaseShown q.glass u k cl }) fun q => { q with
      update := some { u with
        phases := (k', cl') :: rest
        wanted := wantedNext (modPanel c fun q => { q with glass := phaseShown q.glass u k cl }) u k' cl' } } := by
  unfold panelPhaseEnd
  rw [runs]
  dsimp only
  rw [phases]
  rfl

end

theorem startWaiting_none {c : Chip} (none_ : c.panel.waiting = none) : startWaiting c = c := by
  unfold startWaiting
  rw [none_]
  exact ite_self _

/-- The record of a clearing that has ended (R700). -/
def clearingRecorded (c : Chip) (u : PnlUpdate) : Chip :=
  match u.clearing with
  | some r => emit (raise c 0x7B 1) 0x7B 0x20 r (BitVec.ofNat 32 c.panel.latched) (BitVec.ofNat 32 (phaseTime c.panel.latched)) 0
      c.stroke.count
  | none => c

/-- The panel once an update has ended (R691, R696). -/
def updated (c : Chip) (u : PnlUpdate) : Chip :=
  modBackup (modPanel c fun p => { p with
    update := none, shadow := u.wanted, shadowOk := true, updates := p.updates + 1, testing := u.test }) fun b =>
    { b with marker := false }

theorem updateDone_eq (c : Chip) (u : PnlUpdate) : updateDone c u = startWaiting (clearingRecorded (updated c u) u) := rfl

theorem clearingRecorded_panel (c : Chip) (u : PnlUpdate) : (clearingRecorded c u).panel = c.panel := by
  unfold clearingRecorded
  split
  · rw [emit_panel, raise_panel]
  · rfl

/-- The marker of an update under way (R695). -/
def marker (c : Chip) : Bool := c.backup.marker

theorem marker_of_bare {c d : Chip} (h : bare c = bare d) : marker c = marker d := (congrArg marker h :)

theorem clearingRecorded_marker (c : Chip) (u : PnlUpdate) : marker (clearingRecorded c u) = marker c := by
  unfold clearingRecorded
  split
  · exact marker_of_bare ((bare_emit ..).trans (bare_raise ..))
  · rfl

theorem updateDone_calm {c : Chip} (u : PnlUpdate) (calm : c.panel.waiting = none) :
    (updateDone c u).panel = { c.panel with
      update := none, shadow := u.wanted, shadowOk := true, updates := c.panel.updates + 1, testing := u.test }
      ∧ marker (updateDone c u) = false := by
  have none_ : (clearingRecorded (updated c u) u).panel.waiting = none := by
    rw [clearingRecorded_panel]
    exact calm
  rw [updateDone_eq, startWaiting_none none_, clearingRecorded_panel, clearingRecorded_marker]
  exact ⟨rfl, rfl⟩

/-! ### The crack loop (R698) -/

/-- The crack loop reads broken (R698). -/
def crackBroken (c : Chip) (ohms : Nat) : Bool :=
  decide (200 < ohms) || (c.panel.crack && decide ((if 200 < ohms then 0 else c.panel.crackGood + 1) < 2))

/-- A reading of the crack loop is held with its condition (R698). -/
def crackRead (c : Chip) (ohms : Nat) : Chip :=
  setCond (modPanel c fun p => { p with
    ohms := min ohms 0xFFFF
    crackGood := if 200 < ohms then 0 else c.panel.crackGood + 1
    crack := crackBroken c ohms }) 0x7B 0 (crackBroken c ohms)

theorem crackMeasure_eq {c : Chip} (ohms : Nat) (serves : panelServes c = true) : crackMeasure c ohms =
    if c.panel.crack = crackBroken c ohms then crackRead c ohms
    else emit (crackRead c ohms) 0x7B 0x21 (b2n (crackBroken c ohms)) (BitVec.ofNat 32 (min ohms 0xFFFF)) 0 0
      (crackRead c ohms).stroke.count := by
  unfold crackMeasure
  rw [serves]
  rfl

theorem crackMeasure_shown {c : Chip} (ohms : Nat) (serves : panelServes c = true) :
    (crackMeasure c ohms).panel.ohms = min ohms 0xFFFF ∧ (crackMeasure c ohms).panel.crack = crackBroken c ohms
      ∧ bitOf (hdr (crackMeasure c ohms) 0x7B).raw 0 = crackBroken c ohms := by
  have panel : (crackRead c ohms).panel = { c.panel with
      ohms := min ohms 0xFFFF
      crackGood := if 200 < ohms then 0 else c.panel.crackGood + 1
      crack := crackBroken c ohms } := setCond_panel ..
  have raw : bitOf (hdr (crackRead c ohms) 0x7B).raw 0 = crackBroken c ohms := bitOf_raw_setCond _ _ _ (by decide)
  rw [crackMeasure_eq ohms serves]
  split
  · rw [panel, raw]
    exact ⟨rfl, rfl, rfl⟩
  · rw [emit_panel, panel, hdr_emit _ _ _ _ _ _ _ _ (by decide) (by decide), raw]
    exact ⟨rfl, rfl, rfl⟩

theorem crackBroken_iff (c : Chip) (ohms : Nat) : crackBroken c ohms = true ↔
    200 < ohms ∨ (c.panel.crack = true ∧ (if 200 < ohms then 0 else c.panel.crackGood + 1) < 2) := by
  rw [crackBroken, Bool.or_eq_true, Bool.and_eq_true, decide_eq_true_eq, decide_eq_true_eq]

theorem panelCommandsComplete : Claims.PanelCommandsComplete := by
  intro s u reason k k' ohms cl cl' rest
  have checks : exec .panelCheck s = .next (after s (panelCheck s.chip)) := by unfold exec; rfl
  have ends : exec .panelPhaseEnd s = .next (after s (panelPhaseEnd s.chip)) := by unfold exec; rfl
  have tests : exec .pnlTestEnd s = .next (after s (panelTestEnd s.chip)) := by unfold exec; rfl
  have cracks : exec (.crack ohms) s = .next (after s (crackMeasure s.chip ohms)) := by unfold exec; rfl
  dsimp only
  refine ⟨fun idle first => ?_, fun idle first => ?_, fun not => ?_, fun idle => ?_, fun runs phases => ?_,
    fun runs phases => ?_, fun runs phases calm => ?_, fun runs phases plain => ?_, fun runs phases => ?_,
    fun testing still => ?_, fun not => ?_, fun serves => ?_, fun off => ?_⟩
  · exact checks.trans (next_after_congr (panelCheck_clears idle first))
  · exact checks.trans (next_after_congr (panelCheck_updates idle first))
  · exact checks.trans (next_after_congr (if_pos ((panelCheck_guard _).mpr not)))
  · refine ends.trans (next_after_congr ?_)
    unfold panelPhaseEnd
    rw [idle]
  · exact ends.trans (next_after_congr (panelPhaseEnd_none runs phases))
  · exact ends.trans (next_after_congr (panelPhaseEnd_last runs phases))
  · refine ⟨_, ends, ?_⟩
    obtain ⟨panel, mark⟩ := updateDone_calm (c := modPanel s.chip fun q => { q with glass := phaseShown q.glass u k cl }) u calm
    have shown (d : Chip) : (attnUpdate d).backup.marker = marker d := congrArg BackupSt.marker (attnUpdate_backup d)
    rw [after_chip, panelPhaseEnd_last runs phases, attnUpdate_panel, panel, shown, mark]
    exact ⟨rfl, rfl, rfl, rfl, rfl, rfl⟩
  · refine ends.trans (next_after_congr ?_)
    rw [panelPhaseEnd_next runs phases, wantedNext, plain]
    rfl
  · refine ⟨_, ends, ?_⟩
    rw [after_chip, panelPhaseEnd_next runs phases, attnUpdate_panel]
    exact ⟨rfl, rfl⟩
  · exact tests.trans (next_after_congr (if_neg (by simp [testing, still])))
  · refine tests.trans (next_after_congr (if_pos ?_))
    obtain off | runs := not
    · simp [off]
    · simp [Option.isSome_iff_ne_none.mpr runs]
  · obtain ⟨read, crack, raw⟩ := crackMeasure_shown ohms serves
    refine ⟨_, cracks, ?_⟩
    rw [after_chip, attnUpdate_panel, hdr_attnUpdate, read, crack, raw]
    exact ⟨rfl, crackBroken_iff .., crackBroken_iff ..⟩
  · exact cracks.trans (next_after_congr (if_pos (by simp [off])))

/-- Settles O60: the update's blocks, its verification and ACTIVATE, then the panel's updates and the crack loop. -/
theorem updateAndPanelComplete : Obligations.UpdateAndPanelComplete := ⟨updateCommandsComplete, panelCommandsComplete⟩

end Sys2Proof.Machine
end

section
/-!
PROOFS. Loops (R98, R256 to R280, R298): what a tick latches and what a sample leaves.
-/
namespace Sys2Proof.Machine
open Safety

/-! ### Loops of an engine -/

theorem loopSt_of_engines {c d : Chip} (h : c.engines = d.engines) (e j : Nat) : loopSt c e j = loopSt d e j := by
  rw [loopSt, eng_of_engines h, loopSt]

theorem eng_modEng_ne (c : Chip) {e k : Nat} (f : EngSt → EngSt) (ne : k ≠ e) : eng (modEng c e f) k = eng c k :=
  smGet_smSet_ne _ _ _ _ ne

theorem loopSt_modLoop (c : Chip) (e j : Nat) (f : LoopSt → LoopSt) : loopSt (modLoop c e j f) e j = f (loopSt c e j) := by
  rw [loopSt, modLoop, eng_modEng]
  dsimp only
  rw [smGet_smMod, if_pos rfl, loopSt]

theorem loopSt_modLoop_ne (c : Chip) (e : Nat) {j k : Nat} (f : LoopSt → LoopSt) (ne : k ≠ j) :
    loopSt (modLoop c e j f) e k = loopSt c e k := by
  rw [loopSt, modLoop, eng_modEng]
  dsimp only
  rw [smGet_smMod, if_neg ne, loopSt]

theorem atTime_engines {t : Nat} {f : Chip → Chip} {c : Chip} : (atTime t f c).engines = (f { c with now := some t }).engines := rfl
theorem atTime_pages {t : Nat} {f : Chip → Chip} {c : Chip} : (atTime t f c).pages = (f { c with now := some t }).pages := rfl

/-! ### Ticks (R98, R271) -/

/-- What a tick changes nothing of. -/
def unticked (c : Chip) : ModeSt × StrokeSt × Img × Img × SelSt × CrewSt × CrewSt × List Frame :=
  (c.mode, c.stroke, c.img, c.work, c.sel, c.crewS, c.crewP, c.sent)

theorem unticked_emit (c : Chip) (p low source : Nat) (p0 p1 p2 p3 : Word) :
    unticked (emit c p low source p0 p1 p2 p3) = unticked c := by
  simp only [unticked, emit_mode, emit_stroke, emit_img, emit_work, emit_sel, emit_crewS, emit_crewP, emit_sent]

theorem unticked_attnUpdate (c : Chip) : unticked (attnUpdate c) = unticked c := by
  simp only [unticked, attnUpdate_mode, attnUpdate_stroke, attnUpdate_img, attnUpdate_work, attnUpdate_sel, attnUpdate_crewS,
    attnUpdate_crewP, attnUpdate_sent]

/-- The loop that a tick leaves: `old` is the engine's before it. -/
def ticked (c : Chip) (e instant : Nat) (b : LoopBlock) : LoopSt :=
  let old := loopSt c e b.com.no
  let st := if old.started then old else freshLoop b old
  let t := tickLatch c e instant b st
  if old.stopped then { old with manBit := some t.manBit }
  else { st with latch := some t, tickStale := t.stale, count := t.count, manBit := some t.manBit }

theorem manBitRecord_engines (c : Chip) (e j : Nat) (st : LoopSt) (now : Bool) : (manBitRecord c e j st now).engines = c.engines := by
  unfold manBitRecord
  split
  · rfl
  · split
    · rfl
    · exact emit_engines ..

theorem unticked_manBitRecord (c : Chip) (e j : Nat) (st : LoopSt) (now : Bool) : unticked (manBitRecord c e j st now) = unticked c := by
  unfold manBitRecord
  split
  · rfl
  · split
    · rfl
    · exact unticked_emit ..

section
variable (before : Chip) (e instant : Nat) (c : Chip) (b : LoopBlock)

theorem tickLoop_engines : (tickLoop before e instant c b).engines =
    (modLoop c e b.com.no fun _ => ticked before e instant b).engines := manBitRecord_engines ..

theorem loopSt_tickLoop : loopSt (tickLoop before e instant c b) e b.com.no = ticked before e instant b := by
  rw [loopSt_of_engines (tickLoop_engines ..), loopSt_modLoop]

theorem loopSt_tickLoop_ne {j : Nat} (ne : j ≠ b.com.no) : loopSt (tickLoop before e instant c b) e j = loopSt c e j := by
  rw [loopSt_of_engines (tickLoop_engines ..), loopSt_modLoop_ne _ _ _ ne]

theorem eng_tickLoop_ne {k : Nat} (ne : k ≠ e) : eng (tickLoop before e instant c b) k = eng c k := by
  rw [eng_of_engines (tickLoop_engines ..), modLoop, eng_modEng_ne _ _ ne]

theorem set_tickLoop : (eng (tickLoop before e instant c b) e).set = (eng c e).set := by
  rw [eng_of_engines (tickLoop_engines ..), modLoop, eng_modEng]

theorem unticked_tickLoop : unticked (tickLoop before e instant c b) = unticked c := unticked_manBitRecord ..

end

theorem loopSt_ticks_ne (before : Chip) (e instant : Nat) {l : List LoopBlock} {j : Nat} (other : ∀ b ∈ l, j ≠ b.com.no) (c : Chip) :
    loopSt (l.foldl (tickLoop before e instant) c) e j = loopSt c e j := by
  induction l generalizing c with
  | nil => rfl
  | cons b l ih =>
    rw [List.foldl_cons, ih fun x mem => other x (List.mem_cons_of_mem _ mem),
      loopSt_tickLoop_ne _ _ _ _ _ (other b List.mem_cons_self)]

/-- Each loop due is ticked once, from what the engine was. -/
theorem loopSt_ticks (before : Chip) (e instant : Nat) {l : List LoopBlock} (distinct : (l.map (·.com.no)).Nodup) {b : LoopBlock}
    (mem : b ∈ l) (c : Chip) : loopSt (l.foldl (tickLoop before e instant) c) e b.com.no = ticked before e instant b := by
  induction l generalizing c with
  | nil => exact absurd mem List.not_mem_nil
  | cons a l ih =>
    rw [List.map_cons, List.nodup_cons] at distinct
    obtain ⟨apart, distinct⟩ := distinct
    rw [List.foldl_cons]
    obtain rfl | mem := List.mem_cons.mp mem
    · rw [loopSt_ticks_ne, loopSt_tickLoop]
      exact fun x listed same => apart (same ▸ List.mem_map_of_mem listed)
    · exact ih distinct mem _

/-- The loops of a set that are due at an instant. -/
def dueLoops (c : Chip) (x : LoopSet) (instant : Nat) : List LoopBlock :=
  x.loops.filter fun b => (tickInstants (periodNs c) b.com.ticks).contains instant

theorem loopTick_samples {c : Chip} {e : Nat} (instant : Nat) {x : LoopSet} (on : sampling c e = true) (set_ : (eng c e).set = some x) :
    loopTick c e instant = atTime (c.stroke.t0 + instant * 40)
      (fun before => (dueLoops c x instant).foldl (tickLoop before e instant) before) c := by
  unfold loopTick
  rw [set_]
  exact if_neg (by simp [on])

theorem loopTick_rests {c : Chip} {e : Nat} (instant : Nat) (off : sampling c e = false) : loopTick c e instant = c := by
  unfold loopTick
  split
  · rfl
  · exact if_pos (by simp [off])

theorem ticked_now (c : Chip) (x : Option Nat) (e instant : Nat) (b : LoopBlock) :
    ticked { c with now := x } e instant b = ticked c e instant b := rfl

/-- A table filled from what each index stands for reads back at each index named. -/
theorem smGet_named {α : Type} [DecidableEq α] {d : α} (kind : Nat) (value : Nat → α) (l : List Binding) {i : Nat} (m : SMap α)
    (named : smGet d m i = value i ∨ ∃ y ∈ l, y.kind = kind ∧ y.index = i) :
    smGet d (l.foldl (fun m x => if x.kind = kind then smSet d m x.index (value x.index) else m) m) i = value i := by
  induction l generalizing m with
  | nil => exact named.resolve_right fun ⟨y, mem, _⟩ => List.not_mem_nil mem
  | cons a l ih =>
    refine ih _ ?_
    dsimp only
    by_cases here : a.kind = kind ∧ a.index = i
    · left
      rw [if_pos here.1, ← here.2, smGet_smSet, if_pos rfl]
    · obtain held | ⟨y, mem, is⟩ := named
      · left
        split
        · next same => rw [smGet_smSet, if_neg fun at_ => here ⟨same, at_.symm⟩, held]
        · exact held
      · obtain rfl | mem := List.mem_cons.mp mem
        · exact absurd is here
        · exact .inr ⟨y, mem, is⟩

/-- A loop as its tick finds it: one that starts is fresh (R276). -/
def startedLoop (b : LoopBlock) (old : LoopSt) : LoopSt := if old.started then old else freshLoop b old

theorem startedLoop_shown (b : LoopBlock) (old : LoopSt) : (startedLoop b old).started = true ∧ (startedLoop b old).req = old.req
    ∧ (startedLoop b old).count = old.count ∧ (startedLoop b old).tickStale = old.tickStale := by
  unfold startedLoop
  split
  · next started => exact ⟨started, rfl, rfl, rfl⟩
  · exact ⟨rfl, rfl, rfl, rfl⟩

theorem ticked_running {c : Chip} {e instant : Nat} {b : LoopBlock} (running : (loopSt c e b.com.no).stopped = false) :
    ticked c e instant b =
      let t := tickLatch c e instant b (startedLoop b (loopSt c e b.com.no))
      { startedLoop b (loopSt c e b.com.no) with
        latch := some t, tickStale := t.stale, count := t.count, manBit := some t.manBit } :=
  if_neg (by simp [running])

/-- What a running loop latches when it is due (R271). -/
theorem ticked_latched {c : Chip} {e instant : Nat} {b : LoopBlock} (running : (loopSt c e b.com.no).stopped = false) :
    ∃ k : TickLatch, Claims.Latched c e instant b (loopSt c e b.com.no) (ticked c e instant b) k := by
  obtain ⟨started, req, count, stale⟩ := startedLoop_shown b (loopSt c e b.com.no)
  refine ⟨tickLatch c e instant b (startedLoop b (loopSt c e b.com.no)), ?_⟩
  rw [ticked_running running]
  refine ⟨rfl, rfl, rfl, fun y mem => ⟨fun is => ?_, fun is => ?_⟩, rfl, rfl, req, ?_, rfl, started, req, rfl, rfl, rfl⟩
  · exact smGet_named 5 (fun i => (loopSt c e i).u) _ _ (.inr ⟨y, mem, is, rfl⟩)
  · exact smGet_named 1 (fun i => smGet 0 c.work.words i) _ _ (.inr ⟨y, mem, is, rfl⟩)
  · have steady : (tickLatch c e instant b (startedLoop b (loopSt c e b.com.no))).stale =
        if (b.com.pv.kind == 1 || b.com.pv.kind == 5)
          || (tickLatch c e instant b (startedLoop b (loopSt c e b.com.no))).count ≠ (startedLoop b (loopSt c e b.com.no)).count
        then 0 else satInc 0xFFFF (startedLoop b (loopSt c e b.com.no)).tickStale := rfl
    rw [steady, count, stale]
    refine ite_congr (propext ?_) (fun _ => rfl) (fun _ => rfl)
    simp only [Bool.or_eq_true, beq_iff_eq, decide_eq_true_eq, or_assoc, ne_eq]

theorem loopTickCompletes : Claims.LoopTickCompletes := by
  intro s e instant x
  have run : exec (.loopTick e instant) s = .next (after s (loopTick s.chip e instant)) := by unfold exec; rfl
  dsimp only
  refine ⟨fun on set_ distinct => ?_, fun off => run.trans (next_after_congr (loopTick_rests instant off))⟩
  have sub : (dueLoops s.chip x instant).Sublist x.loops := List.filter_sublist
  have distinct' : ((dueLoops s.chip x instant).map (·.com.no)).Nodup := distinct.sublist (sub.map _)
  have due (b : LoopBlock) (mem : b ∈ x.loops) : b ∈ dueLoops s.chip x instant ↔ instant ∈ tickInstants (periodNs s.chip) b.com.ticks := by
    rw [dueLoops, List.mem_filter, List.contains_iff_mem]
    exact and_iff_right mem
  have engines : (after s (loopTick s.chip e instant)).chip.engines = ((dueLoops s.chip x instant).foldl
      (tickLoop { s.chip with now := some (s.chip.stroke.t0 + instant * 40) } e instant)
      { s.chip with now := some (s.chip.stroke.t0 + instant * 40) }).engines := by
    rw [after_chip, attnUpdate_engines, loopTick_samples instant on set_, atTime_engines]
  have tick (b : LoopBlock) (mem : b ∈ x.loops) (is : instant ∈ tickInstants (periodNs s.chip) b.com.ticks) :
      loopSt (after s (loopTick s.chip e instant)).chip e b.com.no = ticked s.chip e instant b := by
    rw [loopSt_of_engines engines, loopSt_ticks _ _ _ distinct' ((due b mem).mpr is), ticked_now]
  have kept : unticked (after s (loopTick s.chip e instant)).chip = unticked s.chip := by
    rw [after_chip, unticked_attnUpdate, loopTick_samples instant on set_]
    exact kept_fold unticked (unticked_tickLoop { s.chip with now := some (s.chip.stroke.t0 + instant * 40) } e instant) _ _
  refine ⟨_, run, rfl, fun b mem => ⟨fun not => ?_, fun is running => ?_, fun is stopped => ?_⟩, fun k ne => ?_, ?_,
    congrArg Prod.fst kept, congrArg (·.2.1) kept, congrArg (·.2.2.1) kept, congrArg (·.2.2.2.1) kept, congrArg (·.2.2.2.2.1) kept,
    congrArg (·.2.2.2.2.2.1) kept, congrArg (·.2.2.2.2.2.2.1) kept, congrArg (·.2.2.2.2.2.2.2) kept⟩
  · rw [loopSt_of_engines engines, loopSt_ticks_ne]
    · rfl
    · intro y listed same
      have other : b = y := eq_of_nodup_map distinct mem (sub.subset listed) same
      exact not ((due b mem).mp (other ▸ listed))
  · rw [tick b mem is]
    exact ticked_latched running
  · rw [tick b mem is]
    exact if_pos stopped
  · rw [eng_of_engines engines]
    exact kept_fold (eng · k) (fun d y => eng_tickLoop_ne _ _ _ d y ne) _ _
  · rw [eng_of_engines engines]
    exact kept_fold (fun d => (eng d e).set) (fun d y => set_tickLoop _ _ _ d y) _ _

end Sys2Proof.Machine
end

section
/-!
PROOFS. Samples (R256 to R280, R297, R316): what a sample that completes leaves, in each of its cases.
-/
namespace Sys2Proof.Machine
open Safety

/-! ### The sink and the arrival -/

theorem driveLoopSink_engines (c : Chip) (b : LoopBlock) (on : Bool) (u : Int) : (driveLoopSink c b on u).1.engines = c.engines := by
  have engines {d : Chip} (h : inner d = inner c) : d.engines = c.engines :=
    (congrArg Chip.engines h : (inner d).engines = (inner c).engines)
  unfold driveLoopSink
  dsimp only
  split
  · exact engines (inner_sinkDigital ..)
  · rfl
  · exact engines (inner_writeSink ..)

theorem causesKept_driveLoopSink (c : Chip) (b : LoopBlock) (on : Bool) (u : Int) : CausesKept c (driveLoopSink c b on u).1 := by
  unfold driveLoopSink
  dsimp only
  split
  · exact causesKept_sinkDigital ..
  · exact causesKept_rfl
  · exact causesKept_of_pages (pages_writeSink ..)

theorem deliver_same (c : Chip) (b : LoopBlock) (a : Arrival) (tracked : Bool) :
    (deliver c b a tracked).engines = c.engines ∧ (deliver c b a tracked).pages = c.pages := by
  unfold deliver
  split
  · exact ⟨rfl, rfl⟩
  · split
    · split <;> exact ⟨rfl, rfl⟩
    · exact ⟨rfl, rfl⟩

theorem engines_of_bare {c d : Chip} (h : bare c = bare d) : c.engines = d.engines := (congrArg Chip.engines h :)

theorem loopOutput_kept (before c : Chip) : (loopOutput before c).engines = c.engines ∧ (loopOutput before c).pages = c.pages := by
  refine ⟨engines_of_bare (bare_loopOutput before c), ?_⟩
  unfold loopOutput sendOutput
  split
  · rfl
  · split
    · rfl
    · exact pages_sendRecord ..

/-! ### A sample that runs (R263, R274, R297) -/

/-- The sample's value has left, and the loop holds what it gave. -/
def sampleStored (c : Chip) (e j delay : Nat) (b : LoopBlock) (new : LoopSt) (cand : Int) (on : Bool) (t : TickLatch) : Chip :=
  modEng (modLoop (deliver c b ⟨new.u, cand, false, new.held, leavesAt c t delay⟩ t.track.isSome) e j fun _ =>
    { new with digOn := on, offDone := false, latch := none }) e fun g => { g with samples := g.samples + 1 }

/-- The causes and records of a sample (R297, R298). -/
def sampleReported (c : Chip) (e j delay : Nat) (st new : LoopSt) (t : TickLatch) : Chip :=
  let c := measBadRecord (alertCond c e) e j st new t.invalid
  let c := if new.sat then raise c (engPage e) 2 else c
  if st.dmax * 10 < delay then
    emit (raise c (engPage e) 4) (engPage e) 0x44 j (BitVec.ofNat 32 t.instant)
      (BitVec.ofNat 32 delay) (BitVec.ofNat 32 st.dmax) c.stroke.count
  else c

theorem runSample_eq {c d : Chip} {e j delay : Nat} {b : LoopBlock} {st new : LoopSt} {t : TickLatch} {cand : Int} {on : Bool}
    (computed : computeSample b (if st.offDone then freshLoop b st else st) t = (new, cand))
    (driven : driveLoopSink c b (st.digOn && !st.offDone) new.u = (d, on)) :
    runSample c e j delay b st t = sampleReported (sampleStored d e j delay b new cand on t) e j delay st new t := by
  unfold runSample
  rw [computed]
  dsimp only
  rw [driven]
  rfl

theorem measBadRecord_engines (c : Chip) (e j : Nat) (old new : LoopSt) (invalid : Bool) :
    (measBadRecord c e j old new invalid).engines = c.engines := by
  unfold measBadRecord
  split
  · rfl
  · cases h : new.measBad
    · exact emit_engines (freshNat c).2 ..
    · exact emit_engines c ..

theorem causesKept_measBadRecord (c : Chip) (e j : Nat) (old new : LoopSt) (invalid : Bool) :
    CausesKept c (measBadRecord c e j old new invalid) := by
  have drawn : CausesKept c (freshNat c).2 := causesKept_of_pages rfl
  unfold measBadRecord
  refine causesKept_ite causesKept_rfl ?_
  cases h : new.measBad
  · exact drawn.trans (causesKept_emit (freshNat c).2 ..)
  · exact causesKept_emit c ..

section
variable (c : Chip) (e j delay : Nat) (b : LoopBlock) (st new : LoopSt) (t : TickLatch)

theorem sampleReported_engines : (sampleReported c e j delay st new t).engines = c.engines := by
  have sat : (if new.sat then raise (measBadRecord (alertCond c e) e j st new t.invalid) (engPage e) 2
      else measBadRecord (alertCond c e) e j st new t.invalid).engines = c.engines := by
    rw [apply_ite Chip.engines, raise_engines, ite_self, measBadRecord_engines, alertCond_engines]
  unfold sampleReported
  dsimp only
  split
  · rw [emit_engines, raise_engines, sat]
  · exact sat

theorem causesKept_reportedTo : CausesKept c (measBadRecord (alertCond c e) e j st new t.invalid) :=
  (causesKept_setCond ..).trans (causesKept_measBadRecord ..)

theorem causesKept_sampleReported : CausesKept c (sampleReported c e j delay st new t) :=
  ((causesKept_reportedTo ..).trans (causesKept_ite (causesKept_raise ..) causesKept_rfl)).trans
    (causesKept_ite ((causesKept_raise ..).trans (causesKept_emit ..)) causesKept_rfl)

theorem cause_saturated (sat : new.sat = true) : bitOf (hdr (sampleReported c e j delay st new t) (engPage e)).cause 2 = true := by
  refine cause_of_raised (c := measBadRecord (alertCond c e) e j st new t.invalid) ?_ (by decide)
  unfold sampleReported
  dsimp only
  rw [if_pos sat]
  exact causesKept_ite ((causesKept_raise ..).trans (causesKept_emit ..)) causesKept_rfl

theorem cause_late (late : st.dmax * 10 < delay) :
    bitOf (hdr (sampleReported c e j delay st new t) (engPage e)).cause 4 = true := by
  unfold sampleReported
  dsimp only
  rw [if_pos late]
  exact cause_of_raised (causesKept_emit ..) (by decide)

variable (cand : Int) (on : Bool)

theorem sampleStored_loop : loopSt (sampleStored c e j delay b new cand on t) e j =
    { new with digOn := on, offDone := false, latch := none } := by
  have counted (d : Chip) : loopSt (modEng d e fun g => { g with samples := g.samples + 1 }) e j = loopSt d e j := by
    rw [loopSt, eng_modEng, loopSt]
  rw [sampleStored, counted, loopSt_modLoop]

theorem sampleStored_samples : (eng (sampleStored c e j delay b new cand on t) e).samples = (eng c e).samples + 1 := by
  rw [sampleStored, eng_modEng]
  dsimp only
  rw [modLoop, eng_modEng, eng_of_engines (deliver_same ..).1]

end

/-- What a sample that runs leaves, whatever its sink. -/
theorem runSample_sampled {c d : Chip} {e j delay : Nat} {b : LoopBlock} {tl : TickLatch} (engines : d.engines = c.engines) :
    Claims.Sampled c e j delay b tl (runSample d e j delay b (loopSt c e j) tl) := by
  have runs := runSample_eq (c := d) (e := e) (j := j) (delay := delay) (t := tl)
    (computed := (Prod.eta (computeSample b (if (loopSt c e j).offDone then freshLoop b (loopSt c e j) else loopSt c e j) tl)).symm)
    (driven := (Prod.eta _).symm)
  dsimp only [Claims.Sampled]
  rw [runs, loopSt_of_engines (sampleReported_engines ..), sampleStored_loop, eng_of_engines (sampleReported_engines ..),
    sampleStored_samples, eng_of_engines (driveLoopSink_engines ..), eng_of_engines engines]
  exact ⟨rfl, rfl, fun sat => cause_saturated _ _ _ _ _ _ _ sat, fun late => cause_late _ _ _ _ _ _ _ late⟩

theorem causesKept_runSample (c : Chip) (e j delay : Nat) (b : LoopBlock) (st : LoopSt) (t : TickLatch) :
    CausesKept c (runSample c e j delay b st t) := by
  rw [runSample_eq (computed := (Prod.eta _).symm) (driven := (Prod.eta _).symm)]
  have stored (d : Chip) (new : LoopSt) (cand : Int) (on : Bool) : CausesKept d (sampleStored d e j delay b new cand on t) :=
    causesKept_of_pages (deliver_same ..).2
  exact ((causesKept_driveLoopSink ..).trans (stored ..)).trans (causesKept_sampleReported ..)

/-! ### A loop in OFF, and one that stops (R266, R280) -/

/-- The safe value has left on the sink and on the lane. -/
def safeLeft (c : Chip) (delay : Nat) (b : LoopBlock) (st : LoopSt) (t : TickLatch) (tracked : Bool) : Chip :=
  let (c, _) := driveLoopSink c b st.digOn b.com.safe
  deliver c b ⟨b.com.safe, b.com.safe, true, false, leavesAt c t delay⟩ tracked

theorem safeLeft_engines (c : Chip) (delay : Nat) (b : LoopBlock) (st : LoopSt) (t : TickLatch) (tracked : Bool) :
    (safeLeft c delay b st t tracked).engines = c.engines :=
  (deliver_same ..).1.trans (driveLoopSink_engines ..)

/-- A loop that goes to its safe value in OFF. -/
def safeLoop (b : LoopBlock) (on : Bool) (s : LoopSt) : LoopSt :=
  { s with mode := 0, offDone := true, digOn := on, latch := none, u := b.com.safe }

theorem offSample_done {c : Chip} {b : LoopBlock} {st : LoopSt} {t : TickLatch} (e j delay : Nat) (done : st.offDone = true) :
    offSample c e j delay b st t = modLoop c e j fun s => { s with latch := none } := if_pos done

theorem offSample_first {c d : Chip} {b : LoopBlock} {st : LoopSt} {tl : TickLatch} {e j delay : Nat} (engines : d.engines = c.engines)
    (first : st.offDone = false) :
    Claims.SampledOff c e j b (offSample d e j delay b st tl) := by
  have left : (offSample d e j delay b st tl).engines = (modLoop (safeLeft d delay b st tl tl.track.isSome) e j
      (safeLoop b (driveLoopSink d b st.digOn b.com.safe).2)).engines := by
    unfold offSample
    rw [if_neg (by simp [first])]
    exact alertCond_engines ..
  dsimp only [Claims.SampledOff]
  rw [loopSt_of_engines left, loopSt_modLoop, loopSt_of_engines (safeLeft_engines ..), loopSt_of_engines engines]
  exact ⟨rfl, rfl, rfl, rfl, rfl⟩

/-- The loop has stopped. -/
def loopStopped (c : Chip) (e j delay : Nat) (b : LoopBlock) (st : LoopSt) (t : TickLatch) : Chip :=
  modLoop (safeLeft c delay b st t false) e j fun s =>
    { s with stopped := true, mode := 0, digOn := (driveLoopSink c b st.digOn b.com.safe).2, latch := none }

theorem stopLoop_eq (c : Chip) (e j delay : Nat) (b : LoopBlock) (st : LoopSt) (t : TickLatch) (off : Nat) :
    stopLoop c e j delay b st t off =
      let c := raise (raise (alertCond (loopStopped c e j delay b st t) e) (engPage e) 28) (engPage e) 5
      emit c (engPage e) 0x45 j (BitVec.ofNat 32 off) (BitVec.ofInt 32 st.u) 0 c.stroke.count := rfl

theorem stopLoop_stops {c d : Chip} {e j delay : Nat} {b : LoopBlock} {st : LoopSt} {t : TickLatch} (off : Nat)
    (engines : d.engines = c.engines) : Claims.SampleStopped c e j (stopLoop d e j delay b st t off) := by
  have left : (stopLoop d e j delay b st t off).engines = (loopStopped d e j delay b st t).engines := by
    rw [stopLoop_eq]
    dsimp only
    rw [emit_engines, raise_engines, raise_engines, alertCond_engines]
  dsimp only [Claims.SampleStopped]
  rw [loopSt_of_engines left, loopStopped, loopSt_modLoop, loopSt_of_engines (safeLeft_engines ..), loopSt_of_engines engines,
    stopLoop_eq]
  exact ⟨rfl, rfl, rfl, rfl, cause_of_raised (causesKept_emit ..) (by decide),
    cause_of_raised ((causesKept_raise ..).trans (causesKept_emit ..)) (by decide)⟩

/-! ### The two commands (R272, R320) -/

/-- What each case of a sample leaves, for the command `run` that starts it. -/
def SampleCompletes (s : State) (run : Option LoopEcc → Host.Outcome State Fault Refusal) (e j delay : Nat) (b : LoopBlock) (tl : TickLatch) : Prop :=
  let c := s.chip
  (Claims.Ready c e j b tl → tl.req ≠ 0 → ∃ t : State, run none = .next t ∧ Claims.Sampled c e j delay b tl t.chip)
    ∧ (Claims.Ready c e j b tl → tl.req ≠ 0 → ∃ t : State, run (some .corrected) = .next t
        ∧ Claims.Sampled c e j delay b tl t.chip ∧ bitOf (hdr t.chip (engPage e)).cause 29 = true)
    ∧ (Claims.Ready c e j b tl → tl.req = 0 → (loopSt c e j).offDone = false →
        ∃ t : State, run none = .next t ∧ Claims.SampledOff c e j b t.chip)
    ∧ (Claims.Ready c e j b tl → tl.req = 0 → (loopSt c e j).offDone = true →
        run none = .next (after s (modLoop { c with now := none } e j fun n => { n with latch := none })))
    ∧ (∀ off : Nat, Claims.Ready c e j b tl →
        ∃ t : State, run (some (.uncorrectable off)) = .next t ∧ Claims.SampleStopped c e j t.chip)
    ∧ (loopBlock c e j = none ∨ (loopSt c e j).latch = none ∨ completing c e = false ∨ (loopSt c e j).stopped = true →
        ∀ ecc : Option LoopEcc, run ecc = .next (after s c))

/-- What a ready loop does at its instant. -/
def sampleAct (e j delay : Nat) (b : LoopBlock) (st : LoopSt) (t : TickLatch) (ecc : Option LoopEcc) (c : Chip) : Chip :=
  let sample := fun c => if t.req = 0 then offSample c e j delay b st t else runSample c e j delay b st t
  match ecc with
  | some (.uncorrectable off) => stopLoop c e j delay b st t off
  | some .corrected => sample (raise c (engPage e) 29)
  | none => sample c

theorem loopSample_ready {c : Chip} {e j : Nat} {b : LoopBlock} {tl : TickLatch} (delay : Nat) (ecc : Option LoopEcc)
    (ready : Claims.Ready c e j b tl) : loopSample c e j delay ecc =
      atTime (leavesAt c tl delay).toNat (sampleAct e j delay b (loopSt c e j) tl ecc) c := by
  obtain ⟨block, latched, completes, runs⟩ := ready
  unfold loopSample
  rw [block, latched]
  exact if_neg (by simp [completes, runs])

theorem loopSample_rests {c : Chip} {e j : Nat} (delay : Nat) (ecc : Option LoopEcc)
    (rests : loopBlock c e j = none ∨ (loopSt c e j).latch = none ∨ completing c e = false ∨ (loopSt c e j).stopped = true) :
    loopSample c e j delay ecc = c := by
  unfold loopSample
  split
  · next block latched =>
    refine if_pos ?_
    obtain no | no | no | no := rests
    · exact absurd (no.symm.trans block) (by simp)
    · exact absurd (no.symm.trans latched) (by simp)
    · simp [no]
    · simp [no]
  · rfl

section
variable {c d d' : Chip} {e j delay : Nat} {b : LoopBlock} {tl : TickLatch}

theorem hdr_of_pages (pages : d'.pages = d.pages) (p : Nat) : hdr d' p = hdr d p := by rw [hdr, pages, hdr]

theorem sampled_of_view (engines : d'.engines = d.engines) (cause : ∀ p, (hdr d' p).cause = (hdr d p).cause)
    (h : Claims.Sampled c e j delay b tl d) : Claims.Sampled c e j delay b tl d' := by
  dsimp only [Claims.Sampled] at h ⊢
  rwa [loopSt_of_engines engines, eng_of_engines engines, cause]

theorem sampledOff_of_view (engines : d'.engines = d.engines) (h : Claims.SampledOff c e j b d) : Claims.SampledOff c e j b d' := by
  dsimp only [Claims.SampledOff] at h ⊢
  rwa [loopSt_of_engines engines]

theorem stopped_of_view (engines : d'.engines = d.engines) (cause : ∀ p, (hdr d' p).cause = (hdr d p).cause)
    (h : Claims.SampleStopped c e j d) : Claims.SampleStopped c e j d' := by
  dsimp only [Claims.SampleStopped] at h ⊢
  rwa [loopSt_of_engines engines, cause]

end

theorem sampleCompletes {s : State} {run : Option LoopEcc → Host.Outcome State Fault Refusal} {e j delay : Nat} (b : LoopBlock) (tl : TickLatch)
    (runs : ∀ ecc, run ecc = .next (after s (loopOutput s.chip (loopSample s.chip e j delay ecc)))) :
    SampleCompletes s run e j delay b tl := by
  have engines (ready : Claims.Ready s.chip e j b tl) (ecc : Option LoopEcc) :
      (after s (loopOutput s.chip (loopSample s.chip e j delay ecc))).chip.engines =
        (sampleAct e j delay b (loopSt s.chip e j) tl ecc { s.chip with now := some (leavesAt s.chip tl delay).toNat }).engines := by
    rw [after_chip, attnUpdate_engines, (loopOutput_kept ..).1, loopSample_ready delay ecc ready, atTime_engines]
  have cause (ready : Claims.Ready s.chip e j b tl) (ecc : Option LoopEcc) (p : Nat) :
      (hdr (after s (loopOutput s.chip (loopSample s.chip e j delay ecc))).chip p).cause =
        (hdr (sampleAct e j delay b (loopSt s.chip e j) tl ecc
          { s.chip with now := some (leavesAt s.chip tl delay).toNat }) p).cause := by
    rw [after_chip, hdr_attnUpdate, hdr_of_pages (loopOutput_kept ..).2, loopSample_ready delay ecc ready, hdr_of_pages atTime_pages]
  refine ⟨fun ready on => ?_, fun ready on => ?_, fun ready off first => ?_, fun ready off done => ?_, fun at_ ready => ?_,
    fun rests ecc => ?_⟩
  · refine ⟨_, runs none, sampled_of_view (engines ready none) (cause ready none) ?_⟩
    rw [sampleAct]
    dsimp only
    rw [if_neg on]
    exact runSample_sampled rfl
  · have acts (d : Chip) : sampleAct e j delay b (loopSt s.chip e j) tl (some .corrected) d =
        runSample (raise d (engPage e) 29) e j delay b (loopSt s.chip e j) tl := if_neg on
    refine ⟨_, runs (some .corrected), sampled_of_view (engines ready _) (cause ready _) ?_, ?_⟩
    · rw [acts]
      exact runSample_sampled (raise_engines ..)
    · rw [cause ready, acts]
      exact cause_of_raised (causesKept_runSample ..) (by decide)
  · refine ⟨_, runs none, sampledOff_of_view (engines ready none) ?_⟩
    rw [sampleAct]
    dsimp only
    rw [if_pos off]
    exact offSample_first rfl first
  · refine (runs none).trans (next_after_congr ?_)
    have left : loopSample s.chip e j delay none = modLoop { s.chip with now := none } e j fun n => { n with latch := none } := by
      rw [loopSample_ready delay none ready, atTime, sampleAct]
      dsimp only
      rw [if_pos off, offSample_done e j delay done]
      rfl
    rw [left]
    exact if_pos rfl
  · refine ⟨_, runs (some (.uncorrectable at_)),
      stopped_of_view (engines ready (some (.uncorrectable at_))) (cause ready (some (.uncorrectable at_))) ?_⟩
    exact stopLoop_stops (c := s.chip) at_ rfl
  · refine (runs ecc).trans (next_after_congr ?_)
    rw [loopSample_rests delay ecc rests, loopOutput_same]

theorem loopSampleCompletes : Claims.LoopSampleCompletes := fun s e j delay b tl =>
  sampleCompletes (run := fun ecc => exec (.loopSample e j delay ecc) s) b tl fun ecc => by unfold exec; rfl

theorem tableSampleCompletes : Claims.TableSampleCompletes := fun s t j delay b tl =>
  sampleCompletes (run := fun ecc => exec (.tableSample t j delay ecc) s) b tl fun ecc => by unfold exec; rfl

/-- Settles O32: a tick is a fold over the loops due, each of them latched from what the engine was before it, and a
sample's reports change no loop (R98, R256 to R280, R316 to R320). -/
theorem loopCommandsComplete : Obligations.LoopCommandsComplete :=
  ⟨loopTickCompletes, loopSampleCompletes, tableSampleCompletes⟩

end Sys2Proof.Machine
end

section
/-!
PROOFS. What a change of mode leaves of the stroke (R30, R87, R90).
-/
namespace Sys2Proof.Machine
open Safety

/-! ### The beat -/

/-- Where a stroke stands and what it runs by, with the registers that set the next. -/
structure Beat where
  count : Word
  t0 : Nat
  active : Word
  phase : Phase
  capturing : Bool
  cfg : SMap Word

def beat (c : Chip) : Beat := ⟨c.stroke.count, c.stroke.t0, c.stroke.active, c.stroke.phase, c.stroke.capturing, c.cfg⟩

/-- The mode, the stroke and the registers. -/
def course (c : Chip) : ModeSt × StrokeSt × SMap Word := (c.mode, c.stroke, c.cfg)

theorem course_of_deck {c d : Chip} (h : deck c = deck d) : course c = course d :=
  (congrArg course h : course (deck c) = course (deck d))

theorem course_of_inner {c d : Chip} (h : inner c = inner d) : course c = course d := course_of_deck (deck_of_inner h)

theorem course_of_bench {c d : Chip} (h : bench c = bench d) : course c = course d :=
  (congrArg course h : course (bench c) = course (bench d))

theorem mode_of_course {c d : Chip} (h : course c = course d) : c.mode = d.mode := congrArg Prod.fst h
theorem stroke_of_course {c d : Chip} (h : course c = course d) : c.stroke = d.stroke := congrArg (·.2.1) h

theorem beat_of_course {c d : Chip} (h : course c = course d) : beat c = beat d := by
  have stroke := stroke_of_course h
  have cfg : c.cfg = d.cfg := congrArg (·.2.2) h
  rw [beat, stroke, cfg, beat]

theorem beat_of_deck {c d : Chip} (h : deck c = deck d) : beat c = beat d := beat_of_course (course_of_deck h)
theorem beat_of_inner {c d : Chip} (h : inner c = inner d) : beat c = beat d := beat_of_deck (deck_of_inner h)

theorem beat_modSeat (c : Chip) (f : SeatSt → SeatSt) : beat (modSeat c f) = beat c := rfl
theorem beat_modMirror (c : Chip) (f : MirrorSt → MirrorSt) : beat (modMirror c f) = beat c := rfl
theorem beat_modPairCnt (c : Chip) (f : PairCnt → PairCnt) : beat (modPairCnt c f) = beat c := rfl
theorem beat_modBackup (c : Chip) (f : BackupSt → BackupSt) : beat (modBackup c f) = beat c := rfl
theorem beat_modHosts (c : Chip) (f : HostSt → HostSt) : beat (modHosts c f) = beat c := rfl
theorem beat_raise (c : Chip) (p b : Nat) : beat (raise c p b) = beat c := beat_of_inner (inner_raise ..)
theorem beat_emit (c : Chip) (p low source : Nat) (p0 p1 p2 p3 : Word) : beat (emit c p low source p0 p1 p2 p3) = beat c :=
  beat_of_inner (inner_emit ..)
theorem beat_forgotten (c : Chip) (w : WakeSt) (m : SMap Word) :
    beat { c with wake := w, stroke := { c.stroke with hiLatch := m } } = beat c := rfl
theorem beat_handedOn (c : Chip) (x : Img) (p s h : Bool) :
    beat { c with latch := x, stroke := { c.stroke with safeLatch := p, safeLatchS := s, haltAtStrobe := h } } = beat c := rfl

/-! ### The seat, the standby and the sessions -/

theorem beat_takeSeat (c : Chip) (cause : Nat) (ckpt : Word) : beat (takeSeat c cause ckpt) = beat c := by
  have gap : beat (takeoverGap c cause).2 = beat c := by
    unfold takeoverGap
    split <;> rfl
  simp only [takeSeat, beat_emit, beat_raise, beat_modPairCnt, beat_modSeat, gap]

theorem beat_seated (c : Chip) : beat (seated c) = beat c := by
  have written (d : Chip) : beat (writeEpoch d) = beat d := beat_modBackup ..
  have cans (d : Chip) : beat (canTakeSeat d) = beat d := beat_of_inner (inner_canTakeSeat d)
  simp only [seated, apply_ite beat, cans, beat_takeSeat, written, ite_self]

theorem beat_runFromStop (c : Chip) : beat (runFromStop c) = beat c := (beat_of_deck (deck_runFromStop c)).trans (beat_seated c)

theorem beat_takenOver (c : Chip) : beat (takenOver c) = beat c := by
  have crews : deck (crewTakesOver (crewTakesOver (linkRestarted c) .safety) .process) = deck (linkRestarted c) := by
    rw [deck_crewTakesOver, deck_crewTakesOver]
  have passed (d : Chip) (x : Img) (p s h : Bool) : beat (switchesTakeOver (loopsTakeOver (commitView (commitView
      { d with latch := x, stroke := { d.stroke with safeLatch := p, safeLatchS := s, haltAtStrobe := h } } .safety) .process))) =
      beat d := by
    refine Eq.trans (beat_of_deck ?_) (beat_handedOn d x p s h)
    rw [deck_switchesTakeOver, deck_loopsTakeOver, deck_commitView, deck_commitView]
  have restarted : beat (linkRestarted c) = beat c := rfl
  exact (passed _ _ _ _ _).trans ((beat_of_deck crews).trans restarted)

theorem beat_runFromTakeover (c : Chip) : beat (runFromTakeover c) = beat c :=
  (beat_of_inner (inner_runFromTakeover c)).trans ((beat_takeSeat ..).trans (beat_takenOver c))

theorem beat_leaveStandby (c : Chip) : beat (leaveStandby c) = beat c := by
  have restored : beat (paddleRestore c) = beat c := beat_of_deck (deck_paddleRestore c)
  simp only [leaveStandby, beat_modMirror, apply_ite beat, restored, ite_self]

theorem beat_enterStandby (c : Chip) (handed : Bool) (old : Mode) : beat (enterStandby c handed old) = beat c := by
  have asked (d : Chip) : beat (sendSyncReq d) = beat d := (beat_of_inner (inner_sendRecord ..)).trans (beat_modMirror ..)
  simp only [enterStandby, apply_ite beat, asked, beat_modMirror, beat_modSeat, ite_self]

theorem beat_closeSession (c : Chip) (s why : Nat) : beat (closeSession c s why) = beat c := by
  unfold closeSession
  split
  · rfl
  · simp only [beat_emit, beat_raise, apply_ite beat, beat_modHosts, ite_self]
    rfl

theorem beat_closeAll (c : Chip) (why : Nat) : beat (closeAll c why) = beat c :=
  kept_forN beat (fun s d => beat_closeSession d s why) 16 c

/-! ### Changes of mode -/

theorem beat_modeEntry (c : Chip) (old m : Mode) (row : Nat) : beat (modeEntry c old m row) = beat c := by
  have absent (d : Chip) : beat (forN 32 (fun l c => stnsAbsent c l) d) = beat d :=
    kept_forN beat (fun l d => beat_of_inner (inner_stnsAbsent d l)) 32 d
  have waiting (d : Chip) : beat (zwWaiting d) = beat d := beat_of_inner (inner_zwWaiting d)
  have conns (d : Chip) : beat (zwConds d) = beat d := beat_of_inner (inner_zwConds d)
  have groups (d : Chip) : beat (inhibitGroups d) = beat d := beat_of_inner (inner_inhibitGroups d)
  have crews (d : Chip) : beat (stopCrews d) = beat d := beat_of_deck (deck_stopCrews d)
  have opened (d : Chip) : beat (openSafety d) = beat d := beat_of_inner (inner_openSafety d)
  have applied (d : Chip) : beat (applyPaired d) = beat d := beat_of_inner (inner_applyPaired d)
  have flushed (d : Chip) : beat (resetFlush d) = beat d := beat_of_inner (inner_resetFlush d)
  have off (d : Chip) : beat (outputsOff d) = beat d := beat_of_inner (inner_outputsOff d)
  have left (d : Chip) : beat (leaveSeat d) = beat d := beat_modSeat ..
  unfold modeEntry
  rw [beat_of_inner (inner_canSyncAll _)]
  cases m
  case run => cases old <;> simp only [waiting, conns, beat_runFromStop, beat_runFromTakeover]
  case config => simp only [absent, waiting, groups, crews, opened, left]
  all_goals simp only [waiting, groups, crews, opened, left, beat_modSeat, applied, beat_enterStandby, beat_closeAll, flushed, off]

theorem beat_modeLeft (c : Chip) (m : Mode) : beat (modeLeft c m) = beat c := by
  have sampling (d : Chip) : beat (stopSampling d) = beat d := beat_of_deck (deck_stopSampling d)
  simp only [modeLeft, apply_ite beat, sampling, beat_leaveStandby, ite_self]

/-- In a mode without strokes a stroke stands at its catch with no capture under way (R90). -/
def rested (m : Mode) (b : Beat) : Beat :=
  { b with phase := if m.strokes then b.phase else .catch_, capturing := m.strokes && b.capturing }

theorem beat_enterMode {c : Chip} {m : Mode} (row : Nat) (other : c.mode.mode ≠ m) :
    beat (enterMode c m row) = rested m (beat c) := by
  have here : (modeLeft c m).mode = c.mode := mode_of_pillar (pillar_modeLeft c m)
  rw [enterMode_of_ne row other, beat_of_inner (inner_pairConds _), beat_modPairCnt, beat_modeEntry,
    beat_of_inner (inner_changeMode row (by rwa [here]))]
  exact congrArg (rested m) (beat_modeLeft c m)

/-- The count, the time and the registers go on through a change of mode. -/
theorem beat_enterMode_keeps (c : Chip) (m : Mode) (row : Nat) :
    beat (enterMode c m row) = { beat c with
      phase := (beat (enterMode c m row)).phase, capturing := (beat (enterMode c m row)).capturing } := by
  by_cases same : c.mode.mode = m
  · rw [enterMode_of_eq row same]
  · rw [beat_enterMode row same, rested]

theorem beat_enterMode_rest {c : Chip} (m : Mode) (row : Nat) (catch_ : (beat c).phase = .catch_) (idle : (beat c).capturing = false) :
    beat (enterMode c m row) = beat c := by
  by_cases same : c.mode.mode = m
  · rw [enterMode_of_eq row same]
  · rw [beat_enterMode row same, rested, catch_, idle, ite_self, Bool.and_false, ← catch_, ← idle]

end Sys2Proof.Machine
end

section
/-!
PROOFS. T0 (R87, R92, R119, R415, R417): the next stroke starts whatever the catch finds.
-/
namespace Sys2Proof.Machine
open Safety

/-! ### Reports and parts -/

theorem course_raise (c : Chip) (p b : Nat) : course (raise c p b) = course c := course_of_inner (inner_raise ..)
theorem course_setCond (c : Chip) (p b : Nat) (v : Bool) : course (setCond c p b v) = course c := course_of_inner (inner_setCond ..)
theorem course_emit (c : Chip) (p low source : Nat) (p0 p1 p2 p3 : Word) : course (emit c p low source p0 p1 p2 p3) = course c :=
  course_of_inner (inner_emit ..)
theorem course_modCrew (c : Chip) (cr : Crew) (f : CrewSt → CrewSt) : course (modCrew c cr f) = course c :=
  course_of_deck (deck_modCrew ..)
theorem course_modCtl (c : Chip) (cr : Crew) (f : CrewCtl → CrewCtl) : course (modCtl c cr f) = course c :=
  course_of_deck (deck_modCtl ..)
theorem course_modCox (c : Chip) (cr : Crew) (f : CoxSt → CoxSt) : course (modCox c cr f) = course c := by cases cr <;> rfl
theorem course_modMirror (c : Chip) (f : MirrorSt → MirrorSt) : course (modMirror c f) = course c := rfl
theorem course_modSeat (c : Chip) (f : SeatSt → SeatSt) : course (modSeat c f) = course c := rfl
theorem course_modPairCnt (c : Chip) (f : PairCnt → PairCnt) : course (modPairCnt c f) = course c := rfl
theorem course_modHosts (c : Chip) (f : HostSt → HostSt) : course (modHosts c f) = course c := rfl
theorem course_modEnt (c : Chip) (p e : Nat) (f : SerEnt → SerEnt) : course (modEnt c p e f) = course c := rfl
theorem course_modEng (c : Chip) (e : Nat) (f : EngSt → EngSt) : course (modEng c e f) = course c := rfl
theorem course_modReset (c : Chip) (f : ResetIn → ResetIn) : course (modReset c f) = course c := rfl
theorem course_sendRecord (c : Chip) (type : Nat) (stroke : Word) (payload : List Byte) :
    course (sendRecord c type stroke payload) = course c := course_of_inner (inner_sendRecord ..)
theorem course_send (c : Chip) (line : Line) (bytes : List Byte) : course (send c line bytes) = course c :=
  course_of_inner (inner_of_bare (bare_send ..))
theorem course_rateAllow (c : Chip) (key per : Nat) : course (rateAllow c key per).2 = course c := by
  rw [rateAllow, apply_ite Prod.snd, apply_ite course]
  exact ite_self _

theorem course_canSyncAll (c : Chip) : course (canSyncAll c) = course c := course_of_inner (inner_canSyncAll c)

/-! ### The seat passes, or is entered upon (R415, R417) -/

theorem course_ckptIncomplete (c : Chip) (why lines : Nat) : course (ckptIncomplete c why lines) = course c := by
  have limited {d e : Chip} {due : Option Nat} (h : rateAllow d (rateKey 0x28 0x76 0) 100 = (due, e)) : course e = course d :=
    (congrArg (fun r => course r.2) h).symm.trans (course_rateAllow ..)
  unfold ckptIncomplete
  dsimp only
  split
  · next h => exact (limited h).trans (course_raise ..)
  · next h => exact (course_emit ..).trans ((limited h).trans (course_raise ..))

/-- A module whose count and registers stay, and which has no capture under way if the one before has none. -/
def Onward (c d : Chip) : Prop :=
  d.stroke.count = c.stroke.count ∧ d.cfg = c.cfg ∧ (c.stroke.capturing = false → d.stroke.capturing = false)

theorem onward_of_beat {c d : Chip} (h : beat d = beat c) : Onward c d := by
  refine ⟨(congrArg Beat.count h :), (congrArg Beat.cfg h :), fun idle => ?_⟩
  exact (congrArg Beat.capturing h : d.stroke.capturing = c.stroke.capturing).trans idle

theorem onward_enterMode (c : Chip) (m : Mode) (row : Nat) : Onward c (enterMode c m row) := by
  have keeps := beat_enterMode_keeps c m row
  refine ⟨(congrArg Beat.count keeps :), (congrArg Beat.cfg keeps :), fun idle => ?_⟩
  by_cases same : c.mode.mode = m
  · rw [enterMode_of_eq row same, idle]
  · have rest : (enterMode c m row).stroke.capturing = (m.strokes && c.stroke.capturing) :=
      congrArg Beat.capturing (beat_enterMode row same)
    rw [rest, idle, Bool.and_false]

theorem Onward.trans {c d x : Chip} (h : Onward c d) (k : Onward d x) : Onward c x := by
  obtain ⟨count, cfg, idle⟩ := h
  obtain ⟨count', cfg', idle'⟩ := k
  exact ⟨count'.trans count, cfg'.trans cfg, fun none_ => idle' (idle none_)⟩

theorem onward_passSeat (c : Chip) : Onward c (passSeat c) := by
  unfold passSeat
  split
  · exact onward_of_beat rfl
  · next e _ =>
    have told : beat (emit (raise c 0x28 4) 0x28 0x71 0xFFFF (raise c 0x28 4).backup.epoch e (raise c 0x28 4).seat.handoverAfter
        (raise c 0x28 4).stroke.count) = beat c := (beat_emit ..).trans (beat_raise ..)
    dsimp only
    split
    · exact (onward_of_beat ((beat_modSeat ..).trans told)).trans (onward_enterMode ..)
    · exact (onward_of_beat told).trans (onward_enterMode ..)

theorem onward_offersSpent (c : Chip) : Onward c (offersSpent c) := by
  have told (d : Chip) : Onward d (raise (modSeat d fun s => { s with handover := false, offers := 0, haltRow := none }) 0x28 9) :=
    onward_of_beat ((beat_raise ..).trans (beat_modSeat ..))
  unfold offersSpent
  split
  · exact onward_of_beat rfl
  · dsimp only
    split
    · exact (told c).trans (onward_enterMode ..)
    · exact told c

/-- A capture that has not ended by T0 ends there (R106). -/
theorem captureLate_ends (c : Chip) : (captureLate c).stroke.count = c.stroke.count ∧ (captureLate c).cfg = c.cfg
    ∧ (captureLate c).stroke.capturing = false := by
  have ended : course (captureLate c) = (c.mode, { c.stroke with capturing := false }, c.cfg) := by
    unfold captureLate
    split
    · next idle =>
      rw [course, show c.stroke = { c.stroke with capturing := false } from ?_]
      cases h : c.stroke
      simp_all
    · have unclean (d : Chip) (cr : Crew) : course (modCtl (if (crewSt d cr).run == .idle && !(ctlSt d cr).committed then d
          else returnTrims d cr) cr fun t => { t with committed := false }) = course d := by
        rw [course_modCtl, apply_ite course, returnTrims, course_modCtl, ite_self]
      dsimp only
      rw [course_raise, apply_ite course, course_ckptIncomplete, ite_self, unclean, unclean]
      rfl
  exact ⟨congrArg (·.2.1.count) ended, congrArg (·.2.2) ended, congrArg (·.2.1.capturing) ended⟩

theorem beat_seatEntered {c : Chip} (catch_ : (beat c).phase = .catch_) (idle : (beat c).capturing = false) :
    beat (seatEntered c) = beat c := by
  have entered : beat (baseLines (enterMode c .run 28)) = beat c := (beat_modMirror ..).trans (beat_enterMode_rest _ _ catch_ idle)
  unfold seatEntered
  split
  · rfl
  · dsimp only
    split
    · unfold haltOrHandover
      split
      · exact (beat_modSeat ..).trans entered
      · rw [beat_enterMode_rest, entered]
        · rw [entered, catch_]
        · rw [entered, idle]
    · exact entered

/-! ### The start of the stroke (R110, R111, R119, R71, R298) -/

theorem beat_syncTo (c : Chip) (x : SyncState) : beat (syncTo c x) = beat c := by
  unfold syncTo
  split
  · rfl
  · exact (beat_of_course (course_setCond ..)).trans rfl

theorem beat_syncFollow (c : Chip) : beat (syncFollow c) = beat c := by
  unfold syncFollow
  split
  · exact beat_syncTo c .free
  · split
    · rw [apply_ite beat, beat_syncTo, ite_self]
    · rw [apply_ite beat, beat_syncTo, ite_self]
    · rfl

theorem beat_syncMeasure (c : Chip) (offset : Int) : beat (syncMeasure c offset) = beat c := by
  unfold syncMeasure
  rw [apply_ite beat]
  exact ite_self _

theorem course_stepCorrected (c : Chip) (step : Bool) : course (stepCorrected c step) = course c := by
  unfold stepCorrected
  split
  · exact course_raise ..
  · exact course_raise ..
  · exact course_raise ..
  · exact course_raise ..
  · rfl

theorem course_carryDrives (c : Chip) : course (carryDrives c) = course c := (course_modCrew ..).trans (course_modCrew ..)

theorem course_loadHigh (c : Chip) : course (loadHigh c) = course c := course_setCond ..

theorem course_drainTick (c : Chip) : course (drainTick c) = course c := by
  unfold drainTick
  dsimp only
  rw [apply_ite course, course_canSyncAll, ite_self]
  rfl

theorem course_applyTune (c : Chip) (e : Nat) : course (applyTune c e) = course c := by
  unfold applyTune
  split
  · rfl
  · dsimp only
    rw [apply_ite course, course_emit, course_emit, ite_self, course_raise, course_modEng]

/-! ### The latches of T0 (R92) -/

theorem course_readLinks (c : Chip) (w : BitVec 8) : course (readLinks c w) = course c := by
  have set_ (x : IslSt) : course { c with isl := x } = course c := rfl
  simp only [readLinks, islConds, course_setCond]
  rw [kept_forN course fun k d => by simp only [apply_ite course, course_emit, ite_self]]
  exact set_ _

theorem course_latchInputs (c : Chip) (x : TickIn) : course (latchInputs c x) = course c := by
  have switches (d : Chip) (hs ls : BitVec 8) : course (readSwitches d hs ls) = course d :=
    kept_forN course (fun o d => course_of_inner (inner_modOut d o _)) 8 d
  have taken (d : Chip) : course (catchSafety d) = course d := rfl
  have flushed (d : Chip) : course (resetFlush d) = course d := course_of_inner (inner_resetFlush d)
  have caught (d : Chip) : course (catchReset d) = course d := by
    unfold catchReset
    split <;> rfl
  simp only [latchInputs, apply_ite course, flushed, caught, ite_self, taken, switches, course_readLinks]

/-! ### The catch (R93, R190, R229) -/

theorem course_modObj (c : Chip) (n o : Nat) (f : ObjSt → ObjSt) : course (modObj c n o f) = course c := rfl

theorem course_fifoCatch (c : Chip) (n : Nat) : course (fifoCatch c n) = course c := by
  unfold fifoCatch
  dsimp only
  split <;> rfl

theorem course_objects (n : Nat) (f : ObjSt → ObjSt) (l : List Nat) (c : Chip) :
    course (l.foldl (fun c o => modObj c n o f) c) = course c := kept_foldl course (fun d o => course_modObj d n o f) l c

theorem course_catchCan (c : Chip) : course (catchCan c).1 = course c := by
  unfold catchCan
  dsimp only
  rw [kept_forN course fun n d => ?_, kept_forN course fun n d => ?_]
  · simp only [apply_ite course, course_fifoCatch, course_objects, ite_self]
  · simp only [apply_ite course, course_setCond, course_objects, ite_self]

theorem course_restoreCtl (c : Chip) (cr : Crew) : course (restoreCtl c cr) = course c := by
  unfold restoreCtl
  split
  · rfl
  · exact course_modCrew ..

theorem course_applyTrims (c : Chip) (cr : Crew) : course (applyTrims c cr) = course c := by
  unfold applyTrims
  split
  · rfl
  · dsimp only
    rw [course_raise, course_modCrew, course_modCtl]

theorem course_crewCatch (c : Chip) (cr : Crew) (x : Caught) (build : Bool) : course (crewCatch c cr x build) = course c := by
  simp only [crewCatch, course_modCtl, course_modCrew, course_applyTrims]

theorem course_restartCaught (c : Chip) (cr : Crew) : course (restartCaught c cr) = course c := by
  simp only [restartCaught, apply_ite course, course_emit, course_modCox, ite_self]

theorem course_crewTick (c : Chip) (cr : Crew) (x : Caught) : course (crewTick c cr x) = course c := by
  unfold crewTick
  dsimp only
  rw [course_restartCaught]
  split
  · simp only [apply_ite course, course_modCtl, course_crewCatch, course_restoreCtl, ite_self]
  · rw [apply_ite course, course_applyTrims, ite_self]

theorem course_catchIslands (c : Chip) : course (catchIslands c) = course c :=
  kept_forN course (fun i d => by rw [apply_ite course, course_of_inner (inner_modBuf ..), ite_self]) 16 c

theorem course_catchRemote (c : Chip) : course (catchRemote c) = course c :=
  kept_foldl course (fun d x => by
    dsimp only
    rw [apply_ite course, course_of_inner (inner_modStn ..), course_of_inner (inner_modStn ..), ite_self]) _ c

theorem course_catchSerial (c : Chip) : course (catchSerial c) = course c :=
  kept_forN course (fun p d => kept_forN course (fun e d => by rw [apply_ite course, course_modEnt, ite_self]) 16 d) 6 c

theorem course_catchAll (c : Chip) (terminals : BitVec 48) : course (catchAll c terminals) = course c := by
  have set_ (d : Chip) (x : Img) : course { d with img := x } = course d := rfl
  simp only [catchAll, apply_ite course, course_modHosts, ite_self, course_catchSerial, course_catchRemote, course_catchIslands, set_,
    course_crewTick, course_modMirror, course_catchCan]

/-! ### The links, the serial ports, the sessions and the pair (R509, R594, R586, R391) -/

theorem course_tickLink (l : Nat) (c : Chip) : course (tickLink l c) = course c := by
  have missed (d : Chip) (a : Nat) : course (if (stn d l a).awaiting then
      modStn (modLink d l fun k => { k with misses := satInc 255 k.misses }) l a fun s => { s with misses := satInc 15 s.misses }
      else d) = course d := by
    rw [apply_ite course, course_of_inner (inner_modStn ..), course_of_inner (inner_modLink ..), ite_self]
  exact (course_of_inner (inner_modLink ..)).trans (kept_foldl course missed _ c)

theorem course_entTo (c : Chip) (p e why : Nat) (f : SerEnt → SerEnt) : course (entTo c p e why f) = course c := by
  have told (d : Chip) : course (serConds (modEnt d p e f)) = course d := (course_setCond ..).trans (course_modEnt ..)
  unfold entTo
  dsimp only
  split
  · exact told c
  · split
    · exact (course_emit ..).trans ((course_rateAllow ..).trans (told c))
    · exact (course_rateAllow ..).trans (told c)

theorem course_tickSerial (c : Chip) : course (tickSerial c) = course c :=
  kept_forN course (fun p d => kept_forN course (fun e d => by
    simp only [apply_ite course, course_entTo, course_modEnt, ite_self]) 16 d) 6 c

theorem course_sendBeacons (c : Chip) : course (sendBeacons c) = course c := by
  have sent (d : Chip) : course (forN 2 (fun net c => if netServes c net then send c (beaconLine c net) (beaconBytes c) else c) d) =
      course d := kept_forN course (fun net d => by rw [apply_ite course, course_send, ite_self]) 2 d
  rw [sendBeacons, apply_ite course, sent, ite_self]

theorem course_pairTick (c : Chip) : course (pairTick c) = course c := by
  have acked (d : Chip) : course (sendAck d) = course d := by rw [sendAck, apply_ite course, course_sendRecord, ite_self]
  have leased (d : Chip) : course (sendLease d) = course d := by rw [sendLease, apply_ite course, course_sendRecord, ite_self]
  have conds (d : Chip) : course (pairConds d) = course d := (course_of_inner (inner_pairConds d)).trans (course_modPairCnt ..)
  simp only [pairTick, apply_ite course, conds, course_sendBeacons, acked, leased, course_modMirror, course_modSeat, ite_self]

/-! ### T0 -/

/-- The module as the seat leaves it before the count goes up (R106, R417). -/
def beforeTick (c : Chip) : Chip := captureLate (offersSpent (passSeat c))

/-- The stroke starts: the count, the time and the configuration in force. -/
def countedUp (now : Nat) (c : Chip) : Chip :=
  modStroke c fun k => { k with active := cfg c 2 0x040, count := k.count + 1, t0 := now, timed := true, phase := .catch_ }

theorem beat_tickAt (now : Nat) (x : TickIn) (c : Chip) : beat (tickAt now x c) = beat (countedUp now (beforeTick c)) := by
  have idle : (beat (countedUp now (beforeTick c))).capturing = false := (captureLate_ends _).2.2
  have tunes (d : Chip) : course (forN 10 (fun e c => applyTune c e) d) = course d :=
    kept_forN course (fun e d => course_applyTune d e) 10 d
  have links (d : Chip) : course (forN 32 tickLink d) = course d := kept_forN course course_tickLink 32 d
  have after_ (d : Chip) : course (pairTick (sessionStroke (tickSerial (forN 32 tickLink (catchAll (latchInputs
      (forN 10 (fun e c => applyTune c e) (drainTick (loadHigh (carryDrives (stepCorrected d x.step))))) x) x.terminals))))) =
      course d := by
    rw [course_pairTick, sessionStroke, course_modHosts, course_tickSerial, links, course_catchAll, course_latchInputs, tunes,
      course_drainTick, course_loadHigh, course_carryDrives, course_stepCorrected]
  refine (beat_of_course (after_ _)).trans ?_
  rw [beat_syncMeasure, beat_syncFollow]
  exact beat_seatEntered rfl idle

theorem strokeTick_due {c : Chip} (now : Nat) (x : TickIn) (strokes : c.mode.mode.strokes = true)
    (at_ : c.stroke.phase = .recovery ∨ c.stroke.phase = .catch_) : strokeTick c now x = atTime now (tickAt now x) c := by
  refine if_neg ?_
  obtain at_ | at_ := at_ <;> simp [strokes, at_]

theorem strokeTick_rests {c : Chip} (now : Nat) (x : TickIn)
    (rests : ¬(c.mode.mode.strokes = true ∧ (c.stroke.phase = .recovery ∨ c.stroke.phase = .catch_))) : strokeTick c now x = c := by
  refine if_pos ?_
  simpa [Decidable.imp_iff_not_or] using rests

theorem tickStartsAStroke : Claims.TickStartsAStroke := by
  intro s now x
  have run : exec (.strokeTick now x) s = .next (after s (strokeTick s.chip now x)) := by unfold exec; rfl
  dsimp only
  refine ⟨fun ⟨strokes, at_⟩ => ?_, fun rests => run.trans (next_after_congr (strokeTick_rests now x rests))⟩
  have onward : Onward s.chip (beforeTick { s.chip with now := some now }) := by
    have left : Onward s.chip (offersSpent (passSeat { s.chip with now := some now })) :=
      (onward_passSeat { s.chip with now := some now }).trans (onward_offersSpent _)
    obtain ⟨count, cfg, idle⟩ := captureLate_ends (offersSpent (passSeat { s.chip with now := some now }))
    exact left.trans ⟨count, cfg, fun _ => idle⟩
  obtain ⟨count, registers, _⟩ := onward
  have ticked : beat (tickAt now x { s.chip with now := some now }) = beat (countedUp now (beforeTick { s.chip with now := some now })) :=
    beat_tickAt ..
  have stroke : (after s (strokeTick s.chip now x)).chip.stroke = (tickAt now x { s.chip with now := some now }).stroke := by
    rw [after_chip, attnUpdate_stroke, strokeTick_due now x strokes at_]
    rfl
  refine ⟨_, run, rfl, ?_, ?_, ?_, ?_, ?_⟩
  · rw [stroke, ← count]
    exact congrArg Beat.count ticked
  · rw [stroke]
    exact congrArg Beat.t0 ticked
  · rw [stroke]
    exact congrArg Beat.phase ticked
  · have same : (tickAt now x { s.chip with now := some now }).stroke.active =
        cfg (beforeTick { s.chip with now := some now }) 2 0x040 := congrArg Beat.active ticked
    rw [stroke, same, cfg, registers, cfg]
  · rw [stroke]
    exact (congrArg Beat.capturing ticked).trans (captureLate_ends _).2.2

end Sys2Proof.Machine
end

section
/-!
PROOFS. The phases of a stroke after T0 (R90, R95, R102, R105, R113).
-/
namespace Sys2Proof.Machine
open Safety

/-! ### DRIVE_START (R95, R186) -/

/-- The mode, the stroke, the working image and how the process crew stands. -/
def drift (c : Chip) : ModeSt × StrokeSt × Img × RunState := (c.mode, c.stroke, c.work, c.crewP.run)

theorem drift_of_inner {c d : Chip} (h : inner c = inner d) : drift c = drift d :=
  (congrArg drift h : drift (inner c) = drift (inner d))

section
variable {c : Chip} {m : ModeSt} {k : StrokeSt} {w : Img} {r : RunState} (h : drift c = (m, k, w, r))
include h
theorem mode_of_drift : c.mode = m := congrArg Prod.fst h
theorem stroke_of_drift : c.stroke = k := congrArg (·.2.1) h
theorem work_of_drift : c.work = w := congrArg (·.2.2.1) h
theorem run_of_drift : c.crewP.run = r := congrArg (·.2.2.2) h
end

theorem drift_raise (c : Chip) (p b : Nat) : drift (raise c p b) = drift c := drift_of_inner (inner_raise ..)
theorem drift_emit (c : Chip) (p low source : Nat) (p0 p1 p2 p3 : Word) : drift (emit c p low source p0 p1 p2 p3) = drift c :=
  drift_of_inner (inner_emit ..)
theorem drift_modCrew (c : Chip) (cr : Crew) {f : CrewSt → CrewSt} (run : ∀ k, (f k).run = k.run) : drift (modCrew c cr f) = drift c := by
  cases cr
  · rfl
  · exact congrArg (fun r => (c.mode, c.stroke, c.work, r)) (run c.crewP)
theorem drift_modCtl (c : Chip) (cr : Crew) (f : CrewCtl → CrewCtl) : drift (modCtl c cr f) = drift c := by cases cr <;> rfl
theorem drift_modCox (c : Chip) (cr : Crew) (f : CoxSt → CoxSt) : drift (modCox c cr f) = drift c := by cases cr <;> rfl

theorem drift_haltCond (c : Chip) (cr : Crew) : drift (haltCond c cr) = drift c := by
  cases cr
  · rfl
  · exact drift_of_inner (inner_setCond ..)

theorem drift_faultAt (c : Chip) (i : Issue) (code : Nat) (w : Word) : drift (faultAt c i code w) = drift c := by
  have stood : drift (modCore c i.crew i.core fun s => { s with faulted := true }) = drift c := drift_modCrew _ _ fun _ => rfl
  unfold faultAt
  dsimp only
  rw [apply_ite drift, drift_emit, ite_self, drift_raise, drift_modCox, stood]

theorem drift_fetchFault (c : Chip) (i : Issue) : drift (fetchFault c i) = drift c := by
  unfold fetchFault
  dsimp only
  split
  · rw [apply_ite drift, drift_faultAt, ite_self]
  · exact drift_faultAt ..

theorem drift_fetchFirst (cr : Crew) (n : Nat) (c : Chip) : drift (fetchFirst cr n c) = drift c := by
  rw [fetchFirst, apply_ite drift, drift_fetchFault, ite_self]

theorem drift_startOn (c : Chip) (cr : Crew) (goes : (ctlSt c cr).haltNext = false) : drift (driveStart c cr) = drift c := by
  have cores (d : Chip) (f : CoreSt → CoreSt) : drift (modCores d cr f) = drift d := drift_modCrew _ _ fun _ => rfl
  have entered (d : Chip) : drift (modCrew d cr enterTasks) = drift d := drift_modCrew _ _ fun _ => rfl
  have fresh (d : Chip) : drift (modCrew d cr fun k => { k with ran := 0 }) = drift d := drift_modCrew _ _ fun _ => rfl
  unfold driveStart
  dsimp only
  rw [if_neg (by simp [goes])]
  simp only [apply_ite drift, entered, fresh, cores, drift_modCtl, ite_self]

theorem drift_startHalts (c : Chip) (cr : Crew) (halts : (ctlSt c cr).haltNext = true) : drift (driveStart c cr) =
    (c.mode, c.stroke, c.work, if cr = .process then .halted else c.crewP.run) := by
  unfold driveStart
  dsimp only
  rw [if_pos halts, drift_emit, drift_haltCond, drift_modCtl]
  cases cr <;> rfl

theorem drift_startSafety (c : Chip) : drift (driveStart c .safety) = drift c := by
  cases halts : (ctlSt c .safety).haltNext
  · exact drift_startOn c .safety halts
  · exact drift_startHalts c .safety halts

theorem ctlP_startSafety (c : Chip) : (driveStart c .safety).ctlP = c.ctlP := by
  have told (d : Chip) (p low source : Nat) (p0 p1 p2 p3 : Word) : (emit d p low source p0 p1 p2 p3).ctlP = d.ctlP := emit_ctlP ..
  unfold driveStart
  dsimp only
  split
  · rw [told]
    rfl
  · simp only [apply_ite Chip.ctlP]
    split
    · split
      · rfl
      · split <;> rfl
    · rfl

/-- The image taken in and the crews set to work, before the halt shows in the mode. -/
def driven (c : Chip) : Chip :=
  forN 3 (fetchFirst .process) (fetchFirst .safety 0
    (driveStart (driveStart (modStroke { c with work := c.img } fun k => { k with phase := .drive }) .safety) .process))

theorem drift_driven (c : Chip) : drift (driven c) =
    (c.mode, { c.stroke with phase := .drive }, c.img, if c.ctlP.haltNext then .halted else c.crewP.run) := by
  have safety := drift_startSafety (modStroke { c with work := c.img } fun k => { k with phase := .drive })
  have ctl := ctlP_startSafety (modStroke { c with work := c.img } fun k => { k with phase := .drive })
  unfold driven
  rw [kept_forN drift (drift_fetchFirst .process), drift_fetchFirst]
  cases halts : c.ctlP.haltNext
  · exact (drift_startOn _ .process (by rw [ctlSt, ctl]; exact halts)).trans safety
  · refine (drift_startHalts _ .process (by rw [ctlSt, ctl]; exact halts)).trans ?_
    exact congrArg (fun x : ModeSt × StrokeSt × Img × RunState => (x.1, x.2.1, x.2.2.1, RunState.halted)) safety

theorem drift_heldMode (c : Chip) (f : PairCnt → PairCnt) : drift (modPairCnt (modeChanged c .hold) f) =
    ({ c.mode with mode := .hold, prev := c.mode.mode, seq := c.mode.seq + 1 }, c.stroke, c.work, c.crewP.run) := rfl

theorem drift_enterHold {c : Chip} (row : Nat) (runs : c.mode.mode = .run) : drift (enterMode c .hold row) =
    ({ c.mode with mode := .hold, prev := c.mode.mode, seq := c.mode.seq + 1 }, c.stroke, c.work, c.crewP.run) := by
  obtain ⟨h, same⟩ := inner_enterHold row runs
  exact (drift_of_inner same).trans (drift_heldMode c _)

theorem beginDrive_eq (c : Chip) : beginDrive c =
    if (driven c).mode.mode = .run && (driven c).crewP.run == .halted then enterMode (driven c) .hold 15 else driven c := by
  unfold beginDrive driven
  rfl

section
variable {c : Chip}

theorem mode_driven : (driven c).mode = c.mode := mode_of_drift (drift_driven c)
theorem run_driven : (driven c).crewP.run = if c.ctlP.haltNext then .halted else c.crewP.run := run_of_drift (drift_driven c)

/-- A process crew that stands halted at DRIVE_START in RUN puts the module in HOLD (R186). -/
theorem drift_beginDrive_holds (runs : c.mode.mode = .run) (halted : (driven c).crewP.run = .halted) : drift (beginDrive c) =
    ({ c.mode with mode := .hold, prev := c.mode.mode, seq := c.mode.seq + 1 }, { c.stroke with phase := .drive }, c.img, .halted) := by
  have here : (driven c).mode.mode = .run := by rw [mode_driven, runs]
  rw [beginDrive_eq, if_pos (by simp [here, halted]), drift_enterHold 15 here, mode_driven, halted,
    stroke_of_drift (drift_driven c), work_of_drift (drift_driven c)]

theorem drift_beginDrive_runs (other : c.mode.mode ≠ .run ∨ (driven c).crewP.run ≠ .halted) : drift (beginDrive c) = drift (driven c) := by
  rw [beginDrive_eq, if_neg]
  rw [mode_driven]
  simpa [Decidable.imp_iff_not_or] using other

/-- What DRIVE_START leaves of the module `c` (R95, R186). -/
def DriveBegun (c d : Chip) : Prop :=
  d.stroke = { c.stroke with phase := .drive } ∧ d.work = c.img
    ∧ (c.mode.mode ≠ .run ∨ (c.ctlP.haltNext = false ∧ c.crewP.run ≠ .halted) → d.mode = c.mode)
    ∧ (c.mode.mode = .run → c.ctlP.haltNext = true → d.crewP.run = .halted ∧ d.mode.mode = .hold ∧ d.mode.prev = .run)

theorem driveBegun_of_drift {c d e : Chip} (same : drift e = drift d) (h : DriveBegun c d) : DriveBegun c e := by
  rwa [DriveBegun, mode_of_drift same, stroke_of_drift same, work_of_drift same, run_of_drift same]

theorem beginDrive_begins : DriveBegun c (beginDrive c) := by
  by_cases holds : c.mode.mode = .run ∧ (driven c).crewP.run = .halted
  · obtain ⟨runs, halted⟩ := holds
    have held := drift_beginDrive_holds runs halted
    refine ⟨stroke_of_drift held, work_of_drift held, fun other => ?_, fun _ _ => ?_⟩
    · obtain other | ⟨goes, up⟩ := other
      · exact absurd runs other
      · exact absurd halted (by rw [run_driven, goes]; exact up)
    · exact ⟨run_of_drift held, congrArg ModeSt.mode (mode_of_drift held), (congrArg ModeSt.prev (mode_of_drift held)).trans runs⟩
  · have goes := (drift_beginDrive_runs (Classical.not_and_iff_not_or_not.mp holds)).trans (drift_driven c)
    refine ⟨stroke_of_drift goes, work_of_drift goes, fun _ => mode_of_drift goes, fun runs halts => absurd ⟨runs, ?_⟩ holds⟩
    rw [run_driven, if_pos halts]

end

theorem strokeDrive_due {c : Chip} (strokes : c.mode.mode.strokes = true) (at_ : c.stroke.phase = .catch_) :
    strokeDrive c = atTime (c.stroke.t0 + 20000) beginDrive c := if_neg (by simp [strokes, at_])

theorem strokeDrive_rests {c : Chip} (rests : ¬(c.mode.mode.strokes = true ∧ c.stroke.phase = .catch_)) : strokeDrive c = c :=
  if_pos (by simpa [Decidable.imp_iff_not_or] using rests)

theorem drift_atTime (t : Nat) (f : Chip → Chip) (c : Chip) : drift (atTime t f c) = drift (f { c with now := some t }) := rfl

theorem strokeDrive_begins {c : Chip} (strokes : c.mode.mode.strokes = true) (at_ : c.stroke.phase = .catch_) :
    DriveBegun c (attnUpdate (strokeDrive c)) := by
  rw [strokeDrive_due strokes at_]
  refine driveBegun_of_drift ((drift_of_inner (inner_attnUpdate _)).trans (drift_atTime ..)) ?_
  exact beginDrive_begins (c := { c with now := some (c.stroke.t0 + 20000) })

end Sys2Proof.Machine
end

section
/-!
PROOFS. TF and the strobe (R102 to R105, R112 to R119): what leaves the module changes no stroke.
-/
namespace Sys2Proof.Machine
open Safety

/-! ### The groups and the connections (R349, R361) -/

theorem course_setSafety (c : Chip) (x : SafetySt) : course { c with safety := x } = course c := rfl
theorem course_modBackup (c : Chip) (f : BackupSt → BackupSt) : course (modBackup c f) = course c := rfl
theorem course_modGroup (c : Chip) (g : Nat) (f : GroupSt → GroupSt) : course (modGroup c g f) = course c := course_of_inner (inner_modGroup ..)
theorem course_groupTo (c : Chip) (g st : Nat) : course (groupTo c g st) = course c := course_of_inner (inner_groupTo ..)

theorem course_skipGroups (c : Chip) : course (skipGroups c) = course c := by
  have opened (d : Chip) : course (openSafety d) = course d := course_of_inner (inner_openSafety d)
  have closed : course (if drives c && (safeMode c || c.stroke.haltAtStrobe || !working c 0x20) then openSafety c else c) = course c := by
    rw [apply_ite course, opened, ite_self]
  unfold skipGroups
  dsimp only
  split
  · rw [apply_ite course, resetIgnored, course_emit, course_modReset, ite_self, closed]
  · exact closed

theorem course_evalGroup (faults : List (Nat × Nat)) (rst : Bool) (g : Nat) (c : Chip) : course (evalGroup faults rst g c) = course c := by
  unfold evalGroup
  dsimp only
  generalize demanded : modGroup c g _ = d
  have noted : course d = course c := demanded ▸ course_modGroup ..
  split
  · rw [course_groupTo, noted]
  · split
    · rw [apply_ite course, course_modBackup, course_groupTo, ite_self, course_modGroup, noted]
    · split <;> simp only [apply_ite course, course_groupTo, course_modGroup, ite_self, noted]

theorem course_evaluateGroups (c : Chip) : course (evaluateGroups c) = course c := by
  have groups (faults : List (Nat × Nat)) (rst : Bool) (d : Chip) : course (forN 32 (evalGroup faults rst) d) = course d :=
    kept_forN course (course_evalGroup faults rst) 32 d
  have outs (d : Chip) : course (forN 8 (fun o c => outCommand c o) d) = course d :=
    kept_forN course (fun o d => course_of_inner (inner_modOut d o _)) 8 d
  unfold evaluateGroups
  split
  · exact course_skipGroups c
  · dsimp only
    split
    · rw [outs, course_setSafety, groups, course_setSafety]
    · rw [course_emit, apply_ite course, course_raise, ite_self, course_raise, outs, course_setSafety, groups, course_setSafety]

theorem course_zwSend (c : Chip) (safe : Bool) : course (zwSend c safe) = course c := by
  have sent (d : Chip) (k : Nat) : course (if !(zwUsed d k && zwSends d k) then d
      else
        let seq := (zwConn d k).seq + 1
        let c := modZw d k fun z => { z with seq := seq, epoch := ownEpoch d }
        send (send c (zwLine c true) (zwFrame c k true safe seq)) (zwLine c false) (zwFrame c k false safe seq)) = course d := by
    rw [apply_ite course]
    dsimp only
    rw [course_send, course_send, course_of_inner (inner_modZw ..), ite_self]
  unfold zwSend
  rw [apply_ite course, kept_forN course fun k d => sent d k, ite_self]

/-! ### Images and the snapshot (R277, R278, R312, R313) -/

theorem course_writeSink (c : Chip) (b : Binding) (u : Int) : course (writeSink c b u) = course c := course_of_inner (inner_writeSink ..)

theorem course_heatStatusWords (c : Chip) : course (heatStatusWords c) = course c := by
  have shown (d : Chip) (w : Nat) (v : Word) : course (sinkImage d w v) = course d := rfl
  unfold heatStatusWords
  rw [apply_ite course, kept_foldl course fun d b => by dsimp only; rw [apply_ite course, shown, ite_self], ite_self]

theorem course_loopSafeImages (c : Chip) (e : Nat) : course (loopSafeImages c e) = course c := by
  unfold loopSafeImages
  split
  · rfl
  · exact kept_foldl course (fun d b => by rw [apply_ite course, course_writeSink, ite_self]) _ c

theorem course_heatSafeImages (c : Chip) : course (heatSafeImages c) = course c := by
  unfold heatSafeImages
  split
  · rfl
  · exact kept_foldl course (fun d b => by rw [apply_ite course, course_writeSink, ite_self]) _ c

theorem course_safeImages (c : Chip) : course (safeImages c) = course c := by
  have engines (d : Chip) : course (forN 10 (fun e c => if loopsSafe c || !working c (engPage e) then loopSafeImages c e else c) d) =
      course d := kept_forN course (fun e d => by rw [apply_ite course, course_loopSafeImages, ite_self]) 10 d
  unfold safeImages
  dsimp only
  rw [apply_ite course, apply_ite course, course_heatSafeImages, ite_self, engines, ite_self]

theorem course_snapshot (c : Chip) : course (snapshot c) = course c := by
  rw [snapshot, apply_ite course, course_modMirror, ite_self]

theorem course_sendOutput (c : Chip) (o : OutStates) : course (sendOutput c o) = course c := course_of_inner (inner_of_bare (bare_sendOutput ..))

/-! ### Links, islands, controllers and ports (R102, R479, R533, R594) -/

theorem course_modStn (c : Chip) (l a : Nat) (f : StnSt → StnSt) : course (modStn c l a f) = course c := course_of_inner (inner_modStn ..)
theorem course_modLink (c : Chip) (l : Nat) (f : LinkSt → LinkSt) : course (modLink c l f) = course c := course_of_inner (inner_modLink ..)

theorem course_sendRemote (c : Chip) (l type station : Nat) (body : List Byte) : course (sendRemote c l type station body) = course c :=
  (course_send ..).trans (course_modLink ..)

theorem course_latchRequest (c : Chip) (n o : Nat) : course (latchRequest c n o).2 = course c := by
  have drawn (x : List Byte × Chip) (l : List Nat) : course (l.foldl (fun (x : List Byte × Chip) _ =>
      let (v, c) := freshNat x.2; (x.1 ++ [BitVec.ofNat 8 v], c)) x).2 = course x.2 :=
    kept_fold (fun x : List Byte × Chip => course x.2)
      (f := fun x _ => (x.1 ++ [BitVec.ofNat 8 (freshNat x.2).1], (freshNat x.2).2)) (fun _ _ => rfl) l x
  exact drawn ([], c) _

theorem course_canConds (c : Chip) (n : Nat) : course (canConds c n) = course c := course_of_inner (inner_canConds ..)

theorem course_canRequest (c : Chip) (n o : Nat) (r : Nat × Nat × List Byte) : course (canRequest c n o r) = course c := by
  unfold canRequest
  dsimp only
  simp only [apply_ite course, course_canConds, course_emit, course_modObj, ite_self]

theorem course_finishObj (commits : Bool) (n : Nat) (c : Chip) (o : Nat) : course (finishObj commits n c o) = course c := by
  have again (d : Chip) (cyclic zero : Bool) : course (if !cyclic then d
      else match (obj d n o).done with
        | none => d
        | some (len, id, data) => canRequest d n o (len, id, if zero then data.map fun _ => 0 else data)) = course d := by
    split
    · rfl
    · split
      · rfl
      · exact course_canRequest ..
  unfold finishObj
  dsimp only
  split
  · split
    · exact again ..
    · exact again ..
    · rfl
  · split
    · exact again ..
    · rw [apply_ite course, course_canRequest, course_modObj, course_latchRequest, ite_self]

theorem course_noteCommit (n : Nat) (c : Chip) (o : Nat) : course (noteCommit n c o) = course c :=
  (course_modObj ..).trans (course_latchRequest ..)

theorem course_finishCan (c : Chip) (commits : Bool) : course (finishCan c commits) = course c :=
  kept_forN course (fun n d => by
    simp only [apply_ite course, kept_foldl course (course_finishObj commits n), kept_foldl course (course_noteCommit n), ite_self]) 16 c

theorem course_modSer (c : Chip) (p : Nat) (f : SerPort → SerPort) : course (modSer c p f) = course c := rfl

theorem course_finishSerial (c : Chip) : course (finishSerial c) = course c := by
  refine kept_forN course (fun p d => ?_) 6 c
  dsimp only
  split
  · exact course_modSer ..
  · split
    · exact course_modSer ..
    · exact (course_modSer ..).trans ((course_modEnt ..).trans (course_modSer ..))

theorem course_islandSafe (c : Chip) (i : Nat) : course (islandSafe c i) = course c :=
  (course_of_inner (inner_sendCommand ..)).trans (course_of_inner (inner_modBuf ..))

theorem course_finishIsland (i : Nat) (c : Chip) : course (finishIsland i c) = course c := by
  have down (k : DownKind) : course (sendDown c i k) = course c := course_of_inner (inner_sendDown ..)
  have told (v : Int) : course (sendCommand c i v) = course c := course_of_inner (inner_sendCommand ..)
  have reset (f : Island → Island) : course (modIsland c i f) = course c := course_of_inner (inner_modIsland ..)
  simp only [finishIsland, apply_ite course, down, told, reset, course_islandSafe, ite_self]

theorem course_finishIslands (c : Chip) : course (finishIslands c) = course c := by
  have dirs : course (finishDirs c) = course c :=
    (kept_forN course (fun i d => course_of_inner (inner_modBuf d i _)) 16 _).trans rfl
  exact (kept_forN course course_finishIsland 16 _).trans dirs

/-! ### Section of a link (R102, R505) -/

theorem course_outValue (c : Chip) (l a n : Nat) (safe : Bool) : course (outValue c l a n safe).2 = course c := by
  have word (v : Int) : course (outWord c v).2 = course c := by
    rw [outWord, apply_ite Prod.snd, apply_ite course]
    exact ite_self _
  simp only [outValue, apply_ite Prod.snd, apply_ite course, word, ite_self]

theorem course_outSection (l : Nat) (safe : Bool) (x : List Byte × Chip) (a : Nat) : course (outSection l safe x a).2 = course x.2 :=
  kept_fold (fun x : List Byte × Chip => course x.2)
    (f := fun x n => (x.1 ++ beBytes 2 ((outValue x.2 l a n safe).1 % 65536).toNat, (outValue x.2 l a n safe).2))
    (fun _ _ => course_outValue ..) (chans x.2 l a 2 true) ([], x.2)

theorem course_lineOut (l : Nat) (c : Chip) : course (lineOut l c) = course c := by
  have sections (safe : Bool) (as : List Nat) : course (as.foldl (outSection l safe) ([], c)).2 = course c :=
    kept_fold (fun x : List Byte × Chip => course x.2) (course_outSection l safe) as ([], c)
  unfold lineOut
  dsimp only
  rw [apply_ite course, course_modLink, kept_foldl course fun d a => course_modStn d l a _, course_sendRemote, sections, ite_self]

theorem course_finishLinks (c : Chip) : course (finishLinks c) = course c := by
  rw [finishLinks, apply_ite course, kept_forN course course_lineOut, ite_self]

theorem course_latchLines (c : Chip) : course (latchLines c) = course c := by
  unfold latchLines
  dsimp only
  rw [apply_ite course, course_modMirror, ite_self]

/-! ### TF (R102, R113) -/

/-- The count, the time and the halt of a stroke. -/
def timing (c : Chip) : Word × Nat × Bool := (c.stroke.count, c.stroke.t0, c.stroke.haltAtStrobe)

theorem timing_of_course {c d : Chip} (h : course c = course d) : timing c = timing d := by
  rw [timing, stroke_of_course h, timing]

theorem timing_recordLoads (c : Chip) : timing (recordLoads c) = timing c := (timing_of_course (course_loadHigh _)).trans rfl

theorem timing_countOverrun (c : Chip) : timing (countOverrun c) = timing c := by
  rw [countOverrun, apply_ite timing]
  exact ite_self _

theorem timing_trip (c : Chip) : timing (trip c) = (c.stroke.count, c.stroke.t0, true) := by
  have stopped : (stopCrews c).stroke = c.stroke := stroke_of_course (course_of_deck (deck_stopCrews c))
  rw [timing, trip, raise_stroke, modStroke_stroke, stopped]

theorem timing_commitOrSkip (c : Chip) : timing (commitOrSkip c) = timing c := by
  simp only [timing, commitOrSkip, apply_ite Chip.stroke, raise_stroke, modStroke_stroke, crewCommit_stroke, ite_self]

/-- TF's judgment: the loads and overruns counted, and the trip, or the commits (R113, R119). -/
def judged (c : Chip) : Chip :=
  if trips c then trip (countOverrun (recordLoads c)) else commitOrSkip (countOverrun (recordLoads c))

theorem timing_judged (c : Chip) : timing (judged c) = (c.stroke.count, c.stroke.t0, c.stroke.haltAtStrobe || trips c) := by
  have counted : timing (countOverrun (recordLoads c)) = timing c := (timing_countOverrun _).trans (timing_recordLoads c)
  unfold judged
  split
  · next trips_ =>
    rw [timing_trip, trips_, Bool.or_true]
    exact congrArg (fun x : Word × Nat × Bool => (x.1, x.2.1, true)) counted
  · next goes =>
    rw [timing_commitOrSkip, counted, Bool.eq_false_iff.mpr goes, Bool.or_false, timing]

/-- What leaves the module at TF: the connections, the image's statuses, the pair's states, the links, the islands, the
controllers and the ports. -/
def finishSent (c d : Chip) : Chip :=
  let d := evaluateGroups d
  let safe := safeMode d || trips c
  let d := if drives d && (safe || endedDrive c .safety) then zwSend d safe else d
  let d := snapshot (safeImages (heatStatusWords d))
  let d := if safe || endedDrive c .safety || endedDrive c .process then sendOutput d (finishStates d) else d
  finishSerial (finishCan (finishIslands (finishLinks d)) (endedDrive c .process && !trips c))

theorem course_finishSent (c d : Chip) : course (finishSent c d) = course d := by
  simp only [finishSent, course_finishSerial, course_finishCan, course_finishIslands, course_finishLinks, apply_ite course,
    course_sendOutput, course_snapshot, course_safeImages, course_heatStatusWords, course_zwSend, course_evaluateGroups, ite_self]

theorem finishWork_eq (c : Chip) : finishWork c = modStroke (latchLines (finishSent c (judged c))) fun k => { k with phase := .finish } := rfl

theorem timing_finishWork (c : Chip) : timing (finishWork c) = (c.stroke.count, c.stroke.t0, c.stroke.haltAtStrobe || trips c) := by
  have sent : timing (latchLines (finishSent c (judged c))) = timing (judged c) :=
    timing_of_course ((course_latchLines _).trans (course_finishSent ..))
  have phased (d : Chip) : timing (modStroke d fun k => { k with phase := .finish }) = timing d := rfl
  rw [finishWork_eq, phased, sent, timing_judged]

theorem strokeFinish_due {c : Chip} (strokes : c.mode.mode.strokes = true) (at_ : c.stroke.phase = .drive) :
    strokeFinish c = atTime (tfTime c) finishWork c := if_neg (by simp [strokes, at_])

theorem strokeFinish_rests {c : Chip} (rests : ¬(c.mode.mode.strokes = true ∧ c.stroke.phase = .drive)) : strokeFinish c = c :=
  if_pos (by simpa [Decidable.imp_iff_not_or] using rests)

theorem timing_atTime (t : Nat) (f : Chip → Chip) (c : Chip) : timing (atTime t f c) = timing (f { c with now := some t }) := rfl

theorem timing_strokeFinish {c : Chip} (strokes : c.mode.mode.strokes = true) (at_ : c.stroke.phase = .drive) :
    timing (attnUpdate (strokeFinish c)) = (c.stroke.count, c.stroke.t0, c.stroke.haltAtStrobe || trips c) := by
  rw [timing, attnUpdate_stroke, strokeFinish_due strokes at_]
  exact (timing_atTime ..).trans (timing_finishWork { c with now := some (tfTime c) })

end Sys2Proof.Machine
end

section
/-!
PROOFS. The strobe and the recovery (R83, R102, R105, R113, R402, R405).
-/
namespace Sys2Proof.Machine
open Safety

/-! ### The strobe (R102, R113) -/

theorem course_strobeOutputs (c : Chip) : course (strobeOutputs c) = course c := by
  have safety (d : Chip) : course (strobeSafety d) = course d := kept_forN course (fun o d => course_of_inner (inner_modOut d o _)) 8 d
  have held (d : Chip) (g : Nat) (f : FsSt → FsSt) : course (modFs d g f) = course d := rfl
  have commits (d : Chip) (l : List Nat) : course (l.foldl (fun c ch =>
      match strobeValue c ch with
      | some v => digCommit c ch v
      | none => c) d) = course d := by
    refine kept_foldl course (fun d ch => ?_) l d
    split
    · exact course_of_inner (inner_digCommit ..)
    · rfl
  have digital (d : Chip) : course (strobeDigital d) = course d :=
    kept_forN course (fun g d => (course_of_inner (inner_digRefresh ..)).trans ((commits ..).trans (held ..))) 4 d
  exact (course_of_inner (inner_noteEdges ..)).trans ((digital _).trans (safety c))

theorem course_strobeCan (c : Chip) : course (strobeCan c) = course c := by
  refine kept_forN course (fun n d => kept_foldl course (fun d o => ?_) _ d) 16 c
  split
  · rfl
  · exact course_modObj ..

theorem course_strobeSerial (c : Chip) : course (strobeSerial c) = course c := by
  refine kept_forN course (fun p d => ?_) 6 c
  split
  · rfl
  · rw [apply_ite course, course_modSer, course_send, course_modSer, ite_self]

theorem course_strobeIslands (c : Chip) : course (strobeIslands c) = course c :=
  kept_forN course (fun i d => by rw [apply_ite course, course_islandSafe, ite_self]) 16 c

theorem course_outputStrobed (c : Chip) : course (outputStrobed c) = course c := by
  unfold outputStrobed
  split <;> rfl

/-- The strobe's outputs, before the mode follows an overrun. -/
def strobed (c : Chip) : Chip :=
  let c := if c.stroke.haltAtStrobe then overrunRecord (strobeIslands (safeImages c)) else c
  captureBegins (strobeSerial (strobeCan (strobeOutputs (outputStrobed c))))

theorem course_strobed (c : Chip) : course (strobed c) = course c := by
  simp only [strobed, captureBegins, course_modPairCnt, course_strobeSerial, course_strobeCan, course_strobeOutputs,
    course_outputStrobed, apply_ite course, overrunRecord, course_emit, course_strobeIslands, course_safeImages, ite_self]

theorem strobeWork_eq (c : Chip) : strobeWork c =
    modStroke (if (strobed c).stroke.haltAtStrobe && (strobed c).mode.mode.runs then enterMode (strobed c) .safeHalt 20
      else strobed c) fun k => { k with phase := .recovery, capturing := true, haltAtStrobe := false } := by
  unfold strobeWork strobed
  rfl

/-- What OUTPUT_STROBE leaves of the module `c` (R102, R113). -/
def Strobed (c d : Chip) : Prop :=
  d.stroke.phase = .recovery ∧ d.stroke.capturing = true ∧ d.stroke.haltAtStrobe = false
    ∧ (c.mode.mode.runs = true → c.stroke.haltAtStrobe = true → d.mode.mode = .safeHalt ∧ d.mode.prev = c.mode.mode)
    ∧ (c.mode.mode.runs = false ∨ c.stroke.haltAtStrobe = false → d.mode = c.mode)

theorem strobed_of_course {c d e : Chip} (same : course e = course d) (h : Strobed c d) : Strobed c e := by
  rwa [Strobed, mode_of_course same, stroke_of_course same]

theorem strobeWork_strobes (c : Chip) : Strobed c (strobeWork c) := by
  have mode : (strobed c).mode = c.mode := mode_of_course (course_strobed c)
  have stroke : (strobed c).stroke = c.stroke := stroke_of_course (course_strobed c)
  rw [strobeWork_eq, stroke, mode]
  refine ⟨rfl, rfl, rfl, fun runs halts => ?_, fun stays => ?_⟩
  · have other : (strobed c).mode.mode ≠ .safeHalt := by
      intro is
      rw [← mode, is] at runs
      exact absurd runs (by decide)
    rw [modStroke_mode, if_pos (by simp [runs, halts]), enterMode_mode 20 other, mode]
    exact ⟨rfl, rfl⟩
  · rw [modStroke_mode, if_neg, mode]
    obtain no | no := stays <;> simp [no]

theorem outputStrobe_due {c : Chip} (strokes : c.mode.mode.strokes = true) (at_ : c.stroke.phase = .finish) :
    outputStrobe c = atTime (tfTime c + 30000) strobeWork c := if_neg (by simp [strokes, at_])

theorem outputStrobe_rests {c : Chip} (rests : ¬(c.mode.mode.strokes = true ∧ c.stroke.phase = .finish)) : outputStrobe c = c :=
  if_pos (by simpa [Decidable.imp_iff_not_or] using rests)

theorem course_atTime (t : Nat) (f : Chip → Chip) (c : Chip) : course (atTime t f c) = course (f { c with now := some t }) := rfl

theorem outputStrobe_strobes {c : Chip} (strokes : c.mode.mode.strokes = true) (at_ : c.stroke.phase = .finish) :
    Strobed c (attnUpdate (outputStrobe c)) := by
  rw [outputStrobe_due strokes at_]
  refine strobed_of_course ((course_of_inner (inner_attnUpdate _)).trans (course_atTime ..)) ?_
  exact strobeWork_strobes { c with now := some (tfTime c + 30000) }

theorem strokeFinish_phase {c : Chip} (strokes : c.mode.mode.strokes = true) (at_ : c.stroke.phase = .drive) :
    (attnUpdate (strokeFinish c)).stroke.phase = .finish := by
  rw [attnUpdate_stroke, strokeFinish_due strokes at_]
  rfl

theorem phasesFollow : Claims.PhasesFollow := by
  intro s
  have drive : exec .driveStart s = .next (after s (strokeDrive s.chip)) := by unfold exec; rfl
  have finish : exec .finish s = .next (after s (strokeFinish s.chip)) := by unfold exec; rfl
  have strobe : exec .outputStrobe s = .next (after s (outputStrobe s.chip)) := by unfold exec; rfl
  dsimp only
  refine ⟨fun strokes at_ => ⟨_, drive, strokeDrive_begins strokes at_⟩, fun rests => ?_, fun strokes at_ => ⟨_, finish, ?_⟩,
    fun rests => ?_, fun strokes at_ => ⟨_, strobe, outputStrobe_strobes strokes at_⟩, fun rests => ?_⟩
  · exact drive.trans (next_after_congr (strokeDrive_rests rests))
  · have left := timing_strokeFinish strokes at_
    exact ⟨strokeFinish_phase strokes at_, congrArg Prod.fst left, congrArg (·.2.1) left, congrArg (·.2.2) left⟩
  · exact finish.trans (next_after_congr (strokeFinish_rests rests))
  · exact strobe.trans (next_after_congr (outputStrobe_rests rests))

/-! ### The end of the capture (R105, R192, R402) -/

theorem course_setUpd (c : Chip) (u : UpdSt) : course { c with upd := u } = course c := rfl
theorem course_journalAdd (c : Chip) (es : List SetEntry) : course (journalAdd c es) = course c := course_setUpd ..

theorem course_cleanCapture (c : Chip) (cr : Crew) : course (cleanCapture c cr) = course c := by
  simp only [cleanCapture, apply_ite course, course_modCtl, course_modCrew, returnTrims, ite_self]

theorem course_captureLines (c : Chip) : course (captureLines c) = course c := by
  refine kept_foldl course (fun d l => ?_) _ c
  dsimp only
  rw [apply_ite course, course_modMirror, ite_self]

theorem course_sendLine (c : Chip) (line kind : Nat) (bs : List Byte) : course (sendLine c line kind bs) = course c := course_sendRecord ..

theorem course_streamCheckpoint (c : Chip) : course (streamCheckpoint c) = course c := by
  have changed (kind : Nat) (l : List Nat) (d : Chip) : course (l.foldl (fun c l => sendLine c l kind (smGet [] c.mirror.lineImg l)) d) =
      course d := by
    refine kept_foldl course (fun d x => ?_) l d
    rw [course_sendLine]
  have inputs (l : List (Nat × List Byte)) (d : Chip) : course (l.foldl (fun c x => sendLine c x.1 2 x.2) d) = course d := by
    refine kept_foldl course (fun d x => ?_) l d
    rw [course_sendLine]
  unfold streamCheckpoint
  dsimp only
  simp only [apply_ite course, course_modMirror, course_modPairCnt, course_sendRecord, inputs, changed, course_ckptIncomplete,
    course_captureLines, ite_self]

theorem course_captureTrims (c : Chip) (cr : Crew) : course (captureTrims c cr) = course c := by
  have batches (l : List (List Trim)) (d : Chip) : course (l.foldl (journalBatch cr) d) = course d :=
    kept_foldl course (fun d b => (course_emit ..).trans (course_modCtl ..)) l d
  have trims : course (journalTrims c cr) = course c := (batches ..).trans (course_modCtl ..)
  exact (kept_foldl course (fun d b => course_journalAdd ..) _ _).trans trims

theorem course_journalTunes (c : Chip) : course (journalTunes c) = course c := by
  refine kept_forN course (fun e d => ?_) 10 c
  rw [course_modEng, kept_foldl course fun d t => course_journalAdd ..]

theorem course_deliverTo (c : Chip) (p : Port) (ip udp : Nat) (bs : List Byte) : course (deliverTo c p ip udp bs) = course c := by
  unfold deliverTo
  split
  · rw [apply_ite course, course_modHosts, course_modHosts, ite_self]
  · rw [apply_ite course, course_send, ite_self]

theorem course_attnCheck (c : Chip) : course (attnCheck c) = course c := by
  have set_ (a : AttnSt) : course { c with attn := a } = course c := rfl
  have refused (d : Chip) (q : Nat) : course (queueRefused d q) = course d := (course_raise ..).trans rfl
  have noted (d : Chip) (s : Nat) (f : Session → Session) : course (modSession d s f) = course d := by
    unfold modSession
    split <;> rfl
  unfold attnCheck
  refine Eq.trans (kept_forN course (fun s d => ?_) 16 _) (set_ _)
  split
  · rfl
  · dsimp only
    simp only [apply_ite course, course_deliverTo, noted, refused, ite_self]

theorem course_scrub (c : Chip) (hits : List (Crew × EccHit)) : course (scrub c hits) = course c := by
  have corrected (d : Chip) (cr : Crew) (e : EccHit) : course (eccCorrected d cr e) = course d := (course_raise ..).trans (course_modCox ..)
  unfold scrub
  dsimp only
  rw [course_modCox, course_modCox, kept_foldl course fun d h => by rw [apply_ite course, corrected, ite_self]]

theorem course_captureEnd {c : Chip} (hits : List (Crew × EccHit)) (on : c.stroke.capturing = true) :
    course (captureEnd c hits) = (c.mode, { c.stroke with capturing := false }, c.cfg) := by
  unfold captureEnd
  rw [if_neg (by simp [on]), course_scrub, course_attnCheck, course_journalTunes, course_captureTrims, course_captureTrims,
    course_streamCheckpoint, course_cleanCapture, course_cleanCapture]
  rfl

/-! ### Records that are dropped (R405) -/

section
variable (p : Frame → Bool)

theorem unsent_sublist (n : Nat) (l : List Frame) : (unsent p n l).Sublist l := by
  induction l generalizing n with
  | nil => cases n <;> exact .slnil
  | cons f fs ih =>
    cases n with
    | zero => exact .refl _
    | succ m =>
      rw [unsent]
      split
      · exact (ih m).cons f
      · exact (ih (m + 1)).cons_cons f

theorem unsent_others (n : Nat) (l : List Frame) : (unsent p n l).filter (fun f => !p f) = l.filter fun f => !p f := by
  induction l generalizing n with
  | nil => cases n <;> rfl
  | cons f fs ih =>
    cases n with
    | zero => rfl
    | succ m =>
      rw [unsent]
      split
      · next drops => rw [ih, List.filter_cons_of_neg (by simp [drops])]
      · next stays => rw [List.filter_cons_of_pos (by simp [stays]), List.filter_cons_of_pos (by simp [stays]), ih]

theorem unsent_count {n : Nat} {l : List Frame} (enough : n ≤ (l.filter p).length) :
    ((unsent p n l).filter p).length + n = (l.filter p).length := by
  induction l generalizing n with
  | nil =>
    obtain rfl : n = 0 := Nat.le_zero.mp enough
    rfl
  | cons f fs ih =>
    cases n with
    | zero => rfl
    | succ m =>
      rw [unsent]
      split
      · next drops =>
        rw [List.filter_cons_of_pos drops, List.length_cons] at enough ⊢
        have rest := ih (n := m) (by omega)
        omega
      · next stays =>
        rw [List.filter_cons_of_neg stays] at enough ⊢
        rw [List.filter_cons_of_neg stays, ih enough]

end

theorem recordsDropped_of_old {c : Chip} {k : Word} {lines n : Nat}
    (old : (c.mirror.streamed.find? fun e => decide (2 ≤ (c.stroke.count - e.1).toNat)) = some (k, lines)) (some_ : 0 < n) :
    recordsDropped c n = ckptIncomplete (modMirror { c with sent := unsent (isCkptFrame k) n c.sent } fun m => { m with
      streamed := m.streamed.filter fun e => e.1 != k }) 2 lines := by
  unfold recordsDropped
  rw [old]
  exact if_neg (by omega)

theorem recordsDropped_of_none {c : Chip} {n : Nat} (none_ : (∀ e ∈ c.mirror.streamed, (c.stroke.count - e.1).toNat < 2) ∨ n = 0) :
    recordsDropped c n = c := by
  unfold recordsDropped
  split
  · rfl
  · next old =>
    refine if_pos (none_.resolve_left fun young => ?_)
    have far := List.find?_some old
    have near := young _ (List.mem_of_find?_eq_some old)
    simp only [decide_eq_true_eq] at far near
    omega

/-! ### The check between strokes (R83) -/

theorem attnIdle_idle {c : Chip} (still : c.mode.mode.strokes = false) (up : c.mode.mode ≠ .reset) (on : c.mode.mode ≠ .boot) :
    attnIdle c = sessionStroke (attnCheck c) := if_neg (by simp [still, up, on])

theorem attnIdle_rests {c : Chip} (rests : c.mode.mode.strokes = true ∨ c.mode.mode = .reset ∨ c.mode.mode = .boot) :
    attnIdle c = c := if_pos (by simpa [or_assoc] using rests)

theorem recoveryCommandsComplete : Claims.RecoveryCommandsComplete := by
  intro s hits n
  have ends : exec (.captureEnd hits) s = .next (after s (captureEnd s.chip hits)) := by unfold exec; rfl
  have idle : exec .attnCheckIdle s = .next (after s (attnIdle s.chip)) := by unfold exec; rfl
  have drops : exec (.ckptRecordsDropped n) s = .next (after s (recordsDropped s.chip n)) := by unfold exec; rfl
  dsimp only
  refine ⟨fun on => ⟨_, ends, ?_⟩, fun off => ?_, fun still up on => ?_, fun rests => ?_, fun k lines old some_ => ?_, fun none_ => ?_⟩
  · have left : course (after s (captureEnd s.chip hits)).chip = _ :=
      (course_of_inner (inner_attnUpdate _)).trans (course_captureEnd hits on)
    exact ⟨congrArg (·.2.1) left, congrArg Prod.fst left⟩
  · exact ends.trans (next_after_congr (if_pos (by simp [off])))
  · exact idle.trans (next_after_congr (attnIdle_idle still up on))
  · exact idle.trans (next_after_congr (attnIdle_rests rests))
  · exact ⟨unsent (isCkptFrame k) n s.chip.sent, drops.trans (next_after_congr (recordsDropped_of_old old some_)),
      unsent_sublist .., unsent_others .., unsent_count _⟩
  · exact drops.trans (next_after_congr (recordsDropped_of_none none_))

/-- Settles O27: what a phase sends out, latches or reports leaves the mode and the stroke, so that they change only where
the phase itself changes them (R87 to R105, R113, R186). -/
theorem strokePhasesComplete : Obligations.StrokePhasesComplete := ⟨tickStartsAStroke, phasesFollow, recoveryCommandsComplete⟩

end Sys2Proof.Machine
end
